-- ==== Sys2Proof/Word.lean ====
section
/-! DEFINITION. The word types of the manual: 24-bit words (R1), bytes, 48-bit Hallmark counts (R10) and 8-channel masks. -/

namespace Sys2Proof

/-- A word is 24 bits (R1, 00_scope.md). -/
abbrev Word := BitVec 24

/-- One byte of a frame or of a BLOB (R2, R5). -/
abbrev Byte := BitVec 8

/-- One bit per direct channel, bit n for channel n (R181). -/
abbrev Mask := BitVec 8

/-- A Hallmark count: upper word times 2^24 plus lower word, modulo 2^48 (R10, R249). -/
abbrev T48 := BitVec 48

/-- A sparse table: keys strictly rising. An unlisted key reads as a default that the reader names. -/
abbrev Tab (α : Type) := List (Nat × α)

end Sys2Proof
end

