-- ==== Sys2Proof/Syntax.lean ====
section
/-! DEFINITION. The commands of the block: one constructor of Instr for each of the 301 rows of spec/opcode_table.json,
with the operands that the row's rule names, and the types those operands use. -/

namespace Sys2Proof

/-- The two dies of a node (01_architecture.md). -/
inductive Die where
  | n | f
  deriving DecidableEq, Repr

/-- A Chain port (R313 to R324). -/
inductive Port where
  | a | b | c
  deriving DecidableEq, Repr

/-- Device states (R98). The order is that of K:0014. -/
inductive DevState where
  | boot | setup | run | safeHold | sealed
  deriving DecidableEq, Repr

/-- The access paths of a dictionary request (R87, R111). `internal` is session 7. -/
inductive Path where
  | nport | can | chain | internal
  deriving DecidableEq, Repr

/-- What is wrong with the frame that carries a request, if anything. -/
inductive Form where
  /-- A well-formed frame. -/
  | good
  /-- A class 5 frame with a data length code below 4 (R130). -/
  | dlcBelow4
  /-- An unknown opcode (R130; on the N-port error code 2 of R159). -/
  | unknownOpcode
  /-- A classical CAN frame of class 5 (R122). -/
  | classical
  /-- The receive queue of 32 frames was full on arrival (R123). -/
  | queueFull
  /-- The check of an N-port host frame does not match (R159, code 1). -/
  | badCheck
  /-- The length of an N-port host frame is out of range or too short (R159, code 3). -/
  | badLength
  /-- An operand shorter than the opcode requires: check 5 answers TYPE (R126). -/
  | shortOperand
  /-- A control byte outside the opcode's values: check 5 answers TYPE (R126). -/
  | badControl
  deriving DecidableEq, Repr

/-- The envelope of one dictionary request: its path, the client's node number, the destination field, the tag and the
form of the frame (R125, R148). `mode3` is the SPI mode of the select period of an N-port frame (R147). -/
structure Rq where
  path : Path
  client : Nat
  dest : Nat
  tag : Nat
  form : Form
  mode3 : Bool
  deriving DecidableEq, Repr

/-- A value as a request carries it: one word, two words, or a byte string (R5, R126). -/
inductive Val where
  | word (n : Nat)
  | pair (n : Nat)
  | bytes (bs : List Byte)
  deriving DecidableEq, Repr

/-- One segment of a block write (R127). `total` is read from segment 0 only. `full` says that the segment fills its
64-byte frame. -/
structure Segment where
  number : Nat
  more : Bool
  total : Nat
  full : Bool
  data : List Byte
  deriving DecidableEq, Repr

/-- One dictionary operation, as the opcodes of R126 give it. -/
inductive DapOp where
  | read
  | write (v : Val)
  | readBlock (offset length : Nat)
  | writeBlock (s : Segment)
  | command (arg : Option Nat)
  | selectRead (pairs : List (Nat × Nat))
  deriving DecidableEq, Repr

/-- The receiver's judgement of a Clasp line word (R175). -/
inductive WordCheck where
  | clean | corrected | uncorrectable
  deriving DecidableEq, Repr

/-- One event of an EDGE word (R178). -/
structure EdgeEvent where
  channel : Fin 8
  fine : Nat
  age : Nat
  deriving DecidableEq, Repr

/-- A list that a sequencer runs: a launch slot, or the trap list (R284, R307). -/
inductive Runner where
  | slot (n : Fin 32)
  | trap
  deriving DecidableEq, Repr

/-- A Chain frame: the header fields of R316 and the payload words. -/
structure ChainFrame where
  dst : Nat
  src : Nat
  type : Nat
  hop : Nat
  seq : Nat
  urgent : Bool
  typeField : Nat
  pad : Nat
  words : List Nat
  deriving DecidableEq, Repr

/-- Why a receiving port discards a frame (R317); `role` is found by the port itself. -/
inductive FrameError where
  | none | crc | violation | length
  deriving DecidableEq, Repr

/-- The HELLO payload (R321). -/
structure Hello where
  serial : Nat
  letter : Nat
  candidate : Bool
  parent : Bool
  heard : Bool
  epoch : Nat
  number : Nat
  rootSerial : Nat
  deriving DecidableEq, Repr

/-- The DISCOVER payload and the hop limit it arrives with (R326). -/
structure Discover where
  epoch : Nat
  priority : Nat
  rootSerial : Nat
  hop : Nat
  deriving DecidableEq, Repr

/-- One port of a REPORT (R327). -/
structure ReportPort where
  neighbour : Nat
  letter : Nat
  up : Bool
  parent : Bool
  deriving DecidableEq, Repr

/-- A REPORT (R327). -/
structure Report where
  serial : Nat
  configured : Nat
  candidate : Bool
  portA : ReportPort
  portB : ReportPort
  portC : ReportPort
  deriving DecidableEq, Repr

/-- An ASSIGN entry, also a row of the parent table (R329, R333). -/
structure NodeRow where
  number : Nat
  serial : Nat
  parent : Nat
  depth : Nat
  deriving DecidableEq, Repr

/-- A CANDIDATE answer (R338, step 2). -/
structure Candidate where
  number : Nat
  valid : Bool
  port : Port
  target : Nat
  depth : Nat
  deriving DecidableEq, Repr

/-- A TIME frame as it arrives (R316, R346), with the follower time of its mark. -/
structure TimeFrame where
  hop : Nat
  seq : Nat
  origin : T48
  era : Word
  correction : Nat
  tracks : Bool
  notice : Bool
  stepInstant : T48
  stepAmount : T48
  arrival : T48
  deriving DecidableEq, Repr

/-- A BEACON payload, its sender's depth and the parked time of its mark on this node (R362). -/
structure Beacon where
  depth : Nat
  origin : T48
  rendezvous : Nat
  interval : Nat
  long : Bool
  hold : Nat
  halfSpan : Nat
  mark : T48
  deriving DecidableEq, Repr

/-- A WAKE word (R363). -/
structure WakeWord where
  sender : Nat
  safe0 : Nat
  safe1 : Nat
  changed : Bool
  cause : Nat
  misses : Nat
  deriving DecidableEq, Repr

/-- An alert as a Chain ALERT frame carries it (R133, R343). -/
structure Alert where
  flags : Nat
  source : Nat
  cls : Nat
  origin : Nat
  detected : T48
  status : Word
  seq : Nat
  deriving DecidableEq, Repr

/-- The conditions of R116. -/
inductive TransceiverCause where
  | ownDominant | busDominant | thermal
  deriving DecidableEq, Repr

/-- How the last bits of a native bead frame read (R419, R420). -/
inductive BeadJudgement where
  | valid | badCrc | badCode
  deriving DecidableEq, Repr

/-- The measured values of one monitor sample (R518, R529): millivolts and tenths of a degree. -/
structure Measures where
  vbat : Nat
  nTemp : Int
  vddf : Nat
  vbead : Nat
  fTemp : Int
  deriving DecidableEq, Repr

/-- The TUNNEL body of R163. `lengthOk` says that Lb equals 9 + C + A + D. -/
structure TunnelBody where
  target : Nat
  flags : Nat
  command : List Byte
  address : List Byte
  dummy : Nat
  write : List Byte
  read : Nat
  lengthOk : Bool
  deriving DecidableEq, Repr

/-- The commands of the block, in the order of spec/opcode_table.json. -/
inductive Instr where
  -- startup and readiness
  | nVbatValid
  | nRstRelease
  | vddfValid
  | supplyUndervoltage (d : Die)
  | nDieReady (readyTime : Nat) (crystalOk ledgerCut : Bool) (selfTest : BitVec 2) (straps floating : BitVec 4)
  | fDieReady (readyTime : Nat) (ledgerCut : Bool)
  | trainingComplete (duration : Nat)
  | trainingAttemptTimeout
  | partnerWaitExpiry (d : Die)
  | deferredRunEntry
  -- dictionary
  | read (rq : Rq) (key : Nat)
  | write (rq : Rq) (key : Nat) (v : Val)
  | readBlock (rq : Rq) (key offset length : Nat)
  | writeBlock (rq : Rq) (key : Nat) (seg : Segment)
  | blockWriteTimeout (session tag : Nat)
  | selectRead (rq : Rq) (pairs : List (Nat × Nat)) (key : Nat)
  | sessionIdleRelease (session : Nat)
  | remoteAnswerTimeout (session tag : Nat)
  | fKeyTransaction (session tag : Nat)
  | fKeyResult (session tag : Nat)
  | stateRequest (rq : Rq) (arg : Option Nat)
  | deviceStateFrame (st : DevState)
  | releaseOwnSession (rq : Rq)
  | save (rq : Rq) (arg : Option Nat)
  | saveComplete (failed : BitVec 4)
  | restore (rq : Rq) (arg : Option Nat)
  | restoreApplyAck
  | restoreComplete (failed : BitVec 4) (fReported : Bool)
  | dieReset (rq : Rq) (arg : Option Nat)
  | dieResetBegin
  | sealQuery (rq : Rq)
  -- CAN
  | triggerFrame (src dest tag length : Nat) (launch : T48) (list scope : Nat)
  | canTimeSync (src tag : Nat) (stamp : T48)
  | canTimeFollowUp (src tag : Nat) (time : T48) (era8 : Nat) (inTime : Bool)
  | canTimeSend (stamp : T48)
  | chainTunnelFrame (src dest service tag : Nat) (words : List Nat)
  | tunnelPairTimeout
  | protocolException
  | errorPassiveEntry (tec rec : Nat)
  | busOffEntry
  | detourConfirmTimeout
  | busOffRecovered
  | recoverNow (rq : Rq)
  | transceiverFault (cause : TransceiverCause)
  | transceiverReenable
  | txWaitTimeout (cls : Nat)
  | dapResponseAcked (client tag : Nat)
  | rateWrite (rq : Rq) (data : Bool) (v : Val)
  | rateApply
  | canStatusRead (rq : Rq)
  | canWakeWup
  -- N-port
  | fetch (tag dest : Nat) (form : Form) (mode3 : Bool)
  | repeatResponse (tag dest : Nat) (form : Form) (mode3 : Bool)
  | tunnel (tag dest : Nat) (form : Form) (mode3 : Bool) (body : TunnelBody)
  | tunnelAdmitAfterWait
  | tunnelComplete (tag : Nat) (bytes : List Byte)
  | tunnelTimeout (tag : Nat)
  | abortedFrame (mode3 : Bool)
  | responseClockedOut
  | heldResponseDiscard (tag : Nat)
  | nportModeWrite (rq : Rq) (v : Val)
  | nportModeApply
  | nportMasterEnd (bytes : List Byte)
  -- direct channels and Clasp
  | edgeCapture (d : Die) (ch : Fin 8) (at_ : Nat)
  | edgeWord (d : Die) (check : WordCheck) (first : EdgeEvent) (second : Option EdgeEvent)
  | edgeReplay (d : Die) (ch : Fin 8)
  | refresh (d : Die) (check : WordCheck) (count : Nat) (mask levels : Mask)
  | refreshSend (d : Die)
  | timeTriple (time : T48) (fraction : Nat)
  | timeTripleSend
  | eraPair (era : Word)
  | forceWord (d : Die) (origin : Nat) (mask : Mask)
  | forceRepeat (d : Die)
  | act (d : Die) (id floor list : Nat) (launch : T48) (complete : Bool)
  | actRepeat (d : Die)
  | actAck (d : Die) (id : Nat) (late : Bool) (outcome : Nat)
  | faultReport (src : Fin 24) (cls : Fin 4) (live : Bool) (event : Nat)
  | faultAcknowledge (src : Fin 24) (event : Nat)
  | faultReportRepeat
  | faultEntryFrame (src : Fin 24) (cls : Fin 4) (detected : T48) (status : Word)
  | margin (d : Die) (swing equalisation : Nat) (atTarget : Bool) (width height : Nat)
  | marginSend (d : Die) (width height : Nat)
  | credit (d : Die) (returned : Nat) (nak : Bool) (last : Nat)
  | creditSend (d : Die)
  | dataFrame (d : Die) (stream seq : Nat) (intact : Bool)
  | rateRequestHalf (d : Die) (n : Nat)
  | rateAccept (d : Die) (n : Nat)
  | rateRefuse (d : Die) (n : Nat)
  | rateRequestFull (d : Die) (n : Nat)
  | rateRequestRetry (d : Die)
  | rateSwitch
  | fullRateRequest (rq : Rq)
  | synthLockLoss (d : Die)
  | synthCalibrationDone (d : Die)
  | synthLockReached (d : Die)
  | outageDetect (d : Die)
  | outageResume (d : Die) (lasted : Nat)
  | outageLost (d : Die)
  | lostStep0Received (d : Die)
  | shiftEnd (d : Die) (ch : Fin 8)
  | overflowForceClear (d : Die)
  | directionWrite (rq : Rq) (upper : Bool) (v : Val)
  | configPropose (n map : Nat) (upper : Bool)
  | configAccept (n : Nat)
  | configRefuse (n : Nat)
  | configCommit (n : Nat)
  | configConfirm (n : Nat)
  | directionApply (d : Die)
  | configProposeTimeout
  | configCommitRepeat
  | configConfirmTimeout
  | failsafeTimeout (d : Die)
  | newOutputTimerExpiry (d : Die) (ch : Fin 8)
  | failsafeTimeoutWrite (rq : Rq) (v : Val)
  -- islands and crossings
  | clockMonitorTrip (d : Die) (island : Nat)
  | islandClockRecovered (d : Die) (island : Nat)
  | islandResetRelease (d : Die) (island : Nat)
  | hubClockFailure (d : Die)
  | crossingTear (crossing entries : Nat)
  | pairReset (rq : Rq) (arg : Option Nat)
  | counterSample (d : Die)
  -- Hallmark time
  | chainTimeFrame (port : Port) (t : TimeFrame)
  | rateSample (rho : Int)
  | servoRateUpdate
  | sourceLoss
  | stepInstant
  | countWrap
  | nSyncEdge (at_ : T48)
  | fSyncEdge (at_ : T48)
  | syncPulseOutput (d : Die)
  | holdoverAlarm (d : Die)
  | rateLimitAlarm
  | manualTime (rq : Rq) (v : Val)
  | manualEra (rq : Rq) (v : Val)
  -- timed actions
  | listWrite (rq : Rq) (key : Nat) (bytes : List Byte)
  | armWrite (rq : Rq) (d : Die) (bytes : List Byte)
  | slotCancel (rq : Rq) (d : Die) (arg : Option Nat)
  | timedInputWrite (rq : Rq) (d : Die) (v : Val)
  | slotLaunch (d : Die) (slot : Fin 32)
  | endStep (d : Die) (r : Runner)
  | wait (d : Die) (r : Runner)
  | join (d : Die) (r : Runner)
  | joinRelease (d : Die) (r : Runner)
  | loop (d : Die) (r : Runner)
  | level (d : Die) (r : Runner) (late : Nat)
  | forceStep (d : Die) (r : Runner) (late : Nat)
  | open_ (d : Die) (r : Runner) (late : Nat)
  | close (d : Die) (r : Runner) (late : Nat)
  | capture (d : Die) (r : Runner) (late : Nat)
  | readkey (d : Die) (r : Runner) (late : Nat)
  | writekey (d : Die) (r : Runner) (late : Nat)
  | armStep (d : Die) (r : Runner) (late : Nat)
  | trig (d : Die) (r : Runner) (late : Nat)
  | beadStep (r : Runner) (late : Nat)
  | fportStep (r : Runner) (late : Nat)
  | nportStep (r : Runner) (late : Nat)
  | resultRead (rq : Rq) (d : Die) (object : Fin 8) (offset length : Nat)
  | launchRecordRead (rq : Rq) (d : Die) (offset length : Nat)
  -- Chain
  | hello (p : Port) (h : Hello)
  | helloSend (p : Port)
  | linkSilence (p : Port)
  | helloTimeout (p : Port)
  | chainFrameRelay (p : Port) (err : FrameError) (frame : ChainFrame) (overRate : Bool)
  | disableHoldoffExpiry (p : Port)
  | portReenable (rq : Rq)
  | chainSettleExpiry
  | pdelayReq (p : Port) (t2 t3 : T48)
  | pdelayResp (p : Port) (t2 t3 t4 : T48) (sample : Nat)
  | pdelaySchedule (p : Port) (t1 : T48)
  | discover (p : Port) (d : Discover)
  | discoverRelay
  | quietTimeExpiry
  | reportFrame (r : Report) (root epoch : Nat)
  | rootCollectEnd
  | assignRepeat
  | assign (index : Nat) (rows : List NodeRow)
  | commit (epoch root entries frames : Nat)
  | noRootTimeout
  | joinFrame (serial configured : Nat)
  | rediscover (rq : Rq) (arg : Option Nat)
  | rediscoverFrame (discard : Bool)
  | repairFrame (p : Port) (x epoch : Nat)
  | candidate (c : Candidate)
  | repairChoose
  | tryFrame (p : Port)
  | attach (p : Port) (c m : Nat)
  | attachOk (p : Port) (c m : Nat)
  | attachOkTimeout
  | flip (p : Port)
  | topo (partition : Bool) (rows : List NodeRow)
  | partitionRepairRetry
  | partitionWaitExpiry
  | orphanFrameDrop (p : Port)
  | rootTimeSend
  | statusFrame (src can time dev : Nat) (root : Bool)
  | statusSend
  | statusStale (node : Nat)
  | chainTrigger (src : Nat) (launch : T48) (list : Nat)
  | alert (src : Nat) (a : Alert)
  | alertAck (seq origin : Nat) (refused : Bool)
  | dapReq (rq : Rq) (key : Nat) (op : DapOp)
  | dapResp (src tag : Nat) (bytes : List Byte)
  -- parked Chain
  | park (rq : Rq) (arg : Option Nat)
  | parkEntry
  | beacon (b : Beacon) (elapsed : Nat)
  | rendezvousBeaconSend
  | listenWindowOpen
  | listenWindowMiss
  | listeningTimeout
  | adriftWindowMiss
  | childAnswerTimeout (p : Port)
  | holdWindowEnd
  | wakeAnswer (p : Port) (w : WakeWord)
  | wakeRequest (p : Port) (dest : Nat) (w : WakeWord)
  | wakeNotice (w : WakeWord)
  | wakeRequestCmd (rq : Rq) (arg : Option Nat)
  | lfCalibration (rate : Int)
  -- F-port
  | fportTransactionEnd (bytes : List Byte)
  | fportNextWork
  | windowRead (rq : Rq) (window : Fin 2) (offset length : Nat)
  | programJob (rq : Rq) (window : Fin 2) (bytes : List Byte)
  | statusPoll (erase : Bool) (status : Byte)
  | programTimeout
  | erase (rq : Rq) (arg : Option Nat)
  | eraseTimeout
  | recoveryPoll (target : Nat) (status : Byte)
  | sfdpQuery (rq : Rq) (arg : Option Nat)
  | adoptProposal (rq : Rq) (arg : Option Nat)
  -- bead ports
  | syncNow (rq : Rq) (start : T48)
  | beadFrame (p : Fin 4) (judgement : BeadJudgement) (status : BitVec 4) (data : Word)
  | positionWindowExpiry (p : Fin 4)
  | trainEnd (p : Fin 4)
  | pullupGrant
  | pullupWindowEnd (p : Fin 4)
  | overcurrentTrip (p : Fin 4) (within : Nat)
  | lineOffEnd (p : Fin 4)
  | poweringEnd (p : Fin 4)
  | baseWindowFault (p : Fin 4) (base : Nat)
  | openLineFault (p : Fin 4)
  | pullupLevelFault (p : Fin 4)
  | psi5Frame (p : Fin 4) (judgement : BeadJudgement) (data : Word) (at_ : T48)
  | psi5Silence (p : Fin 4)
  | beadPortReenable (rq : Rq)
  | beadModeWrite (rq : Rq) (key : Nat) (v : Val)
  -- SAFE inputs
  | safeTick (a0 b0 a1 b1 : Bool)
  | latchRecordWrite (pair : Fin 2)
  | releaseForce (rq : Rq)
  | safeSettingWrite (rq : Rq) (key : Nat) (v : Val)
  -- fault collectors
  | faultDetection (d : Die) (src : Fin 24) (cause : Nat)
  | liveStateSample (d : Die)
  | mergeWindowClose (d : Die) (src : Fin 24)
  | errPulseEnd (d : Die)
  | dieResetReaction (d : Die)
  | clearEntry (d : Die) (src : Fin 24)
  | statusClear (rq : Rq) (d : Die) (v : Val)
  | acknowledge (rq : Rq) (d : Die) (arg : Option Nat)
  | errPinRelease (rq : Rq) (d : Die)
  | historyClear (rq : Rq) (d : Die)
  | faultStatusRead (rq : Rq) (d : Die)
  | fSealRelease
  | fTrapNotice (src : Fin 24)
  -- Loupe and barrier health
  | periodicFlush (d : Die)
  | earlyFlush (d : Die)
  | tokenGain (d : Die)
  | flushComplete (d : Die) (verified : Bool)
  | flushNow (rq : Rq)
  | loupeFImage (time : T48)
  | fCopyWrite
  | startEpoch (rq : Rq)
  | deleteEpoch (rq : Rq) (arg : Option Nat)
  | cmTransient (peak : Nat) (falling : Bool) (blankedMs : Nat)
  | pdPulse (charge : Nat)
  | pdWindowEnd
  | bulkRequest (src mask view offset : Nat) (formOk : Bool)
  | bulkAbort (src : Nat)
  | bulkSnapshotTimeout
  -- power
  | standby (rq : Rq)
  | idleStandbyExpiry
  | standbyCreditTimeout
  | standbyNotice
  | wakeTimer
  | nWakePin
  | chainWake
  | monitorSample (m : Measures) (settled : Bool)
  | preregFoldback
  -- Filigree
  | filigreeUnlock (rq : Rq) (arg : Option Nat)
  | filigreeLock (rq : Rq)
  | filigreeArm (rq : Rq) (bytes : List Byte)
  | filigreeDisarm (rq : Rq) (arg : Option Nat)
  | filigreeSlotExpiry (slot : Fin 8)
  | filigreeSlotReport (slot : Fin 8) (armed : Bool)
  | unlockExpiry
  | unlockLockoutExpiry
  -- pins, buffers and timers of the table's last rows
  | nRstAssert
  | nSelHigh
  | canFrameSent (cls : Nat)
  | linkFrameSent (p : Port)
  | errorActiveReturn (tec rec : Nat)
  | busIntegrationEnd
  | eventLiveEnd (d : Die) (src : Fin 24)
  | filigreeHoldEnd (slot : Fin 8)
  deriving DecidableEq, Repr

end Sys2Proof
end

