-- ==== Sys2Proof/Decode.lean ====
section
/-! DEFINITION. The command that a table word spells. spec/opcode_table.json gives no row any bits, so no word spells a
command: the commands come from outside the block with their operands. -/

namespace Sys2Proof

/-- No row of the table has an encoding, so no word is a command. -/
def decodeTableWord (_nbits _w : Nat) : Option Instr := none

end Sys2Proof
end

