-- ==== Sys2Proof/Config.lean ====
section
/-! DEFINITION. What one manufactured part fixes and the manual does not: constants without a body, so that no proof can
see a value of them. -/

namespace Sys2Proof.Config

/-- The node serial, 48 bits, fixed at manufacture (K:0004, R110). -/
opaque serial : BitVec 48

/-- The silicon revision, one character (K:0002, R110). -/
opaque revision : BitVec 8

/-- The manufacture week (K:0006, R110). -/
opaque week : BitVec 16

/-- The factory record (K:A041, R512). -/
opaque factoryRecord : List (BitVec 8)

/-- The one-way Clasp delay in 1/512 tick, for full and for half rate, trimmed at manufacture (R253). -/
opaque claspDelay : Bool → Nat

/-- The free values that the manual leaves open, by the count of those taken before. -/
opaque freeValue : Nat → Nat

end Sys2Proof.Config
end

