-- ==== Sys2Proof/Machine/State.lean ====
section
/-! DEFINITION. The state of one Zarilo node as plain data: everything the manual gives the two dies, the queue of
waiting commands, and State.reset (the part as it leaves the factory, both dies unpowered). Every field's docstring names
the rule that gives it; its default is its value in State.reset. -/

namespace Sys2Proof.Machine

open Sys2Proof

/-- No command of this block stops the machine with a fault: nothing raises one. The fault sources of R457 and R458 are
state, not faults of the model. Safe. -/
inductive Fault where
  deriving DecidableEq, Repr

/-- Why a command has no meaning. -/
inductive Refusal where
  /-- Raised by a Dispatch arm whose command has no meaning yet. Safe: the machine stops. -/
  | notModelled (mnemonic : String)
  deriving DecidableEq, Repr

/-- Where a die is between power and readiness (R55, R56, R70, R357, R522). -/
inductive Phase where
  /-- The supply of the die is not valid. -/
  | unpowered
  /-- The supply is valid and the die is held in reset (R35, R70). -/
  | held
  /-- The phases N1 to N7 or F1 to F7 run. -/
  | starting
  /-- The die is ready. -/
  | ready
  /-- The N-die is in standby (R522). -/
  | standby
  /-- The F-die is PARKED (R357). -/
  | parked
  /-- The F-die is F-dormant (R524). -/
  | dormant
  deriving DecidableEq, Repr

/-- The retention register of a die's wake island (R478); it survives every restart but a power-on of its supply. -/
structure Retention where
  /-- SEAL sources of the die (R478). -/
  seals : Word := 0
  /-- The error pin was asserted when a DIE_RESET restart began (R468). -/
  heldPin : Bool := false
  /-- Source of the latest DIE_RESET reaction (R478). -/
  resetSource : Option Nat := none
  /-- The latest start followed a DIE_RESET reaction (R483 bit 5). -/
  byReaction : Bool := false
  /-- Allocation epoch counter, N-die only (R89). -/
  epoch : Nat := 0
  /-- Lost flushes recorded at entry into standby (R490). -/
  lostFlush : Nat := 0
  deriving DecidableEq, Repr

/-- A settings area of a ledger (R8, R57, R103). -/
structure Area where
  /-- The stored area is valid; parts leave the factory with a valid, empty area (R78 bit 16). -/
  valid : Bool := true
  /-- Stored values by key index (R103). -/
  vals : Tab Nat := []
  /-- Stored BLOBs by key index (R103). -/
  blobs : Tab (List Byte) := []
  deriving DecidableEq, Repr

/-- One history entry (R473). -/
structure HistEntry where
  /-- Event number, 0 to 255. -/
  event : Nat := 0
  /-- Source bit, 0 to 23. -/
  source : Nat := 0
  /-- Class at detection (R460). -/
  cls : Nat := 0
  /-- A clear entry. -/
  clear : Bool := false
  /-- Cause code of the owning chapter, or the F event number for N source 22. -/
  detail : Nat := 0
  /-- Merged detections, saturating at 255. -/
  merged : Nat := 0
  /-- Reactions run: bit 0 IRQ, 1 TRAP, 2 BLOCK_RESET, 3 DIE_RESET, 4 ERRPIN. -/
  ran : Nat := 0
  /-- Transient (R476). -/
  transient : Bool := false
  /-- Forward pending, F-die only (R469). -/
  pending : Bool := false
  /-- Acknowledged (R475). -/
  acked : Bool := false
  /-- The F source, for N source 22. -/
  fSource : Nat := 0
  /-- The detection changed the status bit from 0 to 1 (R133). -/
  fresh : Bool := false
  /-- Time of detection or clear. -/
  time : T48 := 0
  /-- The status word at detection, which the entry frame carries (R469). -/
  status : Word := 0
  deriving DecidableEq, Repr

/-- The latest event of a source (R463, R464). -/
structure OpenEvent where
  /-- Its event number. -/
  event : Nat := 0
  /-- Class in force at detection (R460). -/
  cls : Nat := 0
  /-- Reactions of the mask in force at detection: bit 0 I, 1 T, 2 B, 3 D, 4 E (R482). -/
  mask : Nat := 0
  /-- Its merge window is open (R464). -/
  openWin : Bool := false
  /-- A read of the status word has been admitted since detection (R476). -/
  seen : Bool := false
  /-- Its clear entry has been written (R473). -/
  cleared : Bool := false
  deriving DecidableEq, Repr

/-- A fault collector (R456 to R480). -/
structure Collector where
  /-- K:8000 or K:8100, sticky (R462). -/
  status : Word := 0
  /-- Live conditions of C and C/E sources (R456). -/
  cond : Word := 0
  /-- Live bits of event detections, 1 for 1 ms (R456). -/
  pulse : Word := 0
  /-- Next event number (R463). -/
  nextEvent : Nat := 0
  /-- The latest event of each source since the die started (R464). -/
  latest : Tab OpenEvent := []
  /-- Up to 16 entries, newest first (R472). -/
  history : List HistEntry := []
  /-- Overflow counter, saturating at 255 (R472). -/
  overflow : Nat := 0
  /-- K:8006 or K:8106 (R475). -/
  unack : Word := 0
  /-- The error pin is asserted (R467). -/
  pin : Bool := false
  /-- Its minimum pulse is running (R467). -/
  pulseRunning : Bool := false
  /-- Ticks of the die at which its latest minimum pulse ended (R484). -/
  pulseEnded : Nat := 0
  /-- A release was given during the pulse (R467). -/
  releasePending : Bool := false
  /-- Before the end of phase N5 or F5 the error pin is held low (R63). -/
  startupLow : Bool := true
  /-- Source of a DIE_RESET reaction that waits to begin (R465). -/
  resetWaiting : Option Nat := none
  /-- F event numbers whose reports the N-die has seen since the last training (R470). -/
  reportsSeen : List Nat := []
  /-- An F trap that is still to be reported to the N-die (R477). -/
  trapToReport : Option Nat := none
  deriving DecidableEq, Repr

/-- What a Clasp DATA frame carries (R183, R17). -/
inductive Msg where
  /-- A dictionary transaction for the F-die, by session and tag (R86). -/
  | request (session tag : Nat)
  /-- Its result (R86). -/
  | result (session tag : Nat)
  /-- A tunnel transaction, by tag (R164). -/
  | tunnel (tag : Nat)
  /-- A completed tunnel transaction's bytes (R164). -/
  | tunnelResult (tag : Nat)
  /-- A Chain frame bound for or coming from CAN or the gateway (R335, R342). -/
  | chain (f : ChainFrame)
  /-- A change of the device state (R295). -/
  | devState (s : DevState)
  /-- The history entry of an F event (R469), and whether its detection changed the status bit (R133). -/
  | faultEntry (event : Nat) (fresh : Bool)
  /-- An F trap (R477). -/
  | trap (source : Nat)
  /-- A published F result: its image as it was closed (R303, R305). -/
  | published (object : Nat) (image : List Byte)
  /-- A scheduled step written by session 7 (R265). -/
  | step
  /-- A phase or rate sample for the N servo (R257). -/
  | timeSample
  /-- The standby notice (R522). -/
  | standby
  /-- A Filigree slot that the F-die shall hold or end, or a report of one (R534, R537). -/
  | filigree (slot : Nat)
  /-- An F Loupe image (R494). -/
  | loupeImage
  deriving DecidableEq, Repr

/-- A DATA frame of one direction (R183). -/
structure DataFrame where
  /-- Stream 0 to 5. -/
  stream : Nat
  /-- Sequence, given when the frame is first sent. -/
  seq : Nat
  /-- Its content. -/
  msg : Msg
  deriving DecidableEq, Repr

/-- CTRL words waiting to be sent, by the subtypes of R181. -/
inductive Ctrl where
  | force (origin : Nat) (mask : Mask)
  | faultReport (source cls : Nat) (live : Bool) (event : Nat)
  | faultAck (source event : Nat)
  | act (id floor list : Nat) (launch : T48)
  | actAck (id : Nat) (late : Bool) (outcome : Nat)
  | refresh (count : Nat) (mask levels : Mask)
  | config (phase map : Nat) (upper : Bool) (n : Nat)
  | rate (kind n : Nat)
  | time (t : T48)
  | era (e : Word)
  | credit (returned : Nat) (nak : Bool) (last : Nat)
  | margin (swing equalisation : Nat) (atTarget : Bool) (width height : Nat)
  | report (bits : Word)
  deriving DecidableEq, Repr

/-- Link-state field of K:2100 and K:2101 (R199). -/
inductive LinkState where
  | off | training | up | outage
  deriving DecidableEq, Repr

/-- Synthesiser states (R187). -/
inductive Synth where
  | off | calibrating | settling | locked
  deriving DecidableEq, Repr

/-- A run of a list, by its runner and its launch time (R306): what a step that completes later belongs to. -/
structure RunRef where
  /-- Slot or trap list. -/
  runner : Runner
  /-- Launch time. -/
  launch : T48
  deriving DecidableEq, Repr

/-- An order that awaits its ACT_ACK (R296). `fromStep` is the ARM step that sent it, if one did. -/
structure Order where
  id : Nat
  floor : Nat
  list : Nat
  launch : T48
  fromStep : Option RunRef
  deriving DecidableEq, Repr

/-- One die's half of the Clasp (R173 to R201). -/
structure ClaspHalf where
  /-- Link state (R199). -/
  link : LinkState := .off
  /-- Synthesiser state (R187). -/
  synth : Synth := .off
  /-- A training has completed and LOST has not been reached since (R569). -/
  trained : Bool := false
  /-- The die has registered the loss of the Clasp: source 8 is live (R569). -/
  lossSeen : Bool := false
  /-- 2 Gbit/s (R195). -/
  half : Bool := false
  /-- Transmit swing in force (R193). -/
  swing : Nat := 0
  /-- Transmit equalisation in force (R193). -/
  eq : Nat := 0
  /-- Swing that the far receiver last reported it wants (K:2112, K:2113). -/
  wantedSwing : Nat := 0
  /-- Equalisation that the far receiver last reported it wants. -/
  wantedEq : Nat := 0
  /-- Swing this receiver wants of the far transmitter (R193). -/
  askSwing : Nat := 0
  /-- Equalisation this receiver wants of the far transmitter (R193). -/
  askEq : Nat := 0
  /-- Eye width of the latest report, in 1/64 UI (K:2110). -/
  width : Nat := 0
  /-- Eye height of the latest report, in 4 mV (K:2110). -/
  height : Nat := 0
  /-- Below the target of K:2105 at the latest report (K:2110 bit 14). -/
  below : Bool := false
  /-- Reports in a row at the limit (R195). -/
  limitCount : Nat := 0
  /-- Corrected words since training, saturating at 4095 (K:2114). -/
  corrected : Nat := 0
  /-- Uncorrectable words since training, saturating at 4095 (K:2114). -/
  uncorrectable : Nat := 0
  /-- Frames sent again since training, saturating at 4095 (K:2116). -/
  repeats : Nat := 0
  /-- NAKs sent since training, saturating at 4095 (K:2116). -/
  naks : Nat := 0
  /-- Credits held for sending, 0 to 32 (R184). -/
  credits : Nat := 0
  /-- Credits owed to the far die (R184). -/
  owed : Nat := 0
  /-- Credits held back by CREDIT_HOLD (R535). -/
  heldCredits : Nat := 0
  /-- Sequence of the next new frame (R183). -/
  txSeq : Nat := 0
  /-- Sequence the receiver expects next (R184). -/
  rxSeq : Nat := 0
  /-- An acknowledgement or a NAK is owed (R182). -/
  ackOwed : Bool := false
  /-- A NAK is owed (R184). -/
  nakOwed : Bool := false
  /-- The receiver discards frames until the expected sequence arrives (R184). -/
  discarding : Bool := false
  /-- NAKs in a row that name the same sequence (R184). -/
  nakRun : Nat := 0
  /-- Frames that wait for a credit or for the line (R184, R189). -/
  waiting : List DataFrame := []
  /-- Frames sent and not yet accepted by the far die (R184). -/
  unacked : List DataFrame := []
  /-- Frames held by CLASP_DELAY (R535). -/
  delayed : List DataFrame := []
  /-- Frames of other streams sent while a stream 4 frame waited (R185). -/
  sinceLoupe : Nat := 0
  /-- CTRL words that wait to be sent, in order of arrival (R177, R189). -/
  ctrl : List Ctrl := []
  /-- REFRESH count, modulo 8 (R181). -/
  refreshCount : Nat := 0
  /-- Triples sent since the last ERA pair (R182). -/
  triples : Nat := 0
  /-- Orders that await their ACT_ACK, at most 8 (R296). -/
  orders : List Order := []
  /-- Orders that wait for one of the 8 places (R296). -/
  ordersWaiting : List Order := []
  /-- Next order id, modulo 32 (R296). -/
  nextOrder : Nat := 0
  /-- The last 16 order ids answered, with LATE and the outcome (R182, R296). -/
  answered : List (Nat × Bool × Nat) := []
  /-- A rate agreement in progress: its number and whether it asks for half rate (R195). -/
  rateAgreement : Option (Nat × Bool) := none
  /-- A refused rate request that is due again: the rate asked (R195). -/
  rateRetry : Option Bool := none
  /-- A rate switch accepted, whose switch is due: half or full (R195). -/
  rateSwitchDue : Option Bool := none
  /-- The present outage is the rate switch itself, to this rate (R195). -/
  switching : Option Bool := none
  /-- Agreement number of the latest rate request (R181). -/
  rateNumber : Nat := 0
  /-- The far die's REFRESH mask as last received (R203). -/
  farMask : Mask := 0
  /-- The far die's REFRESH count as last received since training (R181, R223). -/
  farCount : Option Nat := none
  deriving DecidableEq, Repr

/-- One direct channel as one die sees it (R202 to R224). -/
structure Chan where
  /-- Level read at the pin, when it is an input (R221). -/
  pinIn : Bool := false
  /-- Sent level (R210). -/
  sent : Bool := false
  /-- Level set by LEVEL steps while the channel is a timed input (R288). -/
  timedLevel : Bool := false
  /-- Capture instants of the events that wait for an EDGE word (R180). -/
  waiting : List Nat := []
  /-- Capture instants of the backlog of the present outage (R189). -/
  backlog : List Nat := []
  /-- Shifted (R190). -/
  shifted : Bool := false
  /-- The backlog overflowed in the present outage (R191). -/
  overflowed : Bool := false
  /-- Shadow level of an output (R211). -/
  shadow : Bool := false
  /-- Scheduled level: that of every event received (R210). -/
  scheduled : Bool := false
  /-- Events received and not yet replayed (R179). -/
  replay : Nat := 0
  /-- An agreeing REFRESH has arrived since training (R61, R216 row 6). -/
  refreshed : Bool := false
  /-- The direction just changed and no agreeing REFRESH has arrived (R206, R216 row 5). -/
  fresh : Bool := false
  /-- The own timer of the new output has expired (R206, R216 row 4). -/
  freshExpired : Bool := false
  /-- The partner wait expired before training and no REFRESH has arrived (R62, R216 row 4). -/
  waitExpired : Bool := false
  /-- Level kept since the first of rows 2 to 4 was entered, for HOLD (R217). -/
  kept : Option Bool := none
  /-- Refresh repairs since the last training, saturating at 4095 (R222). -/
  repairs : Nat := 0
  deriving DecidableEq, Repr

/-- The direct channels of one die (R202 to R224). -/
structure Channels where
  /-- The eight channels, by number. -/
  chans : Tab Chan := []
  /-- Direction map in force on this die, 0 to 2 (R202). -/
  map : Nat := 0
  /-- Upper-group function in force on this die: true for FPORT_DQ (R39). -/
  upper : Bool := false
  /-- The default row has been loaded and its levels applied (R61, R63). -/
  rowApplied : Bool := false
  /-- Word 0 of the row in force: power-up levels and fail-safe choices (R73). -/
  levels : Word := 0
  /-- Timed out (R212). -/
  timedOut : Bool := false
  /-- When the present or latest timeout began, for its duration (R223). -/
  timedOutAt : T48 := 0
  /-- The fail-safe timer has started: a REFRESH has arrived since training (R61, R212). -/
  timer : Bool := false
  /-- Fail-safe timeout in force on this die, in µs (R219). -/
  timeout : Nat := 4
  /-- Masks of the force origins this die raises (R214). -/
  own : Tab Mask := []
  /-- Masks of the force origins received from the far die (R215). -/
  far : Tab Mask := []
  /-- Refresh periods in which a cleared origin is still repeated (R182). -/
  repeatLeft : Tab Nat := []
  /-- SAFE_HOLD is in force on this die (R101). -/
  hold : Bool := false
  /-- Outputs forced at some moment since SAFE_HOLD began; no release changes them (R101). -/
  holdMask : Mask := 0
  /-- SEALED on this die (R216 row 2). -/
  sealed : Bool := false
  /-- A direction change that this die will apply at the 16th group boundary: map and upper group (R204). -/
  changeDue : Option (Nat × Bool) := none
  /-- Channels set to timed inputs, in force in the Clasp island (R288). -/
  timed : Mask := 0
  deriving DecidableEq, Repr

/-- States of a launch slot (R310 byte 14). -/
inductive SlotState where
  | free | armed | running | rearmed
  deriving DecidableEq, Repr

/-- A list in execution (R283 to R287). -/
structure Run where
  /-- List number. -/
  list : Nat := 0
  /-- Index of the next step word. -/
  pc : Nat := 0
  /-- Scheduled tick of the next step (R283). -/
  sched : T48 := 0
  /-- Launch time: the timestamp of the objects it opens (R302). -/
  launch : T48 := 0
  /-- Passes left of the LOOP met last, and the index of that LOOP (R281). -/
  passes : Option (Nat × Nat) := none
  /-- Steps issued and not yet complete (R286). -/
  outstanding : Nat := 0
  /-- Waiting in a JOIN (R283). -/
  joining : Bool := false
  /-- END is reached and a step is still outstanding (R286, R293). -/
  ending : Bool := false
  /-- Its first step has been issued (R285). -/
  begun : Bool := false
  /-- LATE (R285). -/
  late : Bool := false
  /-- STEP_FAILED (R287). -/
  failed : Bool := false
  /-- STALLED (R301). -/
  stalled : Bool := false
  /-- Largest lateness of any step, in ticks (R306). -/
  maxLate : Nat := 0
  /-- Objects it has opened and not closed (R295). -/
  opened : List Nat := []
  /-- Step words fetched from a window (R301). -/
  fetched : List Nat := []
  deriving DecidableEq, Repr

/-- A launch slot (R289, R310). -/
structure Slot where
  /-- State. -/
  state : SlotState := .free
  /-- List number. -/
  list : Nat := 0
  /-- Next launch time. -/
  launch : T48 := 0
  /-- Period word: unit and count (R290). -/
  period : Nat := 0
  /-- Launches remaining; 0 unlimited (R290). -/
  launches : Nat := 0
  /-- Origin (R310 byte 15). -/
  origin : Nat := 0
  /-- The running list. -/
  run : Run := {}
  deriving DecidableEq, Repr

/-- A result object (R302, R303). -/
structure ResultObject where
  /-- Timestamp of the published buffer. -/
  time : T48 := 0
  /-- Tag; 0 while nothing has been closed. -/
  tag : Nat := 0
  /-- Flags of R303. -/
  flags : Nat := 0
  /-- Published bytes. -/
  data : List Byte := []
  /-- The working buffer is open. -/
  isOpen : Bool := false
  /-- Working bytes, up to the highest offset written. -/
  work : List Byte := []
  /-- Timestamp of the working buffer. -/
  workTime : T48 := 0
  /-- POWER_DEFERRED met in the present cycle (R300). -/
  deferred : Bool := false
  deriving DecidableEq, Repr

/-- A launch record (R306). -/
structure LaunchRecord where
  slot : Nat
  list : Nat
  flags : Nat
  time : T48
  lateness : Nat
  deriving DecidableEq, Repr

/-- One action sequencer (R278 to R312). -/
structure Sequencer where
  /-- Launch slots 0 to 31 (R289). -/
  slots : Tab Slot := []
  /-- The trap list in execution (R307). -/
  trap : Option Run := none
  /-- Result objects 0 to 7 (R302). -/
  objects : Tab ResultObject := []
  /-- Launch records, oldest first, at most 32 (R306). -/
  records : List LaunchRecord := []
  /-- Trigger count of TRIG steps (R299). -/
  trigCount : Nat := 0
  deriving DecidableEq, Repr

/-- The lifetime record of one die (R486 to R514). -/
structure Loupe where
  /-- The totals in SRAM, by block, record and cell (R486, R489). -/
  cells : Tab Nat := []
  /-- The newest image in the lifetime ring (R489). -/
  stored : Tab Nat := []
  /-- Time of that image. -/
  storedTime : T48 := 0
  /-- The image being written and the time of its totals, while a flush runs (R489). -/
  writing : Option (Tab Nat × T48) := none
  /-- A flush is due and waits for a token or for the ledger (R489, R492). -/
  due : Bool := false
  /-- Tokens of the flush bucket (R489). -/
  tokens : Nat := 0
  /-- Slots of the ring in service (R491). -/
  slots : Nat := 0
  /-- Slot sequence number, modulo 2^24 (R491). -/
  seq : Nat := 0
  deriving DecidableEq, Repr

/-- The islands and crossings of one die (R225 to R248). -/
structure Islands where
  /-- Islands held in reset alone, with the cause of R246. -/
  inReset : Tab Nat := []
  /-- Crossings torn now, one flag per crossing of the die (R245). -/
  torn : BitVec 10 := 0
  /-- Tears since the die started, saturating at 63 (R245). -/
  tears : Nat := 0
  /-- Number of the latest torn crossing (R245). -/
  lastTorn : Nat := 0
  /-- Island last reset alone (R246). -/
  lastIsland : Nat := 0
  /-- Cause of that reset (R246). -/
  lastCause : Nat := 0
  /-- Islands reset alone since the die started, saturating at 65535 (R246). -/
  resets : Nat := 0
  /-- Counters that the islands have counted and the hub has not yet sampled (R232, R489). -/
  unsampled : Tab Nat := []
  deriving DecidableEq, Repr

/-- Everything both dies have (R13, R22, R25, R55, R56). -/
structure DieState where
  /-- Lifecycle (R55, R56, R70). -/
  phase : Phase := .unpowered
  /-- Time since the die started, in ticks of its own reference: what the durations of R533 and R534 are counted in. -/
  ticks : Nat := 0
  /-- Startup cause (R78, R79 bits 23:20). -/
  cause : Nat := 0
  /-- The supply fell below its undervoltage threshold and the next start latches source 0 (R82). -/
  undervoltage : Bool := false
  /-- Row restored (R72). -/
  rowRestored : Bool := false
  /-- Ledger recovered (R78, R79 bit 17). -/
  ledgerRecovered : Bool := false
  /-- No saved settings (R78 bit 16). -/
  noSettings : Bool := false
  /-- Ready time in µs (R78, R79). -/
  readyTime : Nat := 0
  /-- The partner wait expired before training (R62). -/
  waitExpired : Bool := false
  /-- Retention register (R478). -/
  ret : Retention := {}
  /-- Fault collector (R456). -/
  faults : Collector := {}
  /-- Clasp half (R173). -/
  clasp : ClaspHalf := {}
  /-- Direct channels (R202). -/
  ch : Channels := {}
  /-- Action sequencer (R278). -/
  seq : Sequencer := {}
  /-- Lifetime record (R486). -/
  loupe : Loupe := {}
  /-- Islands and crossings (R225). -/
  isl : Islands := {}
  /-- Latest capture on the sync pin (K:301C, K:301D). -/
  syncCapture : T48 := 0
  /-- Start of the latest pulse that the sync pin has driven (R261). -/
  syncPulseAt : Option T48 := none
  deriving DecidableEq, Repr

/-- One dictionary session (R87 to R89, R95, R304, R391). -/
structure Session where
  /-- Access path. -/
  path : Path
  /-- Client node; 0 for sessions 0 and 7. -/
  client : Nat
  /-- Allocation epoch (R89). -/
  epoch : Nat
  /-- Select values and other session values that differ from their value at allocation, by key (R96, R391, R504). -/
  selects : Tab Nat := []
  /-- Last tag read with OK or REREAD, by object: 0 to 7 N, 8 to 15 F (R304). -/
  tags : Tab Nat := []
  /-- K:1008 has been given and waits for the session's transactions (R89). -/
  releasing : Bool := false
  deriving DecidableEq, Repr

/-- Where a transaction is (R90, R127, R86). -/
inductive Stage where
  /-- A block write whose last segment has not arrived; the segments so far. -/
  | collecting (total next : Nat) (bytes : List Byte)
  /-- Sent to the F-die, not yet executed there. -/
  | toF
  /-- Taken by the F-die, which answers it with a later event: a window read, an erase. -/
  | atF
  /-- Executed by the F-die; the result is on its way. -/
  | fromF
  /-- Sent to another node through the gateway, under a gateway tag; the bytes of a block response so far (R342). -/
  | remote (node gtag : Nat) (bytes : List Byte)
  /-- Admitted, and its outcome comes with a later event (a save, a direction agreement, a reset). -/
  | running
  /-- Complete: the response is delivered or waits to be. -/
  | done
  deriving DecidableEq, Repr

/-- A transaction in flight (R90), or a refusal that still has to be sent. -/
structure Txn where
  /-- Session. -/
  session : Nat
  /-- Tag, as the client chose it. -/
  tag : Nat
  /-- Access path and client. -/
  path : Path
  /-- Client node. -/
  client : Nat
  /-- Key. -/
  key : Nat
  /-- Operation. -/
  op : DapOp
  /-- Select values captured at admission, by select key (R95). -/
  sels : Tab Nat
  /-- Stage. -/
  stage : Stage
  /-- Status code (R92); meaningful once done, or 2 (DEFERRED) while the N-port waits. -/
  status : Nat
  /-- Response data. -/
  data : List Byte
  /-- The sequencer list that waits for it, for session 7 (R97). -/
  runner : Option (Die × RunRef × Nat)
  deriving DecidableEq, Repr

/-- A save or restore that runs (R103 to R106). -/
inductive SaveRun where
  /-- A save of the parts of the mask, with the values captured at admission. -/
  | saving (mask : Nat) (vals : Tab Nat) (blobs : Tab (List Byte))
  /-- A restore in its gather stage, with its argument. -/
  | gather (arg : Nat)
  /-- A restore in its apply stage; `left` says that a value was left unchanged. -/
  | apply (arg : Nat) (left : Bool)
  deriving DecidableEq, Repr

/-- The dictionary engine (R83 to R113). -/
structure Dict where
  /-- Sessions, by number (R87). -/
  sessions : Tab Session := []
  /-- Transactions in flight, in admission order (R90, R93). -/
  txns : List Txn := []
  /-- Save or restore that runs, with the transaction that asked (R106). -/
  run : Option SaveRun := none
  /-- Unsaved flags of the four parts of R103 (K:0017). -/
  unsaved : BitVec 4 := 0
  /-- A die reset ordered by K:F002: its argument (R107). -/
  resetOrder : Option Nat := none
  /-- The reset of that order is due: the response has left flight (R107). -/
  resetDue : Bool := false
  deriving DecidableEq, Repr

/-- CAN error states of K:1110 (R143). `stopped` is the port before N-die ready and in standby. -/
inductive CanState where
  | active | passive | busOff | integrating | stopped
  deriving DecidableEq, Repr

/-- A frame in a CAN transmit buffer (R124). -/
structure TxFrame where
  cls : Nat
  dest : Nat
  service : Nat
  tag : Nat
  /-- Session and tag of the transaction it answers, for class 4. -/
  txn : Option (Nat × Nat)
  /-- A refusal under checks 1 and 2, held in the 4 further buffers. -/
  refusal : Bool
  data : List Byte
  deriving DecidableEq, Repr

/-- An alert in the alert queue (R133, R137). `relayFor` is the node that asked for its relay. -/
structure QueuedAlert where
  alert : Alert
  dest : Nat
  /-- Candidates already tried in the detour. -/
  tried : List Nat
  /-- Every candidate has refused. -/
  exhausted : Bool
  relayFor : Option Nat
  deriving DecidableEq, Repr

/-- The CAN FD port (R114 to R145). -/
structure Can where
  /-- Error state. -/
  state : CanState := .stopped
  /-- Transmit error count. -/
  tecCount : Nat := 0
  /-- Receive error count. -/
  recCount : Nat := 0
  /-- Protocol exception seen and not yet read (K:1110 bit 21). -/
  exception : Bool := false
  /-- Live transceiver conditions: bit 0 own dominant, 1 bus dominant, 2 thermal (R116). -/
  txvr : BitVec 3 := 0
  /-- The driver is enabled (R116). -/
  driver : Bool := true
  /-- Rate reduced (R118). -/
  reduced : Bool := false
  /-- Nominal rate in force, code of K:1100, 1 to 4 (R117). -/
  nominal : Nat := 3
  /-- Data rate in force, code of K:1101, 1 to 4 (R117). -/
  dataRate : Nat := 2
  /-- A rate write has been answered and its change is due (R119). -/
  rateDue : Bool := false
  /-- Bus-off recovery runs (R135). -/
  recovering : Bool := false
  /-- Transmit buffers of classes 1 to 7, in order of arrival (R124). -/
  tx : List TxFrame := []
  /-- Alert queue, oldest first, at most 8 (R124). -/
  alerts : List QueuedAlert := []
  /-- Next alert sequence number (K:1123). -/
  alertSeq : Nat := 0
  /-- The alert being detoured, by sequence, and the node tried (R137). -/
  detour : Option (Nat × Nat) := none
  /-- First frames of two-frame tunnels that await their second, oldest first: source, destination, tag and words (R140). -/
  tunnelFirst : List (Nat × Nat × Nat × List Nat) := []
  /-- A SYNC that waits for its FOLLOW_UP: source, tag and stamp (R259). -/
  syncSeen : Option (Nat × Nat × T48) := none
  /-- CAN time discards in a row (R259). -/
  timeDiscards : Nat := 0
  /-- Sequence tag of the next SYNC it sends (R258). -/
  syncTag : Nat := 0
  /-- The node stepped since the pair it sent last (R258). -/
  stepped : Bool := false
  /-- Tag count of gateway requests (R342). -/
  gatewayTag : Nat := 0
  deriving DecidableEq, Repr

/-- A held N-port response, or a transaction whose response is held back (R154). -/
structure Held where
  tag : Nat
  /-- A tunnel transaction. -/
  tunnel : Bool
  /-- The final response is complete. -/
  complete : Bool
  /-- Header 0x50 or 0x51. -/
  header : Nat
  /-- The final body. -/
  body : List Byte
  deriving DecidableEq, Repr

/-- A tunnel transaction that is outstanding (R164, R165). -/
structure TunnelTxn where
  tag : Nat
  target : Nat
  body : TunnelBody
  /-- Taken by the F-port. -/
  started : Bool
  deriving DecidableEq, Repr

/-- A start of an N-port master transaction (R167). -/
structure MasterStart where
  index : Nat
  blob : List Byte
  runner : RunRef
  dest : Nat
  deriving DecidableEq, Repr

/-- The N-port (R146 to R172). -/
structure NPort where
  /-- Mode in force: 0 OFF, 1 SLAVE, 2 MASTER (K:1203 bits 3:2). -/
  mode : Nat := 0
  /-- A mode write has been answered and its change is due (R146). -/
  modeDue : Option Nat := none
  /-- N_SEL# is low (R147). -/
  selLow : Bool := false
  /-- Last frame error (R159). -/
  lastError : Nat := 0
  /-- Last SPI mode: true for mode 3 (R147). -/
  spi3 : Bool := false
  /-- Held responses (R154). -/
  held : List Held := []
  /-- The response being clocked out: header, tag and body (R151). -/
  out : Option (Nat × Nat × List Byte) := none
  /-- The last response that left flight: header, tag and body (R156). -/
  last : Option (Nat × Nat × List Byte) := none
  /-- Outstanding tunnel transactions, at most 2, in admission order (R165). -/
  tunnels : List TunnelTxn := []
  /-- A TUNNEL frame kept in the busy pattern (R165). -/
  busy : Option (Nat × TunnelBody) := none
  /-- The master transaction that runs (R167). -/
  master : Option MasterStart := none
  /-- Starts that wait for it (R167). -/
  starts : List MasterStart := []
  deriving DecidableEq, Repr

/-- States of the master time (R273). -/
inductive TimeState where
  | free | tracking | holdover
  deriving DecidableEq, Repr

/-- A scheduled step (K:3020, K:3021). -/
structure TimeStep where
  instant : T48
  amount : T48
  drop : Bool
  deriving DecidableEq, Repr

/-- Hallmark master and servo (R249 to R277). -/
structure Hallmark where
  /-- Master count (R251). -/
  count : T48 := 0
  /-- Era (R250). -/
  era : Word := 0
  /-- State (R273). -/
  state : TimeState := .free
  /-- Source in use: 0 none, 1 Chain, 2 CAN, 3 N_SYNC, 4 manual (R273). -/
  source : Nat := 0
  /-- r_rate of R263, in units of 10^-15. -/
  rRate : Int := 0
  /-- r_target of R263, in units of 10^-15. -/
  rTarget : Int := 0
  /-- r of R251, in units of 10^-15 (K:3009 in 10^-9). -/
  r : Int := 0
  /-- Latest phase sample in 1/8 ns, saturated (K:3008). -/
  offset : Int := 0
  /-- Wanted step in µs, saturated (K:300A). -/
  wanted : Int := 0
  /-- Policy limited (R264). -/
  limited : Bool := false
  /-- Latest cause of N source 19 (R275). -/
  lastCause : Nat := 0
  /-- Steps applied since the N-die started, saturating at 255 (R273). -/
  steps : Nat := 0
  /-- Scheduled step (K:3020). -/
  step : Option TimeStep := none
  /-- Consecutive samples of a higher-priority source, and that source (R256). -/
  higher : Nat × Nat := (0, 0)
  /-- The time has been acquired since power-up (R271). -/
  acquired : Bool := false
  /-- The era has been acquired or set (R250). -/
  eraKnown : Bool := false
  /-- A set under FREE that waits for the next TIME_C instant: ticks, and the era where the source carries one (R263). -/
  set : Option (Int × Option Word) := none
  /-- What a manual time that the policy forbids as a step still has to slew, in femtoseconds (R264, R268). -/
  slew : Int := 0
  /-- Causes of N source 19 present now, bit c for cause c (R275). -/
  conds : BitVec 6 := 0
  /-- When the present state began, for its duration (R276). -/
  since : T48 := 0
  deriving DecidableEq, Repr

/-- States of the follower (R274). -/
inductive FollowerState where
  | unaligned | aligned | holdover
  deriving DecidableEq, Repr

/-- The F follower (R253, R254). -/
structure Follower where
  /-- Count. -/
  count : T48 := 0
  /-- Era. -/
  era : Word := 0
  /-- State. -/
  state : FollowerState := .unaligned
  /-- Scheduled step it holds (K:3021). -/
  step : Option TimeStep := none
  /-- Latest cause of F source 23 (R275). -/
  lastCause : Nat := 0
  /-- Sets since the F-die started, saturating at 255 (R274). -/
  sets : Nat := 0
  /-- The first triple after the latest training has been taken (R253). -/
  seenTriple : Bool := false
  /-- An ERA pair has been taken since the F-die started (R253). -/
  eraKnown : Bool := false
  /-- The holdover alarm of R269 has been raised in the present holdover. -/
  alarm : Bool := false
  deriving DecidableEq, Repr

/-- Where a direction agreement is (R204). -/
inductive AgreePhase where
  | idle | proposed | committed
  deriving DecidableEq, Repr

/-- The direction agreement (R204 to R206, R220). -/
structure Agreement where
  /-- Latest agreement number. -/
  number : Nat := 0
  /-- Outcome: 0 none, 1 applied, 2 refused, 3 timed out. -/
  outcome : Nat := 0
  /-- Phase. -/
  phase : AgreePhase := .idle
  /-- Proposed map. -/
  map : Nat := 0
  /-- Proposed upper group. -/
  upper : Bool := false
  /-- Proposes sent for the present number. -/
  proposes : Nat := 0
  /-- Session and tag of the write that waits for it. -/
  txn : Option (Nat × Nat) := none
  /-- The agreement is an adoption under R46. -/
  adoption : Bool := false
  /-- The key whose write it is, and the member of a select. -/
  key : Nat := 0x2002
  /-- The answer the F-die gave to the latest propose: number and accepted (R205). -/
  fAnswer : Option (Nat × Bool) := none
  /-- Number the F-die last applied (R205). -/
  fApplied : Option Nat := none
  deriving DecidableEq, Repr

/-- One Loupe epoch (R503, R509). -/
structure Epoch where
  number : Nat
  slot : Nat
  start : T48
  powered : Nat
  label : List Byte
  nBase : Tab Nat
  fBase : Tab Nat
  deriving DecidableEq, Repr

/-- A barrier log entry (R507). -/
structure BarrierEntry where
  kind : Nat
  detail : Nat
  value : Nat
  time : T48
  deriving DecidableEq, Repr

/-- A bulk transfer (R510). -/
structure Bulk where
  client : Nat
  mask : Nat
  view : Nat
  /-- Offset at which the transfer starts. -/
  start : Nat
  /-- Offset at which it goes on after bus-off. -/
  offset : Nat
  /-- The transfer image. -/
  image : List Byte
  /-- Snapshot time. -/
  time : T48
  /-- The snapshot was dropped and END status 2 is still to be sent. -/
  dropped : Bool
  deriving DecidableEq, Repr

/-- Barrier monitor, epochs and readout on the N-die (R494 to R512). -/
structure Barrier where
  /-- Pulses counted in the present window (R499). -/
  window : Nat := 0
  /-- Count of the latest complete window, saturating (K:A030). -/
  latest : Nat := 0
  /-- Alarm live (K:A030). -/
  alarm : Bool := false
  /-- Latest self-test passed (K:A030). -/
  selfTest : Bool := false
  /-- K:A031 and K:A032 as the present window uses them (R499). -/
  charge : Nat := 20
  /-- The alarm count of the present window. -/
  limit : Nat := 100
  /-- Log, newest first; at most 341 entries fit the 4 KiB of R493. -/
  log : List BarrierEntry := []
  /-- Epochs stored (R503). -/
  epochs : List Epoch := []
  /-- Epochs started since manufacture (R503). -/
  started : Nat := 0
  /-- Newest F image received, and its flush time (R494). -/
  fImage : Option (Tab Nat × T48) := none
  /-- The held F image has not been written into the copy ring (R494). -/
  fImageNew : Bool := false
  /-- Newest F copy in the ring (R494). -/
  fCopy : Option (Tab Nat × T48) := none
  /-- Tokens and slots in service of the F-die, from the latest F image (K:A001). -/
  fTokens : Nat := 0
  /-- F slots in service, from the latest F image (K:A001). -/
  fSlots : Nat := 0
  /-- Bulk transfer (R510). -/
  bulk : Option Bulk := none
  /-- K:A010 and K:A020 commands that wait for both flushes: session, tag, and whether it starts an epoch (R503, R512). -/
  flushWaits : List (Nat × Nat × Bool) := []
  /-- Monitor events lost to a tear of crossing 0x05 and not yet logged (R496). -/
  lost : Nat := 0
  deriving DecidableEq, Repr

/-- Standby and monitors (R515 to R532). -/
structure Power where
  /-- N_RST# is held low (R35). -/
  rstLow : Bool := false
  /-- N_INH is high (R526). -/
  inh : Bool := false
  /-- Standby entry runs: 1 K:9010, 2 idle (R522). -/
  entering : Option Nat := none
  /-- Wake events latched during entry, lowest cause (R525). -/
  latched : Option Nat := none
  /-- Cause of the last standby (K:9015). -/
  standbyCause : Nat := 0
  /-- Length of the last standby in seconds, saturating (K:9015). -/
  standbyLength : Nat := 0
  /-- A notified standby is in force: neither die latches source 8 for it (R522). -/
  notified : Bool := false
  /-- The N wake island's time in standby: the count at entry, and the count as it has run since (R271, R523). -/
  kept : Option (T48 × T48) := none
  /-- Era at entry into standby (R271). -/
  keptEra : Word := 0
  /-- The time was acquired at entry into standby (R271). -/
  keptAcquired : Bool := false
  /-- The era was known at entry into standby (R271). -/
  keptEraKnown : Bool := false
  /-- CAN transceiver in low-power mode (R141). -/
  canLowPower : Bool := false
  /-- Monitor readings (K:9000 and K:9001). -/
  vbat : Nat := 0
  /-- K:9001. -/
  nTemp : Int := 0
  /-- Wake sources that the wake logic enables in this standby: bit 0 timer, 1 N_WAKE#, 2 CAN, 3 Chain (R525). -/
  wakes : BitVec 4 := 0
  deriving DecidableEq, Repr

/-- A Filigree slot (R534, R539). -/
structure FilSlot where
  /-- In use, as the N-die knows it (R537). -/
  armed : Bool := false
  code : Nat := 0
  target : Nat := 0
  a : Nat := 0
  b : Nat := 0
  duration : Nat := 0
  die : Die := .n
  /-- Effects applied, saturating at 65535. -/
  effects : Nat := 0
  /-- Words, frames, trains or requests counted since the last effect (R535). -/
  count : Nat := 0
  /-- The performing die holds the slot (R534). -/
  onDie : Bool := false
  /-- Ticks of the performing die when it took the slot (R534). -/
  since : Nat := 0
  deriving DecidableEq, Repr

/-- Filigree (R533 to R541). -/
structure Filigree where
  /-- Unlocked (K:E002 bit 23). -/
  unlocked : Bool := false
  /-- Wrong codes in a row (K:E002 bits 22:21). -/
  wrong : Nat := 0
  /-- Locked out for 60 s (R533). -/
  lockout : Bool := false
  /-- Ticks of the N-die at the unlock (K:E002 bits 19:8). -/
  since : Nat := 0
  /-- Session and tag of K:E010 writes that wait for the F-die, by slot (R534). -/
  waits : Tab (Nat × Nat) := []
  /-- Slots 0 to 7. -/
  slots : Tab FilSlot := []
  deriving DecidableEq, Repr

/-- The N-die (01_architecture.md). -/
structure NDie extends DieState where
  /-- Strap values (R41, R47). -/
  straps : BitVec 4 := 0
  /-- Floating flags (R44, R47). -/
  floating : BitVec 4 := 0
  /-- F map adopted (R47 bit 8). -/
  adopted : Bool := false
  /-- Crystal fallback (R78 bit 19). -/
  crystalFallback : Bool := false
  /-- The crystal is in use (R118, R273 bit 14). -/
  crystal : Bool := false
  /-- F absent (R78 bit 15). -/
  fAbsent : Bool := false
  /-- Run deferred (R78 bit 14). -/
  runDeferred : Bool := false
  /-- Run cancelled (R78 bit 13). -/
  runCancelled : Bool := false
  /-- The entry into RUN is pending (R65). -/
  runPending : Bool := false
  /-- Device state (K:0014). -/
  dev : DevState := .boot
  /-- K:0016 (R109). -/
  lastTransition : Word := 0
  /-- K:0021: the latest F startup report (R79). -/
  fReport : Word := 0
  /-- Trainings since the N startup, saturating at 255 (R80). -/
  trainings : Nat := 0
  /-- Failed attempts, saturating at 15 (R80). -/
  failedAttempts : Nat := 0
  /-- A training has completed since the latest failed attempt (R80). -/
  attemptsFrozen : Bool := false
  /-- Latest training duration, saturating at 511 (R80). -/
  trainDuration : Nat := 0
  /-- Node number (K:0012). -/
  number : Nat := 0
  /-- F SEAL sources reported since this N startup (R470, R471). -/
  fSeals : Word := 0
  /-- A SEAL report has arrived since the latest training (R471). -/
  sealReported : Bool := false
  /-- Agreement (R220). -/
  agree : Agreement := {}
  /-- Dictionary engine. -/
  dict : Dict := {}
  /-- CAN port. -/
  can : Can := {}
  /-- N-port. -/
  port : NPort := {}
  /-- Hallmark master. -/
  hm : Hallmark := {}
  /-- Barrier monitor and readout. -/
  bar : Barrier := {}
  /-- Standby and monitors. -/
  pow : Power := {}
  deriving DecidableEq, Repr

/-- States of a link port (R320, R352). -/
inductive LinkPortState where
  | off | listen | bringup | up | failed | disabled | held
  deriving DecidableEq, Repr

/-- Roles of an UP port (R320, R352). -/
inductive Role where
  | none | parent | child | standby
  deriving DecidableEq, Repr

/-- A link port (R313 to R355). -/
structure Link where
  /-- State. -/
  state : LinkPortState := .off
  /-- Role. -/
  role : Role := .none
  /-- Neighbour's serial; 0 when the port is not UP (K:4021). -/
  serial : Nat := 0
  /-- Neighbour's number. -/
  neighbour : Nat := 0
  /-- Neighbour's port letter. -/
  letter : Nat := 0
  /-- The neighbour's latest HELLO showed parent = 1. -/
  nbParent : Bool := false
  /-- Serial of the root that the neighbour names. -/
  nbRoot : Nat := 0
  /-- Consecutive valid HELLOs with heard = 1 of one serial (R322). -/
  hellos : Nat := 0
  /-- A valid HELLO has been received within the last 3 ms (R321). -/
  heard : Bool := false
  /-- Latest cause (R352). -/
  cause : Nat := 0
  /-- Disables in a row (R324). -/
  disables : Nat := 0
  /-- The F tick count from which the port has been UP without a CRC error or a code violation (R324). -/
  cleanFrom : Nat := 0
  /-- CRC errors since UP, saturating at 4095 (K:4023). -/
  crcErrors : Nat := 0
  /-- Code violations since UP, saturating at 4095 (K:4023). -/
  violations : Nat := 0
  /-- Transmit queue, at most 16 (R336). -/
  queue : List ChainFrame := []
  /-- HELLO and PDELAY frames, which bypass the queue (R336). -/
  bypass : List ChainFrame := []
  /-- A frame is on the line (R336). -/
  busy : Bool := false
  /-- Accepted link delay samples, newest first, at most 8 (R345). -/
  delays : List Nat := []
  /-- Rejections in a row (R345). -/
  rejections : Nat := 0
  /-- Mark of the PDELAY_REQ that awaits its answer (R345). -/
  t1 : Option T48 := none
  /-- Best has been answered on this port in this discovery (R326). -/
  answered : Bool := false
  /-- The serial held for a parked tree port (R358). -/
  parkedSerial : Nat := 0
  /-- Kept frames of a failed port (R339). -/
  orphaned : Bool := false
  deriving DecidableEq, Repr

/-- States of the Chain (K:4001, R351). -/
inductive ChainState where
  | off | noRoot | discovering | up | repairing | partitioned
  deriving DecidableEq, Repr

/-- The best root a node has adopted (R326). -/
structure Best where
  priority : Nat
  serial : Nat
  epoch : Nat
  deriving DecidableEq, Repr

/-- A node table entry from STATUS (R341, R353). -/
structure NodeStatus where
  can : Nat
  time : Nat
  dev : Nat
  root : Bool
  stale : Bool
  deriving DecidableEq, Repr

/-- A set of ASSIGN entries being collected (R329). -/
structure AssignSet where
  frames : Tab (List NodeRow) := []
  deriving DecidableEq, Repr

/-- The repairer's state (R338). -/
structure Repair where
  /-- Candidates collected. -/
  found : List Candidate := []
  /-- Candidates refused. -/
  refused : List Nat := []
  /-- The candidate tried now. -/
  trying : Option Candidate := none
  /-- Nodes on the path that FLIP has passed. -/
  path : List NodeRow := []
  deriving DecidableEq, Repr

/-- The Chain (R313 to R355). -/
structure Chain where
  /-- State (K:4001). -/
  state : ChainState := .off
  /-- This node is the root. -/
  root : Bool := false
  /-- Root number. -/
  rootNumber : Nat := 0
  /-- Chain number (R325). -/
  number : Nat := 0
  /-- K:0011 as received from the N-die at training (R325). -/
  configured : Nat := 0
  /-- Candidate strap, as the N-die has it (R41). -/
  candidateStrap : Bool := false
  /-- Own depth. -/
  depth : Nat := 0
  /-- Epoch (K:4002). -/
  epoch : Nat := 0
  /-- Last node cause (K:4002). -/
  nodeCause : Nat := 0
  /-- Best root (R326). -/
  best : Option Best := none
  /-- Some candidate has been heard since discovery started (R330). -/
  heardAny : Bool := false
  /-- A DISCOVER relay is due: the port it came from (R326). -/
  relayDue : Option Port := none
  /-- Settled: the ports left LISTEN (R325). -/
  settled : Bool := false
  /-- A training has followed the F-die startup (R325). -/
  settling : Bool := false
  /-- REPORTs collected as root (R327). -/
  reports : List Report := []
  /-- The root collects REPORTs (R327). -/
  collecting : Bool := false
  /-- Keep the present numbers at the next numbering (R332, R340). -/
  keep : Bool := false
  /-- Assignment sets that the root is sending, in order, with the times each is still to be sent (R329, R331). -/
  sets : List (List NodeRow × Nat) := []
  /-- The port taken as PARENT last, kept while it has failed and no other has been taken (R337, R339). -/
  parentPort : Option Port := none
  /-- The node whose ATTACH this node has passed on, and the port it arrived on (R338). -/
  attach : Option (Nat × Port) := none
  /-- Frames this node originates that wait for the full queue of a port (R336). -/
  stalled : List (Port × ChainFrame) := []
  /-- Set being collected (R329). -/
  set : AssignSet := {}
  /-- Parent table (R333). -/
  table : List NodeRow := []
  /-- STATUS of each node, by number (R341). -/
  nodes : Tab NodeStatus := []
  /-- Repair in progress (R338). -/
  repair : Option Repair := none
  /-- This node heads a partition (R340). -/
  head : Bool := false
  /-- Sequence of the next frame (R316). -/
  seq : Nat := 0
  deriving DecidableEq, Repr

/-- States of the parked Chain (K:4043, R376). -/
inductive ParkState where
  | none | parked | listening | adrift | fallback | unparking
  deriving DecidableEq, Repr

/-- The parked Chain (R356 to R378). -/
structure Parked where
  /-- State. -/
  state : ParkState := .none
  /-- A park beacon has been taken and the hold window of rendezvous 0 runs (R356). -/
  parking : Bool := false
  /-- Interval P in seconds (R356). -/
  interval : Nat := 0
  /-- Hold window H in ms (R356). -/
  hold : Nat := 0
  /-- Origin O (R361). -/
  origin : T48 := 0
  /-- Rendezvous number, modulo 65536 (R362). -/
  rendezvous : Nat := 0
  /-- Parked time (R360). -/
  time : T48 := 0
  /-- Rate correction in 0.01 ppm (K:4048, R360). -/
  rate : Int := 0
  /-- The low-frequency oscillator has been calibrated since the die started (R359). -/
  calibrated : Bool := false
  /-- A listen window is open (R365). -/
  window : Bool := false
  /-- A beacon has been acquired in this interval. -/
  acquired : Bool := false
  /-- A beacon has been missed since the last acquisition (R360). -/
  missed : Bool := false
  /-- Adrift misses, saturating at 255 (K:4043). -/
  misses : Nat := 0
  /-- Step j of the widening windows (R366). -/
  widen : Nat := 0
  /-- Children adrift, bit 0 A, 1 B, 2 C (K:4043). -/
  adrift : BitVec 3 := 0
  /-- Children given up (K:4043). -/
  givenUp : BitVec 3 := 0
  /-- Intervals without ANSWER per port (R369). -/
  silent : Tab Nat := []
  /-- Last unpark cause (K:4043). -/
  cause : Nat := 0
  /-- Intervals since the node began to unpark (R358). -/
  unparked : Nat := 0
  /-- The F-die sends training step 0 words to wake its N-die (R358, R524). -/
  wakeN : Bool := false
  /-- REQUESTs that wait for the window: destination and cause (R371). -/
  requests : List (Nat × Nat) := []
  /-- A NOTICE waits for the next rendezvous (R373). -/
  notice : Bool := false
  /-- A SAFE pair has changed since the previous rendezvous (R363 bit 12). -/
  safeChanged : Bool := false
  /-- A beacon has been heard on a port in LISTEN: the Chain around this F-die is parked (R357). -/
  around : Bool := false
  /-- Notices by node, root only (K:4044). -/
  notices : Tab Nat := []
  deriving DecidableEq, Repr

/-- Who asked for an F-port transaction (R389). -/
inductive FWork where
  /-- A stored transaction of an FPORT step: list, index and destination word. -/
  | stored (r : RunRef) (index dest : Nat)
  /-- A part of a window read: session, tag, window, address, bytes left, bytes read so far. -/
  | windowRead (session tag window addr left : Nat) (sofar : List Byte)
  /-- A list fetch from a window. -/
  | fetch (r : RunRef) (window addr words : Nat)
  /-- A tunnel transaction, by tag. -/
  | tunnel (tag : Nat)
  /-- A command of the program job: true for the page command, false for write enable. -/
  | page (data : Bool)
  /-- A command of the erase: true for the erase command, false for write enable. -/
  | eraseCmd (data : Bool)
  /-- An SFDP read of a window. -/
  | sfdp (window : Nat)
  deriving DecidableEq, Repr

/-- The transaction on the pins: its work, its target code and the bytes it reads (R382 to R384). -/
structure FNow where
  work : FWork
  target : Nat
  read : Nat
  deriving DecidableEq, Repr

/-- A program job (R393, R394). -/
structure Job where
  window : Nat
  target : Nat
  /-- Window address of the next page. -/
  addr : Nat
  /-- Bytes not yet programmed. -/
  bytes : List Byte
  /-- Write enable has been sent. -/
  enabled : Bool
  /-- The page command has been sent and the flash is polled. -/
  polling : Bool
  deriving DecidableEq, Repr

/-- An erase (R395). -/
structure EraseJob where
  window : Nat
  target : Nat
  addr : Nat
  large : Bool
  enabled : Bool
  polling : Bool
  /-- The K:7140 transaction that still awaits its answer. -/
  txn : Option (Nat × Nat)
  deriving DecidableEq, Repr

/-- The F-port and its windows (R379 to R408). -/
structure FPort where
  /-- The transaction on the pins (R383, R384). -/
  current : Option FNow := none
  /-- Work queue: FPORT steps and window reads, at most 4 (R388). -/
  queue : List FWork := []
  /-- List fetches that wait (R389). -/
  fetches : List FWork := []
  /-- Tunnel transactions that wait (R389). -/
  tunnels : List FWork := []
  /-- Program job in flight (R393). -/
  job : Option Job := none
  /-- Last job outcome (R405). -/
  jobOutcome : Nat := 0
  /-- Window of the job last in flight (R405). -/
  jobWindow : Nat := 0
  /-- Erase in flight (R395). -/
  erase : Option EraseJob := none
  /-- The F tick count at which the page command now polled was sent (R407). -/
  pageFrom : Nat := 0
  /-- The F tick count at which the erase command now polled was sent (R407). -/
  eraseFrom : Nat := 0
  /-- Last erase outcome (R405). -/
  eraseOutcome : Nat := 0
  /-- Window of the erase last in flight (R405). -/
  eraseWindow : Nat := 0
  /-- Recovering targets, by target code (R397). -/
  recovering : BitVec 8 := 0
  /-- SFDP reads that wait, by window (R398). -/
  sfdp : List Nat := []
  /-- SFDP proposals, by window (R399, R406). -/
  proposals : Tab (List Byte) := []
  deriving DecidableEq, Repr

/-- States of a bead port (K:5030, R433). -/
inductive BeadState where
  | off | powering | idle | train | pullup | faultOff
  deriving DecidableEq, Repr

/-- Per-position bead data (R420 to R423). -/
structure BeadPos where
  /-- K:5110. -/
  value : Nat := 0
  /-- K:5111 bits 23:16. -/
  since : Nat := 0
  /-- Byte 3 of the latest record (R420, K:5111). -/
  byte3 : Nat := 0
  /-- K:5112. -/
  time : T48 := 0
  /-- Data and byte 3 of the latest frame received (R421). -/
  frame : Option (Nat × Nat) := none
  /-- That frame has been stored by a BEAD step (R421). -/
  stored : Bool := false
  /-- Slow message bits collected, newest first (R423). -/
  slow : List Bool := []
  /-- A slow message is in progress (R423). -/
  slowOn : Bool := false
  /-- Slow messages, by kind: value and byte 4n + 3 (K:5120). -/
  kinds : Tab (Nat × Nat) := []
  /-- Consecutive trains with outcome 2, 3 or 4 (R429 cause 4). -/
  failures : Nat := 0
  deriving DecidableEq, Repr

/-- A BEAD step that waits for its positions (R421). -/
structure BeadWait where
  runner : RunRef
  first : Nat
  count : Nat
  dest : Nat
  deriving DecidableEq, Repr

/-- A bead port (R409 to R436). -/
structure Bead where
  /-- State. -/
  state : BeadState := .off
  /-- Position judged next in the train, 1 to K:5012 (R419). -/
  position : Nat := 0
  /-- Sync edge S of the latest train (R417). -/
  sync : T48 := 0
  /-- A power request has been seen in this train (R425). -/
  request : Bool := false
  /-- A request waits in the queue (R425). -/
  waiting : Bool := false
  /-- Ticks of the F-die at which that wait began (R435). -/
  waitFrom : Nat := 0
  /-- Latest cause (R433). -/
  cause : Nat := 0
  /-- Overcurrent trips within the current 1 s (R433). -/
  trips : Nat := 0
  /-- Tracked base in 0.1 mA (K:5031). -/
  base : Nat := 0
  /-- Live causes: bit n for cause n (R424, R429). -/
  episode : BitVec 8 := 0
  /-- Answer map of the latest train (K:5033). -/
  answers : BitVec 16 := 0
  /-- Answer map of the train in progress. -/
  answering : BitVec 16 := 0
  /-- Positions. -/
  pos : Tab BeadPos := []
  /-- The BEAD step that waits for this train, and the records it has so far, by position (R421). -/
  step : Option BeadWait := none
  /-- Records of the train in progress: data and byte 3, by position. -/
  records : Tab (Nat × Nat) := []
  /-- The line is switched off for 10 ms after an overcurrent (R430). -/
  tripped : Bool := false
  /-- Consecutive bad PSI5 frames (R429). -/
  badFrames : Nat := 0
  deriving DecidableEq, Repr

/-- States of a SAFE pair (R441, R453). -/
inductive SafeState where
  | off | starting | safe | active | transition | blocked | discrepancy
  deriving DecidableEq, Repr

/-- A SAFE pair (R437 to R455). -/
structure SafePair where
  /-- State. -/
  state : SafeState := .off
  /-- Filter output of channel A, closed (R453). -/
  chA : Bool := false
  /-- Filter output of channel B, closed (R453). -/
  chB : Bool := false
  /-- Origin asserted (R447). -/
  forcing : Bool := false
  /-- Release pending (R447). -/
  releasePending : Bool := false
  /-- Leading channel at the latest declaration: true for B (R453). -/
  leadB : Bool := false
  /-- Channel that left agreement first in the present disagreement: true for B. -/
  firstB : Bool := false
  /-- Clear count (R442). -/
  clear : Nat := 0
  /-- Permit (R442). -/
  permit : Bool := false
  /-- Disagreement count (R442). -/
  count : Nat := 0
  /-- Last declaration (K:6021). -/
  declared : T48 := 0
  /-- Last state change (K:6022). -/
  changed : T48 := 0
  /-- A latch record is in the F ledger (R446). -/
  record : Bool := false
  /-- A declaration's latch record is still to be written (R446). -/
  recordDue : Bool := false
  deriving DecidableEq, Repr

/-- The F-die (01_architecture.md). -/
structure FDie extends DieState where
  /-- Device state as the F-die knows it (R295). -/
  dev : DevState := .boot
  /-- Dictionary transactions sent to the F-die and not yet executed there, in order, each with whether the N-die still waits for
  it (R86, R93). -/
  inbox : List (Txn × Bool) := []
  /-- Follower. -/
  fol : Follower := {}
  /-- Link port A. -/
  linkA : Link := {}
  /-- Link port B. -/
  linkB : Link := {}
  /-- Link port C. -/
  linkC : Link := {}
  /-- Chain. -/
  chain : Chain := {}
  /-- Parked Chain. -/
  park : Parked := {}
  /-- F-port. -/
  fport : FPort := {}
  /-- Bead ports 0 to 3. -/
  beads : Tab Bead := []
  /-- K:9002, in mV. -/
  vddf : Nat := 0
  /-- K:9003, in mV. -/
  vbead : Nat := 0
  /-- K:9004, in 0.1 °C. -/
  fTemp : Int := 0
  /-- Ports whose strong pull-up requests wait, in order (R425). -/
  pullQueue : List Nat := []
  /-- SAFE0. -/
  safe0 : SafePair := {}
  /-- SAFE1. -/
  safe1 : SafePair := {}
  deriving DecidableEq, Repr

/-- What a die's ledger holds beside the lifetime record (R8, R22, R25). -/
structure Ledger where
  /-- The default row, 8 words: the factory row with its check word (R72 to R76). -/
  row : List Word := [0x000000, 0x0A0800, 0, 0, 0, 0, 0, 0x536FC4]
  /-- The settings area (R103). -/
  area : Area := {}
  deriving DecidableEq, Repr

/-- One Zarilo node: both dies and what is joined in neither. -/
structure Node where
  /-- Count of free values taken so far. The model's own; the machine has no such register. -/
  free : Nat := 0
  /-- Working values of keys that differ from their default, by key and select value (R83). -/
  vals : Tab Nat := []
  /-- Working BLOBs that differ from their default, by key and select value (R83). -/
  blobs : Tab (List Byte) := []
  /-- The N ledger (R22). -/
  nLedger : Ledger := {}
  /-- The F ledger (R25). -/
  fLedger : Ledger := {}
  /-- The N-die. -/
  n : NDie := {}
  /-- The F-die. -/
  f : FDie := {}
  /-- Filigree; slots of both dies (R534). -/
  fil : Filigree := {}
  deriving DecidableEq, Repr

/-- The machine: the queue of commands and the node they act on. -/
structure State where
  /-- Commands that wait, first in, first out. The model's own. -/
  pending : List Instr := []
  /-- The node. -/
  node : Node := {}
  deriving DecidableEq, Repr

/-- The flush buckets and rings of a new part (R489, R493): N 63 tokens and 40 slots, F 16 tokens and 12 slots. -/
def newLoupe : Die → Loupe
  | .n => { tokens := 63, slots := 40 }
  | .f => { tokens := 16, slots := 12 }

/-- The machine as it leaves the factory, before either supply is valid: factory rows (R76), valid and empty settings
areas (R78), full flush buckets (R489), no seal, nothing waiting. -/
def State.reset : State :=
  { node := { n := { loupe := newLoupe .n }, f := { loupe := newLoupe .f } } }

end Sys2Proof.Machine
end

