-- ==== Sys2Proof/Machine/Base.lean ====
section
/-! DEFINITION. Sparse tables, byte order, check words, Hallmark arithmetic, and access to the parts of a node. -/

namespace Sys2Proof.Machine

open Sys2Proof

/-! Sparse tables. -/

/-- The entry of a key, if listed. -/
def tget? {α : Type} : Tab α → Nat → Option α
  | [], _ => none
  | (k, v) :: t, i => if k = i then some v else tget? t i

/-- The entry of a key, or the default of an unlisted one. -/
def tget {α : Type} (dflt : α) (t : Tab α) (i : Nat) : α := (tget? t i).getD dflt

/-- Removes a key. -/
def tdel {α : Type} : Tab α → Nat → Tab α
  | [], _ => []
  | (k, v) :: t, i => if k = i then tdel t i else (k, v) :: tdel t i

/-- Sets a key, keeping the keys strictly rising. -/
def tput {α : Type} : Tab α → Nat → α → Tab α
  | [], i, a => [(i, a)]
  | (k, v) :: t, i, a =>
    if i < k then (i, a) :: (k, v) :: t
    else if i = k then (i, a) :: t
    else (k, v) :: tput t i a

/-- Sets a key of a table whose unlisted keys read as `dflt`: that value is never listed. -/
def tset {α : Type} [DecidableEq α] (dflt : α) (t : Tab α) (i : Nat) (a : α) : Tab α :=
  if a = dflt then tdel t i else tput t i a

/-- Changes the entry of a key. -/
def tmod {α : Type} [DecidableEq α] (dflt : α) (t : Tab α) (i : Nat) (g : α → α) : Tab α :=
  tset dflt t i (g (tget dflt t i))

/-- The canonical form: keys strictly rising, all at or above a bound. -/
def twfFrom {α : Type} : Nat → Tab α → Bool
  | _, [] => true
  | b, (k, _) :: t => decide (b ≤ k) && twfFrom (k + 1) t

/-- The canonical form of a table. -/
def twf {α : Type} (t : Tab α) : Bool := twfFrom 0 t

/-! Numbers and bytes. -/

/-- A sum that saturates. -/
def satAdd (cap a b : Nat) : Nat := min cap (a + b)

/-- Bits hi to lo of a number, bit 0 the least significant. -/
def bits (n hi lo : Nat) : Nat := n / 2 ^ lo % 2 ^ (hi + 1 - lo)

/-- One bit of a number. -/
def bit (n i : Nat) : Bool := n.testBit i

/-- A flag as a number. -/
def b2n (b : Bool) : Nat := if b then 1 else 0

/-- `count` bytes of a number, least significant first (R6). -/
def leBytes : Nat → Nat → List Byte
  | 0, _ => []
  | c + 1, n => BitVec.ofNat 8 n :: leBytes c (n / 256)

/-- The number that bytes spell, least significant first (R6). -/
def fromLe : List Byte → Nat
  | [] => 0
  | b :: bs => b.toNat + 256 * fromLe bs

/-- A slice of a list. -/
def slice {α : Type} (l : List α) (off len : Nat) : List α := (l.drop off).take len

/-- Writes bytes into a string at an offset; a gap reads as 0. -/
def writeAt (l : List Byte) (off : Nat) (bs : List Byte) : List Byte :=
  let base := l ++ List.replicate (off - l.length) 0
  base.take off ++ bs ++ base.drop (off + bs.length)

/-- One step of the CRC-24 with polynomial 0x5D6DCB (R72, R149). -/
def crcBit (c : Nat) (b : Bool) : Nat :=
  let s := c * 2 % 16777216
  if (bit c 23) != b then Nat.xor s 0x5D6DCB else s

/-- The bits `n-1` to 0 of a number into the CRC, most significant first. -/
def crcBits : Nat → Nat → Nat → Nat
  | 0, _, c => c
  | n + 1, w, c => crcBits n w (crcBit c (bit w n))

/-- The CRC-24 over words (R72): initial value 0xFFFFFF, no final inversion. -/
def crcWords (ws : List Word) : Nat := ws.foldl (fun c w => crcBits 24 w.toNat c) 0xFFFFFF

/-- The CRC-24 over bytes (R149). -/
def crcBytes (bs : List Byte) : Nat := bs.foldl (fun c b => crcBits 8 b.toNat c) 0xFFFFFF

/-! Hallmark arithmetic (R10, R249). -/

/-- Half of the 48-bit range: a difference below it counts as not negative. -/
def halfRange : Nat := 140737488355328

/-- Time a is before time b (signed 48-bit difference). -/
def before (a b : T48) : Bool := decide (halfRange ≤ (a - b).toNat)

/-- Ticks by which a is after b, 0 if it is before. -/
def lateBy (a b : T48) : Nat := if before a b then 0 else (a - b).toNat

/-- A signed number of ticks added to a time. -/
def addTicks (t : T48) (d : Int) : T48 := t + BitVec.ofInt 48 d

/-- Ticks per second (R249). -/
def ticksPerSecond : Nat := 67108864

/-- Ticks as whole milliseconds. -/
def msOf (t : Nat) : Nat := t * 1000 / ticksPerSecond

/-- A number of milliseconds in ticks, rounded down. -/
def msTicks (ms : Nat) : Nat := ms * ticksPerSecond / 1000

/-- A number of microseconds in ticks, rounded down. -/
def usTicks (us : Nat) : Nat := us * ticksPerSecond / 1000000

/-- Clamps a signed number to ± a bound. -/
def clampInt (b : Nat) (i : Int) : Int := max (-(b : Int)) (min (b : Int) i)

/-- A signed number as a 24-bit word (R5). -/
def s24 (i : Int) : Nat := (BitVec.ofInt 24 i).toNat

/-! The dies of a node. -/

/-- The other die. -/
def otherDie : Die → Die
  | .n => .f
  | .f => .n

/-- 0 for the N-die, 1 for the F-die. -/
def dieCode : Die → Nat
  | .n => 0
  | .f => 1

/-- What both dies have, of one die. -/
def Node.die (s : Node) : Die → DieState
  | .n => s.n.toDieState
  | .f => s.f.toDieState

/-- Changes what both dies have, on one die. -/
def modDie (d : Die) (g : DieState → DieState) (s : Node) : Node :=
  match d with
  | .n => { s with n := { s.n with toDieState := g s.n.toDieState } }
  | .f => { s with f := { s.f with toDieState := g s.f.toDieState } }

def modN (g : NDie → NDie) (s : Node) : Node := { s with n := g s.n }
def modF (g : FDie → FDie) (s : Node) : Node := { s with f := g s.f }
def modFaults (d : Die) (g : Collector → Collector) : Node → Node := modDie d fun x => { x with faults := g x.faults }
def modClasp (d : Die) (g : ClaspHalf → ClaspHalf) : Node → Node := modDie d fun x => { x with clasp := g x.clasp }
def modCh (d : Die) (g : Channels → Channels) : Node → Node := modDie d fun x => { x with ch := g x.ch }
def modSeq (d : Die) (g : Sequencer → Sequencer) : Node → Node := modDie d fun x => { x with seq := g x.seq }
def modLoupe (d : Die) (g : Loupe → Loupe) : Node → Node := modDie d fun x => { x with loupe := g x.loupe }
def modIsl (d : Die) (g : Islands → Islands) : Node → Node := modDie d fun x => { x with isl := g x.isl }
def modDict (g : Dict → Dict) : Node → Node := modN fun x => { x with dict := g x.dict }
def modCan (g : Can → Can) : Node → Node := modN fun x => { x with can := g x.can }
def modPort (g : NPort → NPort) : Node → Node := modN fun x => { x with port := g x.port }
def modHm (g : Hallmark → Hallmark) : Node → Node := modN fun x => { x with hm := g x.hm }
def modBar (g : Barrier → Barrier) : Node → Node := modN fun x => { x with bar := g x.bar }
def modPow (g : Power → Power) : Node → Node := modN fun x => { x with pow := g x.pow }
def modFol (g : Follower → Follower) : Node → Node := modF fun x => { x with fol := g x.fol }
def modChain (g : Chain → Chain) : Node → Node := modF fun x => { x with chain := g x.chain }
def modPark (g : Parked → Parked) : Node → Node := modF fun x => { x with park := g x.park }
def modFPort (g : FPort → FPort) : Node → Node := modF fun x => { x with fport := g x.fport }

/-- One direct channel of a die. -/
def Node.chan (s : Node) (d : Die) (c : Nat) : Chan := tget {} (s.die d).ch.chans c

/-- Changes one direct channel of a die. -/
def modChan (d : Die) (c : Nat) (g : Chan → Chan) : Node → Node :=
  modCh d fun x => { x with chans := tmod {} x.chans c g }

/-- Runs a change for each item of a list, in order. -/
def forEach {α : Type} (l : List α) (g : α → Node → Node) (s : Node) : Node := l.foldl (fun s a => g a s) s

/-- Runs a change only where a condition holds. -/
def onlyIf (c : Bool) (g : Node → Node) (s : Node) : Node := if c then g s else s

/-- The N-die is ready (R55). -/
def Node.nUp (s : Node) : Bool := s.n.phase == .ready

/-- The F-die is ready and not parked or dormant (R56). -/
def Node.fUp (s : Node) : Bool := s.f.phase == .ready

/-- A die is ready. -/
def Node.up (s : Node) : Die → Bool
  | .n => s.nUp
  | .f => s.fUp

/-- The Clasp is trained: trained on both dies (R569). -/
def Node.trained (s : Node) : Bool := s.n.clasp.trained && s.f.clasp.trained

/-- The Clasp carries words now: trained, and neither die in an outage (R188, R189). -/
def Node.linkUp (s : Node) : Bool := s.n.clasp.link == .up && s.f.clasp.link == .up

/-- The time of a die: the master count or the follower count (R251, R253). -/
def Node.time (s : Node) : Die → T48
  | .n => s.n.hm.count
  | .f => s.f.fol.count

/-- The time of a die as records hold it: 0 while it is not acquired or aligned (R473). -/
def Node.stamp (s : Node) : Die → T48
  | .n => if s.n.hm.acquired then s.n.hm.count else 0
  | .f => if s.f.fol.state == .unaligned then 0 else s.f.fol.count

/-- Takes a free value: nothing is known of it. -/
def Node.freeValue (s : Node) : Nat := Config.freeValue s.free

/-- Counts a free value as taken. -/
def tookFree (s : Node) : Node := { s with free := s.free + 1 }

/-- A command's effect on the node, with the queue as it stands. -/
def State.run (s : State) (g : Node → Node) : Host.Outcome State Fault Refusal := .next { s with node := g s.node }

end Sys2Proof.Machine
end

