-- ==== Sys2Proof/Machine/FilOps.lean ====
section
/-! DEFINITION. The Filigree slots in force, as the blocks they perturb see them (R534 to R536). -/

namespace Sys2Proof.Machine

open Sys2Proof

/-- The codes of R535. -/
def filClaspDelay : Nat := 1
def filCreditHold : Nat := 2
def filClaspErr : Nat := 3
def filLinkErr : Nat := 4
def filBeadErr : Nat := 5
def filRecal : Nat := 6
def filServoFreeze : Nat := 7
def filMissRdv : Nat := 8
def filForceBusy : Nat := 9
def filActLate : Nat := 10

/-- The number of the slot that a die performs for a code and a target, if one is armed (R534). -/
def Node.filFind (s : Node) (d : Die) (code : Nat) (target : Nat → Bool) : Option Nat :=
  (s.fil.slots.find? fun e => e.2.onDie && e.2.die == d && e.2.code == code && target e.2.target).map Prod.fst

/-- A slot. -/
def Node.filSlot (s : Node) (i : Nat) : FilSlot := tget {} s.fil.slots i

/-- Changes a slot. -/
def modFil (i : Nat) (g : FilSlot → FilSlot) (s : Node) : Node :=
  { s with fil := { s.fil with slots := tmod {} s.fil.slots i g } }

/-- Counts an effect of a slot (R539). -/
def filEffect (i : Nat) : Node → Node := modFil i fun x => { x with effects := satAdd 65535 x.effects 1, count := 0 }

/-- Counts a word, frame, train or request of a slot. The answer says whether it is the A-th, which the slot affects (R535). -/
def filEvery (i : Nat) (s : Node) : Node × Bool :=
  if (s.filSlot i).a ≤ (s.filSlot i).count + 1 then (filEffect i s, true)
  else (modFil i (fun x => { x with count := x.count + 1 }) s, false)

/-- A transmitted word of a class under CLASP_ERR: 1 EDGE, 2 CTRL, 3 DATA. The answer is what is inverted: 0 nothing, 1 one
bit, 2 two bits (R535). -/
def filWord (tx : Die) (cls : Nat) (s : Node) : Node × Nat :=
  match s.filFind tx filClaspErr fun t => t / 2 % 4 == cls with
  | none => (s, 0)
  | some i =>
    let r := filEvery i s
    (r.1, if r.2 then (s.filSlot i).b else 0)

/-- The servo freeze is in force (R263). -/
def Node.servoFrozen (s : Node) : Bool := (s.filFind .n filServoFreeze fun _ => true).isSome

end Sys2Proof.Machine
end

