-- ==== Sys2Proof/Machine/Operands.lean ====
section
/-! DEFINITION. The dictionary's keys as the chapters' tables list them (R83 to R85), their working values, and the fields
of the default rows (R72 to R76). -/

namespace Sys2Proof.Machine

open Sys2Proof

/-- Entry types (R5). A BLOB carries the longest length a write may have. -/
inductive KType where
  | bool | u8 | u16 | u24 | s24 | t48 | w48 | blob (max : Nat) | cmd
  deriving DecidableEq, Repr

/-- Access codes (R7). -/
inductive Access where
  | ro | rw | rws | wo | cmd
  deriving DecidableEq, Repr

/-- Persistence codes (R8). -/
inductive Persist where
  | f | v | s | d
  deriving DecidableEq, Repr

/-- The select keys a per-selected key uses (R96). -/
inductive Sel where
  | none | chan | link | bead | pos | pair | target
  deriving DecidableEq, Repr

/-- A row of the key tables; a row with count above 1 stands for that many keys in sequence. -/
structure KeyRow where
  base : Nat
  count : Nat
  home : Die
  type : KType
  access : Access
  persist : Persist
  dflt : Nat
  lo : Nat
  hi : Nat
  sel : Sel
  deriving DecidableEq, Repr

/-- A read-only key. -/
def ro (home : Die) (base : Nat) (type : KType) (persist : Persist := .v) (count : Nat := 1) (sel : Sel := .none) : KeyRow :=
  ⟨base, count, home, type, .ro, persist, 0, 0, 0, sel⟩

/-- A command key. -/
def cm (home : Die) (base : Nat) (sel : Sel := .none) : KeyRow := ⟨base, 1, home, .cmd, .cmd, .v, 0, 0, 0, sel⟩

/-- A key that holds a word. -/
def kw (home : Die) (base : Nat) (type : KType) (access : Access) (persist : Persist) (dflt lo hi : Nat)
    (sel : Sel := .none) : KeyRow := ⟨base, 1, home, type, access, persist, dflt, lo, hi, sel⟩

/-- A key that holds a BLOB. -/
def kb (home : Die) (base max : Nat) (access : Access) (persist : Persist) (count : Nat := 1) : KeyRow :=
  ⟨base, count, home, .blob max, access, persist, 0, 0, 0, .none⟩

/-- K:0xxx and the commands of K:Fxxx (R108, R110, R244). -/
def keysIdentity : List KeyRow :=
  [ ro .n 0x0000 .u24 .f, ro .n 0x0001 .u24 .f, ro .n 0x0002 .u8 .f, ro .n 0x0004 .w48 .f, ro .n 0x0006 .u16 .f,
    ro .n 0x0007 .u16 .f, ro .n 0x0010 .u24, kw .n 0x0011 .u8 .rws .s 0 0 126, ro .n 0x0012 .u8, ro .n 0x0014 .u8,
    cm .n 0x0015, ro .n 0x0016 .u24, ro .n 0x0017 .bool, kb .n 0x0019 32 .rw .s, ro .n 0x0020 .u24, ro .n 0x0021 .u24,
    ro .n 0x0022 .u24, kw .n 0x0028 .u8 .rw .d 0 0 2, kw .n 0x0029 .u8 .rws .s 0 0 1, kw .n 0x002A .u8 .rws .d 10 1 255,
    kw .n 0x002B .u8 .rws .d 10 1 255, kw .n 0x002C .bool .rws .d 0 0 1,
    cm .n 0xF000, cm .n 0xF001, cm .n 0xF002, cm .n 0xF003, cm .n 0xF004 ]

/-- K:1xxx (R110, R142, R169). -/
def keysPorts : List KeyRow :=
  [ ro .n 0x1000 .u24, ro .n 0x1001 .u24, kw .n 0x1004 .u16 .rw .s 100 10 2000, cm .n 0x1008,
    kw .n 0x1100 .u8 .rws .s 0 0 4, kw .n 0x1101 .u8 .rws .s 0 0 4, kw .n 0x1102 .u8 .rws .s 0 0 1,
    kw .n 0x1103 .bool .rw .s 1 0 1, kw .n 0x1104 .u8 .rw .s 0 0 1, cm .n 0x1105, kw .n 0x1106 .u8 .rws .s 0 0 126,
    kw .n 0x110A .bool .rw .s 0 0 1, ro .n 0x1110 .u24, kw .n 0x1120 .u8 .rw .s 1 0 3, kw .n 0x1121 .u8 .rw .s 127 1 127,
    kw .n 0x1122 .bool .rw .s 1 0 1, ro .n 0x1123 .u24,
    kw .n 0x1200 .u8 .rws .s 1 0 2, kw .n 0x1202 .bool .rw .s 0 0 1, ro .n 0x1203 .u24, kw .n 0x1208 .bool .rws .s 0 0 1,
    kw .n 0x1209 .u16 .rw .s 10 1 1000, kb .n 0x1210 4096 .rws .s 8 ]

/-- K:2xxx (R198, R219). -/
def keysClasp : List KeyRow :=
  [ kw .n 0x2000 .u8 .rw .v 0 0 7, ro .n 0x2001 .u24, kw .n 0x2002 .u8 .rws .d 0 0 2, kw .n 0x2004 .u8 .rws .d 4 2 64,
    ro .n 0x2006 .u24, ro .f 0x2007 .u24, kw .n 0x2008 .u8 .rws .d 0 0 1, kw .n 0x2010 .bool .rws .d 0 0 1 .chan,
    kw .n 0x2011 .u8 .rws .d 0 0 3 .chan, ro .n 0x2018 .u24 .v 1 .chan, ro .f 0x2019 .u24 .v 1 .chan,
    ro .n 0x2100 .u24, ro .f 0x2101 .u24, kw .n 0x2102 .u8 .rw .s 7 0 7, kw .f 0x2103 .u8 .rw .s 7 0 7,
    kw .n 0x2104 .u8 .rw .s 0 0 1, kw .n 0x2105 .u8 .rw .s 20 8 40, kw .n 0x2106 .bool .rw .v 0 0 1, cm .n 0x2107,
    ro .n 0x2110 .u24, ro .f 0x2111 .u24, ro .n 0x2112 .u8, ro .f 0x2113 .u8, ro .n 0x2114 .u24, ro .f 0x2115 .u24,
    ro .n 0x2116 .u24 ]

/-- K:3xxx, time (R272). -/
def keysTime : List KeyRow :=
  [ ro .n 0x3000 .t48, ro .n 0x3001 .u24, ro .n 0x3002 .u24, kw .n 0x3003 .u8 .rw .s 0 0 4, kw .n 0x3004 .bool .rw .s 0 0 1,
    kw .n 0x3005 .u8 .rw .s 0 0 126, kw .n 0x3006 .u16 .rw .s 100 10 1000, kw .n 0x3007 .u16 .rw .s 0 0 2000,
    ro .n 0x3008 .s24, ro .n 0x3009 .s24, ro .n 0x300A .s24,
    kw .n 0x300B .t48 .wo .v 0 0 281474976710655, kw .n 0x300C .u24 .wo .v 0 0 16777215, kw .n 0x3010 .u8 .rw .s 0 0 2,
    kw .n 0x3011 .u16 .rw .s 100 1 60000, kw .n 0x3012 .u8 .rw .s 0 0 1, kw .n 0x3013 .u16 .rw .s 10 1 3600,
    kw .n 0x3018 .u8 .rw .s 0 0 3, kw .f 0x3019 .u8 .rw .s 0 0 3, kw .n 0x301A .u16 .rw .s 1024 1 61440,
    kw .n 0x301B .u16 .rw .s 100 1 10000, ro .n 0x301C .t48, ro .f 0x301D .t48, ro .n 0x3020 (.blob 13),
    ro .f 0x3021 (.blob 13), ro .f 0x3031 .u24 ]

/-- K:3xxx, actions and results (R309). -/
def keysActions : List KeyRow :=
  [ ro .n 0x3040 .u24, kw .n 0x3041 .u16 .rw .s 1 0 1000, kw .n 0x3042 .u8 .rw .s 8 0 255, kw .n 0x3044 .u8 .rws .s 0 0 255,
    kw .n 0x3045 .bool .rw .s 0 0 1, kw .n 0x3046 .u8 .rw .s 127 1 127, kb .n 0x3048 4096 .wo .v, cm .n 0x3049,
    ro .f 0x3050 .u24, kw .f 0x3051 .u16 .rw .s 1 0 1000, kw .f 0x3052 .u8 .rw .s 8 0 255, kw .f 0x3054 .u8 .rws .s 0 0 255,
    kw .f 0x3055 .bool .rw .s 0 0 1, kb .f 0x3058 4096 .wo .v, cm .f 0x3059,
    ro .n 0x3060 (.blob 16) .v 32, ro .f 0x3080 (.blob 16) .v 32,
    kb .f 0x3200 4096 .rw .s 63, kb .f 0x323F 4096 .rws .s, kb .n 0x3240 4096 .rw .s 63, kb .n 0x327F 4096 .rws .s,
    ro .n 0x3C00 (.blob 4096) .v 8, ro .f 0x3C10 (.blob 4096) .v 8, ro .n 0x3D00 (.blob 4096), ro .f 0x3D10 (.blob 4096) ]

/-- K:4xxx (R350, R375). -/
def keysChain : List KeyRow :=
  [ kw .n 0x4000 .u8 .rw .v 0 0 2, ro .f 0x4001 .u24, ro .f 0x4002 .u24, kw .f 0x4004 .u8 .rws .s 128 0 255,
    kw .f 0x4005 .u16 .rws .s 200 10 5000, kw .f 0x4006 .u8 .rws .s 20 5 200, cm .f 0x4007, kw .f 0x4008 .u8 .rws .s 7 0 7,
    kw .f 0x4009 .u16 .rw .s 1000 100 60000, kw .f 0x400A .bool .rw .s 1 0 1, kw .f 0x4010 .u16 .rw .s 32 1 1000,
    kw .f 0x4011 .u16 .rw .s 1000 100 60000, cm .f 0x4012 .link, ro .f 0x4020 .u24 .v 1 .link, ro .f 0x4021 .w48 .v 1 .link,
    ro .f 0x4022 .u24 .v 1 .link, ro .f 0x4023 .u24 .v 1 .link, ro .f 0x4030 (.blob 1008), ro .f 0x4031 (.blob 126),
    kw .f 0x4040 .u8 .rw .s 10 1 60, cm .f 0x4041, kw .f 0x4042 .u8 .rw .s 10 2 100, ro .f 0x4043 .u24,
    ro .f 0x4044 (.blob 378), kw .f 0x4045 .bool .rw .s 1 0 1, kw .f 0x4046 .u8 .rw .s 0x05 0 15, cm .f 0x4047,
    ro .f 0x4048 .s24 ]

/-- K:5xxx and K:6xxx (R432, R451). -/
def keysBeadSafe : List KeyRow :=
  [ kw .n 0x5000 .u8 .rw .v 0 0 3, kw .n 0x5001 .u8 .rw .v 1 1 16, kw .f 0x5010 .u8 .rws .d 0 0 3 .bead,
    kw .f 0x5011 .u8 .rws .d 0 0 1 .bead, kw .f 0x5012 .u8 .rws .d 1 1 16 .bead, kw .f 0x5013 .u8 .rws .s 0x0A 0 63 .bead,
    kw .f 0x5014 .bool .rw .s 0 0 1 .bead, kw .f 0x5015 .u8 .rw .s 50 20 200 .bead, kw .f 0x5016 .u16 .rw .s 0xC814 0 65535 .bead,
    kw .f 0x5017 .u8 .rws .s 10 5 40 .bead, kw .f 0x5018 .u8 .rws .s 10 1 100 .bead, kw .f 0x5019 .u8 .rw .s 3 1 255 .bead,
    kw .f 0x5020 .u8 .rw .s 40 0 160, cm .f 0x5021 .bead, ro .f 0x5030 .u24 .v 1 .bead, ro .f 0x5031 .u16 .v 1 .bead,
    cm .f 0x5032 .bead, ro .f 0x5033 .u16 .v 1 .bead, ro .f 0x5110 .u24 .v 1 .pos, ro .f 0x5111 .u24 .v 1 .pos,
    ro .f 0x5112 .t48 .v 1 .pos, ro .f 0x5120 (.blob 64) .v 1 .pos,
    kw .n 0x6000 .u8 .rw .v 0 0 1, kw .f 0x6010 .u8 .rws .d 0 0 2 .pair, kw .f 0x6011 .u8 .rws .d 0 0 255 .pair,
    kw .f 0x6012 .u8 .rws .d 0 0 1 .pair, kw .f 0x6013 .u8 .rws .d 0 0 1 .pair, kw .f 0x6014 .u16 .rws .s 40 1 2000 .pair,
    kw .f 0x6015 .u8 .rws .s 1 0 2 .pair, kw .f 0x6016 .u8 .rw .s 0 0 1 .pair, cm .f 0x6017 .pair, ro .f 0x6020 .u24 .v 1 .pair,
    ro .f 0x6021 .t48 .v 1 .pair, ro .f 0x6022 .t48 .v 1 .pair ]

/-- The keys of one window (R403). -/
def keysWindow (b : Nat) : List KeyRow :=
  [ kw .f b .bool .rws .s 0 0 1, kw .f (b + 1) .u8 .rws .s 1 1 7, kw .f (b + 2) .u16 .rws .s 0 0 65535,
    kw .f (b + 3) .u16 .rws .s 256 1 256, kw .f (b + 4) .u24 .rws .s 0x030000 0 16777215,
    kw .f (b + 5) .u24 .rws .s 0x020000 0 16777215, kw .f (b + 6) .u24 .rws .s 0x060501 0 16777215,
    kw .f (b + 7) .u24 .rws .s 0x20D804 0 16777215, kw .f (b + 8) .u8 .rws .s 8 6 8, kw .f (b + 9) .u8 .rw .s 5 1 100,
    kw .f (b + 10) .u16 .rw .s 3000 10 60000, kw .f (b + 11) .u16 .rw .s 20 5 1000, kw .f (b + 12) .bool .rw .v 0 0 1,
    kw .n (b + 13) .u24 .rw .v 0 0 16777215, kb .f (b + 14) 4096 .rw .v, ro .f (b + 15) (.blob 4096) ]

/-- K:7xxx (R402 to R404). -/
def keysFPort : List KeyRow :=
  [ kw .n 0x7000 .u8 .rw .v 1 1 7, kw .f 0x7010 .bool .rws .s 0 0 1 .target, kw .f 0x7011 .u8 .rws .s 0 0 3 .target,
    kw .f 0x7012 .u16 .rws .s 100 50 6600 .target, kw .f 0x7013 .u8 .rws .s 0 0 63 .target, kw .f 0x7014 .u8 .rws .s 4 1 255 .target,
    kw .f 0x7015 .u8 .rws .s 2 1 255 .target, kw .f 0x7016 .u8 .rws .s 4 2 255 .target, kw .f 0x7017 .u8 .rws .s 0 0 15 .target ]
  ++ keysWindow 0x7100 ++ keysWindow 0x7110 ++
  [ ro .f 0x7130 .u24, cm .f 0x7140, cm .f 0x7141, cm .f 0x7142, kb .f 0x7300 4096 .rws .s 16 ]

/-- The defaults of the N source settings (R457), by source. -/
def nSourceDefaults : List Nat :=
  [0x05, 0x05, 0x46, 0x06, 0x4F, 0x00, 0x05, 0x05, 0x46, 0x05, 0x46, 0x05,
   0x05, 0x06, 0x06, 0x00, 0x00, 0x06, 0x05, 0x05, 0x05, 0x46, 0x04, 0x05]

/-- The defaults of the F source settings (R458), by source. -/
def fSourceDefaults : List Nat :=
  [0x05, 0x05, 0x46, 0x06, 0x4F, 0x00, 0x05, 0x05, 0x46, 0x05, 0x46, 0x05,
   0x05, 0x05, 0x05, 0x05, 0x05, 0x05, 0x05, 0x05, 0x05, 0x05, 0x06, 0x05]

/-- The source settings of one die. -/
def keysSources (home : Die) (base : Nat) (defaults : List Nat) : List KeyRow :=
  defaults.zipIdx.map fun (v, i) => kw home (base + i) .u8 .rws .s v 0 127

/-- K:8xxx (R481). -/
def keysFaults : List KeyRow :=
  [ ro .n 0x8000 .u24, ro .n 0x8001 .u24, kw .n 0x8002 .u24 .wo .v 0 0 16777215, cm .n 0x8003, cm .n 0x8004, ro .n 0x8005 .u24,
    ro .n 0x8006 .u24, kw .n 0x8008 .bool .rw .s 0 0 1, kw .n 0x8009 .u8 .rw .s 10 1 250, cm .n 0x800A, ro .n 0x8010 (.blob 192) ]
  ++ keysSources .n 0x8020 nSourceDefaults ++
  [ ro .f 0x8100 .u24, ro .f 0x8101 .u24, kw .f 0x8102 .u24 .wo .v 0 0 16777215, cm .f 0x8103, cm .f 0x8104, ro .f 0x8105 .u24,
    ro .f 0x8106 .u24, kw .f 0x8107 .u8 .rw .s 1 0 3, kw .f 0x8108 .bool .rw .s 0 0 1, kw .f 0x8109 .u8 .rw .s 10 1 250,
    cm .f 0x810A, ro .f 0x8110 (.blob 192) ]
  ++ keysSources .f 0x8120 fSourceDefaults

/-- K:9xxx, K:Axxx and K:Exxx (R244, R512, R529, R539). -/
def keysPower : List KeyRow :=
  [ ro .n 0x9000 .u16, ro .n 0x9001 .s24, ro .f 0x9002 .u16, ro .f 0x9003 .u16, ro .f 0x9004 .s24,
    kw .n 0x9006 .u16 .rw .s 60 30 400, kw .n 0x9007 .u16 .rw .s 320 30 400, kw .n 0x9009 .u8 .rw .s 140 100 150,
    kw .f 0x900A .u8 .rw .s 140 100 150, cm .n 0x9010, kw .n 0x9011 .u16 .rw .s 0 0 3600, kw .n 0x9012 .u8 .rw .s 0 0 1,
    kw .n 0x9013 .u8 .rw .s 7 0 7, kw .n 0x9014 .u24 .rw .s 0 0 2592000, ro .n 0x9015 .u24,
    ro .n 0x9040 .u24, ro .f 0x9041 .u24, ro .n 0x9042 .u24, ro .f 0x9043 .u24,
    ro .n 0xA000 .u24, ro .n 0xA001 .u24, ro .n 0xA002 .w48, ro .n 0xA003 .w48, kw .n 0xA008 .u8 .rw .v 0 0 255, cm .n 0xA010,
    cm .n 0xA020, ro .n 0xA021 (.blob 4096), cm .n 0xA022, ro .n 0xA030 .u24, kw .n 0xA031 .u8 .rw .s 20 5 200,
    kw .n 0xA032 .u16 .rw .s 100 1 60000, ro .n 0xA040 (.blob 4096), ro .n 0xA041 (.blob 64) .f,
    ro .n 0xA103 (.blob 4096) .v 9, ro .n 0xA111 (.blob 4096) .v 4, ro .n 0xA183 (.blob 4096), ro .n 0xA187 (.blob 4096) .v 14,
    cm .n 0xE000, cm .n 0xE001, ro .n 0xE002 .u24, kb .n 0xE010 4096 .wo .v, cm .n 0xE011, ro .n 0xE020 (.blob 16) .v 8 ]

/-- Every key that Zarilo implements; any other answers NO_KEY (R4). -/
def keyTable : List KeyRow :=
  keysIdentity ++ keysPorts ++ keysClasp ++ keysTime ++ keysActions ++ keysChain ++ keysBeadSafe ++ keysFPort ++ keysFaults
  ++ keysPower

/-- The row of a key. -/
def keyRow (key : Nat) : Option KeyRow := keyTable.find? fun r => decide (r.base ≤ key) && decide (key < r.base + r.count)

/-- The session values (R85), which the N-die engine holds per session, with their value at allocation. -/
def sessionValue (key : Nat) : Option Nat :=
  if key = 0x2000 ∨ key = 0x4000 ∨ key = 0x5000 ∨ key = 0x6000 ∨ key = 0x710D ∨ key = 0x711D ∨ key = 0xA008 then some 0
  else if key = 0x5001 ∨ key = 0x7000 then some 1
  else none

/-- The value of a captured session value, or its value at allocation (R95, R96). -/
def selOf (sels : Tab Nat) (key : Nat) : Nat := tget ((sessionValue key).getD 0) sels key

/-- The member a per-selected key acts on, numbered from 0 (R95). -/
def selIndex (sels : Tab Nat) : Sel → Nat
  | .none => 0
  | .chan => selOf sels 0x2000
  | .link => selOf sels 0x4000
  | .bead => selOf sels 0x5000
  | .pos => selOf sels 0x5000 * 16 + (selOf sels 0x5001 - 1)
  | .pair => selOf sels 0x6000
  | .target => selOf sels 0x7000

/-- The number of members of a family, counted from number 0. -/
def selCount : Sel → Nat
  | .none => 1
  | .chan => 8
  | .link => 3
  | .bead => 4
  | .pos => 64
  | .pair => 2
  | .target => 8

/-- Where a working value is held: by key and member. -/
def slotOf (key sel : Nat) : Nat := key * 256 + sel

/-- The working value of a key's member (R83). -/
def Node.valAt (s : Node) (key sel : Nat) : Nat :=
  tget (((keyRow key).map KeyRow.dflt).getD 0) s.vals (slotOf key sel)

/-- The working value of a key that is not per selected (R83). -/
def Node.val (s : Node) (key : Nat) : Nat := s.valAt key 0

/-- Sets a working value. -/
def setVal (key sel v : Nat) (s : Node) : Node :=
  { s with vals := tset (((keyRow key).map KeyRow.dflt).getD 0) s.vals (slotOf key sel) v }

/-- The working BLOB of a key (R83). -/
def Node.blob (s : Node) (key : Nat) : List Byte := tget [] s.blobs (slotOf key 0)

/-- Sets a working BLOB. -/
def setBlob (key : Nat) (v : List Byte) (s : Node) : Node := { s with blobs := tset [] s.blobs (slotOf key 0) v }

/-! Fields of a default row. -/

/-- A word of a row. -/
def rowWord (row : List Word) (i : Nat) : Nat := (row.getD i 0).toNat

/-- Power-up level of a channel: true for HIGH (R73). -/
def rowLevel (row : List Word) (c : Nat) : Bool := bit (rowWord row 0) (3 * c + 2)

/-- Fail-safe choice of a channel: 0 LOW, 1 HIGH, 2 HOLD, 3 HIZ (R73). -/
def rowChoice (row : List Word) (c : Nat) : Nat := bits (rowWord row 0) (3 * c + 1) (3 * c)

def rowWait (row : List Word) : Nat := bits (rowWord row 1) 23 16
def rowTimeout (row : List Word) : Nat := bits (rowWord row 1) 15 9
def rowPolicy (row : List Word) : Nat := bits (rowWord row 1) 8 7
def rowCrystal (row : List Word) : Bool := bit (rowWord row 1) 6
def rowUpper (row : List Word) : Bool := bit (rowWord row 1) 4
def rowMap (row : List Word) : Nat := bits (rowWord row 1) 3 2

/-- The factory row of both dies, with its check word (R72, R76). -/
def factoryRow : List Word := [0x000000, 0x0A0800, 0, 0, 0, 0, 0, 0x536FC4]

/-- Seven words with their check word (R72). -/
def sealRow (ws : List Word) : List Word := ws ++ [BitVec.ofNat 24 (crcWords ws)]

/-- Word 1 holds only values its layout allows (R72, R74). The policy and crystal fields are the N-die's. -/
def rowWord1Ok (d : Die) (w : Nat) : Bool :=
  bits w 23 16 != 0 && decide (2 ≤ bits w 15 9) && decide (bits w 15 9 ≤ 64) && bits w 5 5 == 0 && decide (bits w 3 2 ≤ 2)
    && bits w 1 0 == 0
    && match d with
      | .n => decide (bits w 8 7 ≤ 2)
      | .f => bits w 8 6 == 0

/-- The 12 bits of a SAFE pair (R452). -/
def rowPairOk (w : Nat) : Bool := decide (bits w 11 10 ≤ 2)

/-- The 12 bits of a bead port (R410). -/
def rowBeadOk (w : Nat) : Bool := decide (bits w 11 9 ≤ 3) && bits w 3 0 == 0

/-- Words 2 to 6 hold only values their layouts allow (R75, R410, R452). -/
def rowRestOk (d : Die) (row : List Word) : Bool :=
  match d with
  | .n => (slice row 2 5).all fun w => w == 0
  | .f =>
    rowPairOk (bits (rowWord row 2) 23 12) && rowPairOk (bits (rowWord row 2) 11 0)
      && rowBeadOk (bits (rowWord row 3) 23 12) && rowBeadOk (bits (rowWord row 3) 11 0)
      && rowBeadOk (bits (rowWord row 4) 23 12) && rowBeadOk (bits (rowWord row 4) 11 0)
      && rowWord row 5 == 0 && rowWord row 6 == 0

/-- The check word of a row matches (R72). -/
def rowCheck (row : List Word) : Bool := row.length == 8 && crcWords (row.take 7) == rowWord row 7

/-- A stored row that may be used (R72). -/
def rowOk (d : Die) (row : List Word) : Bool := rowCheck row && rowWord1Ok d (rowWord row 1) && rowRestOk d row

/-- The row in force: the stored one, or the factory row where it may not be used (R72). -/
def rowInForce (d : Die) (row : List Word) : List Word := if rowOk d row then row else factoryRow

/-- The ledger of a die. -/
def Node.ledger (s : Node) : Die → Ledger
  | .n => s.nLedger
  | .f => s.fLedger

/-- Word 0 of a row from working values (R73). -/
def rowWord0Of (s : Node) : Nat :=
  (List.range 8).foldl (fun w c => w + 2 ^ (3 * c) * (4 * (s.valAt 0x2010 c % 2) + s.valAt 0x2011 c % 4)) 0

/-- Word 1 of a row (R74). -/
def rowWord1Of (wait timeout policy crystal upper map : Nat) : Nat :=
  wait % 256 * 65536 + timeout % 128 * 512 + policy % 4 * 128 + crystal % 2 * 64 + upper % 2 * 16 + map % 4 * 4

/-- A word of a row. -/
def w24 (n : Nat) : Word := BitVec.ofNat 24 n

/-- The N default row from working values (R75, R103). -/
def nRowOf (s : Node) : List Word :=
  sealRow [w24 (rowWord0Of s),
    w24 (rowWord1Of (s.val 0x002A) (s.val 0x2004) (s.val 0x0028) (s.val 0x002C) (s.val 0x2008) (s.val 0x2002)), 0, 0, 0, 0, 0]

/-- The 12 bits of a SAFE pair from working values (R452). -/
def pairBits (s : Node) (p : Nat) : Nat :=
  s.valAt 0x6010 p % 4 * 1024 + s.valAt 0x6012 p % 2 * 512 + s.valAt 0x6013 p % 2 * 256 + s.valAt 0x6011 p % 256

/-- The 12 bits of a bead port from working values (R410). -/
def beadBits (s : Node) (p : Nat) : Nat :=
  s.valAt 0x5010 p % 8 * 512 + s.valAt 0x5011 p % 2 * 256 + (s.valAt 0x5012 p - 1) % 16 * 16

/-- The F default row from working values; its map field takes the N-die's effective map (R75, R219). -/
def fRowOf (s : Node) : List Word :=
  sealRow [w24 (rowWord0Of s), w24 (rowWord1Of (s.val 0x002B) (s.val 0x2004) 0 0 (s.val 0x2008) s.n.ch.map),
    w24 (pairBits s 0 * 4096 + pairBits s 1), w24 (beadBits s 0 * 4096 + beadBits s 1),
    w24 (beadBits s 2 * 4096 + beadBits s 3), 0, 0]

/-- The working values of N-home D keys that a row gives (R73, R74, R219). K:002B is held in the F row only. -/
def rowValsN (row fRow : List Word) (s : Node) : Node :=
  let t := setVal 0x002B 0 (rowWait fRow) (setVal 0x2008 0 (b2n (rowUpper row)) (setVal 0x2004 0 (rowTimeout row)
    (setVal 0x2002 0 (rowMap row) (setVal 0x002C 0 (b2n (rowCrystal row)) (setVal 0x0028 0 (rowPolicy row)
      (setVal 0x002A 0 (rowWait row) s))))))
  forEach (List.range 8) (fun c s => setVal 0x2011 c (rowChoice row c) (setVal 0x2010 c (b2n (rowLevel row c)) s)) t

/-- The 12 bits of a member of the F row's words 2 to 4. -/
def rowTwelve (row : List Word) (word : Nat) (second : Bool) : Nat :=
  if second then bits (rowWord row word) 11 0 else bits (rowWord row word) 23 12

/-- The working values of a SAFE pair that the F row gives (R452). -/
def rowValsPair (p w : Nat) (s : Node) : Node :=
  setVal 0x6011 p (bits w 7 0) (setVal 0x6013 p (bits w 8 8) (setVal 0x6012 p (bits w 9 9) (setVal 0x6010 p (bits w 11 10) s)))

/-- The working values of a bead port that the F row gives (R410). -/
def rowValsBead (p w : Nat) (s : Node) : Node :=
  setVal 0x5012 p (bits w 7 4 + 1) (setVal 0x5011 p (bits w 8 8) (setVal 0x5010 p (bits w 11 9) s))

/-- The working values of F-home D keys that the F row gives (R75). -/
def rowValsF (row : List Word) (s : Node) : Node :=
  rowValsBead 3 (rowTwelve row 4 true) (rowValsBead 2 (rowTwelve row 4 false) (rowValsBead 1 (rowTwelve row 3 true)
    (rowValsBead 0 (rowTwelve row 3 false) (rowValsPair 1 (rowTwelve row 2 true) (rowValsPair 0 (rowTwelve row 2 false) s)))))

/-- The home die of a working value, by where it is held. -/
def slotHome (slot : Nat) : Option Die := (keyRow (slot / 256)).map KeyRow.home

/-- The persistence of a working value, by where it is held. -/
def slotPersist (slot : Nat) : Option Persist := (keyRow (slot / 256)).map KeyRow.persist

/-- Removes the working values of a die: each of its keys is at its default. -/
def dropVals (d : Die) (s : Node) : Node :=
  { s with
    vals := s.vals.filter fun e => slotHome e.1 != some d
    blobs := s.blobs.filter fun e => slotHome e.1 != some d }

/-- Entries set one after another over a table. -/
def tover {α : Type} (new : Tab α) (t : Tab α) : Tab α := new.foldl (fun t e => tput t e.1 e.2) t

/-- Working values that a save of the S keys of a die captures (R103), written to the area in canonical form. -/
def savable {α : Type} (d : Die) (t : Tab α) : Tab α :=
  tover (t.filter fun e => slotHome e.1 == some d && slotPersist e.1 == some .s) []

/-- Loads the S keys of a die from its settings area (R8, R57). An invalid area leaves them at their defaults. -/
def loadArea (a : Area) (s : Node) : Node :=
  if a.valid then
    { s with
      vals := tover a.vals s.vals
      blobs := tover a.blobs s.blobs }
  else s

end Sys2Proof.Machine
end

