-- ==== Sys2Proof/Machine/Ops.lean ====
section
/-! DEFINITION. Operations that every family uses: Loupe counters, sending on the Clasp, direct-channel pins and forced
states. -/

namespace Sys2Proof.Machine

open Sys2Proof

/-! Loupe counters (R486, R489). -/

/-- Block codes (R488). -/
def blkStartup : Nat := 0x03
def blkDict : Nat := 0x04
def blkCan : Nat := 0x05
def blkPort : Nat := 0x06
def blkClasp : Nat := 0x07
def blkCh : Nat := 0x08
def blkIsl : Nat := 0x09
def blkTime : Nat := 0x0A
def blkSeq : Nat := 0x0B
def blkChain : Nat := 0x0C
def blkPark : Nat := 0x0D
def blkFPort : Nat := 0x0E
def blkBead : Nat := 0x0F
def blkSafe : Nat := 0x10
def blkFault : Nat := 0x11
def blkEnv : Nat := 0x12
def blkPower : Nat := 0x13
def blkFil : Nat := 0x14

/-- Blocks that sit in the hub island, whose counts need no sampling (R225, R226, R489). -/
def inHub (blk : Nat) : Bool :=
  blk == blkStartup || blk == blkDict || blk == blkSafe || blk == blkFault || blk == blkPower || blk == blkFil

/-- Where a cell of the record is held: block, record index and cell. -/
def cellOf (blk idx cell : Nat) : Nat := blk * 16777216 + idx * 65536 + cell

/-- The largest value of a cell (R487). -/
def cellMax : Nat := 281474976710655

/-- Adds to a total in SRAM, saturating (R487). -/
def addTotal (key n : Nat) (l : Loupe) : Loupe := { l with cells := tmod 0 l.cells key fun v => satAdd cellMax v n }

/-- Counts: a hub block's total rises at once; another island's counter waits for the next sample (R489). -/
def countBy (d : Die) (blk idx cell n : Nat) : Node → Node :=
  if inHub blk then modLoupe d (addTotal (cellOf blk idx cell) n)
  else modIsl d fun x => { x with unsampled := tmod 0 x.unsampled (cellOf blk idx cell) fun v => v + n }

/-- Counts one. -/
def bump (d : Die) (blk idx cell : Nat) : Node → Node := countBy d blk idx cell 1

/-- Raises an extreme (R487, kind 1). -/
def peak (d : Die) (blk idx cell v : Nat) : Node → Node :=
  modLoupe d fun l => { l with cells := tmod 0 l.cells (cellOf blk idx cell) fun x => max x v }

/-! Sending on the Clasp. -/

/-- The precedence of CTRL words (R177). -/
def Ctrl.rank : Ctrl → Nat
  | .force .. => 1
  | .faultReport .. => 2
  | .faultAck .. => 2
  | .act .. => 3
  | .actAck .. => 3
  | .refresh .. => 4
  | .config .. => 5
  | .rate .. => 5
  | .time .. => 6
  | .era .. => 6
  | .credit .. => 7
  | .margin .. => 8
  | .report .. => 9

/-- A newer word of these kinds replaces one that still waits, because it carries the present value. -/
def Ctrl.replaces (a b : Ctrl) : Bool :=
  match a, b with
  | .force o _, .force p _ => o == p
  | .refresh .., .refresh .. => true
  | .time .., .time .. => true
  | .era .., .era .. => true
  | .credit .., .credit .. => true
  | .margin .., .margin .. => true
  | _, _ => a == b

/-- Puts a word in its place among those waiting: behind every word of its own or a higher precedence (R177). -/
def insertCtrl (w : Ctrl) : List Ctrl → List Ctrl
  | [] => [w]
  | x :: xs => if w.rank < x.rank then w :: x :: xs else x :: insertCtrl w xs

/-- The crossing between the hub and the Clasp half of a die, 0x03 or 0x11, is torn (R228, R240). -/
def Node.claspTorn (s : Node) : Die → Bool
  | .n => s.n.isl.torn.getLsbD 2
  | .f => s.f.isl.torn.getLsbD 0

/-- CTRL words that the hub asks for, and that therefore cross from it to the Clasp half (R228, R232). -/
def Ctrl.fromHub : Ctrl → Bool
  | .faultReport .. => true
  | .faultAck .. => true
  | .act .. => true
  | .actAck .. => true
  | .config .. => true
  | .rate .. => true
  | .report .. => true
  | .force .. => false
  | .refresh .. => false
  | .time .. => false
  | .era .. => false
  | .credit .. => false
  | .margin .. => false

/-- Offers a CTRL word. Words wait in order of precedence, also through an outage (R189); while the Clasp is down none is
offered (R571), and a torn crossing stops those of the hub (R240). -/
def sendCtrl (d : Die) (w : Ctrl) (s : Node) : Node :=
  onlyIf (s.trained && !(w.fromHub && s.claspTorn d)) (modClasp d fun x => { x with ctrl := insertCtrl w (x.ctrl.filter fun y => !w.replaces y) }) s

/-- The far die has received a CTRL word: it waits no longer. -/
def gotCtrl (d : Die) (w : Ctrl) : Node → Node := modClasp d fun x => { x with ctrl := x.ctrl.erase w }

/-- The waiting frame that goes next: the lowest stream first, and a stream 4 frame that has waited while 15 others went
(R185). -/
def nextFrame (sinceLoupe : Nat) (l : List DataFrame) : Option DataFrame :=
  let lowest := l.foldl (fun m f => min m f.stream) 16
  if decide (15 ≤ sinceLoupe) && l.any (fun f => f.stream == 4) then l.find? fun f => f.stream == 4
  else l.find? fun f => f.stream == lowest

/-- Sends one waiting frame for a credit and keeps it until it is accepted (R184). -/
def sendFrame (d : Die) (s : Node) : Node :=
  let c := (s.die d).clasp
  if c.credits = 0 then s
  else match nextFrame c.sinceLoupe c.waiting with
    | none => s
    | some f =>
      let others := c.waiting.any fun g => g.stream == 4
      (modClasp d fun x =>
        { x with
          credits := x.credits - 1
          waiting := x.waiting.erase f
          unacked := x.unacked ++ [{ f with seq := x.txSeq }]
          txSeq := (x.txSeq + 1) % 256
          sinceLoupe := if f.stream == 4 then 0 else if others then x.sinceLoupe + 1 else 0 })
        (bump d blkClasp 8 0 s)

/-- Sends waiting frames while the line and the credits allow (R184, R189), and the crossing from the hub is whole (R240). -/
def pumpData (d : Die) (s : Node) : Node :=
  if s.linkUp && !s.claspTorn d then (s.die d).clasp.waiting.foldl (fun s _ => sendFrame d s) s else s

/-- Offers a DATA frame. While the Clasp is down none is offered (R571). A frame that meets no credit is counted as a
stall (R200). Under CLASP_DELAY a frame is held before it is first sent (R535). -/
def sendData (d : Die) (stream : Nat) (m : Msg) (s : Node) : Node :=
  if s.trained then
    match s.filFind d filClaspDelay fun _ => true with
    | some i => filEffect i (modClasp d (fun x => { x with delayed := x.delayed ++ [⟨stream, 0, m⟩] }) s)
    | none => pumpData d ((modClasp d fun x => { x with waiting := x.waiting ++ [⟨stream, 0, m⟩] })
      (onlyIf ((s.die d).clasp.credits == 0) (bump d blkClasp 8 3) s))
  else s

/-! Direct-channel pins (R202, R206, R212 to R217). -/

/-- A channel's direction under a map: true from N to F (R202). -/
def northToField (map c : Nat) : Bool := map == 1 || (map == 0 && decide (c < 4))

/-- A channel takes part in what the channels chapter describes (R39, R202). -/
def inUse (upper : Bool) (c : Nat) : Bool := !(upper && decide (4 ≤ c))

/-- Role of a channel's pin on a die under a map and upper-group function: 0 none, 1 input, 2 output (R222). -/
def roleUnder (map : Nat) (upper : Bool) (d : Die) (c : Nat) : Nat :=
  if inUse upper c then (if northToField map c == (d == .n) then 1 else 2) else 0

/-- Role of a channel's pin on a die now. -/
def Node.role (s : Node) (d : Die) (c : Nat) : Nat := roleUnder (s.die d).ch.map (s.die d).ch.upper d c

/-- The channels, by number. -/
def eight : List Nat := [0, 1, 2, 3, 4, 5, 6, 7]

/-- A mask from a test of each channel. -/
def maskOf (p : Nat → Bool) : Mask := BitVec.ofNat 8 (eight.foldl (fun a c => if p c then a + 2 ^ c else a) 0)

/-- The channels a die drives as outputs. -/
def Node.outputs (s : Node) (d : Die) : Mask := maskOf fun c => s.role d c == 2

/-- The channels a die sends. -/
def Node.inputs (s : Node) (d : Die) : Mask := maskOf fun c => s.role d c == 1

/-- The force origins (R214). -/
def origins : List Nat := [0, 1, 2, 3, 4, 5]

/-- The mask of an origin as a die holds it: its own and the far die's (R214, R215). -/
def Channels.originMask (x : Channels) (o : Nat) : Mask := tget 0 x.own o ||| tget 0 x.far o

/-- The channels that some origin names, or that SAFE_HOLD keeps forced (R101, R215). -/
def Channels.forced (x : Channels) : Mask :=
  origins.foldl (fun m o => m ||| x.originMask o) (if x.hold then x.holdMask else 0)

/-- The row of R216 that decides an output's pin. -/
def Node.pinRow (s : Node) (d : Die) (c : Nat) : Nat :=
  let x := (s.die d).ch
  let k := s.chan d c
  if !x.rowApplied then 1
  else if x.sealed then 2
  else if x.forced.getLsbD c then 3
  else if x.timedOut || k.freshExpired || (k.waitExpired && !k.refreshed) then 4
  else if k.fresh then 5
  else if !k.refreshed then 6
  else 7

/-- What a pin shows. -/
inductive PinLevel where
  /-- Driver off with a pull-down (ZD), or an input. -/
  | zd
  /-- Driven low. -/
  | low
  /-- Driven high. -/
  | high
  /-- Driver off, no pull (HIZ). -/
  | hiz
  deriving DecidableEq, Repr

/-- A driven level. -/
def PinLevel.of (b : Bool) : PinLevel := if b then .high else .low

/-- Power-up level of a channel in the row in force (R73). -/
def Channels.powerUp (x : Channels) (c : Nat) : Bool := bit x.levels.toNat (3 * c + 2)

/-- Fail-safe choice of a channel in the row in force (R73, R213). -/
def Channels.choice (x : Channels) (c : Nat) : Nat := bits x.levels.toNat (3 * c + 1) (3 * c)

/-- The level an output takes for its fail-safe choice (R213, R217). -/
def Node.failSafe (s : Node) (d : Die) (c : Nat) : PinLevel :=
  let x := (s.die d).ch
  match x.choice c with
  | 0 => .low
  | 1 => .high
  | 2 => .of ((s.chan d c).kept.getD (x.powerUp c))
  | _ => .hiz

/-- The pin of a direct-channel output (R216). -/
def Node.outputPin (s : Node) (d : Die) (c : Nat) : PinLevel :=
  let x := (s.die d).ch
  match s.pinRow d c with
  | 1 => .zd
  | 2 | 3 | 4 => s.failSafe d c
  | 5 | 6 => .of (x.powerUp c)
  | _ => .of (s.chan d c).shadow

/-- The level at a direct-channel pin, as read there (R221): a driver that is off reads the level outside. -/
def Node.pinLevel (s : Node) (d : Die) (c : Nat) : Bool :=
  if s.role d c == 2 then
    match s.outputPin d c with
    | .low => false
    | .high => true
    | .zd => (s.chan d c).pinIn
    | .hiz => (s.chan d c).pinIn
  else (s.chan d c).pinIn

/-- An output is held by rows 2 to 4 of R216. -/
def Node.heldRow (s : Node) (d : Die) (c : Nat) : Bool :=
  s.role d c == 2 && decide (2 ≤ s.pinRow d c) && decide (s.pinRow d c ≤ 4)

/-- The level an output was driving before it was held: none for a pin that drove no level (R213, R217). -/
def Node.drove (s : Node) (d : Die) (c : Nat) : Bool :=
  let x := (s.die d).ch
  if s.role d c == 2 then
    match s.pinRow d c with
    | 7 => (s.chan d c).shadow
    | 1 => x.powerUp c
    | _ => (s.chan d c).kept.getD (x.powerUp c)
  else x.powerUp c

/-- Keeps the level of an output that is now held, from before the change, and drops it when the hold is over (R217). -/
def keepLevel (d : Die) (before : Node) (c : Nat) (s : Node) : Node :=
  if s.heldRow d c then
    onlyIf ((s.chan d c).kept == none) (modChan d c fun k => { k with kept := some (before.drove d c) }) s
  else modChan d c (fun k => { k with kept := none }) s

/-- A change to the channels of a die, after which the pins settle: outputs forced during SAFE_HOLD stay forced (R101), and
HOLD levels are kept (R217). -/
def settlePins (d : Die) (g : Node → Node) (s : Node) : Node :=
  let t := modCh d (fun x => if x.hold then { x with holdMask := x.holdMask ||| x.forced } else x) (g s)
  forEach eight (keepLevel d s) t

/-! Forced states (R214, R215). -/

/-- Sets the mask of an origin of a die: applied to its own outputs at once, and sent (R182, R215). A cleared mask is
repeated for 4 refresh periods. -/
def setForce (d : Die) (o : Nat) (m : Mask) (s : Node) : Node :=
  if tget 0 (s.die d).ch.own o = m then s
  else
    let t := settlePins d (modCh d fun x =>
      { x with
        own := tset 0 x.own o m
        repeatLeft := tset 0 x.repeatLeft o (if m = 0 then 4 else 0) }) s
    sendCtrl d (.force o m) (onlyIf (m != 0) (bump d blkCh 3 o) t)

/-- Applies a FORCE received from the far die (R215). -/
def takeForce (d : Die) (o : Nat) (m : Mask) (s : Node) : Node :=
  settlePins d (modCh d fun x => { x with far := tset 0 x.far o m })
    (onlyIf (m != 0 && tget 0 (s.die d).ch.far o != m) (bump d blkCh 3 o) s)

/-- SAFE_HOLD starts on a die: every output that is not already forced takes its fail-safe choice (R101). -/
def enterHold (d : Die) (s : Node) : Node :=
  if (s.die d).ch.hold then s
  else settlePins d (modCh d fun x => { x with hold := true, holdMask := 255 }) s

/-- SAFE_HOLD ends on a die: releases recorded meanwhile take effect (R101). -/
def leaveHold (d : Die) (s : Node) : Node :=
  if (s.die d).ch.hold then settlePins d (modCh d fun x => { x with hold := false, holdMask := 0 }) s else s

/-- SEALED on a die: every output takes its fail-safe choice until the die restarts (R101). -/
def sealChannels (d : Die) : Node → Node := settlePins d (modCh d fun x => { x with sealed := true })

end Sys2Proof.Machine
end

