-- ==== Sys2Proof/Machine/ListOps.lean ====
section
/-! DEFINITION. Action lists as they run: result objects, launch records, the end of a list and the trap list (R278 to
R307). -/

namespace Sys2Proof.Machine

open Sys2Proof

/-- The key of a list (R278): lists 0 to 63 at K:3200, 64 to 127 at K:3240. -/
def listKey (l : Nat) : Nat := 0x3200 + l

/-- The die that holds a list (R278). -/
def listDie (l : Nat) : Die := if l < 64 then .f else .n

/-- A list is defined: its number names a list of the die, and its key holds a list (R278). -/
def Node.listDefined (s : Node) (d : Die) (l : Nat) : Bool :=
  decide (l < 128) && listDie l == d && (s.blob (listKey l) != [])

/-- The 3-byte words of a list key (R279). -/
def wordsOf : List Byte → List Nat
  | a :: b :: c :: rest => (a.toNat + 256 * b.toNat + 65536 * c.toNat) :: wordsOf rest
  | _ => []

/-- The step words of a list in action memory (R279). -/
def stepsOf (bs : List Byte) : List Nat := (wordsOf bs).tail

/-- Where a list lies: 0 action memory, 1 and 2 the windows (R279). -/
def listLocation (bs : List Byte) : Nat := bits ((wordsOf bs).getD 0 0) 23 22

/-- The step words of a list (R279). -/
def listLength (bs : List Byte) : Nat := bits ((wordsOf bs).getD 0 0) 11 0

/-- The trap list of a die (R278). -/
def trapList : Die → Nat
  | .n => 127
  | .f => 63

/-- The fault source of a die's sequencer (R312). -/
def seqSource : Die → Nat
  | .n => 18
  | .f => 22

/-- The run of a slot or of the trap list, if it runs. -/
def Node.run (s : Node) (d : Die) : Runner → Option Run
  | .trap => (s.die d).seq.trap
  | .slot n =>
    match tget? (s.die d).seq.slots n.val with
    | some x => if x.state == .running || x.state == .rearmed then some x.run else none
    | none => none

/-- Changes a run that runs. -/
def modRun (d : Die) (r : Runner) (g : Run → Run) (s : Node) : Node :=
  match r with
  | .trap => modSeq d (fun q => { q with trap := q.trap.map g }) s
  | .slot n =>
    if (s.run d (.slot n)).isSome then
      modSeq d (fun q => { q with slots := tmod {} q.slots n.val fun x => { x with run := g x.run } }) s
    else s

/-- A run that runs is the one a reference names. -/
def Node.isRun (s : Node) (d : Die) (r : RunRef) : Bool :=
  match s.run d r.runner with
  | some run => run.launch == r.launch
  | none => false

/-- Changes the run that a reference names, if it still runs. -/
def modRef (d : Die) (r : RunRef) (g : Run → Run) (s : Node) : Node := if s.isRun d r then modRun d r.runner g s else s

/-- A result object of a die. -/
def Node.object (s : Node) (d : Die) (o : Nat) : ResultObject := tget {} (s.die d).seq.objects o

/-- Changes a result object. -/
def modObject (d : Die) (o : Nat) (g : ResultObject → ResultObject) : Node → Node :=
  modSeq d fun q => { q with objects := tmod {} q.objects o g }

/-- Flags of a result (R303). -/
def objectFlags (run : Run) (incomplete deferred : Bool) : Nat :=
  b2n run.late + 2 * b2n incomplete + 4 * b2n run.failed + 8 * b2n deferred + 16 * b2n run.stalled

/-- The next tag: from 255 to 1, never 0 (R302). -/
def nextTag (t : Nat) : Nat := if t = 255 then 1 else t + 1

/-- Closes an open object: the working buffer becomes the published one, whole, with a new tag and flags (R302). -/
def closeObject (d : Die) (o : Nat) (run : Run) (incomplete : Bool) (s : Node) : Node :=
  bump d blkSeq 7 0 <| onlyIf incomplete (bump d blkSeq 7 1) <|
    modObject d o (fun x =>
      { x with
        time := x.workTime
        tag := nextTag x.tag
        flags := objectFlags run incomplete x.deferred
        data := x.work
        isOpen := false
        work := []
        deferred := false }) s

/-- An object that has been closed is no longer one that any list opened and left open (R295). -/
def disown (d : Die) (o : Nat) : Node → Node :=
  let drop := fun (run : Run) => { run with opened := run.opened.filter fun k => k != o }
  modSeq d fun q =>
    { q with slots := q.slots.map fun e => (e.1, { e.2 with run := drop e.2.run }), trap := q.trap.map drop }

/-- Adds a launch record; a full stream loses its oldest item, which is counted (R306). -/
def addRecord (d : Die) (rec : LaunchRecord) (s : Node) : Node :=
  if (s.die d).seq.records.length < 32 then modSeq d (fun q => { q with records := q.records ++ [rec] }) s
  else bump d blkSeq 9 0 (modSeq d (fun q => { q with records := q.records.tail ++ [rec] }) s)

/-- The key that records every launch (R306). -/
def recordAllKey : Die → Nat
  | .n => 0x3045
  | .f => 0x3055

/-- Writes the record of a launch, skip or drop where it carries a flag, or where all are recorded (R306). -/
def record (d : Die) (slot list flags : Nat) (time : T48) (lateness : Nat) (s : Node) : Node :=
  onlyIf (flags != 0 || s.val (recordAllKey d) == 1) (addRecord d ⟨slot, list, flags, time, min lateness 0xFFFFFF⟩) s

/-- Flags of a finished list's launch record (R306). -/
def runFlags (run : Run) (incomplete : Bool) : Nat :=
  b2n run.late + 8 * b2n run.failed + 32 * b2n incomplete + 64 * b2n run.stalled

/-- Frees what a finished list held: a one-shot or last launch frees its slot, a periodic one leaves it armed (R293). -/
def freeRunner (d : Die) (r : Runner) (s : Node) : Node :=
  match r with
  | .trap => modSeq d (fun q => { q with trap := none }) s
  | .slot n =>
    let x := tget {} (s.die d).seq.slots n.val
    if x.state == .rearmed then
      modSeq d (fun q => { q with slots := tput q.slots n.val { x with state := .armed, run := {} } }) s
    else modSeq d (fun q => { q with slots := tdel q.slots n.val }) s

/-- The number a record names for a runner: the slot, or 0xFF for a trap list (R306). -/
def runnerSlot : Runner → Nat
  | .trap => 255
  | .slot n => n.val

/-- Ends a list. One that ends without END closes every object it opened and left open, with INCOMPLETE (R295). -/
def endRun (d : Die) (r : Runner) (incomplete : Bool) (s : Node) : Node :=
  match s.run d r with
  | none => s
  | some run =>
    let t := if incomplete then
        forEach run.opened (fun o s => if (s.object d o).isOpen then closeObject d o run true s else s) s
      else s
    freeRunner d r (record d (runnerSlot r) run.list (runFlags run incomplete) run.launch run.maxLate t)

/-- The 32 launch slots. -/
def slotNumbers : List (Fin 32) := List.finRange 32

/-- Every running list of a die but the trap list stops before its next step (R295). -/
def stopLists (d : Die) : Node → Node := forEach slotNumbers fun n => endRun d (.slot n) true

/-! Lists in a window (R279, R301). -/

/-- The target that a window uses (R391). -/
def Node.windowTarget (s : Node) (window : Nat) : Nat := s.val (0x7101 + 16 * window)

/-- A program job or an erase is in flight on a window's flash (R301). -/
def Node.windowBusy (s : Node) (window : Nat) : Bool :=
  (s.f.fport.job.any fun j => j.target == s.windowTarget window)
    || (s.f.fport.erase.any fun e => e.target == s.windowTarget window)

/-- A target is recovering (R397). -/
def Node.recovers (s : Node) (t : Nat) : Bool := s.f.fport.recovering.getLsbD t

/-- A program or an erase is in flight on a window's target, or the target is recovering (R396). -/
def Node.windowHeld (s : Node) (w : Nat) : Bool := s.windowBusy w || s.recovers (s.windowTarget w)

/-- A fetch for a run is queued or on the pins. -/
def Node.fetching (s : Node) (r : RunRef) : Bool :=
  let mine := fun (w : FWork) => match w with
    | .fetch q _ _ _ => q == r
    | _ => false
  (s.f.fport.fetches.any mine) || (s.f.fport.current.any fun c => mine c.work)

/-- The sequencer fetches up to 16 words ahead of a list in a window; a fetch that finds a program or an erase in flight there,
or the flash recovering, marks the list STALLED (R301, R396). -/
def fetchAhead (d : Die) (r : Runner) (s : Node) : Node :=
  match d, s.run d r with
  | .f, some run =>
    let b := s.blob (listKey run.list)
    let have_ := run.fetched.length
    let wanted := min (listLength b) (run.pc + 16)
    let ref : RunRef := ⟨r, run.launch⟩
    if listLocation b = 0 ∨ wanted ≤ have_ ∨ s.fetching ref then s
    else
      let window := listLocation b - 1
      modFPort (fun x => { x with fetches := x.fetches ++ [.fetch ref window ((wordsOf b).getD 1 0 + 3 * have_) (wanted - have_)] })
        (onlyIf (s.windowHeld window) (fun s => bump .f blkFPort 8 0 (modRun d r (fun run => { run with stalled := true }) s)) s)
  | _, _ => s

/-- A TRAP starts the die's trap list with the reaction tick as its launch time; one that runs is not restarted, and an
undefined one starts nothing (R307). An F-die to which no Hallmark time has come runs no actions (03, case 4). -/
def startTrap (d : Die) (s : Node) : Node :=
  if (s.die d).seq.trap.isSome then bump d blkSeq 10 1 s
  else if d == .f && s.f.fol.state == .unaligned then s
  else if s.listDefined d (trapList d) then
    fetchAhead d .trap (bump d blkSeq 10 0 (bump d blkFault 6 0
      (modSeq d (fun q => { q with trap := some { list := trapList d, sched := s.time d, launch := s.time d } }) s)))
  else s

end Sys2Proof.Machine
end

