-- ==== Sys2Proof/Machine/StateOps.lean ====
section
/-! DEFINITION. The device state: its changes and what each brings with it on both dies (R98 to R101, R109, R295). -/

namespace Sys2Proof.Machine

open Sys2Proof

/-- The number of a device state in K:0014. -/
def DevState.code : DevState → Nat
  | .boot => 0
  | .setup => 1
  | .run => 2
  | .safeHold => 3
  | .sealed => 4

/-- The device state of that number, BOOT for any other. -/
def devOfCode (n : Nat) : DevState :=
  match n with
  | 1 => .setup
  | 2 => .run
  | 3 => .safeHold
  | 4 => .sealed
  | _ => .boot

/-- K:0016 for a transition (R109). -/
def transitionWord (prev : DevState) (cause source session : Nat) : Word :=
  BitVec.ofNat 24 (DevState.code prev * 1048576 + cause * 65536 + source * 256 + session)

/-- A direction agreement is in progress: it bars RUN (R98, R205). -/
def Node.agreeing (s : Node) : Bool := s.n.agree.phase != .idle

/-- A strap that selects the direction map is floating (R44). -/
def Node.mapStrapFloats (s : Node) : Bool := s.n.floating.getLsbD 0 || s.n.floating.getLsbD 1

/-- No condition of the SETUP to RUN row of R98 refuses RUN. -/
def Node.runAllowed (s : Node) : Bool := s.trained && !s.mapStrapFloats && !s.agreeing

/-- What leaving a state brings on a die: lists stop on leaving RUN (R295), and forced states end with SAFE_HOLD, origin 2
with them (R101, R307). -/
def leaveState (d : Die) (prev st : DevState) (s : Node) : Node :=
  let s1 := onlyIf (prev == .run && st != .run) (stopLists d) s
  if prev == .safeHold && st != .safeHold then
    leaveHold d (setForce d 2 0 (onlyIf (d == .n) (setForce .n 3 0) s1))
  else s1

/-- The N-die's force on entry to SAFE_HOLD: every channel whose output is not already forced (R214). -/
def holdForce (s : Node) : Node := setForce .n 3 (~~~ s.n.ch.forced) s

/-- What entering a state brings on the N-die (R101). -/
def enterStateN (st : DevState) (cause : Nat) (s : Node) : Node :=
  match st with
  | .safeHold => bump .n blkDict 6 cause (enterHold .n (holdForce s))
  | .sealed => bump .n blkDict 7 0 (sealChannels .n s)
  | .boot => s
  | .setup => s
  | .run => s

/-- Moves the node to a state: K:0014 and K:0016 change, a pending entry into RUN is cancelled (R65), and the F-die is told
(R295). -/
def setDev (st : DevState) (cause source session : Nat) (s : Node) : Node :=
  let prev := s.n.dev
  let t := leaveState .n prev st s
  let u := modN (fun n =>
    { n with
      dev := st
      lastTransition := transitionWord prev cause source session
      runCancelled := n.runCancelled || n.runPending && cause != 6
      runPending := false }) t
  sendData .n 3 (.devState st) (enterStateN st cause u)

/-- A TRAP moves the node to SAFE_HOLD from SETUP or RUN (R98, R477). -/
def trapState (cause source : Nat) (s : Node) : Node :=
  if s.n.dev == .setup || s.n.dev == .run then setDev .safeHold cause source 0 s else s

/-- A SEAL moves the node to SEALED from any state but BOOT (R98). -/
def sealState (cause source : Nat) (s : Node) : Node :=
  if s.n.dev == .boot || s.n.dev == .sealed then s else setDev .sealed cause source 0 s

/-- The F-die takes a device state (R101, R295). -/
def setDevF (st : DevState) (s : Node) : Node :=
  let prev := s.f.dev
  let t := modF (fun f => { f with dev := st }) (leaveState .f prev st s)
  match st with
  | .safeHold => enterHold .f t
  | .sealed => sealChannels .f t
  | .boot => t
  | .setup => t
  | .run => t

/-- The device state as a die has it. -/
def Node.devOf (s : Node) : Die → DevState
  | .n => s.n.dev
  | .f => s.f.dev

end Sys2Proof.Machine
end

