-- ==== Sys2Proof/Machine/AlertOps.lean ====
section
/-! DEFINITION. The alert queue of the CAN port and the detour of alerts through the Chain (R124, R133, R137). -/

namespace Sys2Proof.Machine

open Sys2Proof

/-- An alert's DELAYED or DETOUR flag set (R133). -/
def Alert.withFlags (a : Alert) (f : Nat) : Alert := { a with flags := Nat.lor a.flags f }

/-- The 16 bytes of an alert (R133). -/
def alertBytes (a : Alert) : List Byte :=
  leBytes 1 a.flags ++ leBytes 1 a.source ++ leBytes 1 a.cls ++ leBytes 1 a.origin ++ leBytes 6 a.detected.toNat
    ++ leBytes 3 a.status.toNat ++ leBytes 1 a.seq ++ [0, 0]

/-- Bytes packed three to a word, padded with 0 (R319). -/
def packWords : List Byte → List Nat
  | [] => []
  | [a] => [a.toNat]
  | [a, b] => [a.toNat + 256 * b.toNat]
  | a :: b :: c :: rest => (a.toNat + 256 * b.toNat + 65536 * c.toNat) :: packWords rest

/-- Unused bytes in the last word (R316). -/
def padOf (bs : List Byte) : Nat := (3 - bs.length % 3) % 3

/-- A Chain frame that this node originates, with hop limit 31 (R334). The F-die gives it its sequence. -/
def chainFrame (src dst type : Nat) (urgent : Bool) (typeField : Nat) (bs : List Byte) : ChainFrame :=
  ⟨dst, src, type, 31, 0, urgent, typeField, padOf bs, packWords bs⟩

/-- What an alert's identifier ranks it by, its class and source node apart: its destination, source bit and die (R120). -/
def QueuedAlert.rank (q : QueuedAlert) : Nat := q.dest % 128 * 64 + q.alert.source % 32 * 2 + b2n (bit q.alert.flags 2)

/-- The alert of highest priority among some: the lowest identifier (R120, R137). -/
def firstAlert (l : List QueuedAlert) : Option QueuedAlert :=
  let least := l.foldl (fun m q => min m q.rank) 8192
  l.find? fun q => q.rank == least

/-- The nodes whose CAN port is error-active according to Chain status, lowest number first, this node left out: their entry is
present, not stale, and shows CAN state 0 (R137, R341). -/
def Node.detourNodes (s : Node) : List Nat :=
  (s.f.chain.nodes.filter fun (k, e) =>
    e.can == 0 && !e.stale && k != s.n.number && s.f.chain.table.any fun r => r.number == k).map Prod.fst

/-- The next candidate for an alert: the lowest that has not been tried (R137). -/
def Node.detourFor (s : Node) (q : QueuedAlert) : Option Nat := s.detourNodes.find? fun k => !q.tried.contains k

/-- An alert of this node that may still be detoured (R137). -/
def QueuedAlert.open_ (q : QueuedAlert) : Bool := !q.exhausted && q.relayFor.isNone

/-- An alert that every candidate has refused is not detoured again (R137). -/
def Node.spendAlert (s : Node) (q : QueuedAlert) : QueuedAlert :=
  if q.open_ && !q.tried.isEmpty && (s.detourFor q).isNone then { q with exhausted := true } else q

/-- Starts the detour of the first alert that has a candidate left, where the port is bus-off, detours are enabled, the node has
a number and the Chain is up (R137). -/
def detourNext (s : Node) : Node :=
  if s.n.can.state == .busOff && s.val 0x1122 == 1 && s.n.number != 0 && s.f.chain.state == .up && s.n.can.detour.isNone then
    let t := modCan (fun c => { c with alerts := c.alerts.map s.spendAlert }) s
    match firstAlert (t.n.can.alerts.filter fun q => q.open_ && (s.detourFor q).isSome) with
    | none => t
    | some q =>
      let k := (s.detourFor q).getD 0
      sendData .n 2 (.chain (chainFrame s.n.number k 19 true 0 (alertBytes q.alert)))
        (bump .n blkCan 10 0 (modCan (fun c =>
          { c with
            detour := some (q.alert.seq, k)
            alerts := c.alerts.map fun x => if x == q then { x with tried := x.tried ++ [k] } else x }) t))
  else s

/-- Removes the first alert of a class. -/
def dropClass (cls : Nat) : List QueuedAlert → List QueuedAlert
  | [] => []
  | q :: qs => if q.alert.cls = cls then qs else q :: dropClass cls qs

/-- Puts an alert into the 8 buffers: a full queue loses the oldest alert of its lowest class, if that class is at or below
the new one's; otherwise the new alert is dropped (R124). -/
def pushAlert (q : QueuedAlert) (s : Node) : Node :=
  let l := s.n.can.alerts
  if l.length < 8 then detourNext (modCan (fun c => { c with alerts := c.alerts ++ [q] }) s)
  else
    let least := l.foldl (fun m x => min m x.alert.cls) 4
    let t := bump .n blkCan 9 0 s
    if least ≤ q.alert.cls then detourNext (modCan (fun c => { c with alerts := dropClass least c.alerts ++ [q] }) t) else t

/-- Queues the alert of a fault that has just become latched, where its class is at or above K:1120 (R133). -/
def queueAlert (die source cls : Nat) (detected : T48) (status : Word) (s : Node) : Node :=
  if s.val 0x1120 ≤ cls then
    let a : Alert := ⟨4 * die, source, cls, s.n.number, detected, status, s.n.can.alertSeq⟩
    pushAlert ⟨a, s.val 0x1121, [], false, none⟩ (modCan (fun c => { c with alertSeq := (c.alertSeq + 1) % 256 }) s)
  else s

end Sys2Proof.Machine
end

