-- ==== Sys2Proof/Machine/FaultOps.lean ====
section
/-! DEFINITION. The fault collectors: detection, latching, events, reactions and forwarding (R456 to R480), and islands
reset alone (R238 to R240). -/

namespace Sys2Proof.Machine

open Sys2Proof

/-- The mask of one source bit. -/
def srcBit (src : Nat) : Word := BitVec.ofNat 24 (2 ^ src)

/-- A word with a source's bit set or cleared. -/
def setSrc (w : Word) (src : Nat) (on : Bool) : Word := if on then w ||| srcBit src else w &&& ~~~ srcBit src

/-- The source numbers. -/
def sources : List Nat := List.range 24

/-- The lowest source set in a word. -/
def lowestSrc (w : Word) : Nat := (sources.find? fun i => w.getLsbD i).getD 0

/-- Sources of kind C or C/E (R456 to R458). -/
def isCondition (d : Die) (src : Nat) : Bool :=
  match d with
  | .n => [1, 2, 7, 8, 10, 12, 13, 14, 17, 19, 21, 23].contains src
  | .f => [1, 2, 7, 8, 10, 12, 13, 14, 15, 16, 17, 22, 23].contains src

/-- The event causes of F source 22, the only mixed source: every cause but a tear (R458). -/
def tearCause : Nat := 0

/-- The island a BLOCK_RESET reaction resets, by its number in R225 or R226, if the source permits one (R457, R458). -/
def sourceIsland (d : Die) (src : Nat) : Option Nat :=
  match d with
  | .n =>
    if 7 ≤ src && src ≤ 11 then some 4
    else if 12 ≤ src && src ≤ 14 then some 2
    else if src = 16 then some 3
    else if src = 18 then some 6
    else if src = 20 || src = 21 then some 7
    else none
  | .f =>
    if 7 ≤ src && src ≤ 11 then some 2
    else if 12 ≤ src && src ≤ 15 then some (src - 6)
    else if 18 ≤ src && src ≤ 20 then some (src - 8)
    else if src = 21 then some 5
    else none

/-- The crossing between the hub and an island, counted from 0 in ascending number (R228). -/
def islandCrossing (d : Die) (island : Nat) : Option Nat :=
  match d with
  | .n =>
    match island with
    | 2 => some 0
    | 3 => some 1
    | 4 => some 2
    | 6 => some 3
    | 7 => some 4
    | _ => none
  | .f =>
    match island with
    | 2 => some 0
    | 4 => some 1
    | _ => if 5 ≤ island && island ≤ 12 then some (island - 3) else none

/-- The number of a crossing (R228). -/
def crossingNumber (d : Die) (i : Nat) : Nat :=
  match d with
  | .n => 0x01 + i
  | .f => 0x11 + i

/-- The island of a crossing. -/
def crossingIsland (d : Die) (i : Nat) : Nat :=
  match d with
  | .n => [2, 3, 4, 6, 7].getD i 2
  | .f => if i = 0 then 2 else if i = 1 then 4 else i + 3

/-- A crossing is torn (R245). -/
def Node.torn (s : Node) (d : Die) (i : Nat) : Bool := (s.die d).isl.torn.getLsbD i

/-- The crossing between the hub and the sequencer of a die, 0x04 or 0x12, is torn: neither lists, slot writes and orders nor
results pass (R228, R240). -/
def Node.seqTorn (s : Node) (d : Die) : Bool := s.torn d (match d with
  | .n => 3
  | .f => 1)

/-- The collector of a die runs: its hub is on (R480). A PARKED or F-dormant F-die samples while its oscillator runs. -/
def Node.collects (s : Node) (d : Die) : Bool := s.up d || (d == .f && (s.f.phase == .parked || s.f.phase == .dormant))

/-- The setting of a source (R481, R482). -/
def Node.setting (s : Node) (d : Die) (src : Nat) : Nat :=
  s.val ((match d with
    | .n => 0x8020
    | .f => 0x8120) + src)

/-- Class and reaction mask in force for a new event: the setting, or for N source 22 the report's class (R460, R470). -/
def Node.inForce (s : Node) (d : Die) (src : Nat) (cls : Option Nat) : Nat × Nat :=
  let v := s.setting d src
  (cls.getD (bits v 1 0), bits v 6 2)

/-- Adds a history entry: a full history loses its oldest entry whose class is not SEAL, or drops the new one (R472). The
second result says that an entry was lost, the third that it was forward pending. -/
def pushHistory (e : HistEntry) (h : List HistEntry) : List HistEntry × Bool × Bool :=
  if h.length < 16 then (e :: h, false, false)
  else match h.reverse.find? fun x => x.cls != 3 with
    | none => (h, true, false)
    | some old => (e :: (h.reverse.erase old).reverse, true, old.pending)

/-- Writes a history entry, counting an overflow (R472). -/
def writeEntry (d : Die) (e : HistEntry) (s : Node) : Node :=
  let r := pushHistory e (s.die d).faults.history
  let t := modFaults d (fun c =>
    { c with history := r.1, overflow := if r.2.1 then satAdd 255 c.overflow 1 else c.overflow }) s
  onlyIf r.2.2 (bump d blkFault 10 2) (onlyIf r.2.1 (bump d blkFault 3 0) t)

/-- Changes the detection entry of an event. -/
def modEntry (d : Die) (event : Nat) (g : HistEntry → HistEntry) : Node → Node :=
  modFaults d fun c => { c with history := c.history.map fun e => if e.event == event && !e.clear then g e else e }

/-- ERRPIN: the error pin goes low and its minimum pulse starts, unless it is low already (R467). -/
def assertPin (d : Die) (s : Node) : Node :=
  if (s.die d).faults.pin then s
  else bump d blkFault 5 0 (modFaults d (fun c => { c with pin := true, pulseRunning := true, releasePending := false }) s)

/-- An F event's report and entry frame are sent, or stay pending while the Clasp is down (R469, R471). -/
def forwardEvent (e : HistEntry) (s : Node) : Node :=
  if s.trained then
    bump .f blkFault 10 0 (sendData .f 3 (.faultEntry e.event e.fresh)
      (sendCtrl .f (.faultReport e.source e.cls (((s.f.faults.cond ||| s.f.faults.pulse).getLsbD e.source)) e.event) s))
  else s

/-- An F event is forwarded when its class reaches K:8107, its mask holds I or T, or its class is SEAL (R469). -/
def Node.forwards (s : Node) (cls mask : Nat) : Bool :=
  decide (s.val 0x8107 ≤ cls) || bit mask 0 || bit mask 1 || cls == 3

/-- SEAL: the retention register holds the source, origin 4 names all channels, and the die and the node are SEALED (R460,
R470, R478). N source 22 does not seal the N-die. -/
def sealDie (d : Die) (src : Nat) (s : Node) : Node :=
  let t := setForce d 4 255 (bump d blkFault 8 src
    (modDie d (fun x => { x with ret := { x.ret with seals := setSrc x.ret.seals src true } }) s))
  match d with
  | .n => sealState 4 src (sealChannels .n t)
  | .f => setDevF .sealed t

/-- A TRAP reaction: the trap list starts and the device state moves; in BOOT it starts and moves nothing (R465, R477). -/
def trapReaction (d : Die) (src : Nat) (s : Node) : Node :=
  if s.devOf d == .boot then s
  else
    let t := startTrap d s
    match d with
    | .n => trapState 2 src t
    | .f =>
      let u := modFaults .f (fun c => { c with trapToReport := some src }) t
      let v := onlyIf (u.f.dev != .sealed) (setDevF .safeHold) u
      if v.trained then sendData .f 3 (.trap src) (modFaults .f (fun c => { c with trapToReport := none }) v) else v

/-- The reactions of a mask up to forwarding, each counted (R465). -/
def reactions (d : Die) (src cls mask : Nat) (e : HistEntry) (s : Node) : Node :=
  let s1 := onlyIf (bit mask 4) (fun s => bump d blkFault 4 4 (assertPin d s)) s
  let s2 := onlyIf (bit mask 0) (fun s =>
    bump d blkFault 4 0 (modFaults d (fun c => { c with unack := setSrc c.unack src true }) s)) s1
  let s3 := onlyIf (bit mask 1) (fun s => bump d blkFault 4 1 (trapReaction d src s)) s2
  onlyIf (d == .f && s.forwards cls mask) (forwardEvent e) s3

/-- The causes of an early flush (R489): N source 20 or 21, a SEAL event, a DIE_RESET reaction. -/
def flushCause (d : Die) (src cls mask : Nat) : Bool := (d == .n && (src == 20 || src == 21)) || cls == 3 || bit mask 3

/-- A flush is due as soon as a token allows (R489). -/
def requestFlush (d : Die) : Node → Node := modLoupe d fun l => { l with due := true }

/-- Starts an event: its number, its entry, its open window, and its reactions but BLOCK_RESET (R463 to R465). `seals` says
that its class takes the die into SEALED. -/
def startEvent (d : Die) (src cls mask detail fSource : Nat) (seals fresh : Bool) (s : Node) : Node :=
  let num := (s.die d).faults.nextEvent
  let e : HistEntry :=
    { event := num, source := src, cls := cls, detail := detail
      ran := b2n (bit mask 0) + 2 * b2n (bit mask 1) + 4 * b2n (bit mask 2) + 8 * b2n (bit mask 3) + 16 * b2n (bit mask 4)
      pending := d == .f && s.forwards cls mask
      fSource := fSource, time := s.stamp d, status := (s.die d).faults.status, fresh := fresh }
  let s1 := modFaults d (fun c =>
    { c with
      nextEvent := (num + 1) % 256
      latest := tput c.latest src { event := num, cls := cls, mask := mask, openWin := true } }) s
  let s2 := writeEntry d e (bump d blkFault 0 src s1)
  let s3 := reactions d src cls mask e s2
  let s4 := onlyIf (bit mask 3) (fun s => bump d blkFault 4 3
    (modFaults d (fun c => { c with resetWaiting := some (c.resetWaiting.getD src) }) s)) s3
  onlyIf (seals && cls == 3) (sealDie d src) (onlyIf (flushCause d src (if seals then cls else 0) mask) (requestFlush d) s4)

/-- A detection of a source: the status bit is set, an event starts or the detection is merged, and an N source that has just
become latched queues its alert (R133, R461 to R463). BLOCK_RESET is left to `detect`. -/
def detectCore (d : Die) (src detail fSource : Nat) (cls : Option Nat) (s : Node) : Node :=
  if s.collects d then
    let c := (s.die d).faults
    let fresh := !c.status.getLsbD src
    let event := !isCondition d src || (d == .f && src == 22 && detail != tearCause)
    let s1 := modFaults d (fun c =>
      { c with status := setSrc c.status src true, pulse := if event then setSrc c.pulse src true else c.pulse }) s
    let old := tget {} c.latest src
    let inForce := s.inForce d src cls
    let s2 :=
      if old.openWin then
        bump d blkFault 0 (24 + src) (modEntry d old.event (fun e => { e with merged := satAdd 255 e.merged 1 }) s1)
      else startEvent d src inForce.1 inForce.2 detail fSource (!(d == .n && src == 22)) fresh s1
    onlyIf (d == .n && src != 22 && fresh)
      (queueAlert 0 src (if old.openWin then old.cls else inForce.1) (s.stamp .n) (s2.n.faults.status)) s2
  else s

/-- A live state of a condition source rises or falls (R456). A rise that starts no event is still live. A fall before any
read of the status word makes the event transient (R476). -/
def condFell (d : Die) (src : Nat) (s : Node) : Node :=
  let o := tget {} (s.die d).faults.latest src
  let marked := (s.die d).faults.history.any fun e => e.event == o.event && !e.clear && e.transient
  if (tget? (s.die d).faults.latest src).isSome && !o.seen && !marked then
    bump d blkFault 1 src (modEntry d o.event (fun e => { e with transient := true }) s)
  else s

/-- Crossing i of a die is torn: frozen, its entries discarded and counted, and its source raised (R240, R245). -/
def tear (d : Die) (i entries : Nat) (s : Node) : Node :=
  let t := countBy d blkIsl 1 i entries (bump d blkIsl 0 i
    (modIsl d (fun x =>
      { x with
        torn := x.torn ||| BitVec.ofNat 10 (2 ^ i)
        tears := satAdd 63 x.tears 1
        lastTorn := crossingNumber d i }) s))
  let src := match d with
    | .n => 17
    | .f => 22
  detectCore d src tearCause 0 none (modFaults d (fun c => { c with cond := setSrc c.cond src true }) t)

/-- An island is reset alone, which tears its crossing (R238, R239, R246). -/
def resetIsland (d : Die) (island cause : Nat) (s : Node) : Node :=
  let t := bump d blkIsl 3 (island * 3 + cause) (modIsl d (fun x =>
    { x with
      inReset := tput x.inReset island cause
      lastIsland := island
      lastCause := cause
      resets := satAdd 65535 x.resets 1 }) s)
  match islandCrossing d island with
  | some i => if t.torn d i then t else tear d i 0 t
  | none => t

/-- A detection with every reaction, BLOCK_RESET included where the source permits it (R465). -/
def detect (d : Die) (src detail : Nat) (s : Node) : Node :=
  let merged := (tget {} (s.die d).faults.latest src).openWin
  let mask := (s.inForce d src none).2
  let t := detectCore d src detail 0 none s
  match sourceIsland d src with
  | some island =>
    if s.collects d && !merged && bit mask 2 then bump d blkFault 4 2 (resetIsland d island 0 t) else t
  | none => t

/-- A condition source's live state, as its block gives it: a rise is a detection, a fall may make the event
transient, unless the live bit stays up for a detection of the same source (R456). -/
def setCond (d : Die) (src : Nat) (on : Bool) (detail : Nat) (s : Node) : Node :=
  let c := (s.die d).faults
  if on == c.cond.getLsbD src then s
  else
    let t := modFaults d (fun c => { c with cond := setSrc c.cond src on }) s
    if on then detect d src detail t else if c.pulse.getLsbD src then t else condFell d src t

/-- The live word of a die: K:8001 or K:8101 (R456, R462). -/
def Node.live (s : Node) (d : Die) : Word := (s.die d).faults.cond ||| (s.die d).faults.pulse

/-- A merge window closes at an acknowledgement or after the last reaction (R464, R475). -/
def closeWindow (d : Die) (src : Nat) : Node → Node :=
  modFaults d fun c => { c with latest := tmod {} c.latest src fun o => { o with openWin := false } }

end Sys2Proof.Machine
end

