-- ==== Sys2Proof/Machine/StepOps.lean ====
section
/-! DEFINITION. How a step of an action list that completes later ends: outstanding steps, the data they store, and failures
(R282, R286, R287). -/

namespace Sys2Proof.Machine

open Sys2Proof

/-- A step fails: the list carries STEP_FAILED and the sequencer source is raised; the list goes on (R287). -/
def failStep (d : Die) (r : RunRef) (op : Nat) (s : Node) : Node :=
  detect d (seqSource d) 1 (bump d blkSeq 4 op (modRef d r (fun run => { run with failed := true }) s))

/-- A step that completes later is outstanding until then (R286). -/
def beginStep (d : Die) (r : RunRef) : Node → Node := modRef d r fun run => { run with outstanding := run.outstanding + 1 }

/-- An outstanding step completes (R286); the last one ends a list that has met its END. -/
def endOutstanding (d : Die) (r : RunRef) (s : Node) : Node :=
  if s.isRun d r then
    let t := modRun d r.runner (fun run => { run with outstanding := run.outstanding - 1 }) s
    match t.run d r.runner with
    | some run => if run.ending && run.outstanding == 0 then endRun d r.runner false t else t
    | none => t
  else s

/-- Stores data at a destination: into an open object, up to offset 511 (R282, R287, R302). The result says whether all of it
fell inside. -/
def storeData (d : Die) (dest : Nat) (bs : List Byte) (deferred : Bool) (s : Node) : Node × Bool :=
  let o := bits dest 23 21
  let off := bits dest 19 11
  if (s.object d o).isOpen then
    (modObject d o (fun x =>
      { x with work := writeAt x.work off (bs.take (512 - off)), deferred := x.deferred || deferred }) s,
     decide (off + bs.length ≤ 512))
  else (s, false)

/-- The end of a step that brings data, or that failed (R286, R287). -/
def stepData (d : Die) (r : RunRef) (op dest : Nat) (data : Option (List Byte)) (deferred : Bool) (s : Node) : Node :=
  match data with
  | none => endOutstanding d r (failStep d r op s)
  | some bs =>
    let t := storeData d dest bs deferred s
    endOutstanding d r (if t.2 then t.1 else failStep d r op t.1)

/-- The opcode of the step that sent a dictionary operation in session 7: READKEY or WRITEKEY. -/
def stepOpcode : DapOp → Nat
  | .read => 0x13
  | .readBlock .. => 0x13
  | .selectRead _ => 0x13
  | .write _ => 0x14
  | .writeBlock _ => 0x14
  | .command _ => 0x14

/-- The transaction of a READKEY or WRITEKEY step has ended: with its data, or without where it was refused (R286, R287). -/
def endKeyStep (t : Txn) (data : Option (List Byte)) (s : Node) : Node :=
  match t.runner with
  | none => s
  | some (d, r, dest) =>
    match t.op, data with
    | .write _, some _ => endOutstanding d r s
    | _, bs => stepData d r (stepOpcode t.op) dest bs false s

end Sys2Proof.Machine
end

