-- ==== Sys2Proof/Machine/ResetOps.lean ====
section
/-! DEFINITION. The restart of a die: what it loses and what it keeps (R70, R237, R478). -/

namespace Sys2Proof.Machine

open Sys2Proof

/-- The lifetime record through a restart: SRAM is written afresh, and what the ring does not cover is a lost flush (R490). A
flush that was being written is rolled back. -/
def restartLoupe (lost : Nat) (l : Loupe) : Loupe :=
  let uncovered := if lost = 0 && l.cells != l.stored then 1 else lost
  addTotal (cellOf blkEnv 12 1) uncovered { l with cells := l.stored, writing := none, due := false }

/-- The levels outside at a die's direct-channel pins, which no restart changes. -/
def outsideLevels (x : Channels) : Channels :=
  { chans := (x.chans.filter fun e => e.2.pinIn).map fun e => (e.1, { pinIn := true }) }

/-- The state of a die as a restart leaves it: everything in SRAM and in its islands is lost; the retention register and the
lifetime ring stay. The ring is read when the die starts. -/
def restartDie (phase : Phase) (cause : Nat) (x : DieState) : DieState :=
  { phase := phase
    cause := cause
    undervoltage := x.undervoltage
    ch := outsideLevels x.ch
    ret := { x.ret with lostFlush := if phase == .starting then 0 else x.ret.lostFlush, byReaction := false }
    loupe := if phase == .starting then restartLoupe x.ret.lostFlush x.loupe else { x.loupe with writing := none, due := false } }

/-- Ends of Filigree slots, by cause (R540). -/
def endDuration : Nat := 0
def endDisarm : Nat := 1
def endRestart : Nat := 2
def endCompletion : Nat := 3

/-- Slots that a die performs now. -/
def Node.slotsOn (s : Node) (d : Die) : List Nat := (s.fil.slots.filter fun e => e.2.onDie && e.2.die == d).map Prod.fst

/-- The slots as a restart of a die leaves them (R536, R537): its own end. A restarted N-die knows no F slot before the next
training, and Filigree is locked (R533). -/
def slotsAfter (d : Die) (x : Filigree) : Filigree :=
  match d with
  | .n =>
    { slots := x.slots.map fun e => (e.1, { e.2 with armed := false, onDie := e.2.onDie && e.2.die == .f }) }
  | .f => { x with slots := x.slots.map fun e => (e.1, { e.2 with onDie := e.2.onDie && e.2.die == .n }) }

/-- Counts the slots that a restart ends (R540). -/
def countEnded (n : Nat) (x : DieState) : DieState :=
  if n = 0 then x else { x with loupe := addTotal (cellOf blkFil 3 endRestart) n x.loupe }

/-- Restarts the N-die into a phase. Sessions, queues, held responses, slots, objects and history are lost (R70, R107). The
epochs and the barrier log lie in the ledger; the F image held in SRAM gives way to the newest copy in the ring. The
dictionary steps of F lists that were in flight fail. -/
def restartN (phase : Phase) (cause : Nat) (s : Node) : Node :=
  let n := s.n
  let ended := (s.slotsOn .n).length
  let steps := n.dict.txns.filter fun t => t.runner.any fun r => r.1 == .f
  forEach steps (fun t s => endKeyStep t none s) <| dropVals .n
    { s with fil := slotsAfter .n s.fil, f := { s.f with inbox := [] }, n :=
      { toDieState := countEnded ended (restartDie phase cause n.toDieState)
        bar := { epochs := n.bar.epochs, started := n.bar.started, log := n.bar.log, fCopy := n.bar.fCopy, fImage := n.bar.fCopy }
        pow := { rstLow := n.pow.rstLow, inh := true
                 standbyCause := n.pow.standbyCause, standbyLength := n.pow.standbyLength } } }

/-- Counts a declaration that the restart loses, because its latch record was not yet written (R446, R454). -/
def lostLatch (p : Nat) (due : Bool) (x : DieState) : DieState :=
  if due then { x with loupe := addTotal (cellOf blkSafe (p * 8 + 6) 1) 1 x.loupe } else x

/-- Restarts the F-die into a phase (R70, R71). The SAFE latch records lie in its ledger (R446). -/
def restartF (phase : Phase) (cause : Nat) (s : Node) : Node :=
  let f := s.f
  let ended := (s.slotsOn .f).length
  dropVals .f
    { s with fil := slotsAfter .f s.fil, f :=
      { toDieState := countEnded ended <| lostLatch 0 f.safe0.recordDue (lostLatch 1 f.safe1.recordDue (restartDie phase cause f.toDieState))
        safe0 := { record := f.safe0.record }
        safe1 := { record := f.safe1.record } } }

/-- Marks the error pin as held where a DIE_RESET reaction restarts the die while the pin is asserted (R468, R478). -/
def markReaction (src : Nat) (x : DieState) : DieState :=
  { x with ret := { x.ret with heldPin := x.faults.pin, resetSource := some src } }

/-! Filigree slots that end (R536). -/

/-- N source 23 is live while any slot is in use (R537). -/
def slotsLive (s : Node) : Node := setCond .n 23 (s.fil.slots.any fun e => e.2.armed) 0 s

/-- The frames that CLASP_DELAY held are sent at once, in order (R536). -/
def sendHeld (d : Die) (s : Node) : Node :=
  pumpData d (modClasp d (fun x => { x with waiting := x.waiting ++ x.delayed, delayed := [] }) s)

/-- A slot ends on its performing die (R536). The end of an F slot reaches the N-die on DATA stream 3 (R537). -/
def endFil (i cause : Nat) (s : Node) : Node :=
  let x := s.filSlot i
  if x.onDie then
    let t := bump x.die blkFil 3 cause
      (modFil i (fun x => { x with onDie := false, armed := x.armed && x.die == .f, count := 0 }) s)
    let u := onlyIf (x.code == filClaspDelay) (sendHeld x.die) t
    match x.die with
    | .n => slotsLive u
    | .f => sendData .f 3 (.filigree i) u
  else s

/-- A RECAL slot of a die completes when the link resumes or reaches LOST (R535, R536). -/
def endRecal (d : Die) (s : Node) : Node :=
  forEach ((s.fil.slots.filter fun e => e.2.onDie && e.2.die == d && e.2.code == filRecal).map Prod.fst)
    (fun i s => endFil i endCompletion s) s

end Sys2Proof.Machine
end

