-- ==== Sys2Proof/Machine/DictOps.lean ====
section
/-! DEFINITION. Sessions, transactions in flight and their responses on each access path (R86 to R97, R124 to R131, R151 to
R158, R342). -/

namespace Sys2Proof.Machine

open Sys2Proof

/-! Status codes (R92). -/

def stOk : Nat := 0x00
def stBusy : Nat := 0x01
def stDeferred : Nat := 0x02
def stNoKey : Nat := 0x10
def stAccess : Nat := 0x11
def stType : Nat := 0x12
def stRange : Nat := 0x13
def stState : Nat := 0x14
def stNoSession : Nat := 0x15
def stStale : Nat := 0x20
def stReread : Nat := 0x21
def stEmpty : Nat := 0x22
def stRemote : Nat := 0x30

/-- The code of an access path in K:1000 (R111). -/
def pathCode : Path → Nat
  | .nport => 0
  | .can => 1
  | .chain => 2
  | .internal => 3

/-- The opcode of an operation (R126). -/
def opcodeOf : DapOp → Nat
  | .read => 1
  | .write _ => 2
  | .readBlock .. => 3
  | .writeBlock _ => 4
  | .command _ => 5
  | .selectRead _ => 6

/-- A write or a command, which the device state and a running save may refuse. -/
def DapOp.changes : DapOp → Bool
  | .write _ => true
  | .writeBlock _ => true
  | .command _ => true
  | .read => false
  | .readBlock .. => false
  | .selectRead _ => false

/-! Sessions (R87 to R89). -/

/-- The transactions of a session in flight. -/
def Node.flightOf (s : Node) (session : Nat) : List Txn := s.n.dict.txns.filter fun t => t.session == session

/-- The transaction of a session under a tag. -/
def Node.txn (s : Node) (session tag : Nat) : Option Txn :=
  s.n.dict.txns.find? fun t => t.session == session && t.tag == tag

/-- The session of a client on a path, if it holds one. -/
def Node.sessionOf (s : Node) (path : Path) (client : Nat) : Option Nat :=
  match path with
  | .nport => if (tget? s.n.dict.sessions 0).isSome then some 0 else none
  | .internal => some 7
  | .can => (s.n.dict.sessions.find? fun e => e.2.path == .can && e.2.client == client).map Prod.fst
  | .chain => (s.n.dict.sessions.find? fun e => e.2.path == .chain && e.2.client == client).map Prod.fst

/-- The lowest of sessions 1 to 6 that is free. -/
def Node.freeSession (s : Node) : Option Nat := [1, 2, 3, 4, 5, 6].find? fun i => (tget? s.n.dict.sessions i).isNone

/-- Allocates a session: the epoch counter rises and is stamped into it, and its selects are at their allocation values
(R89). -/
def allocSession (i : Nat) (path : Path) (client : Nat) (s : Node) : Node :=
  let e := (s.n.ret.epoch + 1) % 256
  bump .n blkDict 0 0 (modN (fun n =>
    { n with
      ret := { n.ret with epoch := e }
      dict := { n.dict with sessions := tput n.dict.sessions i { path := path, client := client, epoch := e } } }) s)

/-- Releases a session with its values (R89). -/
def dropSession (i : Nat) : Node → Node := modDict fun d => { d with sessions := tdel d.sessions i }

/-- A session's captured values (R95). Session 7 has none of its own (R97). -/
def Node.selectsOf (s : Node) (session : Nat) : Tab Nat :=
  match tget? s.n.dict.sessions session with
  | some x => x.selects
  | none => []

/-- Changes a session. -/
def modSession (i : Nat) (g : Session → Session) (s : Node) : Node :=
  match tget? s.n.dict.sessions i with
  | some x => modDict (fun d => { d with sessions := tput d.sessions i (g x) }) s
  | none => s

/-- Sets a session value (R85). -/
def setSelect (session key v : Nat) : Node → Node :=
  modSession session fun x => { x with selects := tset ((sessionValue key).getD 0) x.selects key v }

/-! Responses. -/

/-- A response refuses its request, so that it carries no data (R125). -/
def refuses (status : Nat) : Bool := !(status == stOk || status == stStale || status == stReread || status == stEmpty)

/-- The first four bytes of every response (R125). -/
def respHead (op : DapOp) (status key : Nat) : List Byte :=
  leBytes 1 (opcodeOf op) ++ leBytes 1 status ++ leBytes 2 key

/-- Splits bytes into pieces of a length, by a count of pieces. -/
def pieces (len : Nat) : Nat → List Byte → List (List Byte)
  | 0, _ => []
  | n + 1, bs => bs.take len :: pieces len n (bs.drop len)

/-- The later segments of a block response, numbered from 1 (R128). -/
def laterSegments (head : List Byte) (bs : List Byte) : List (List Byte) :=
  let count := (bs.length + 58) / 59
  (pieces 59 count bs).zipIdx.map fun (p, i) =>
    head ++ leBytes 1 ((i + 1) % 128 + 128 * b2n (decide (i + 1 < count))) ++ p

/-- The data fields of a response's frames (R125, R128): one frame, or the segments of a block read. -/
def respFrames (op : DapOp) (status key : Nat) (data : List Byte) : List (List Byte) :=
  let head := respHead op status key
  match op with
  | .readBlock .. =>
    if refuses status then [head]
    else
      (head ++ leBytes 1 (128 * b2n (decide (57 < data.length))) ++ leBytes 2 data.length ++ data.take 57)
        :: laterSegments head (data.drop 57)
  | .read => [head ++ if refuses status then [] else data]
  | .selectRead _ => [head ++ if refuses status then [] else data]
  | .command _ => [head ++ data]
  | .write _ => [head]
  | .writeBlock _ => [head ++ data]

/-- The body of an N-port response (R152). -/
def respBody (op : DapOp) (status key : Nat) (data : List Byte) : List Byte :=
  let head := respHead op status key
  match op with
  | .readBlock .. => if refuses status then head else head ++ leBytes 2 data.length ++ data
  | .read => head ++ if refuses status then [] else data
  | .selectRead _ => head ++ if refuses status then [] else data
  | .command _ => head ++ data
  | .write _ => head
  | .writeBlock _ => head ++ data

/-- Puts frames into the CAN transmit buffers (R124). In compact mode classes 3, 6 and 7 are discarded and counted (R121). -/
def pushTx (frames : List TxFrame) : Node → Node := modCan fun c => { c with tx := c.tx ++ frames }

/-- Sends a Chain frame that the N-die originates: it crosses the Clasp on stream 2 (R17, R342). -/
def chainFromN (dst type : Nat) (urgent : Bool) (typeField : Nat) (bs : List Byte) (s : Node) : Node :=
  sendData .n 2 (.chain (chainFrame s.n.number dst type urgent typeField bs)) s

/-- Counts transmit frames discarded, by class and cause: 0 bus-off, 1 waiting, 2 compact mode, 3 full buffers (R144). -/
def txDiscard (cls cause n : Nat) : Node → Node := countBy .n blkCan 8 (cls * 4 + cause) n

/-- The response of a refusal under check 1 or 2: it is not a transaction (R90). On CAN it needs one of 4 buffers of its own,
and is discarded and counted where they are full (R124). -/
def refuse (path : Path) (client tag : Nat) (op : DapOp) (key status : Nat) (s : Node) : Node :=
  match path with
  | .can =>
    if (s.n.can.tx.filter fun f => f.refusal).length < 4 then
      pushTx [⟨4, client, 0, tag, none, true, respHead op status key⟩] s
    else txDiscard 4 3 1 s
  | .nport => modPort (fun p => { p with out := some (0x50, tag, respBody op status key []) }) s
  | .chain => chainFromN client 22 false tag (respHead op status key) s
  | .internal => s

/-- What the end of a transaction in flight brings with it: a session whose release waits for it is released (R89), and a
commanded reset falls due (R107). -/
def afterFlight (t : Txn) (s : Node) : Node :=
  let s1 := modDict (fun d => if t.key = 0xF002 ∧ t.status = stOk then { d with resetDue := true } else d) s
  match tget? s1.n.dict.sessions t.session with
  | some x => if x.releasing && (s1.flightOf t.session).isEmpty then dropSession t.session s1 else s1
  | none => s1

/-- A transaction leaves flight (R90). -/
def leaveFlight (session tag : Nat) (s : Node) : Node :=
  match s.txn session tag with
  | none => s
  | some t => afterFlight t (modDict (fun d => { d with txns := d.txns.erase t }) s)

/-- Changes a transaction in flight. -/
def modTxn (session tag : Nat) (g : Txn → Txn) : Node → Node :=
  modDict fun d => { d with txns := d.txns.map fun t => if t.session == session && t.tag == tag then g t else t }

/-- An N-port response becomes complete: a held one keeps its place, another is clocked out next (R151, R154). -/
def completePort (tag header : Nat) (body : List Byte) : Node → Node :=
  modPort fun p =>
    if p.held.any fun h => h.tag == tag then
      { p with held := p.held.map fun h => if h.tag == tag then { h with complete := true, header := header, body := body } else h }
    else { p with out := some (header, tag, body) }

/-- Delivers the response of a transaction on its path (R125, R152, R342). A Chain response that finds the Clasp down is
discarded. -/
def respond (t : Txn) (status : Nat) (data : List Byte) (s : Node) : Node :=
  match t.path with
  | .can =>
    pushTx ((respFrames t.op status t.key data).map fun bs => ⟨4, t.client, 0, t.tag, some (t.session, t.tag), false, bs⟩) s
  | .nport => completePort t.tag 0x50 (respBody t.op status t.key data) s
  | .chain =>
    if s.trained then forEach (respFrames t.op status t.key data) (fun bs => chainFromN t.client 22 false t.tag bs) s
    else leaveFlight t.session t.tag s
  | .internal => endKeyStep t (if refuses status then none else some data) (leaveFlight t.session t.tag s)

/-- The N-die no longer waits for what the F-die has still to execute of a transaction. -/
def waitsNoMore (session tag : Nat) : Node → Node :=
  modF fun f => { f with inbox := f.inbox.map fun e => if e.1.session == session && e.1.tag == tag then (e.1, false) else e }

/-- Ends a transaction with its status and data: it is done, and its response is delivered (R90). -/
def finish (session tag status : Nat) (data : List Byte) (s : Node) : Node :=
  match s.txn session tag with
  | none => s
  | some t =>
    let u := onlyIf (status == stRemote) (bump .n blkDict 3 0)
      (modTxn session tag (fun t => { t with stage := .done, status := status, data := data }) s)
    respond { t with status := status } status data (waitsNoMore session tag u)

/-- A transaction waits for the F-die (R86). -/
def Stage.atFar : Stage → Bool
  | .toF => true
  | .atF => true
  | .fromF => true
  | _ => false

/-- The F-die sends the result of a transaction (R86). -/
def fAnswer (session tag status : Nat) (data : List Byte) (s : Node) : Node :=
  sendData .f 0 (.result session tag) (modTxn session tag (fun t => { t with stage := .fromF, status := status, data := data }) s)

/-- A transaction that the F-die still works for. -/
def Node.servedByF (s : Node) (session tag : Nat) : Bool :=
  match s.txn session tag with
  | some t => t.stage == .atF || t.stage == .toF
  | none => false

/-- A transaction under a key is in flight. -/
def Node.keyInFlight (s : Node) (key : Nat) : Bool := s.n.dict.txns.any fun t => t.key == key

/-- The transactions of a key that run, in admission order. -/
def Node.runningTxn (s : Node) (key : Nat) : Option Txn := s.n.dict.txns.find? fun t => t.key == key && t.stage == .running

/-- A protocol error or another frame that is counted and raises N source 15 (R113, R130, R145). -/
def overflow15 (idx : Nat) (s : Node) : Node := detect .n 15 0 (bump .n blkCan idx 0 s)

end Sys2Proof.Machine
end

