-- ==== Sys2Proof/Machine/ChanOps.lean ====
section
/-! DEFINITION. Edges on the direct channels as the sending die captures them (R180, R189 to R191, R207, R288). -/

namespace Sys2Proof.Machine

open Sys2Proof

/-- The level of an input channel on its sending die: the pin, or the level of LEVEL steps for a timed input (R288). -/
def Node.inputLevel (s : Node) (d : Die) (c : Nat) : Bool :=
  if (s.die d).ch.timed.getLsbD c then (s.chan d c).timedLevel else (s.chan d c).pinIn

/-- A ninth waiting event discards every waiting event of the channel, and the sent level becomes the input's (R180). -/
def edgeOverflow (d : Die) (c : Nat) (s : Node) : Node :=
  detect d 11 0 (countBy d blkClasp 4 0 ((s.chan d c).waiting.length + 1)
    (modChan d c (fun k => { k with waiting := [], sent := s.inputLevel d c }) s))

/-- A ninth backlog event discards the backlog of the channel for the rest of the outage (R191). -/
def backlogOverflow (d : Die) (c : Nat) (s : Node) : Node :=
  detect d 11 0 (bump d blkClasp 6 0 (modChan d c (fun k => { k with backlog := [], overflowed := true }) s))

/-- An edge of an input is timestamped and queued: for an EDGE word, or through an outage into the backlog (R178, R180, R189,
R191). While the Clasp is down nothing waits. -/
def captureEdge (d : Die) (c at_ : Nat) (s : Node) : Node :=
  let k := s.chan d c
  match (s.die d).clasp.link with
  | .up =>
    if k.waiting.length < 8 then modChan d c (fun k => { k with waiting := k.waiting ++ [at_] }) s else edgeOverflow d c s
  | .outage =>
    if k.overflowed then bump d blkClasp 4 0 s
    else if k.backlog.length < 8 then modChan d c (fun k => { k with backlog := k.backlog ++ [at_] }) s
    else backlogOverflow d c s
  | .off => s
  | .training => s

/-- New timed inputs take level 0, and channels no longer timed take the pin's level; each that changes makes one edge
(R288). -/
def applyTimed (d : Die) (m : Mask) (s : Node) : Node :=
  let before := s
  let t := modCh d (fun x => { x with timed := m }) s
  forEach eight (fun c s =>
    let was := before.inputLevel d c
    let t := if m.getLsbD c && !(before.die d).ch.timed.getLsbD c then modChan d c (fun k => { k with timedLevel := false }) s
      else s
    if before.role d c == 1 && t.inputLevel d c != was then captureEdge d c (before.time d).toNat t else t) t

end Sys2Proof.Machine
end

