-- ==== Sys2Proof/Machine/SeqOps.lean ====
section
/-! DEFINITION. Action lists as they are checked and armed: list words, launch slots, triggers and orders across the barrier
(R278 to R299). -/

namespace Sys2Proof.Machine

open Sys2Proof

/-! List words. -/

/-- The opcode of a step's first word (R281). -/
def stepOp (w : Nat) : Nat := bits w 23 18

/-- The words of a step by its opcode; 0 for an opcode that does not exist (R281). -/
def stepLength (op : Nat) : Nat :=
  if op ∈ [0x00, 0x01, 0x02, 0x03, 0x08, 0x09, 0x10, 0x11] then 1
  else if op ∈ [0x12, 0x13, 0x18, 0x19, 0x20, 0x21, 0x22] then 2
  else if op = 0x14 then 3
  else 0

/-- An opcode is allowed on the list's die and in a trap list or outside one (R281). -/
def opAllowed (d : Die) (trap : Bool) (op : Nat) : Bool :=
  match op with
  | 0x09 => trap
  | 0x18 => !trap
  | 0x20 => d == .f
  | 0x21 => d == .f
  | 0x22 => d == .n
  | _ => stepLength op != 0

/-- A destination word: object, byte offset, and for READKEY the select fields; all other bits 0 (R282). -/
def destOk (select : Bool) (w : Nat) : Bool := bits w 20 20 == 0 && bits w 3 0 == 0 && (select || bits w 10 4 == 0)

/-- The select-fields word of a WRITEKEY step: the select fields in the places of R282, all other bits 0. -/
def selectWordOk (w : Nat) : Bool := bits w 23 11 == 0 && bits w 3 0 == 0

/-- The fields of a step are in range and the bits the table does not name are 0 (R281, R282). `w1` and `w2` are its further
words. -/
def stepOk (d : Die) (w w1 w2 : Nat) : Bool :=
  match stepOp w with
  | 0x00 => bits w 17 0 == 0
  | 0x01 => bits w 16 0 != 0
  | 0x02 => bits w 17 0 == 0
  | 0x03 => bits w 17 12 != 0 && bits w 11 0 != 0
  | 0x08 => bits w 17 16 == 0
  | 0x09 => bits w 17 17 == 0 && bits w 15 8 == 0
  | 0x10 => bits w 17 3 == 0
  | 0x11 => bits w 17 9 == 0 && bits w 7 3 == 0
  | 0x12 => bits w 17 2 == 0 && bits w 1 0 != 3 && destOk false w1
  | 0x13 => bits w 17 16 == 0 && destOk true w1
  | 0x14 => bits w 17 16 == 0 && selectWordOk w2
  | 0x18 => bits w 17 13 == 0 && w1 != 0
  | 0x19 => bits w 17 11 != 0 && bits w 10 9 == 0 && (d == .n || bits w 8 8 == 0) && w1 != 0
  | 0x20 => bits w 7 1 == 0 && decide (bits w 15 12 + bits w 11 8 + 1 ≤ 16) && destOk false w1
  | 0x21 => bits w 17 4 == 0 && destOk false w1
  | 0x22 => bits w 17 3 == 0 && destOk false w1
  | _ => false

/-- A LOOP reaches back to the first word of an earlier step and encloses no other LOOP (R280). `starts` are the places of the
steps before it, `loops` those of the LOOPs. -/
def loopOk (i back : Nat) (starts loops : List Nat) : Bool :=
  decide (back ≤ i) && starts.contains (i - back) && loops.all fun j => decide (j < i - back)

/-- Walks the steps of a list from place i: each is known, allowed and in range, and END is the last word and only there
(R280). -/
def walkSteps (d : Die) (trap : Bool) (all : List Nat) : Nat → Nat → List Nat → List Nat → Bool
  | 0, _, _, _ => false
  | fuel + 1, i, starts, loops =>
    match all[i]? with
    | none => false
    | some w =>
      let op := stepOp w
      let n := stepLength op
      opAllowed d trap op && stepOk d w (all.getD (i + 1) 0) (all.getD (i + 2) 0) && decide (i + n ≤ all.length)
        && (if op = 0x00 then i + 1 == all.length
            else (op != 0x03 || loopOk i (bits w 11 0) starts loops)
              && walkSteps d trap all fuel (i + n) (i :: starts) (if op = 0x03 then i :: loops else loops))

/-- The lists of a die. -/
def listsOf : Die → List Nat
  | .f => List.range 64
  | .n => (List.range 64).map fun i => i + 64

/-- Action memory words that the location 0 lists of a die occupy, one list left out (R280). -/
def Node.memoryUsed (s : Node) (d : Die) (except : Nat) : Nat :=
  (listsOf d).foldl (fun n l =>
    let b := s.blob (listKey l)
    if l = except ∨ b = [] ∨ listLocation b ≠ 0 then n else n + listLength b) 0

/-- A list that may be written (R280). An empty BLOB leaves the list undefined (R278). -/
def Node.listOk (s : Node) (d : Die) (l : Nat) (bs : List Byte) : Bool :=
  let h := (wordsOf bs).getD 0 0
  let n := listLength bs
  (bs == []) ||
  (bits h 21 12 == 0 && decide (1 ≤ n) && decide (n ≤ 3072)
    && (match listLocation bs with
      | 0 => bs.length == 3 * (n + 1) && walkSteps d (l == trapList d) (stepsOf bs) (n + 1) 0 [] []
          && decide (s.memoryUsed d l + n ≤ 3072)
      | 1 => d == .f && bs.length == 6
      | 2 => d == .f && bs.length == 6
      | _ => false))

/-- An armed or running slot, or the running trap list, uses a list (R280). -/
def Node.listInUse (s : Node) (d : Die) (l : Nat) : Bool :=
  ((s.die d).seq.slots.any fun e => e.2.state != .free && e.2.list == l)
    || ((s.die d).seq.trap.any fun r => r.list == l)

/-! Launch slots. -/

/-- A slot of a die. -/
def Node.slot (s : Node) (d : Die) (i : Nat) : Slot := tget {} (s.die d).seq.slots i

/-- Sets a slot; a free slot is not listed. -/
def putSlot (d : Die) (i : Nat) (x : Slot) : Node → Node :=
  modSeq d fun q => { q with slots := if x.state == .free then tdel q.slots i else tput q.slots i x }

/-- The lowest free slot at or above a floor (R291). -/
def Node.freeSlot (s : Node) (d : Die) (floor : Nat) : Option Nat :=
  (List.range 32).find? fun i => decide (floor ≤ i) && (s.slot d i).state == .free

/-- The period of a slot in ticks (R290); 0 for a one-shot. -/
def periodTicks (w : Nat) : Nat := bits w 21 0 * (match bits w 23 22 with
  | 0 => 1
  | 1 => 256
  | _ => 65536)

/-- The late-arm limit of a die, in ticks (R291). -/
def Node.lateLimit (s : Node) (d : Die) : Nat :=
  msTicks (s.val (match d with
    | .n => 0x3041
    | .f => 0x3051))

/-- A launch time lies further in the past than the late-arm limit allows (R291). -/
def Node.tooLate (s : Node) (d : Die) (launch : T48) : Bool :=
  before launch (s.time d) && decide (s.lateLimit d < lateBy (s.time d) launch)

/-- The slot after a launch: a periodic slot with launches left is re-armed one period after the previous launch time, never
after the actual tick (R293). -/
def launched (x : Slot) (run : Run) : Slot :=
  let p := periodTicks x.period
  if p = 0 ∨ x.launches = 1 then { x with state := .running, run := run }
  else { x with state := .rearmed, run := run, launch := addTicks x.launch p, launches := x.launches - 1 }

/-- A slot whose launch does not take place: a one-shot becomes free, a periodic slot moves on by one period (R293). -/
def skipped (x : Slot) : Slot :=
  let p := periodTicks x.period
  if p = 0 then {} else { x with launch := addTicks x.launch p }

/-- A slot's launch time has come (R293): it launches in RUN; otherwise, or while its list still runs, the launch is
skipped. -/
def launchSlot (d : Die) (i : Nat) (late : Bool) (s : Node) : Node :=
  let x := s.slot d i
  match x.state with
  | .free => s
  | .running => s
  | .rearmed =>
    detect d (seqSource d) 1 (bump d blkSeq 2 1 (record d i x.list 16 x.launch 0 (putSlot d i (skipped x) s)))
  | .armed =>
    if s.devOf d == .run then
      let run : Run := { list := x.list, sched := x.launch, launch := x.launch, late := late }
      fetchAhead d (.slot (Fin.ofNat 32 i)) (onlyIf late (bump d blkSeq 0 1) (bump d blkSeq 0 0 (putSlot d i (launched x run) s)))
    else bump d blkSeq 2 0 (record d i x.list 4 x.launch 0 (putSlot d i (skipped x) s))

/-- Arms a slot. One whose launch time has passed launches at once, flagged LATE (R291). -/
def armSlot (d : Die) (i : Nat) (x : Slot) (s : Node) : Node :=
  let t := putSlot d i { x with state := .armed } s
  if before x.launch (s.time d) then launchSlot d i true t else t

/-- A slot is already armed with the same list and launch time (R298). -/
def Node.alreadyArmed (s : Node) (d : Die) (list : Nat) (launch : T48) : Bool :=
  (s.die d).seq.slots.any fun e => (e.2.state == .armed || e.2.state == .rearmed) && e.2.list == list && e.2.launch == launch

/-- What an arm BLOB spells (R290). -/
def slotOfBlob (bs : List Byte) : Slot :=
  { state := .armed
    list := fromLe (slice bs 1 1)
    launch := BitVec.ofNat 48 (fromLe (slice bs 2 6))
    period := fromLe (slice bs 8 3)
    launches := fromLe (slice bs 11 3)
    origin := 0 }

/-- The fields of an arm BLOB are in range (R290). -/
def armFieldsOk (bs : List Byte) : Bool :=
  let slot := fromLe (slice bs 0 1)
  let p := fromLe (slice bs 8 3)
  bs.length == 16 && (decide (slot < 32) || slot == 255) && bits p 23 22 != 3
    && (bits p 21 0 == 0 || decide (4096 ≤ periodTicks p)) && fromLe (slice bs 14 2) == 0

/-- A dictionary arm: the slot it arms, or its refusal (R290, R291). -/
def armCheck (d : Die) (bs : List Byte) (s : Node) : Except Nat Nat :=
  let named := fromLe (slice bs 0 1)
  let x := slotOfBlob bs
  let slot := if named = 255 then s.freeSlot d 0 else some named
  if bs.length == 16 && decide (named < 32) && (s.slot d named).state != .free then .error 0x14
  else if !armFieldsOk bs || !s.listDefined d x.list || s.tooLate d x.launch then .error 0x13
  else match slot with
    | none => .error 0x13
    | some i => .ok i

/-! Orders across the barrier (R296, R297). -/

/-- Sends an order to the other die; beyond 8 that await their answer it waits (R296). A torn crossing lets no order of a step
out of the sequencer (R240). -/
def sendOrder (d : Die) (floor list : Nat) (launch : T48) (fromStep : Option RunRef) (s : Node) : Node :=
  let c := (s.die d).clasp
  let o : Order := ⟨c.nextOrder, floor, list, launch, fromStep⟩
  let t := bump d blkSeq 5 0 (modClasp d (fun x => { x with nextOrder := (x.nextOrder + 1) % 32 }) s)
  if fromStep.isSome && s.seqTorn d then s
  else if c.orders.length < 8 then
    sendCtrl d (.act o.id floor list launch) (modClasp d (fun x => { x with orders := x.orders ++ [o] }) t)
  else modClasp d (fun x => { x with ordersWaiting := x.ordersWaiting ++ [o] }) t

/-- The answer to an order (R297): its outcome, and the slot it takes. A torn crossing shows the table as full (R240). -/
def orderOutcome (d : Die) (floor list : Nat) (s : Node) : Nat × Nat :=
  if s.devOf d == .boot || s.devOf d == .sealed then (3, 0)
  else if !s.listDefined d list then (2, 0)
  else if s.seqTorn d then (1, 0)
  else match s.freeSlot d floor with
    | none => (1, 0)
    | some i => (0, i)

/-- Answers an order, and remembers the last 16 answers (R182, R296). -/
def answerOrder (d : Die) (id : Nat) (late : Bool) (outcome : Nat) (s : Node) : Node :=
  sendCtrl d (.actAck id late outcome)
    (modClasp d (fun x => { x with answered := (x.answered ++ [(id, late, outcome)]).drop (x.answered.length - 15) }) s)

/-- An order arrives whole: it is acted on once, and a repeat gets the answer first given (R182, R297). -/
def takeOrder (d : Die) (id floor list : Nat) (launch : T48) (s : Node) : Node :=
  match (s.die d).clasp.answered.find? fun a => a.1 == id with
  | some a => sendCtrl d (.actAck id a.2.1 a.2.2) s
  | none =>
    let o := orderOutcome d floor list s
    let late := o.1 == 0 && before launch (s.time d)
    let t := if o.1 = 0 then armSlot d o.2 { list := list, launch := launch, origin := 3 } s else s
    answerOrder d id late o.1 (onlyIf late (bump d blkClasp 9 0) t)

/-! Triggers (R298). -/

/-- Arms the list a trigger names, or discards and counts the trigger; one for the other die becomes an order. A list that is
undefined, or already armed for that launch time, on whichever die holds it ends the trigger. `d` is the die it arrives on. -/
def takeTrigger (d : Die) (origin list : Nat) (launch : T48) (s : Node) : Node :=
  let st := s.devOf d
  let holder := listDie list
  if s.tooLate d launch || st == .boot || st == .sealed || !s.listDefined holder list || s.alreadyArmed holder list launch then
    bump d blkSeq 6 1 s
  else if holder != d then sendOrder d 0 list launch none (bump d blkSeq 6 2 s)
  else if s.seqTorn d then bump d blkSeq 6 1 s
  else match s.freeSlot d 0 with
    | none => bump d blkSeq 6 1 s
    | some i => bump d blkSeq 6 0 (armSlot d i { list := list, launch := launch, origin := origin } s)

/-! Steps. -/

/-- The words of a running list's steps: from action memory, or as fetched from a window. -/
def Node.runWords (s : Node) (run : Run) : List Nat :=
  let b := s.blob (listKey run.list)
  if listLocation b = 0 then stepsOf b else run.fetched

/-- The step a runner meets next, if it is of the given opcode and the runner neither waits in a JOIN nor has met its END: the run, and its
words. -/
def Node.stepAt (s : Node) (d : Die) (r : Runner) (op : Nat) : Option (Run × Nat × Nat × Nat) :=
  match s.run d r with
  | none => none
  | some run =>
    let ws := s.runWords run
    match ws[run.pc]? with
    | none => none
    | some w =>
      if stepOp w = op && !run.joining && !run.ending then some (run, w, ws.getD (run.pc + 1) 0, ws.getD (run.pc + 2) 0) else none

/-- The lateness tolerance of a die (R285). -/
def Node.tolerance (s : Node) (d : Die) : Nat :=
  s.val (match d with
    | .n => 0x3042
    | .f => 0x3052)

/-- A runner moves on within its list; a list in a window fetches further words (R301). -/
def advance (d : Die) (r : Runner) (g : Run → Run) (s : Node) : Node := fetchAhead d r (modRun d r g s)

/-- The lateness of a step under ACT_LATE (R535): no less than the delay of the slot that names its list. -/
def actLate (d : Die) (list late : Nat) (s : Node) : Node × Nat :=
  match s.filFind d filActLate fun t => t == list with
  | some i => if late < (s.filSlot i).b then (filEffect i s, (s.filSlot i).b) else (s, late)
  | none => (s, late)

/-- A step is issued: its lateness is recorded, the list moves past its words, and the schedule moves on by one tick. A LATE
first step makes the launch LATE, which is counted once (R283, R285). -/
def issueStep (d : Die) (r : Runner) (op lateness : Nat) (s : Node) : Node :=
  let e := actLate d (((s.run d r).map Run.list).getD 128) lateness s
  let late := e.2
  let isLate := decide (s.tolerance d < late)
  let first := (s.run d r).any fun run => !run.begun && !run.late
  onlyIf (isLate && first) (bump d blkSeq 0 1) <| onlyIf isLate (bump d blkSeq 0 2) <|
    bump d blkSeq 1 (if late = 0 then 0 else Nat.log2 late + 1) <|
    advance d r (fun run =>
      { run with
        pc := run.pc + stepLength op
        sched := run.sched + 1
        begun := true
        late := run.late || isLate
        maxLate := max run.maxLate late }) e.1

/-! Publication (R305). -/

/-- The image of a result object (R303). -/
def objectImage (x : ResultObject) : List Byte :=
  leBytes 6 x.time.toNat ++ leBytes 1 x.tag ++ leBytes 1 x.flags ++ leBytes 2 x.data.length ++ x.data

/-- The class 3 frames of a result image: 56 bytes of the body each (R139, R305). -/
def publishFrames (dest service : Nat) (image : List Byte) : List TxFrame :=
  let body := image.drop 7
  let count := (body.length + 55) / 56
  (pieces 56 count body).zipIdx.map fun (p, i) =>
    ⟨3, dest, service, i, none, false, image.take 7 ++ leBytes 1 (128 * b2n (decide (i + 1 < count))) ++ p⟩

/-- Transmit frames without a publication of an object that has not started, which is its frame 0 and all after it. Frames
that are left of one that has started stay (R305). -/
def dropUnstarted (service : Nat) : Bool → List TxFrame → List TxFrame
  | _, [] => []
  | met, f :: rest =>
    if f.cls == 3 && f.service == service && (met || f.tag == 0) then dropUnstarted service true rest
    else f :: dropUnstarted service met rest

/-- Publishes a result on CAN: it replaces an earlier publication of the object that has not started (R305). In compact mode
its frames are discarded and counted (R121). -/
def publishCan (die o : Nat) (image : List Byte) (s : Node) : Node :=
  let service := 8 * die + o
  let fs := publishFrames (s.val 0x3046) service image
  if s.val 0x1102 == 1 then txDiscard 3 2 fs.length s
  else
    let waiting := s.n.can.tx.any fun f => f.cls == 3 && f.service == service && f.tag == 0
    onlyIf waiting (bump .n blkSeq 7 3) (pushTx fs (modCan (fun c => { c with tx := dropUnstarted service false c.tx }) s))

/-- CLOSE with publish (R305): an N result is sent on CAN, an F result crosses to the N-die first. A torn crossing delivers none
(R240). -/
def publish (d : Die) (o : Nat) (s : Node) : Node :=
  let t := bump d blkSeq 7 2 s
  let image := objectImage (t.object d o)
  if s.seqTorn d then s
  else match d with
  | .n => publishCan 0 o image t
  | .f => sendData .f 3 (.published o image) t

end Sys2Proof.Machine
end

