-- ==== Sys2Proof/Machine/ClaspOps.lean ====
section
/-! DEFINITION. The loss of the Clasp, the direction agreement and the application of a direction change (R188 to R196, R204 to
R206, R571). -/

namespace Sys2Proof.Machine

open Sys2Proof

/-- Ends tunnel transactions that have no final response yet with REMOTE_TIMEOUT (R164, R571). -/
def endTunnels (s : Node) : Node :=
  let open_ := s.n.port.tunnels.filter fun k => s.n.port.held.any fun h => h.tag == k.tag && h.tunnel && !h.complete
  forEach open_ (fun k s => bump .n blkPort 7 4 (completePort k.tag 0x51 (leBytes 1 stRemote) s)) s

/-- A restore that is lost with the Clasp in its gather stage ends with REMOTE_TIMEOUT and has changed nothing (R105). -/
def endGather (s : Node) : Node :=
  match s.n.dict.run with
  | some (.gather _) =>
    let t := modDict (fun d => { d with run := none }) s
    match s.runningTxn 0xF001 with
    | some x => finish x.session x.tag stRemote [] t
    | none => t
  | _ => s

/-- What waits on the N-die for the F-die ends at LOST with REMOTE_TIMEOUT, because its frames were discarded (R86, R164, R571):
transactions, flushes, arms of F slots, a restore that gathers, tunnel transactions. Responses on their way to the Chain are
discarded and leave flight. -/
def endRemote (s : Node) : Node :=
  let waits := s.n.dict.txns.filter fun t => t.stage.atFar
  let routed := s.n.dict.txns.filter fun t => t.stage == .done && t.path == .chain
  let t0 := forEach waits (fun t s => finish t.session t.tag stRemote [] s) s
  let t1 := modBar (fun b => { b with flushWaits := [] }) (forEach s.n.bar.flushWaits (fun w s => finish w.1 w.2.1 stRemote [] s) t0)
  let t2 := forEach s.fil.waits (fun w s => finish w.2.1 w.2.2 stRemote [] s) { t1 with fil := { t1.fil with waits := [] } }
  endTunnels (endGather (forEach routed (fun t s => leaveFlight t.session t.tag s) t2))

/-- Discarded Chain frames of stream 2 are counted as dropped (R571). -/
def countDropped (d : Die) (s : Node) : Node :=
  let c := (s.die d).clasp
  let n := ((c.waiting ++ c.unacked).filter fun f => f.stream == 2).length
  countBy .f blkChain 2 2 n s

/-- A channel at LOST: its backlog is discarded (R191). -/
def Chan.lost (k : Chan) : Chan := { k with waiting := [], backlog := [], shifted := false, overflowed := false }

/-- A die reaches LOST (R571): it is no longer trained, every CTRL word and DATA frame not accepted is discarded, and source 8
is live (R569). A notified standby raises none (R522). -/
def loseLink (d : Die) (s : Node) : Node :=
  let s1 := modClasp d (fun x =>
    { x with
      link := .training, trained := false, lossSeen := !s.n.pow.notified
      ctrl := [], waiting := [], unacked := [], delayed := [], credits := 0, owed := 0, heldCredits := 0
      ackOwed := false, nakOwed := false, discarding := false, nakRun := 0
      rateAgreement := none, rateRetry := none, rateSwitchDue := none, switching := none }) (countDropped d s)
  let s2 := settlePins d (modCh d fun x => { x with chans := x.chans.map fun e => (e.1, e.2.lost) }) s1
  let s3 := modF (fun f => { f with inbox := [] }) (onlyIf (!s.n.pow.notified) (setCond d 8 true 0) (endRecal d s2))
  match d with
  | .n => endRemote s3
  | .f => modFol (fun x => if x.state == .aligned then { x with state := .holdover } else x) s3

/-- A die enters OUTAGE (R188): a rate agreement that has not switched is void (R195), and the follower is in holdover
(R189). -/
def enterOutage (d : Die) (s : Node) : Node :=
  if (s.die d).clasp.link == .up then
    let t := modClasp d (fun x => { x with link := .outage, rateAgreement := none, rateSwitchDue := none }) s
    onlyIf (d == .f) (modFol fun x => if x.state == .aligned then { x with state := .holdover } else x) t
  else s

/-! Direction and upper group (R204 to R206). -/

/-- Puts a CONFIG word of the present agreement: 0 propose, 1 accept, 2 commit, 3 refuse. -/
def sendConfig (d : Die) (phase : Nat) (s : Node) : Node :=
  sendCtrl d (.config phase s.n.agree.map s.n.agree.upper s.n.agree.number) s

/-- Starts an agreement: its number is the previous one plus 1, modulo 256 (R204). -/
def startAgreement (key map : Nat) (upper adoption : Bool) (txn : Option (Nat × Nat)) (s : Node) : Node :=
  sendConfig .n 0 (modN (fun n =>
    { n with agree :=
      { n.agree with
        number := (n.agree.number + 1) % 256, phase := .proposed, map := map, upper := upper, proposes := 1
        txn := txn, adoption := adoption, key := key } }) s)

/-- Answers the write that waits for an agreement, if one still does. -/
def answerAgreement (status : Nat) (s : Node) : Node :=
  match s.n.agree.txn with
  | some t => finish t.1 t.2 status [] (modN (fun n => { n with agree := { n.agree with txn := none } }) s)
  | none => s

/-- Ends an agreement with an outcome of R220, counted on the N-die (R223). -/
def endAgreement (outcome : Nat) (s : Node) : Node :=
  bump .n blkCh 6 (outcome - 1) (modN (fun n => { n with agree := { n.agree with phase := .idle, outcome := outcome } }) s)

/-- A channel that has become an input: capture starts at once, and the bit of a timed input acts again, from level 0 (R206,
R288). -/
def Chan.toInput (timed : Bool) (k : Chan) : Chan :=
  { k with
    waiting := [], backlog := [], shifted := false, sent := !timed && k.pinIn, timedLevel := false
    fresh := false, freshExpired := false }

/-- A channel that has become an output: events not yet sent are discarded, and it waits at its power-up level for an agreeing
REFRESH (R206). -/
def Chan.toOutput (k : Chan) : Chan :=
  { k with
    waiting := [], backlog := [], shifted := false, replay := 0
    refreshed := false, fresh := true, freshExpired := false, waitExpired := false }

/-- Applies a map and upper-group function to a die's pins (R206). Channels whose direction does not change carry on. -/
def applyDirection (d : Die) (map : Nat) (upper : Bool) (s : Node) : Node :=
  let before := s
  settlePins d (fun s =>
    forEach eight (fun c s =>
      let now := before.role d c
      let next := roleUnder map upper d c
      if now = next then s
      else if next = 1 then modChan d c (Chan.toInput ((before.die d).ch.timed.getLsbD c)) s
      else if next = 2 then countBy d blkClasp 4 0 (s.chan d c).waiting.length (modChan d c Chan.toOutput s)
      else modChan d c (fun k => { k with waiting := [], backlog := [], shifted := false }) s)
      (modCh d (fun x => { x with map := map, upper := upper, changeDue := none }) s)) s

end Sys2Proof.Machine
end

