-- ==== Sys2Proof/Machine/Clasp.lean ====
section
/-! DEFINITION. The Clasp: synthesisers, outages and loss, credits, margin and rate, orders (R173 to R201, R296, R297). -/

namespace Sys2Proof.Machine

open Sys2Proof

/-! Received words. -/

/-- Counts a corrected or uncorrectable word of a die's receiver (K:2114, K:2115, R200). -/
def countWord (d : Die) (c : WordCheck) (s : Node) : Node :=
  match c with
  | .clean => s
  | .corrected => bump d blkClasp 3 0 (modClasp d (fun x => { x with corrected := satAdd 4095 x.corrected 1 }) s)
  | .uncorrectable => bump d blkClasp 3 1 (modClasp d (fun x => { x with uncorrectable := satAdd 4095 x.uncorrectable 1 }) s)

/-- A die's receiver takes words: it is up, and the Clasp is UP on it (R175, R569). -/
def Node.receives (s : Node) (d : Die) : Bool := s.up d && (s.die d).clasp.link == .up

/-- A die's hub takes words from its Clasp half: the crossing between them is whole (R228, R240). -/
def Node.hubReceives (s : Node) (d : Die) : Bool := s.receives d && !s.claspTorn d

/-! Synthesiser and outages (R187 to R191). -/

/-- The worse of two judgements of a word. -/
def worseWord (a b : WordCheck) : WordCheck :=
  match a, b with
  | .uncorrectable, _ => .uncorrectable
  | _, .uncorrectable => .uncorrectable
  | .corrected, _ => .corrected
  | _, .corrected => .corrected
  | .clean, .clean => .clean

/-- A word that a die receives, as CLASP_ERR of its sender leaves it: classes 1 EDGE, 2 CTRL and 3 DATA (R535). -/
def perturbed (d : Die) (cls : Nat) (s : Node) : Node × WordCheck :=
  let r := filWord (otherDie d) cls s
  (r.1, if r.2 = 0 then .clean else if r.2 = 1 then .corrected else .uncorrectable)

/-- A CTRL word that a die receives under CLASP_ERR (R535): one inverted bit is corrected, and a word with two is discarded
(R175). -/
def ctrlWord (d : Die) (g : Node → Node) (s : Node) : Node :=
  if s.receives d then
    let r := perturbed d 2 s
    match r.2 with
    | .clean => g r.1
    | .corrected => g (countWord d .corrected r.1)
    | .uncorrectable => countWord d .uncorrectable r.1
  else g s

/-- R188: a loss of lock raises source 9, and the die enters OUTAGE at once. -/
def doSynthLockLoss (d : Die) (s : Node) : Node :=
  if s.up d && (s.die d).clasp.synth == .locked then
    detect d 9 0 (enterOutage d (bump d blkIsl 5 0 (bump d blkClasp 1 0 (bump d blkClasp 0 0
      (modClasp d (fun x => { x with synth := .calibrating }) s)))))
  else s

def execSynthLockLoss (d : Die) (s : State) : Host.Outcome State Fault Refusal := s.run (doSynthLockLoss d)

/-- R187: calibration done; SETTLING begins. -/
def doSynthCalibrationDone (d : Die) (s : Node) : Node :=
  if (s.die d).clasp.synth == .calibrating then modClasp d (fun x => { x with synth := .settling }) s else s

def execSynthCalibrationDone (d : Die) (s : State) : Host.Outcome State Fault Refusal := s.run (doSynthCalibrationDone d)

/-- R187: lock reached. A die in OUTAGE whose synthesiser is LOCKED sends TRAIN step 3 (R188). -/
def doSynthLockReached (d : Die) (s : Node) : Node :=
  if (s.die d).clasp.synth == .settling then bump d blkIsl 5 1 (modClasp d (fun x => { x with synth := .locked }) s) else s

def execSynthLockReached (d : Die) (s : State) : Host.Outcome State Fault Refusal := s.run (doSynthLockReached d)

/-- R188: no clean or corrected word for 32 word periods. -/
def doOutageDetect (d : Die) (s : Node) : Node := if s.up d then enterOutage d s else s

def execOutageDetect (d : Die) (s : State) : Host.Outcome State Fault Refusal := s.run (doOutageDetect d)

/-- The bin of an outage's duration in µs (R200). -/
def outageBin (us : Nat) : Nat := if us < 16 then 0 else if us < 32 then 1 else 2

/-- A channel at resumption (R190, R191): a backlog is sent with its spacing while the channel is shifted; one that
overflowed runs from the present input level. -/
def Chan.resume (level : Bool) (k : Chan) : Chan :=
  if k.overflowed then { k with sent := level, backlog := [], waiting := [], overflowed := false }
  else { k with waiting := k.waiting ++ k.backlog, shifted := k.backlog != [], backlog := [] }

/-- R188: 16 consecutive step 3 words end the outage. Shifted channels are counted, overflowed ones are forced with origin 5,
and DATA goes on where the line and the credits allow. -/
def doOutageResume (d : Die) (lasted : Nat) (s : Node) : Node :=
  let c := (s.die d).clasp
  if c.link == .outage && c.synth == .locked then
    let lost := maskOf fun i => (s.chan d i).overflowed
    let shifted := (eight.filter fun i => (s.chan d i).backlog != [] && !(s.chan d i).overflowed).length
    let s1 := modClasp d (fun x => { x with link := .up, switching := none }) s
    let s2 := forEach eight (fun i t => modChan d i (Chan.resume (s.inputLevel d i)) t) s1
    let s3 := countBy d blkClasp 7 0 shifted (bump d blkClasp 2 (outageBin lasted) s2)
    pumpData .f (pumpData .n (endRecal d (onlyIf (lost != 0) (setForce d 5 lost) s3)))
  else s

def execOutageResume (d : Die) (lasted : Nat) (s : State) : Host.Outcome State Fault Refusal := s.run (doOutageResume d lasted)

/-- R188: an outage that has lasted 64 µs ends in LOST. -/
def doOutageLost (d : Die) (s : Node) : Node :=
  if s.up d && (s.die d).clasp.link == .outage then loseLink d (bump d blkClasp 2 3 s) else s

def execOutageLost (d : Die) (s : State) : Host.Outcome State Fault Refusal := s.run (doOutageLost d)

/-- R184: training step 0 words from the far die put this die into LOST. -/
def doLostStep0Received (d : Die) (s : Node) : Node :=
  let l := (s.die d).clasp.link
  if s.up d && (l == .up || l == .outage) then loseLink d s else s

def execLostStep0Received (d : Die) (s : State) : Host.Outcome State Fault Refusal := s.run (doLostStep0Received d)

/-- R190: a shifted channel whose input is stable and whose backlog has been sent returns to delay D. -/
def doShiftEnd (d : Die) (ch : Fin 8) (s : Node) : Node :=
  let k := s.chan d ch
  if k.shifted && k.waiting.isEmpty then modChan d ch (fun k => { k with shifted := false }) s else s

def execShiftEnd (d : Die) (ch : Fin 8) (s : State) : Host.Outcome State Fault Refusal := s.run (doShiftEnd d ch)

/-- R191: the fail-safe timeout plus 1 µs after resumption, the die clears origin 5. -/
def doOverflowForceClear (d : Die) (s : Node) : Node := if s.up d then setForce d 5 0 s else s

def execOverflowForceClear (d : Die) (s : State) : Host.Outcome State Fault Refusal := s.run (doOverflowForceClear d)

/-! Orders (R182, R296, R297). -/

/-- R297: a complete order is acted on and answered; one whose parts arrive incomplete is discarded (R182). -/
def doAct (d : Die) (id floor list : Nat) (launch : T48) (complete : Bool) (s : Node) : Node :=
  if s.hubReceives d && complete then
    takeOrder d id floor list launch (gotCtrl (otherDie d) (.act id floor list launch) s)
  else s

def execAct (d : Die) (id floor list : Nat) (launch : T48) (complete : Bool) (s : State) :
    Host.Outcome State Fault Refusal := s.run (ctrlWord d (doAct d id floor list launch complete))

/-- Sends every order that awaits its answer again (R182, R571). -/
def repeatOrders (d : Die) (s : Node) : Node :=
  forEach (s.die d).clasp.orders (fun o s => sendCtrl d (.act o.id o.floor o.list o.launch) s) s

/-- R182: an unacknowledged order is repeated. -/
def doActRepeat (d : Die) (s : Node) : Node := if s.up d then repeatOrders d s else s

def execActRepeat (d : Die) (s : State) : Host.Outcome State Fault Refusal := s.run (doActRepeat d)

/-- An order that waited takes a place among the 8 (R296). -/
def promoteOrder (d : Die) (s : Node) : Node :=
  match (s.die d).clasp.ordersWaiting with
  | [] => s
  | o :: rest =>
    sendCtrl d (.act o.id o.floor o.list o.launch)
      (modClasp d (fun x => { x with orders := x.orders ++ [o], ordersWaiting := rest }) s)

/-- R297: an ACT_ACK completes the ARM step that sent the order, or fails it with outcomes 1 to 3. -/
def doActAck (d : Die) (id : Nat) (late : Bool) (outcome : Nat) (s : Node) : Node :=
  if s.hubReceives d then
    let s0 := gotCtrl (otherDie d) (.actAck id late outcome) s
    match (s.die d).clasp.orders.find? fun o => o.id == id with
    | none => s0
    | some o =>
      let s1 := promoteOrder d (bump d blkSeq 5 (1 + outcome) (modClasp d (fun x => { x with orders := x.orders.erase o }) s0))
      match o.fromStep with
      | none => s1
      | some r => endOutstanding d r (if outcome = 0 then s1 else failStep d r 0x18 s1)
  else s

def execActAck (d : Die) (id : Nat) (late : Bool) (outcome : Nat) (s : State) : Host.Outcome State Fault Refusal :=
  s.run (ctrlWord d (doActAck d id late outcome))

/-! Margin loop and rate (R193 to R196). -/

/-- The swing cap of a die's transmitter: K:2102 or K:2103 (R194). -/
def Node.swingCap (s : Node) (d : Die) : Nat :=
  s.val (match d with
    | .n => 0x2102
    | .f => 0x2103)

/-- K:2106 is 1: both transmitters keep their swing and equalisation (R194). -/
def Node.marginFrozen (s : Node) : Bool := s.val 0x2106 == 1

/-- R193: the transmitter of die d applies the lower of the wanted swing and its cap, and the wanted equalisation; wanted
values are recorded (K:2112, K:2113). -/
def doMargin (d : Die) (swing equalisation : Nat) (atTarget : Bool) (width height : Nat) (s : Node) : Node :=
  if s.receives d then
    modClasp d (fun x =>
      { x with
        wantedSwing := swing
        wantedEq := equalisation
        swing := if s.marginFrozen then x.swing else min swing (s.swingCap d)
        eq := if s.marginFrozen then x.eq else equalisation })
      (gotCtrl (otherDie d) (.margin swing equalisation atTarget width height) s)
  else s

def execMargin (d : Die) (swing equalisation : Nat) (atTarget : Bool) (width height : Nat) (s : State) :
    Host.Outcome State Fault Refusal := s.run (ctrlWord d (doMargin d swing equalisation atTarget width height))

/-- The wanted swing and equalisation after a report (R193): below the target equalisation rises first, then swing; more than
8/64 UI above it swing falls first, then equalisation. -/
def wantedNext (target width swing eq : Nat) : Nat × Nat :=
  if width < target then (if eq < 3 then (swing, eq + 1) else (min 7 (swing + 1), eq))
  else if target + 8 < width then (if 0 < swing then (swing - 1, eq) else (swing, eq - 1))
  else (swing, eq)

/-- The far transmitter sends at its cap with equalisation 3, or is frozen (R195, R196). -/
def Node.atLimit (s : Node) (d : Die) : Bool :=
  let far := (s.die (otherDie d)).clasp
  s.marginFrozen || (far.swing == s.swingCap (otherDie d) && far.eq == 3)

/-- Sends a RATE request under a new agreement number (R181, R195). -/
def requestRate (d : Die) (half : Bool) (s : Node) : Node :=
  let n := ((s.die d).clasp.rateNumber + 1) % 256
  sendCtrl d (.rate (if half then 0 else 2) n)
    (modClasp d (fun x => { x with rateNumber := n, rateAgreement := some (n, half), rateRetry := none }) s)

/-- The limit of R195 is reached: under ALLOW_HALF at full rate the die asks for half rate; otherwise its source 7 is live. -/
def limitReached (d : Die) (s : Node) : Node :=
  let c := (s.die d).clasp
  if s.val 0x2104 == 1 && !c.half then
    (if c.rateAgreement.isNone && c.rateRetry.isNone && c.rateSwitchDue.isNone then requestRate d true s else s)
  else setCond d 7 true 0 s

/-- R182, R193: a receiver measures its eye and reports it with the swing and equalisation it wants. Ten reports in a row
below the target at the limit reach the limit of R195. -/
def doMarginSend (d : Die) (width height : Nat) (s : Node) : Node :=
  if s.receives d then
    let target := s.val 0x2105
    let below := decide (width < target)
    let limit := below && s.atLimit d
    let c := (s.die d).clasp
    let want := wantedNext target width c.askSwing c.askEq
    let n := if limit then c.limitCount + 1 else 0
    let t := sendCtrl d (.margin want.1 want.2 (!below) width height) (bump d blkClasp 11 (width / 4)
      (modClasp d (fun x =>
        { x with
          width := width, height := height, below := below, askSwing := want.1, askEq := want.2, limitCount := n }) s))
    if 10 ≤ n then limitReached d t else onlyIf (!limit) (setCond d 7 false 0) t
  else s

def execMarginSend (d : Die) (width height : Nat) (s : State) : Host.Outcome State Fault Refusal :=
  s.run (doMarginSend d width height)

/-- Answers a rate request: accept, and the switch is due on this die; refuse while a direction or upper-group agreement is in
progress (R195). -/
def answerRate (d : Die) (half : Bool) (n : Nat) (s : Node) : Node :=
  if s.agreeing then sendCtrl d (.rate 3 n) s
  else sendCtrl d (.rate 1 n) (modClasp d (fun x => { x with rateSwitchDue := some half }) s)

/-- R195: a request for half rate is accepted or refused. -/
def doRateRequestHalf (d : Die) (n : Nat) (s : Node) : Node :=
  if s.hubReceives d then answerRate d true n (gotCtrl (otherDie d) (.rate 0 n) s) else s

def execRateRequestHalf (d : Die) (n : Nat) (s : State) : Host.Outcome State Fault Refusal := s.run (ctrlWord d (doRateRequestHalf d n))

/-- R196: a request for full rate is answered as one for half rate. -/
def doRateRequestFull (d : Die) (n : Nat) (s : Node) : Node :=
  if s.hubReceives d then answerRate d false n (gotCtrl (otherDie d) (.rate 2 n) s) else s

def execRateRequestFull (d : Die) (n : Nat) (s : State) : Host.Outcome State Fault Refusal := s.run (ctrlWord d (doRateRequestFull d n))

/-- R195: an accept makes the switch due on the die that asked. -/
def doRateAccept (d : Die) (n : Nat) (s : Node) : Node :=
  if s.hubReceives d then
    let t := gotCtrl (otherDie d) (.rate 1 n) s
    match (s.die d).clasp.rateAgreement with
    | some (m, half) =>
      if m = n then modClasp d (fun x => { x with rateAgreement := none, rateSwitchDue := some half }) t else t
    | none => t
  else s

def execRateAccept (d : Die) (n : Nat) (s : State) : Host.Outcome State Fault Refusal := s.run (ctrlWord d (doRateAccept d n))

/-- R195: a refused request is to be made again. -/
def doRateRefuse (d : Die) (n : Nat) (s : Node) : Node :=
  if s.hubReceives d then
    let t := gotCtrl (otherDie d) (.rate 3 n) s
    match (s.die d).clasp.rateAgreement with
    | some (m, half) => if m = n then modClasp d (fun x => { x with rateAgreement := none, rateRetry := some half }) t else t
    | none => t
  else s

def execRateRefuse (d : Die) (n : Nat) (s : State) : Host.Outcome State Fault Refusal := s.run (ctrlWord d (doRateRefuse d n))

/-- R195: 160 µs after the refusal the request is sent again. -/
def doRateRequestRetry (d : Die) (s : Node) : Node :=
  if s.receives d then
    match (s.die d).clasp.rateRetry with
    | some half => requestRate d half s
    | none => s
  else s

def execRateRequestRetry (d : Die) (s : State) : Host.Outcome State Fault Refusal := s.run (doRateRequestRetry d)

/-- One die's part of a rate switch: SETTLING without calibrating, as an outage (R195). The limit is judged afresh. -/
def switchRate (d : Die) (half : Bool) (s : Node) : Node :=
  bump d blkClasp 13 (if half then 0 else 1)
    (modClasp d (fun x =>
      { x with synth := .settling, half := half, switching := some half, rateSwitchDue := none, limitCount := 0 })
      (enterOutage d s))

/-- R195: 16 groups after the accept both dies switch. -/
def doRateSwitch (s : Node) : Node :=
  match s.n.clasp.rateSwitchDue, s.f.clasp.rateSwitchDue with
  | some a, some b => if a == b && s.linkUp then switchRate .f a (switchRate .n a s) else s
  | _, _ => s

def execRateSwitch (s : State) : Host.Outcome State Fault Refusal := s.run doRateSwitch

/-! Credits (R184). -/

/-- Frames after the one that a CREDIT names as the last accepted in order: those not yet accepted. A name that is not among
the frames held accepts none of them. -/
def afterAccepted (last : Nat) : List DataFrame → List DataFrame
  | l => if l.any fun f => f.seq == last then (l.dropWhile fun f => f.seq != last).tail else l

/-- R184: a CREDIT returns credits and names the last frame accepted; a NAK makes every later frame go again. -/
def doCredit (d : Die) (returned : Nat) (nak : Bool) (last : Nat) (s : Node) : Node :=
  if s.receives d then
    let left := afterAccepted last (s.die d).clasp.unacked
    let again := if nak then left.length else 0
    pumpData d (countBy d blkClasp 8 2 again (modClasp d (fun x =>
      { x with
        credits := min 32 (x.credits + returned)
        unacked := left
        repeats := satAdd 4095 x.repeats again })
      (gotCtrl (otherDie d) (.credit returned nak last) s)))
  else s

def execCredit (d : Die) (returned : Nat) (nak : Bool) (last : Nat) (s : State) : Host.Outcome State Fault Refusal :=
  s.run (ctrlWord d (doCredit d returned nak last))

/-- R184: four NAKs in a row that name the same sequence: source 7, LOST at once, counted. -/
def nakTrip (d : Die) (s : Node) : Node := loseLink d (bump d blkClasp 14 0 (detect d 7 0 s))

/-- R182: a die sends CREDIT while credits or acknowledgements are owed. A NAK is counted. -/
def doCreditSend (d : Die) (s : Node) : Node :=
  let c := (s.die d).clasp
  if s.receives d && (decide (0 < c.owed) || c.ackOwed || c.nakOwed) then
    let t := sendCtrl d (.credit (min 32 c.owed) c.nakOwed ((c.rxSeq + 255) % 256))
      (onlyIf c.nakOwed (bump d blkClasp 8 1) (modClasp d (fun x =>
        { x with
          owed := 0, ackOwed := false, nakOwed := false
          naks := if c.nakOwed then satAdd 4095 x.naks 1 else x.naks
          nakRun := if c.nakOwed then x.nakRun + 1 else x.nakRun }) s))
    if c.nakOwed && decide (4 ≤ c.nakRun + 1) then nakTrip d t else t
  else s

def execCreditSend (d : Die) (s : State) : Host.Outcome State Fault Refusal := s.run (doCreditSend d)

end Sys2Proof.Machine
end

