-- ==== Sys2Proof/Machine/Channels.lean ====
section
/-! DEFINITION. Direct channels: edges, refresh, the fail-safe timers, forced states and the direction agreement (R178 to R182,
R202 to R217). -/

namespace Sys2Proof.Machine

open Sys2Proof

/-! Edges (R178, R179, R203, R207). -/

/-- R207: an edge at an input pin is timestamped and queued; the pin of a timed input is ignored (R288). -/
def doEdgeCapture (d : Die) (ch : Fin 8) (at_ : Nat) (s : Node) : Node :=
  if s.up d then
    let t := modChan d ch (fun k => { k with pinIn := !k.pinIn }) s
    if s.role d ch == 1 && !(s.die d).ch.timed.getLsbD ch then captureEdge d ch at_ t else t
  else s

def execEdgeCapture (d : Die) (ch : Fin 8) (at_ : Nat) (s : State) : Host.Outcome State Fault Refusal :=
  s.run (doEdgeCapture d ch at_)

/-- The receiving die uses a channel only while the sending die's REFRESH mask agrees with its own map (R203). -/
def Node.agrees (s : Node) (d : Die) (c : Nat) : Bool := s.role d c == 2 && (s.die d).clasp.farMask.getLsbD c

/-- An event has left in a word: the sending die's sent level follows it (R210). -/
def eventSent (d : Die) (c : Nat) : Node → Node := modChan d c fun k => { k with waiting := k.waiting.tail, sent := !k.sent }

/-- An event arrives: it toggles the scheduled level and waits for its replay instant; age 2 or more is late (R179, R208). One
for a channel on which the dies disagree is ignored and counted (R203). -/
def takeEvent (d : Die) (e : EdgeEvent) (s : Node) : Node :=
  if s.agrees d e.channel then
    onlyIf (decide (2 ≤ e.age)) (fun s => bump d blkCh 5 0 (bump d blkClasp 5 0 s))
      (modChan d e.channel (fun k => { k with scheduled := !k.scheduled, replay := k.replay + 1 }) s)
  else bump d blkCh 4 0 s

/-- R179: an EDGE word arrives with one or two events. Those of an uncorrectable word are lost and counted (R175), as are those
that go to a receiver in an outage of its own (R189). -/
def doEdgeWord (d : Die) (check : WordCheck) (first : EdgeEvent) (second : Option EdgeEvent) (s : Node) : Node :=
  if s.receives d then
    let es := first :: second.toList
    let r := perturbed d 1 s
    let seen := worseWord check r.2
    let t := forEach es (fun e s => eventSent (otherDie d) e.channel s) (countWord d seen r.1)
    match seen with
    | .uncorrectable => countBy d blkClasp 4 0 es.length t
    | .clean => forEach es (takeEvent d) t
    | .corrected => forEach es (takeEvent d) t
  else if s.up d && (s.die d).clasp.link == .outage && s.receives (otherDie d) then
    let es := first :: second.toList
    countBy d blkClasp 4 0 es.length (forEach es (fun e s => eventSent (otherDie d) e.channel s) s)
  else s

def execEdgeWord (d : Die) (check : WordCheck) (first : EdgeEvent) (second : Option EdgeEvent) (s : State) :
    Host.Outcome State Fault Refusal := s.run (doEdgeWord d check first second)

/-- R179: a received event is replayed: the shadow level follows it (R211). -/
def doEdgeReplay (d : Die) (ch : Fin 8) (s : Node) : Node :=
  if 0 < (s.chan d ch).replay then
    modChan d ch (fun k => { k with shadow := !k.shadow, replay := k.replay - 1 }) s
  else s

def execEdgeReplay (d : Die) (ch : Fin 8) (s : State) : Host.Outcome State Fault Refusal := s.run (doEdgeReplay d ch)

/-! Refresh (R210 to R212). -/

/-- One channel at a REFRESH (R203, R206, R210): the first since training or since the channel became an output gives its
level; a later one repairs a difference. -/
def refreshChannel (d : Die) (mask levels : Mask) (c : Nat) (s : Node) : Node :=
  let k := s.chan d c
  let level := levels.getLsbD c
  if s.role d c == 2 && mask.getLsbD c then
    if !k.refreshed then
      modChan d c (fun k =>
        { k with
          refreshed := true, fresh := false, freshExpired := false, waitExpired := false
          scheduled := level, shadow := level, replay := 0 }) s
    else if k.scheduled != level then
      bump d blkCh 0 c (modChan d c (fun k =>
        { k with scheduled := level, shadow := !k.shadow, repairs := satAdd 4095 k.repairs 1 }) s)
    else s
  else if mask.getLsbD c then bump d blkCh 4 0 s
  else s

/-- The bin of a fail-safe timeout's duration: below 10 µs, to 1 ms, longer (R223). -/
def timeoutBin (ticks : Nat) : Nat := if ticks < usTicks 10 then 0 else if ticks < msTicks 1 then 1 else 2

/-- R210, R212: a clean or corrected REFRESH restarts the fail-safe timer, ends a timeout, and gives the levels. -/
def doRefresh (d : Die) (check : WordCheck) (count : Nat) (mask levels : Mask) (s : Node) : Node :=
  if s.receives d then
    let r := perturbed d 2 s
    let seen := worseWord check r.2
    let t := countWord d seen r.1
    match seen with
    | .uncorrectable => t
    | .clean | .corrected =>
      let x := (s.die d).ch
      let gap := match (s.die d).clasp.farCount with
        | some p => (p + 1) % 8 != count
        | none => false
      let s1 := modClasp d (fun c => { c with farMask := mask, farCount := some count })
        (onlyIf gap (bump d blkCh 1 0) (gotCtrl (otherDie d) (.refresh count mask levels) t))
      let s2 := onlyIf x.timedOut (bump d blkCh 2 (timeoutBin (lateBy (s.time d) x.timedOutAt))) s1
      setCond d 10 false 0 (settlePins d (fun s =>
        forEach eight (refreshChannel d mask levels) (modCh d (fun x => { x with timer := true, timedOut := false }) s)) s2)
  else s

def execRefresh (d : Die) (check : WordCheck) (count : Nat) (mask levels : Mask) (s : State) :
    Host.Outcome State Fault Refusal := s.run (doRefresh d check count mask levels)

/-- R182: a die sends REFRESH with the channels it drives and their sent levels. -/
def doRefreshSend (d : Die) (s : Node) : Node :=
  if s.receives d then
    let n := (s.die d).clasp.refreshCount
    sendCtrl d (.refresh n (s.inputs d) (s.inputs d &&& maskOf fun c => (s.chan d c).sent))
      (modClasp d (fun x => { x with refreshCount := (n + 1) % 8 }) s)
  else s

def execRefreshSend (d : Die) (s : State) : Host.Outcome State Fault Refusal := s.run (doRefreshSend d)

/-- R212: no REFRESH for the time of K:2004: every output takes its fail-safe choice, and source 10 is raised. -/
def doFailsafeTimeout (d : Die) (s : Node) : Node :=
  let x := (s.die d).ch
  if s.up d && x.timer && !x.timedOut then
    setCond d 10 true 0 (settlePins d (modCh d fun x => { x with timedOut := true, timedOutAt := s.time d }) s)
  else s

def execFailsafeTimeout (d : Die) (s : State) : Host.Outcome State Fault Refusal := s.run (doFailsafeTimeout d)

/-- R206: the own timer of a new output expires before an agreeing REFRESH. -/
def doNewOutputTimerExpiry (d : Die) (ch : Fin 8) (s : Node) : Node :=
  let k := s.chan d ch
  if s.up d && s.role d ch == 2 && k.fresh && !k.freshExpired then
    detect d 10 0 (settlePins d (modChan d ch fun k => { k with freshExpired := true }) s)
  else s

def execNewOutputTimerExpiry (d : Die) (ch : Fin 8) (s : State) : Host.Outcome State Fault Refusal :=
  s.run (doNewOutputTimerExpiry d ch)

/-! Forced states (R182, R214, R215). -/

/-- R215: a received FORCE applies or releases an origin's mask. On the F-die, SAFE_HOLD starts at the first FORCE with origin
3 (R101). -/
def doForceWord (d : Die) (origin : Nat) (mask : Mask) (s : Node) : Node :=
  if s.receives d && decide (origin ≤ 5) then
    let t := takeForce d origin mask (gotCtrl (otherDie d) (.force origin mask) s)
    if d == .f && origin == 3 && mask != 0 then enterHold .f t else t
  else s

def execForceWord (d : Die) (origin : Nat) (mask : Mask) (s : State) : Host.Outcome State Fault Refusal :=
  s.run (ctrlWord d (doForceWord d origin mask))

/-- Repeats one origin's FORCE: while its mask is not zero, and in the 4 refresh periods after (R182). -/
def repeatForce (d : Die) (o : Nat) (s : Node) : Node :=
  let x := (s.die d).ch
  let m := tget 0 x.own o
  let left := tget 0 x.repeatLeft o
  if m != 0 then sendCtrl d (.force o m) s
  else if left = 0 then s
  else sendCtrl d (.force o 0) (modCh d (fun x => { x with repeatLeft := tset 0 x.repeatLeft o (left - 1) }) s)

/-- R182: force masks are repeated once per refresh period. -/
def doForceRepeat (d : Die) (s : Node) : Node := if s.receives d then forEach origins (repeatForce d) s else s

def execForceRepeat (d : Die) (s : State) : Host.Outcome State Fault Refusal := s.run (doForceRepeat d)

/-! The direction agreement (R204 to R206). -/

/-- A profile word has 8 lanes in some phase (R390). -/
def profileEight (w : Nat) : Bool := bits w 9 8 == 3 || bits w 7 6 == 3 || bits w 5 4 == 3

/-- A lane word of K:7013 has 8 lanes in some phase (R402). -/
def lanesEight (w : Nat) : Bool := bits w 5 4 == 3 || bits w 3 2 == 3 || bits w 1 0 == 3

/-- A window's key: the first of a pair for window 0, the second for window 1 (R403). -/
def windowKey (window key : Nat) : Nat := key + 16 * window

/-- The window that the program job in flight names. -/
def Node.jobWindow (s : Node) : Nat := (s.f.fport.job.map fun j => j.window).getD 0

/-- An F-port transaction is using F_DQ4 to F_DQ7: a phase of it has 8 lanes (R204, R383). -/
def Node.dqInUse (s : Node) : Bool :=
  match s.f.fport.current with
  | some now =>
    match now.work with
    | .stored .. => lanesEight (s.valAt 0x7013 now.target)
    | .tunnel _ => lanesEight (s.valAt 0x7013 now.target)
    | .windowRead _ _ w .. => profileEight (s.val (windowKey w 0x7104))
    | .fetch _ w .. => profileEight (s.val (windowKey w 0x7104))
    | .page data => data && profileEight (s.val (windowKey s.jobWindow 0x7105))
    | .eraseCmd data => data && profileEight (s.val (windowKey ((s.f.fport.erase.map fun e => e.window).getD 0) 0x7105))
    | .sfdp _ => false
  | none => false

/-- The F-die has a RATE agreement in progress (R204). -/
def Node.rateInProgress (s : Node) : Bool := s.f.clasp.rateAgreement.isSome || s.f.clasp.rateSwitchDue.isSome

/-- R204, R205: the F-die answers a propose, and gives a repeat of it the same answer. -/
def doConfigPropose (n map : Nat) (upper : Bool) (s : Node) : Node :=
  if s.hubReceives .f then
    let t := gotCtrl .n (.config 0 map upper n) s
    let ok := match s.n.agree.fAnswer with
      | some (m, a) => if m = n then a else !s.rateInProgress && !s.dqInUse
      | none => !s.rateInProgress && !s.dqInUse
    sendCtrl .f (.config (if ok then 1 else 3) map upper n)
      (modN (fun x => { x with agree := { x.agree with fAnswer := some (n, ok) } }) t)
  else s

def execConfigPropose (n map : Nat) (upper : Bool) (s : State) : Host.Outcome State Fault Refusal :=
  s.run (ctrlWord .f (doConfigPropose n map upper))

/-- The working values that an agreement changes, from its commit on (R204, R205), with the parts that hold them flagged
(R108). -/
def agreedValues (s : Node) : Node :=
  let a := s.n.agree
  if a.txn.isNone then s
  else
    let t := modDict (fun d => { d with unsaved := d.unsaved ||| 12 }) s
    if a.key = 0x2008 then setVal 0x2008 0 (b2n a.upper) t else setVal 0x2002 0 a.map t

/-- R204: on accept the N-die sends commit, from when the change is final on it. -/
def doConfigAccept (n : Nat) (s : Node) : Node :=
  let a := s.n.agree
  if s.hubReceives .n && a.phase == .proposed && a.number == n then
    sendConfig .n 2 (modN (fun x =>
      { x with
        agree := { x.agree with phase := .committed }
        ch := { x.ch with changeDue := some (a.map, a.upper) } })
      (agreedValues (gotCtrl .f (.config 1 a.map a.upper n) s)))
  else s

def execConfigAccept (n : Nat) (s : State) : Host.Outcome State Fault Refusal := s.run (ctrlWord .n (doConfigAccept n))

/-- R204: the F-die receives commit and will apply the change once; a repeat gets the confirmation (R205). -/
def doConfigCommit (n : Nat) (s : Node) : Node :=
  let a := s.n.agree
  if s.hubReceives .f && a.number == n && a.phase == .committed then
    let t := gotCtrl .n (.config 2 a.map a.upper n) s
    if a.fApplied == some n then sendConfig .f 2 t
    else modF (fun x => { x with ch := { x.ch with changeDue := some (a.map, a.upper) } }) t
  else s

def execConfigCommit (n : Nat) (s : State) : Host.Outcome State Fault Refusal := s.run (ctrlWord .f (doConfigCommit n))

/-- An adoption rewrites the map and upper-group fields of the F default row (R46). -/
def rewriteMap (map : Nat) (upper : Bool) (s : Node) : Node :=
  let row := rowInForce .f s.fLedger.row
  let w := rowWord1Of (rowWait row) (rowTimeout row) 0 0 (b2n upper) map
  { s with fLedger := { s.fLedger with row := sealRow ((row.take 7).set 1 (w24 w)) } }

/-- R206: a die applies the change at the 16th group boundary; the F-die then confirms (R204). -/
def doDirectionApply (d : Die) (s : Node) : Node :=
  match (s.die d).ch.changeDue with
  | none => s
  | some (map, upper) =>
    let t := applyDirection d map upper s
    match d with
    | .n => t
    | .f =>
      sendConfig .f 2 (onlyIf s.n.agree.adoption (rewriteMap map upper)
        (modN (fun x => { x with agree := { x.agree with fApplied := some x.agree.number } }) t))

def execDirectionApply (d : Die) (s : State) : Host.Outcome State Fault Refusal := s.run (doDirectionApply d)

/-- R205: the N-die sends propose n again; after the third unanswered one the write ends with REMOTE_TIMEOUT and nothing has
changed. -/
def proposeAgain (s : Node) : Node :=
  if s.n.agree.proposes < 3 then
    sendConfig .n 0 (modN (fun x => { x with agree := { x.agree with proposes := x.agree.proposes + 1 } }) s)
  else answerAgreement stRemote (endAgreement 3 s)

/-- R205: the N-die repeats commit until it is confirmed. -/
def doConfigCommitRepeat (s : Node) : Node :=
  if s.hubReceives .n && s.n.agree.phase == .committed then sendConfig .n 2 s else s

def execConfigCommitRepeat (s : State) : Host.Outcome State Fault Refusal := s.run doConfigCommitRepeat

/-- R205: no confirmation within 1 ms of the commit: the write ends with REMOTE_TIMEOUT, K:2001 reads outcome 3, and the
agreement stays in progress (R220). -/
def doConfigConfirmTimeout (s : Node) : Node :=
  if s.nUp && s.n.agree.phase == .committed && s.n.agree.txn.isSome then
    answerAgreement stRemote (modN (fun x => { x with agree := { x.agree with outcome := 3 } }) s)
  else s

def execConfigConfirmTimeout (s : State) : Host.Outcome State Fault Refusal := s.run doConfigConfirmTimeout

end Sys2Proof.Machine
end

