-- ==== Sys2Proof/Machine/Agreement.lean ====
section
/-! DEFINITION. Leaving BOOT, and the ends of the direction agreement that may let the node leave it (R46, R64 to R66,
R205). -/

namespace Sys2Proof.Machine

open Sys2Proof

/-- A SEAL-class fault is latched on either die, as the N-die knows it (R65, R66, R470). -/
def Node.sealLatched (s : Node) : Bool :=
  s.n.ret.seals != 0 || s.n.fSeals != 0 || (s.trained && s.f.ret.seals != 0)

/-- The node leaves BOOT (R64 to R66): for SEALED with a SEAL latched, for RUN where nothing bars it, else for SETUP, with the
entry into RUN pending where only the missing training bars it. -/
def leaveBoot (s : Node) : Node :=
  if s.n.dev == .boot then
    let wanted := s.val 0x0029 == 1
    let t := modN (fun n => { n with fAbsent := !s.trained }) s
    if s.sealLatched then setDev .sealed 0 0 0 t
    else if wanted && s.trained && !s.mapStrapFloats then setDev .run 0 0 0 t
    else modN (fun n => { n with runDeferred := wanted, runPending := wanted && !s.trained && !s.mapStrapFloats })
      (setDev .setup 0 0 0 t)
  else s

/-- An adoption under R46 is over: it no longer keeps the node in BOOT (R64). -/
def endAdoption (adopted : Bool) (s : Node) : Node :=
  if s.n.agree.adoption then
    leaveBoot (modN (fun n =>
      { n with agree := { n.agree with adoption := false }, adopted := n.adopted || adopted }) s)
  else s

/-- R205: a refuse ends the write with STATE; nothing changes. -/
def doConfigRefuse (n : Nat) (s : Node) : Node :=
  let a := s.n.agree
  if s.hubReceives .n && a.phase == .proposed && a.number == n then
    endAdoption false (answerAgreement stState (endAgreement 2 (gotCtrl .f (.config 3 a.map a.upper n) s)))
  else s

def execConfigRefuse (n : Nat) (s : State) : Host.Outcome State Fault Refusal := s.run (ctrlWord .n (doConfigRefuse n))

/-- R205: the confirmation ends the agreement, and the write is answered with OK where it still waits. -/
def doConfigConfirm (n : Nat) (s : Node) : Node :=
  let a := s.n.agree
  if s.hubReceives .n && a.phase == .committed && a.number == n then
    endAdoption true (answerAgreement stOk (endAgreement 1 (gotCtrl .f (.config 2 a.map a.upper n) s)))
  else s

def execConfigConfirm (n : Nat) (s : State) : Host.Outcome State Fault Refusal := s.run (ctrlWord .n (doConfigConfirm n))

/-- R205: a propose has been unanswered for 20 µs. -/
def doConfigProposeTimeout (s : Node) : Node :=
  if s.nUp && s.n.agree.phase == .proposed then
    let t := proposeAgain s
    if t.n.agree.phase == .idle then endAdoption false t else t
  else s

def execConfigProposeTimeout (s : State) : Host.Outcome State Fault Refusal := s.run doConfigProposeTimeout

end Sys2Proof.Machine
end

