-- ==== Sys2Proof/Machine/Faults.lean ====
section
/-! DEFINITION. The fault collectors: detections, windows, error pins, forwarding from F to N, and what the keys of K:8xxx do
(R456 to R483). -/

namespace Sys2Proof.Machine

open Sys2Proof

/-! Detections and live states. -/

/-- R461: a block's detection reaches its collector, which latches it and starts an event or merges it. -/
def doFaultDetection (d : Die) (src : Fin 24) (cause : Nat) (s : Node) : Node := detect d src cause s

def execFaultDetection (d : Die) (src : Fin 24) (cause : Nat) (s : State) : Host.Outcome State Fault Refusal :=
  s.run (doFaultDetection d src cause)

/-- A condition that is present at a sample and has no open event is detected (R461). -/
def sampleSource (d : Die) (src : Nat) (s : Node) : Node :=
  let c := (s.die d).faults
  if c.cond.getLsbD src && !(tget {} c.latest src).openWin then detect d src 0 s else s

/-- R461: the collector samples the live state of every source, in ascending number. -/
def doLiveStateSample (d : Die) (s : Node) : Node := if s.collects d then forEach sources (sampleSource d) s else s

def execLiveStateSample (d : Die) (s : State) : Host.Outcome State Fault Refusal := s.run (doLiveStateSample d)

/-- R456: 1 ms after the latest detection the event part of a source's live bit returns to 0. -/
def doEventLiveEnd (d : Die) (src : Fin 24) (s : Node) : Node :=
  let c := (s.die d).faults
  if c.pulse.getLsbD src then
    let t := modFaults d (fun c => { c with pulse := setSrc c.pulse src false }) s
    if isCondition d src && !c.cond.getLsbD src then condFell d src t else t
  else s

def execEventLiveEnd (d : Die) (src : Fin 24) (s : State) : Host.Outcome State Fault Refusal := s.run (doEventLiveEnd d src)

/-- The reactions of a source's latest event have completed (R464): its pulse has ended, its trap list has ended, its island
is released. -/
def Node.reactionsDone (s : Node) (d : Die) (src : Nat) : Bool :=
  let c := (s.die d).faults
  let m := (tget {} c.latest src).mask
  !(bit m 4 && c.pulseRunning) && !(bit m 1 && (s.die d).seq.trap.isSome)
    && !(bit m 2 && match sourceIsland d src with
      | some i => (tget? (s.die d).isl.inReset i).isSome
      | none => false)

/-- R464: 1 ms after the last reaction, the window of an event without I closes. -/
def doMergeWindowClose (d : Die) (src : Fin 24) (s : Node) : Node :=
  let o := tget {} (s.die d).faults.latest src
  if o.openWin && !bit o.mask 0 && s.reactionsDone d src then closeWindow d src s else s

def execMergeWindowClose (d : Die) (src : Fin 24) (s : State) : Host.Outcome State Fault Refusal :=
  s.run (doMergeWindowClose d src)

/-! Error pins (R467). -/

/-- R467: the minimum pulse ends; a release given meanwhile takes effect. -/
def doErrPulseEnd (d : Die) (s : Node) : Node :=
  modFaults d (fun c =>
    if c.pulseRunning then
      { c with pulseRunning := false, pin := c.pin && !c.releasePending, releasePending := false
               pulseEnded := (s.die d).ticks }
    else c) s

def execErrPulseEnd (d : Die) (s : State) : Host.Outcome State Fault Refusal := s.run (doErrPulseEnd d)

/-- K:8004 or K:8104 (R467): the pin is released, at the end of the pulse where that runs; the time it was held after the pulse
is counted (R484). -/
def releasePin (d : Die) (s : Node) : Node :=
  let c := (s.die d).faults
  if !c.pin then s
  else if c.pulseRunning then modFaults d (fun c => { c with releasePending := true }) s
  else peak d blkFault 5 1 (msOf ((s.die d).ticks - c.pulseEnded)) (modFaults d (fun c => { c with pin := false }) s)

/-! Die reset by reaction (R465, R468). -/

/-- R465: the restart of a DIE_RESET reaction begins. -/
def doDieResetReaction (d : Die) (s : Node) : Node :=
  match (s.die d).faults.resetWaiting with
  | none => s
  | some src =>
    let t := modDie d (markReaction src) s
    let u := match d with
      | .n => restartN .starting 4 t
      | .f => restartF .starting 3 t
    bump d blkFault 7 src (modDie d (fun x => { x with ret := { x.ret with byReaction := true } }) u)

def execDieResetReaction (d : Die) (s : State) : Host.Outcome State Fault Refusal := s.run (doDieResetReaction d)

/-! Clear entries (R473). -/

/-- The key that records clears. -/
def clearRecording : Die → Nat
  | .n => 0x8008
  | .f => 0x8108

/-- R473: the live state of a condition source has first returned to 0 after detection: one clear entry for its event. The
F-die also reports it (R469). -/
def doClearEntry (d : Die) (src : Fin 24) (s : Node) : Node :=
  let c := (s.die d).faults
  match tget? c.latest src with
  | none => s
  | some o =>
    if s.collects d && isCondition d src && s.val (clearRecording d) == 1 && !o.cleared && !(s.live d).getLsbD src then
      let e : HistEntry := { event := o.event, source := src, cls := o.cls, clear := true, time := s.stamp d }
      let t := bump d blkFault 2 0 (writeEntry d e
        (modFaults d (fun c => { c with latest := tput c.latest src { o with cleared := true } }) s))
      onlyIf (d == .f) (sendCtrl .f (.faultReport src o.cls false o.event)) t
    else s

def execClearEntry (d : Die) (src : Fin 24) (s : State) : Host.Outcome State Fault Refusal := s.run (doClearEntry d src)

/-! What the keys of K:8xxx do. -/

/-- A write of K:8002 or K:8102 (R474): each named bit is cleared but those of live condition sources and of SEAL events. -/
def clearStatus (d : Die) (m : Word) (s : Node) : Node :=
  let conditions := sources.foldl (fun w i => if isCondition d i then w ||| srcBit i else w) (0 : Word)
  let stay := (s.live d &&& conditions) ||| (s.die d).ret.seals
  bump d blkFault 9 0 (modFaults d (fun c => { c with status := c.status &&& ~~~ (m &&& ~~~ stay) }) s)

/-- Acknowledges one source (R475): its open event with I is marked, and its window closes. -/
def ackSource (d : Die) (src : Nat) (s : Node) : Node :=
  let o := tget {} (s.die d).faults.latest src
  if o.openWin && bit o.mask 0 then
    modFaults d (fun c => { c with unack := setSrc c.unack src false })
      (closeWindow d src (modEntry d o.event (fun e => { e with acked := true }) s))
  else s

/-- K:8003 or K:8103 (R475). -/
def ackSources (d : Die) (m : Word) (s : Node) : Node :=
  bump d blkFault 9 1 (forEach (sources.filter fun i => m.getLsbD i) (ackSource d) s)

/-- K:800A or K:810A (R473): every entry but SEAL entries is removed. -/
def clearHistory (d : Die) : Node → Node := modFaults d fun c => { c with history := c.history.filter fun e => e.cls == 3 }

/-- A read of the status word has been admitted (R476). -/
def statusSeen (d : Die) : Node → Node :=
  modFaults d fun c => { c with latest := c.latest.map fun e => (e.1, { e.2 with seen := true }) }

/-! From F to N (R469 to R471, R477). -/

/-- R470: the N-die receives a report: an event number it has not seen is a detection of N source 22, another is merged; SEAL
seals the node. It acknowledges (R182). -/
def doFaultReport (src : Fin 24) (cls : Fin 4) (live : Bool) (event : Nat) (s : Node) : Node :=
  if s.hubReceives .n then
    let t := sendCtrl .n (.faultAck src event) (gotCtrl .f (.faultReport src cls live event) s)
    let u :=
      if s.n.faults.reportsSeen.contains event then
        bump .n blkFault 0 (24 + 22) (modFaults .n (fun c =>
          { c with history := c.history.map fun e =>
              if e.source == 22 && e.detail == event && !e.clear then { e with merged := satAdd 255 e.merged 1 } else e }) t)
      else detectCore .n 22 event src (some (min cls.val 2))
        (modFaults .n (fun c => { c with reportsSeen := event :: c.reportsSeen }) t)
    if cls.val = 3 then
      sealState 5 src (modN (fun n => { n with fSeals := setSrc n.fSeals src true, sealReported := true }) u)
    else u
  else s

def execFaultReport (src : Fin 24) (cls : Fin 4) (live : Bool) (event : Nat) (s : State) :
    Host.Outcome State Fault Refusal := s.run (ctrlWord .n (doFaultReport src cls live event))

/-- R182: the F-die receives the acknowledgement and stops repeating the report. -/
def doFaultAcknowledge (src : Fin 24) (event : Nat) (s : Node) : Node :=
  if s.hubReceives .f then
    modFaults .f (fun c =>
      { c with history := c.history.map fun e =>
          if e.event == event && e.source == src.val && !e.clear then { e with pending := false } else e })
      (modClasp .f (fun x =>
        { x with ctrl := x.ctrl.filter fun w => match w with
            | .faultReport a _ _ b => !(a == src.val && b == event)
            | _ => true })
        (gotCtrl .n (.faultAck src event) s))
  else s

def execFaultAcknowledge (src : Fin 24) (event : Nat) (s : State) : Host.Outcome State Fault Refusal :=
  s.run (ctrlWord .f (doFaultAcknowledge src event))

/-- The F entries with forward pending, oldest first. -/
def Node.pendingEntries (s : Node) : List HistEntry := (s.f.faults.history.filter fun e => e.pending && !e.clear).reverse

/-- R182: an unacknowledged report is repeated. -/
def doFaultReportRepeat (s : Node) : Node :=
  if s.hubReceives .f then
    forEach s.pendingEntries (fun e s => sendCtrl .f (.faultReport e.source e.cls ((s.live .f).getLsbD e.source) e.event) s) s
  else s

def execFaultReportRepeat (s : State) : Host.Outcome State Fault Refusal := s.run doFaultReportRepeat

/-- R470: the entry frame arrives, and the alert for the F source is queued, where the detection had changed its status bit
(R133, R464). -/
def doFaultEntryFrame (src : Fin 24) (cls : Fin 4) (detected : T48) (status : Word) (s : Node) : Node :=
  if s.hubReceives .n then
    let fresh := match s.f.faults.history.find? fun e => e.source == src.val && e.time == detected && !e.clear with
      | some e => e.fresh
      | none => true
    onlyIf fresh (queueAlert 1 src cls detected status) s
  else s

def execFaultEntryFrame (src : Fin 24) (cls : Fin 4) (detected : T48) (status : Word) (s : State) :
    Host.Outcome State Fault Refusal := s.run (doFaultEntryFrame src cls detected status)

/-- R471: 100 µs of trained Clasp without a SEAL report: a node sealed only by the F-die enters SETUP, with cause 5 and the
lowest F SEAL source that had sealed it. -/
def doFSealRelease (s : Node) : Node :=
  if s.nUp && s.n.dev == .sealed && s.n.ret.seals == 0 && s.trained && !s.n.sealReported then
    let src := lowestSrc s.n.fSeals
    setDev .setup 5 src 0 (modN (fun n => { n with fSeals := 0 }) s)
  else s

def execFSealRelease (s : State) : Host.Outcome State Fault Refusal := s.run doFSealRelease

/-- R477: on the F trap's frame the N-die moves the node to SAFE_HOLD, with cause 3 and the F source. -/
def doFTrapNotice (src : Fin 24) (s : Node) : Node := if s.hubReceives .n then trapState 3 src s else s

def execFTrapNotice (src : Fin 24) (s : State) : Host.Outcome State Fault Refusal := s.run (doFTrapNotice src)

/-- What the F-die offers again after a training, oldest first (R471): each entry with forward pending, each SEAL source, and a
trap. -/
def forwardPending (s : Node) : Node :=
  let s1 := forEach s.pendingEntries (fun e s => bump .f blkFault 10 1 (forwardEvent e s)) s
  let s2 := forEach (sources.filter fun i => s.f.ret.seals.getLsbD i)
    (fun i s =>
      let n := match s.f.faults.history.find? fun e => e.source == i && !e.clear with
        | some e => e.event
        | none => 0
      sendCtrl .f (.faultReport i 3 ((s.live .f).getLsbD i) n) s) s1
  match s2.f.faults.trapToReport with
  | some src => sendData .f 3 (.trap src) (modFaults .f (fun c => { c with trapToReport := none }) s2)
  | none => s2

/-! The status words of K:8xxx (R473, R483). -/

/-- One history entry, 12 bytes (R473). -/
def entryBytes (e : HistEntry) : List Byte :=
  leBytes 3 (e.event % 256 * 65536 + e.source % 32 * 2048 + e.cls % 4 * 512 + 256 * b2n e.clear + e.detail % 256)
    ++ leBytes 3 (e.merged % 256 * 65536 + e.ran % 2 * 2048 + e.ran / 2 % 2 * 4096 + e.ran / 4 % 2 * 8192
      + e.ran / 8 % 2 * 16384 + e.ran / 16 % 2 * 32768 + 1024 * b2n e.transient + 512 * b2n e.pending + 256 * b2n e.acked
      + e.fSource % 32)
    ++ leBytes 6 e.time.toNat

/-- K:8010 or K:8110: the entries in use, newest first (R473). -/
def Node.historyBytes (s : Node) (d : Die) : List Byte := (s.die d).faults.history.flatMap entryBytes

/-- K:8005 or K:8105 (R483). -/
def Node.collectorStatus (s : Node) (d : Die) : Nat :=
  let c := (s.die d).faults
  let r := (s.die d).ret
  c.history.length % 32 * 524288 + c.overflow % 256 * 2048 + 1024 * b2n c.pin + 512 * b2n c.pulseRunning
    + 256 * b2n c.releasePending + 128 * b2n (s.die d).seq.trap.isSome + 64 * b2n (r.seals != 0) + 32 * b2n r.byReaction
    + (if r.byReaction then r.resetSource.getD 0 else 0) % 32

end Sys2Proof.Machine
end

