-- ==== Sys2Proof/Machine/Can.lean ====
section
/-! DEFINITION. The CAN FD port: error states and bus-off, the transceiver, transmit buffers, triggers, Chain tunnel frames and
alerts relayed for other nodes (R114 to R145, R343). -/

namespace Sys2Proof.Machine

open Sys2Proof

/-- The port takes part in bus traffic: the N-die is ready, the port is neither stopped, integrating nor bus-off, and
crossing 0x01 is whole (R119, R135, R240). -/
def Node.canOn (s : Node) : Bool :=
  s.nUp && (s.n.can.state == .active || s.n.can.state == .passive) && !s.torn .n 0

/-- The port can send: it takes part in bus traffic and its driver is enabled (R116). -/
def Node.canSends (s : Node) : Bool := s.canOn && s.n.can.driver

/-- A frame of classes 1 and 2 addressed to this node (R122). -/
def Node.canAccepts (s : Node) (dest : Nat) : Bool := dest == 127 || (s.n.number != 0 && dest == s.n.number)

/-- Counts a frame received, by class (R144). -/
def canReceived (cls : Nat) : Node → Node := bump .n blkCan 0 cls

/-- Counts a frame sent, by class (R144). -/
def canSent (cls : Nat) : Node → Node := bump .n blkCan 0 (8 + cls)

/-! Error states (R114, R134 to R136). -/

/-- R114: a protocol exception event puts the controller into bus integration and raises N source 15. -/
def doProtocolException (s : Node) : Node :=
  if s.canOn then overflow15 4 (modCan (fun c => { c with state := .integrating, exception := true }) s) else s

def execProtocolException (s : State) : Host.Outcome State Fault Refusal := s.run doProtocolException

/-- R134: entry into error-passive raises N source 12. -/
def doErrorPassiveEntry (tec rec : Nat) (s : Node) : Node :=
  if s.nUp && s.n.can.state == .active then
    setCond .n 12 true 0 (peak .n blkCan 7 0 tec (bump .n blkCan 5 0
      (modCan (fun c => { c with state := .passive, tecCount := tec, recCount := rec }) s)))
  else s

def execErrorPassiveEntry (tec rec : Nat) (s : State) : Host.Outcome State Fault Refusal := s.run (doErrorPassiveEntry tec rec)

/-- R134: the counters fall back and the port is error-active again. -/
def doErrorActiveReturn (tec rec : Nat) (s : Node) : Node :=
  if s.nUp && s.n.can.state == .passive then
    setCond .n 12 false 0 (modCan (fun c => { c with state := .active, tecCount := tec, recCount := rec }) s)
  else s

def execErrorActiveReturn (tec rec : Nat) (s : State) : Host.Outcome State Fault Refusal := s.run (doErrorActiveReturn tec rec)

/-- The bus-off column of R124: alerts are kept; frames of classes 1 to 7 are discarded, and the transactions of discarded
responses leave flight. The readout starts again from its first discarded frame (R510). -/
def busOffDiscard (s : Node) : Node :=
  let tx := s.n.can.tx
  let flights := (tx.filterMap fun f => f.txn).eraseDups
  let first7 := (tx.find? fun f => f.cls == 7 && f.service == 1).map fun f => fromLe (f.data.take 3)
  let sent := tx.any fun f => f.cls == 7 && f.service == 2
  let s1 := forEach [3, 6] (fun c s => txDiscard c 0 (tx.filter fun f => f.cls == c).length s) s
  let s2 := modN (fun n =>
    { n with
      can := { n.can with tx := [], tunnelFirst := [] }
      bar := { n.bar with bulk := n.bar.bulk.map fun b => { b with offset := first7.getD (if sent then b.image.length else b.offset) } } }) s1
  forEach flights (fun k s => leaveFlight k.1 k.2 s) s2

/-- R135: entry into bus-off raises N source 13 and discards what R124 names; recovery starts at once under AUTO. Pending
alerts are detoured (R137). -/
def doBusOffEntry (s : Node) : Node :=
  if s.nUp && s.n.can.state != .busOff && s.n.can.state != .stopped then
    let s1 := modCan (fun c =>
      { c with state := .busOff, tecCount := 255, recovering := s.val 0x1104 == 0, detour := none
               alerts := c.alerts.map fun q => { q with tried := [], exhausted := false } })
      (peak .n blkCan 7 0 255 (bump .n blkCan 5 1 s))
    detourNext (setCond .n 13 true 0 (setCond .n 12 false 0 (busOffDiscard s1)))
  else s

def execBusOffEntry (s : State) : Host.Outcome State Fault Refusal := s.run doBusOffEntry

/-- An END of a bulk readout (R508): image length, check and status. -/
def bulkEnd (dest : Nat) (image : List Byte) (status : Nat) : TxFrame :=
  ⟨7, dest, 2, 0, none, false,
    leBytes 3 image.length ++ leBytes 3 (crcBytes image) ++ leBytes 1 status ++ List.replicate 57 0⟩

/-- The DATA frames of a bulk readout from an offset, 61 image bytes each (R508). -/
def bulkData (b : Bulk) : List TxFrame :=
  (List.range ((b.image.length - b.offset + 60) / 61)).map fun i =>
    let off := b.offset + 61 * i
    let part := slice b.image off 61
    ⟨7, b.client, 1, (off - b.start) / 61 % 128, none, false, leBytes 3 off ++ part ++ List.replicate (61 - part.length) 0⟩

/-- Queues what a bulk transfer still has to send (R510). -/
def queueBulk (s : Node) : Node :=
  match s.n.bar.bulk with
  | none => s
  | some b => if b.dropped then pushTx [bulkEnd b.client b.image 2] s else pushTx (bulkData b ++ [bulkEnd b.client b.image 0]) s

/-- R136: recovery completes: pending alerts go first, with DELAYED set. -/
def doBusOffRecovered (s : Node) : Node :=
  if s.nUp && s.n.can.state == .busOff && s.n.can.recovering then
    queueBulk <| setCond .n 13 false 0 (bump .n blkCan 6 (s.val 0x1104) (modCan (fun c =>
      { c with
        state := .active, tecCount := 0, recCount := 0, recovering := false, detour := none
        alerts := c.alerts.map fun q => { q with alert := Alert.withFlags q.alert 1, tried := [], exhausted := false } }) s))
  else s

def execBusOffRecovered (s : State) : Host.Outcome State Fault Refusal := s.run doBusOffRecovered

/-- K:1105 (R135): starts recovery of a bus-off port; otherwise it does nothing. -/
def recoverCan (s : Node) : Node :=
  if s.n.can.state == .busOff then modCan (fun c => { c with recovering := true }) s else s

/-- R119: after 11 recessive bits the integrating port joins the bus, still error-passive where it had entered that state and its
counts have not fallen back (R114, R134). -/
def doBusIntegrationEnd (s : Node) : Node :=
  if s.nUp && s.n.can.state == .integrating then
    modCan (fun c => { c with state := if s.n.faults.cond.getLsbD 12 then .passive else .active }) s
  else s

def execBusIntegrationEnd (s : State) : Host.Outcome State Fault Refusal := s.run doBusIntegrationEnd

/-! Detours (R137, R343). -/

/-- R137: no confirmation within 20 ms: the next-lowest candidate is tried. -/
def doDetourConfirmTimeout (s : Node) : Node :=
  if s.nUp && s.n.can.detour.isSome then detourNext (modCan (fun c => { c with detour := none }) s) else s

def execDetourConfirmTimeout (s : State) : Host.Outcome State Fault Refusal := s.run doDetourConfirmTimeout

/-- R343: an ALERT_ACK confirms the detoured alert, which is not detoured again, or refuses it, so that the next candidate is
tried (R137). -/
def doAlertAck (seq origin : Nat) (refused : Bool) (s : Node) : Node :=
  match s.n.can.detour with
  | some (q, _) =>
    if s.nUp && q == seq && origin == s.n.number then
      let t := bump .n blkCan 10 (if refused then 2 else 1) (modCan (fun c =>
        { c with
          detour := none
          alerts := c.alerts.map fun x => if x.alert.seq == seq && !refused then { x with exhausted := true } else x }) s)
      detourNext t
    else s
  | none => s

def execAlertAck (seq origin : Nat) (refused : Bool) (s : State) : Host.Outcome State Fault Refusal :=
  s.run (doAlertAck seq origin refused)

/-- The answer to an ALERT: its sequence, its origin and the outcome (R343). -/
def alertAnswer (dst seq origin outcome : Nat) (s : Node) : Node :=
  chainFromN dst 20 true 0 (leBytes 3 (seq % 256 * 65536 + origin % 128 * 256 + outcome)) s

/-- R137, R343: an ALERT from another node is queued for relay with DETOUR set, or refused where the alert buffers are full.
The frame does not carry the originator's K:1121, so the destination is a free value. -/
def doAlert (src : Nat) (a : Alert) (s : Node) : Node :=
  if s.nUp && s.trained then
    if s.n.can.alerts.length < 8 then
      tookFree (bump .n blkCan 11 0 (modCan (fun c =>
        { c with alerts := c.alerts ++ [⟨Alert.withFlags a 2, s.freeValue % 128, [], true, some src⟩] }) s))
    else alertAnswer src a.seq a.origin 1 s
  else s

def execAlert (src : Nat) (a : Alert) (s : State) : Host.Outcome State Fault Refusal := s.run (doAlert src a)

/-! Transceiver (R116). -/

def TransceiverCause.code : TransceiverCause → Nat
  | .ownDominant => 0
  | .busDominant => 1
  | .thermal => 2

/-- R116: a dominant timeout or thermal shutdown disables the driver and raises N source 14. -/
def doTransceiverFault (cause : TransceiverCause) (s : Node) : Node :=
  if s.nUp then
    let i := TransceiverCause.code cause
    setCond .n 14 true i (bump .n blkCan 12 i (modCan (fun c =>
      { c with txvr := c.txvr ||| BitVec.ofNat 3 (2 ^ i), driver := false }) s))
  else s

def execTransceiverFault (cause : TransceiverCause) (s : State) : Host.Outcome State Fault Refusal :=
  s.run (doTransceiverFault cause)

/-- R116: after 10 recessive bit times with the cause gone, the driver is enabled again. -/
def doTransceiverReenable (s : Node) : Node :=
  if s.nUp then setCond .n 14 false 0 (modCan (fun c => { c with txvr := 0, driver := true }) s) else s

def execTransceiverReenable (s : State) : Host.Outcome State Fault Refusal := s.run doTransceiverReenable

/-! Transmit buffers (R124, R131). -/

/-- Removes the first frame that a test names. -/
def dropFirst (p : TxFrame → Bool) : List TxFrame → List TxFrame
  | [] => []
  | f :: fs => if p f then fs else f :: dropFirst p fs

/-- A response frame is gone: its transaction leaves flight with its last frame (R131). -/
def frameGone (f : TxFrame) (s : Node) : Node :=
  match f.txn with
  | some k => if s.n.can.tx.any fun g => g.txn == some k then s else leaveFlight k.1 k.2 s
  | none => s

/-- R124: a frame of classes 1 to 7 that has waited 100 ms is discarded and counted. -/
def doTxWaitTimeout (cls : Nat) (s : Node) : Node :=
  let p := fun (f : TxFrame) => f.cls == cls && cls != 0
  match s.n.can.tx.find? p with
  | some f =>
    if s.nUp then frameGone f (txDiscard cls 1 1 (modCan (fun c => { c with tx := dropFirst p c.tx }) s)) else s
  | none => s

def execTxWaitTimeout (cls : Nat) (s : State) : Host.Outcome State Fault Refusal := s.run (doTxWaitTimeout cls)

/-- R131: a response frame is acknowledged on the bus; with its last frame the transaction leaves flight. -/
def doDapResponseAcked (client tag : Nat) (s : Node) : Node :=
  let p := fun (f : TxFrame) => f.cls == 4 && f.dest == client && f.tag == tag
  match s.n.can.tx.find? p with
  | some f => if s.canSends then frameGone f (canSent 4 (modCan (fun c => { c with tx := dropFirst p c.tx }) s)) else s
  | none => s

def execDapResponseAcked (client tag : Nat) (s : State) : Host.Outcome State Fault Refusal :=
  s.run (doDapResponseAcked client tag)

/-! Rates (R117 to R119). -/

/-- The nominal rate in force: the key, or for 0 the strap (R41, R117). -/
def Node.nominalCode (s : Node) : Nat :=
  if s.val 0x1100 = 0 then (if s.n.straps.getLsbD 3 then 2 else 3) else s.val 0x1100

/-- The data rate selected: the key, or for 0 the strap (R41, R117). -/
def Node.dataCode (s : Node) : Nat :=
  if s.val 0x1101 = 0 then (if s.n.straps.getLsbD 3 then 1 else 2) else s.val 0x1101

/-- The data rate of the port: without the crystal, 2 Mbit/s in place of 4 or 5 (R118). -/
def Node.rateReduced (s : Node) : Bool := decide (3 ≤ s.dataCode) && !s.n.crystal

/-- The code of the data rate that the port runs at (R117, R118). -/
def Node.dataRateInForce (s : Node) : Nat := if s.rateReduced then 2 else s.dataCode

/-- R119: once the responses to rate writes have been transmitted, the port integrates at the new rates. -/
def doRateApply (s : Node) : Node :=
  if s.nUp && s.n.can.rateDue && !s.keyInFlight 0x1100 && !s.keyInFlight 0x1101 && !s.keyInFlight 0xF001 then
    modCan (fun c =>
      { c with
        rateDue := false, nominal := s.nominalCode, dataRate := s.dataRateInForce, reduced := s.rateReduced
        state := if c.state == .busOff then .busOff else .integrating }) s
  else s

def execRateApply (s : State) : Host.Outcome State Fault Refusal := s.run doRateApply

/-! Triggers and Chain tunnel frames (R138, R140, R298, R342). -/

/-- The payload of a Chain trigger: launch time and list (R344). -/
def triggerBytes (launch : T48) (list : Nat) : List Byte := leBytes 6 launch.toNat ++ leBytes 3 (list % 128)

/-- R138, R298: a trigger arms its list, or is discarded and counted; one addressed to this node with scope 1 goes on to the
Chain whenever it passes the late-arm check. -/
def doTriggerFrame (src dest tag length : Nat) (launch : T48) (list scope : Nat) (s : Node) : Node :=
  if s.canOn && s.canAccepts dest && src != s.n.number && decide (tag < 128) then
    let t := canReceived 2 s
    if length < 8 || 1 < scope then bump .n blkSeq 6 1 t
    else
      let u := takeTrigger .n 1 list launch t
      if scope == 1 && dest != 127 && !s.tooLate .n launch then
        bump .n blkSeq 6 2 (chainFromN 127 18 true 0 (triggerBytes launch list) u)
      else u
  else s

def execTriggerFrame (src dest tag length : Nat) (launch : T48) (list scope : Nat) (s : State) :
    Host.Outcome State Fault Refusal := s.run (doTriggerFrame src dest tag length launch list scope)

/-- A Chain frame from its words W0 to the last payload word, with hop limit 31 (R316, R342). -/
def frameOfWords (ws : List Nat) : ChainFrame :=
  let w0 := ws.getD 0 0
  let w1 := ws.getD 1 0
  ⟨bits w0 23 17, bits w0 16 10, bits w0 9 5, 31, bits w1 17 10, bit w1 9, bits w1 8 2, bits w1 1 0,
    (ws.drop 2).take (bits w1 23 18)⟩

/-- Sends a tunnelled frame into the Chain. One whose words do not match its length is discarded and counted (R140). -/
def tunnelIn (ws : List Nat) (s : Node) : Node :=
  if ws.length == 2 + bits (ws.getD 1 0) 23 18 then sendData .n 2 (.chain (frameOfWords ws)) s else txDiscard 6 3 1 s

/-- The first frame that a second frame belongs to: the same source, destination and tag (R120, R140). -/
def firstOf (src dest tag : Nat) (e : Nat × Nat × Nat × List Nat) : Bool := e.1 == src && e.2.1 == dest && e.2.2.1 == tag

/-- R140: a class 6 frame carries a whole Chain frame, or the first or second part of one. A first frame whose predecessor
under the same source, destination and tag still awaits its second takes its place, and the predecessor is discarded and
counted. -/
def doChainTunnelFrame (src dest service tag : Nat) (words : List Nat) (s : Node) : Node :=
  if s.canOn && s.n.number != 0 && s.canAccepts dest && s.val 0x1102 == 0 then
    let t := canReceived 6 s
    match service with
    | 0 => tunnelIn words t
    | 1 =>
      let u := onlyIf (s.n.can.tunnelFirst.any (firstOf src dest tag)) (txDiscard 6 3 1) t
      modCan (fun c =>
        { c with tunnelFirst := c.tunnelFirst.filter (fun e => !firstOf src dest tag e) ++ [(src, dest, tag, words)] }) u
    | 2 =>
      match s.n.can.tunnelFirst.find? (firstOf src dest tag) with
      | some e =>
        tunnelIn (e.2.2.2 ++ words)
          (modCan (fun c => { c with tunnelFirst := c.tunnelFirst.filter fun e => !firstOf src dest tag e }) t)
      | none => txDiscard 6 3 1 t
    | _ => txDiscard 6 3 1 t
  else s

def execChainTunnelFrame (src dest service tag : Nat) (words : List Nat) (s : State) :
    Host.Outcome State Fault Refusal := s.run (doChainTunnelFrame src dest service tag words)

/-- R140: the second frame does not follow the oldest first frame within 10 ms: both are discarded and counted. -/
def doTunnelPairTimeout (s : Node) : Node :=
  if s.nUp && !s.n.can.tunnelFirst.isEmpty then
    txDiscard 6 3 1 (modCan (fun c => { c with tunnelFirst := c.tunnelFirst.drop 1 }) s)
  else s

def execTunnelPairTimeout (s : State) : Host.Outcome State Fault Refusal := s.run doTunnelPairTimeout

/-! Status words (R142, R143). -/

/-- K:1110 (R143). The transmit error count reads 255 in bus-off. -/
def Node.canStatus (s : Node) : Nat :=
  let c := s.n.can
  (match c.state with
    | .active => 0
    | .passive => 1
    | .busOff => 2
    | .integrating => 3
    | .stopped => 3) * 4194304
  + 2097152 * b2n c.exception + 1048576 * b2n (c.txvr != 0) + 524288 * b2n c.reduced
  + (if c.state == .busOff then 255 else c.tecCount % 256) * 256 + c.recCount % 256

/-- K:1123 (R142). -/
def Node.alertStatus (s : Node) : Nat :=
  s.n.can.alertSeq * 65536 + 16 * b2n s.n.can.detour.isSome + min 8 s.n.can.alerts.length

end Sys2Proof.Machine
end

