-- ==== Sys2Proof/Machine/NPort.lean ====
section
/-! DEFINITION. The N-port: select periods, held responses, frame errors, tunnel frames, modes and stored master transactions
(R146 to R172). -/

namespace Sys2Proof.Machine

open Sys2Proof

/-! Select periods and frame errors (R147 to R159). -/

/-- The N-port serves host frames: SLAVE mode on a ready N-die whose crossing 0x02 is whole (R146, R240). -/
def Node.portOn (s : Node) : Bool := s.nUp && s.n.port.mode == 1 && !s.torn .n 1

/-- A response that executes nothing and ends nothing: a repeat, nothing held, a frame error, or DEFERRED (R154 to R156). -/
def isFinal (header : Nat) (body : List Byte) : Bool :=
  (header == 0x50 && body.getD 1 0 != 2#8) || (header == 0x51 && body.getD 0 0 != 2#8)

/-- N_SEL# rises (R154, R155, R165): a final response that was not clocked out to its end is held under its tag, so is a
transaction that has not answered yet; a TUNNEL frame kept in the busy pattern is discarded and counted. -/
def selectEnds (s : Node) : Node :=
  let p := s.n.port
  let held1 := match p.out with
    | some (h, tag, body) =>
      if isFinal h body && !(p.held.any fun x => x.tag == tag) then p.held ++ [⟨tag, h == 0x51, true, h, body⟩] else p.held
    | none => p.held
  let waits := (s.flightOf 0).filter fun t => t.stage != .done && !(held1.any fun x => x.tag == t.tag)
  onlyIf p.busy.isSome (bump .n blkPort 8 0)
    (modPort (fun p =>
      { p with out := none, busy := none, selLow := false, held := held1 ++ waits.map fun t => ⟨t.tag, false, false, 0x50, []⟩ })
      s)

/-- N_SEL# has fallen for a host frame, in an SPI mode (R147). A select period that was still open has ended before. The frame
is counted by its type (R171). -/
def selectFrame (mode3 : Bool) (kind : Nat) (s : Node) : Node :=
  bump .n blkPort 0 kind (modPort (fun p => { p with selLow := true, spi3 := mode3 })
    (if s.n.port.selLow then selectEnds s else s))

/-- A response is clocked out next (R151). -/
def answerPort (header tag : Nat) (body : List Byte) : Node → Node :=
  modPort fun p => { p with out := some (header, tag, body) }

/-- A DEFERRED answer (R154): the transaction's response is held under its tag. -/
def answerDeferred (header tag : Nat) (body : List Byte) (s : Node) : Node :=
  bump .n blkPort 3 0 (answerPort header tag body (modPort (fun p =>
    if p.held.any fun h => h.tag == tag then p
    else { p with held := p.held ++ [⟨tag, header == 0x51, false, header, []⟩] }) s))

/-- R159: a frame error executes nothing, is recorded, raises N source 16 and answers 0x5E with its code. -/
def frameError (code tag : Nat) (s : Node) : Node :=
  detect .n 16 0 (bump .n blkPort 1 code
    (modPort (fun p => { p with lastError := code, out := some (0x5E, tag, leBytes 1 code) }) s))

/-- A tag is in use: by a transaction of session 0 in flight, or by a held response (R159, code 4). -/
def Node.tagUsed (s : Node) (tag : Nat) : Bool :=
  (s.flightOf 0).any (fun t => t.tag == tag) || s.n.port.held.any fun h => h.tag == tag

/-- The frame error of a host frame, 0 for none (R159): the check and the form first, then the tag, then the destination.
`tagged` frames must have a free tag; `here` frames must be addressed to this node. -/
def Node.portError (s : Node) (form : Form) (tagged here : Bool) (tag dest : Nat) : Nat :=
  match form with
  | .badCheck => 1
  | .unknownOpcode => 2
  | .badLength => 3
  | _ =>
    if tagged && s.tagUsed tag then 4
    else if dest = 127 ∨ (here ∧ dest ≠ 0 ∧ dest ≠ s.n.number) then 6
    else 0

/-! Fetching and repeating (R154 to R158). -/

/-- The DEFERRED body of a held response that is not complete (R154). -/
def Node.deferredBody (s : Node) (h : Held) : List Byte :=
  if h.tunnel then leBytes 1 stDeferred
  else match s.txn 0 h.tag with
    | some t => respHead t.op stDeferred t.key
    | none => []

/-- R154: a FETCH returns the final response held under its tag, DEFERRED while that is not complete, or 0x5C. -/
def doFetch (tag dest : Nat) (form : Form) (mode3 : Bool) (s : Node) : Node :=
  if s.portOn then
    let t := selectFrame mode3 6 s
    let code := t.portError form false true tag dest
    if code = 0 then
      match t.n.port.held.find? fun h => h.tag == tag with
      | none => bump .n blkPort 4 0 (answerPort 0x5C tag [] t)
      | some h =>
        if h.complete then answerPort h.header tag h.body t
        else answerDeferred (if h.tunnel then 0x51 else 0x50) tag (t.deferredBody h) t
    else frameError code tag t
  else s

def execFetch (tag dest : Nat) (form : Form) (mode3 : Bool) (s : State) : Host.Outcome State Fault Refusal :=
  s.run (doFetch tag dest form mode3)

/-- R156: a REPEAT returns the last response that left flight, with header 0x58 or 0x59, or 0x5C. -/
def doRepeatResponse (tag dest : Nat) (form : Form) (mode3 : Bool) (s : Node) : Node :=
  if s.portOn then
    let t := bump .n blkPort 5 0 (selectFrame mode3 7 s)
    let code := t.portError form false true tag dest
    if code = 0 then
      match t.n.port.last with
      | some (h, k, body) => answerPort (h + 8) k body t
      | none => answerPort 0x5C tag [] t
    else frameError code tag t
  else s

def execRepeatResponse (tag dest : Nat) (form : Form) (mode3 : Bool) (s : State) : Host.Outcome State Fault Refusal :=
  s.run (doRepeatResponse tag dest form mode3)

/-- A tunnel transaction leaves flight (R155, R165). -/
def endTunnel (tag : Nat) : Node → Node :=
  modPort fun p => { p with tunnels := p.tunnels.filter fun k => k.tag != tag }

/-- A held response is gone. -/
def unhold (tag : Nat) : Node → Node := modPort fun p => { p with held := p.held.filter fun h => h.tag != tag }

/-- R155: a response has been clocked out through its last check byte. With a final status, its transaction leaves flight, and
it is the one that REPEAT returns (R156). -/
def doResponseClockedOut (s : Node) : Node :=
  match s.n.port.out with
  | none => s
  | some (h, tag, body) =>
    if s.portOn then
      let t := modPort (fun p => { p with out := none }) s
      if !isFinal h body then t
      else
        let inFlight := if h = 0x51 then s.n.port.tunnels.any fun k => k.tag == tag else (s.txn 0 tag).isSome
        let u := unhold tag (onlyIf inFlight (modPort fun p => { p with last := some (h, tag, body) }) t)
        if h = 0x51 then endTunnel tag u else leaveFlight 0 tag u
    else s

def execResponseClockedOut (s : State) : Host.Outcome State Fault Refusal := s.run doResponseClockedOut

/-- R154: N_SEL# goes high after a complete frame. -/
def doNSelHigh (s : Node) : Node := if s.nUp && s.n.port.mode == 1 then selectEnds s else s

def execNSelHigh (s : State) : Host.Outcome State Fault Refusal := s.run doNSelHigh

/-- R159, code 5: N_SEL# rises before the last check byte; the frame is discarded and no header is sent. -/
def doAbortedFrame (mode3 : Bool) (s : Node) : Node :=
  if s.portOn then
    let t := if s.n.port.selLow then selectEnds s else s
    detect .n 16 0 (bump .n blkPort 2 0 (modPort (fun p => { p with lastError := 5, spi3 := mode3 }) t))
  else s

def execAbortedFrame (mode3 : Bool) (s : State) : Host.Outcome State Fault Refusal := s.run (doAbortedFrame mode3)

/-- R157: a final response that has stayed held for 1 s is discarded: its transaction leaves flight and N source 16 is
raised. -/
def doHeldResponseDiscard (tag : Nat) (s : Node) : Node :=
  match s.n.port.held.find? fun h => h.tag == tag with
  | none => s
  | some h =>
    if s.nUp && h.complete then
      let t := detect .n 16 0 (bump .n blkPort 6 0 (unhold tag s))
      if h.tunnel then endTunnel tag t else leaveFlight 0 tag t
    else s

def execHeldResponseDiscard (tag : Nat) (s : State) : Host.Outcome State Fault Refusal := s.run (doHeldResponseDiscard tag)

/-! Tunnel (R162 to R165). -/

/-- The cell of a tunnel transaction's final status (R171). -/
def tunnelCell (status : Nat) : Nat :=
  if status = stOk then 0 else if status = stAccess then 1 else if status = stState then 2 else if status = stRange then 3 else 4

/-- A tunnel transaction ends with a status and its bytes (R164). -/
def finishTunnel (tag status : Nat) (bytes : List Byte) (s : Node) : Node :=
  bump .n blkPort 7 (tunnelCell status) (completePort tag 0x51 (leBytes 1 status ++ bytes) s)

/-- The fields of a TUNNEL body are in range (R163). -/
def tunnelFieldsOk (b : TunnelBody) : Bool :=
  decide (b.target ≤ 7) && b.flags == 0 && decide (b.command.length ≤ 2) && decide (b.address.length ≤ 4)
    && decide (b.dummy ≤ 31) && decide (b.write.length ≤ 256) && decide (b.read ≤ 256)

/-- Admits a TUNNEL frame (R162 to R164): refused with ACCESS, STATE or RANGE, ended at once while the Clasp is down, or
answered DEFERRED and sent to the F-die. Target 0 is the value of K:7000 in session 0. -/
def admitTunnel (tag : Nat) (b : TunnelBody) (s : Node) : Node :=
  let target := if b.target = 0 then selOf (s.selectsOf 0) 0x7000 else b.target
  if s.val 0x1208 = 0 then finishTunnel tag stAccess [] s
  else if s.n.dev == .boot || s.n.dev == .sealed then finishTunnel tag stState [] s
  else if !tunnelFieldsOk b || s.valAt 0x7010 target = 0 then finishTunnel tag stRange [] s
  else
    let k : TunnelTxn := ⟨tag, target, b, false⟩
    let t := modPort (fun p => { p with tunnels := p.tunnels ++ [k] }) s
    if s.trained then sendData .n 1 (.tunnel tag) (answerDeferred 0x51 tag (leBytes 1 stDeferred) t)
    else finishTunnel tag stRemote [] t

/-- R162 to R165: a TUNNEL frame is refused, admitted, or kept in the busy pattern while 2 tunnel transactions are
outstanding. -/
def doTunnel (tag dest : Nat) (form : Form) (mode3 : Bool) (body : TunnelBody) (s : Node) : Node :=
  if s.portOn then
    let t := selectFrame mode3 8 s
    let code := t.portError (if body.lengthOk then form else if form == .badCheck then form else .badLength) true true tag dest
    if code = 0 then
      if 2 ≤ t.n.port.tunnels.length then modPort (fun p => { p with busy := some (tag, body) }) t
      else admitTunnel tag body t
    else frameError code tag t
  else s

def execTunnel (tag dest : Nat) (form : Form) (mode3 : Bool) (body : TunnelBody) (s : State) :
    Host.Outcome State Fault Refusal := s.run (doTunnel tag dest form mode3 body)

/-- R165: once one of the two outstanding transactions has left flight, the waiting frame is admitted. -/
def doTunnelAdmitAfterWait (s : Node) : Node :=
  match s.n.port.busy with
  | none => s
  | some (tag, body) =>
    if s.portOn && decide (s.n.port.tunnels.length < 2) then
      admitTunnel tag body (modPort (fun p => { p with busy := none }) s)
    else s

def execTunnelAdmitAfterWait (s : State) : Host.Outcome State Fault Refusal := s.run doTunnelAdmitAfterWait

/-- A tunnel transaction is outstanding and has no final response yet. -/
def Node.tunnelOpen (s : Node) (tag : Nat) : Bool :=
  s.n.port.tunnels.any (fun k => k.tag == tag) && s.n.port.held.any (fun h => h.tag == tag && h.tunnel && !h.complete)

/-- The read length of an outstanding tunnel transaction. -/
def Node.tunnelRead (s : Node) (tag : Nat) : Nat := ((s.n.port.tunnels.find? fun k => k.tag == tag).map fun k => k.body.read).getD 0

/-- R164: the F-port has completed a tunnel transaction: OK and its Rd bytes. -/
def doTunnelComplete (tag : Nat) (bytes : List Byte) (s : Node) : Node :=
  if s.nUp && s.tunnelOpen tag then finishTunnel tag stOk (bytes.take (s.tunnelRead tag)) s else s

def execTunnelComplete (tag : Nat) (bytes : List Byte) (s : State) : Host.Outcome State Fault Refusal :=
  s.run (doTunnelComplete tag bytes)

/-- R164: a tunnel transaction that has not completed within K:1209 of admission ends with REMOTE_TIMEOUT. -/
def doTunnelTimeout (tag : Nat) (s : Node) : Node :=
  if s.nUp && s.tunnelOpen tag then finishTunnel tag stRemote [] s else s

def execTunnelTimeout (tag : Nat) (s : State) : Host.Outcome State Fault Refusal := s.run (doTunnelTimeout tag)

/-! Modes (R146, R161). -/

/-- Entering a mode: SLAVE allocates session 0 at once (R87, R161). -/
def enterPortMode (mode : Nat) (s : Node) : Node :=
  let t := modPort (fun p => { lastError := p.lastError, spi3 := p.spi3, mode := mode }) s
  if mode = 1 then allocSession 0 .nport 0 t else t

/-- Leaving SLAVE releases session 0; its transactions, held responses and tunnel transactions are discarded (R146). One that
still waits to be executed on the F-die is not executed there. -/
def leaveSlave (s : Node) : Node :=
  let t := modClasp .n (fun c =>
    { c with waiting := c.waiting.filter fun f => match f.msg with
        | .request 0 _ => false
        | .tunnel _ => false
        | _ => true }) s
  let u := modFPort (fun x => { x with tunnels := [] })
    (modF (fun f => { f with inbox := f.inbox.filter fun e => !(e.1.session == 0 && e.2) }) t)
  modDict (fun d => { d with txns := d.txns.filter (fun t => t.session != 0), sessions := tdel d.sessions 0 }) u

/-- The port leaves MASTER while a stored transaction runs: its step fails. -/
def dropMaster (s : Node) : Node :=
  match s.n.port.master with
  | some m => endOutstanding .n m.runner (failStep .n m.runner 0x22 (modPort (fun p => { p with master := none }) s))
  | none => s

/-- R146: the new mode takes effect once the response to its write has been delivered or discarded. -/
def doNportModeApply (s : Node) : Node :=
  match s.n.port.modeDue with
  | none => s
  | some mode =>
    if s.nUp && !s.keyInFlight 0x1200 && !s.keyInFlight 0xF001 then
      let t := modPort (fun p => { p with modeDue := none }) s
      if mode = s.n.port.mode then t
      else enterPortMode mode (if s.n.port.mode = 1 then leaveSlave t else dropMaster t)
    else s

def execNportModeApply (s : State) : Host.Outcome State Fault Refusal := s.run doNportModeApply

/-! Master transactions (R166, R167). -/

/-- The read length of a stored N-port transaction (R166). -/
def masterRead (blob : List Byte) : Nat := fromLe (slice blob 5 2)

/-- A stored transaction starts, with the BLOB as it stands now (R167). An empty BLOB fails its step (R169). -/
def beginMaster (m : MasterStart) (s : Node) : Node :=
  let blob := s.blob (0x1210 + m.index)
  if blob == [] then endOutstanding .n m.runner (failStep .n m.runner 0x22 s)
  else bump .n blkPort 10 0 (modPort (fun p => { p with master := some { m with blob := blob } }) s)

/-- An NPORT step is issued and starts its transaction (R167, R300). -/
def issueMaster (m : MasterStart) (late : Nat) (s : Node) : Node :=
  beginMaster m (beginStep .n m.runner (issueStep .n m.runner.runner 0x22 late s))

/-- A start that waited begins, its wait reported as the step's lateness, if its list still stands at that step (R167). -/
def issueWaiting (m : MasterStart) (s : Node) : Node :=
  match s.stepAt .n m.runner.runner 0x22 with
  | some (run, _) => if s.isRun .n m.runner then issueMaster m (lateBy (s.time .n) run.sched) s else s
  | none => s

/-- Starts waiting transactions until one runs. -/
def nextMaster : List MasterStart → Node → Node
  | [], s => s
  | m :: rest, s =>
    if s.n.port.master.isSome then s
    else nextMaster rest (issueWaiting m (modPort (fun p => { p with starts := rest }) s))

/-- An NPORT step meets its start (R167, R300): it fails while the mode is not MASTER, waits unissued while another
transaction runs, which is counted as delayed (R171), and is issued otherwise. -/
def startMaster (m : MasterStart) (late : Nat) (s : Node) : Node :=
  if s.n.port.mode ≠ 2 then detect .n 16 0 (failStep .n m.runner 0x22 (issueStep .n m.runner.runner 0x22 late s))
  else if s.n.port.master.isNone then issueMaster m late s
  else if s.n.port.starts.any fun w => w.runner == m.runner then s
  else bump .n blkPort 11 0 (modPort (fun p => { p with starts := p.starts ++ [m] }) s)

/-- R167: a master transaction ends: its read bytes are stored at the destination, and a waiting start begins. -/
def doNportMasterEnd (bytes : List Byte) (s : Node) : Node :=
  match s.n.port.master with
  | none => s
  | some m =>
    if s.nUp then
      let t := stepData .n m.runner 0x22 m.dest (some (bytes.take (masterRead m.blob))) false
        (modPort (fun p => { p with master := none }) s)
      nextMaster t.n.port.starts t
    else s

def execNportMasterEnd (bytes : List Byte) (s : State) : Host.Outcome State Fault Refusal := s.run (doNportMasterEnd bytes)

/-! Status and interrupt (R160, R170). -/

/-- K:1203 (R170). -/
def Node.portStatus (s : Node) : Nat :=
  let p := s.n.port
  p.lastError % 16 * 1048576 + (p.held.filter fun h => h.complete).length % 8 * 512
    + (p.held.filter fun h => !h.complete).length % 8 * 64 + p.tunnels.length % 4 * 16 + p.mode % 4 * 4 + b2n p.spi3

/-- N_IRQ# is low: an unacknowledged event with I, or a complete held response while K:1202 is 1 (R160, R465). -/
def Node.irqLow (s : Node) : Bool :=
  s.nUp && (s.n.faults.unack != 0 || (s.val 0x1202 == 1 && s.n.port.held.any fun h => h.complete))

end Sys2Proof.Machine
end

