-- ==== Sys2Proof/Machine/ChainOps.lean ====
section
/-! DEFINITION. Link ports, their queues, routes and the frames a node originates or forwards on the Chain (R313 to R340). -/

namespace Sys2Proof.Machine

open Sys2Proof

/-! Link ports. -/

/-- The link ports, in the order A, B, C. -/
def ports : List Port := [.a, .b, .c]

/-- The number of a port: 0 A, 1 B, 2 C. -/
def portCode : Port → Nat
  | .a => 0
  | .b => 1
  | .c => 2

/-- The port of a number, A for any other. -/
def portOf (n : Nat) : Port := if n = 1 then .b else if n = 2 then .c else .a

/-- A link port of the node. -/
def Node.link (s : Node) : Port → Link
  | .a => s.f.linkA
  | .b => s.f.linkB
  | .c => s.f.linkC

/-- Changes a link port. -/
def modLink (p : Port) (g : Link → Link) : Node → Node :=
  modF fun f =>
    match p with
    | .a => { f with linkA := g f.linkA }
    | .b => { f with linkB := g f.linkB }
    | .c => { f with linkC := g f.linkC }

/-- The fault source of a port (R322). -/
def linkSource (p : Port) : Nat := 18 + portCode p

/-- The crossing of a port, counted from 0 (R228). -/
def linkCrossing (p : Port) : Nat := 7 + portCode p

/-- The link ports are parked: they are off but for rendezvous (R357, R367). -/
def Node.portsParked (s : Node) : Bool :=
  match s.f.park.state with
  | .none => false
  | .unparking => false
  | .parked => true
  | .listening => true
  | .adrift => true
  | .fallback => true

/-- The port works: the F-die is ready, the port is not parked and its crossing is whole (R240, R357). -/
def Node.linkOn (s : Node) (p : Port) : Bool := s.fUp && !s.portsParked && !s.torn .f (linkCrossing p)

/-- The port is UP. -/
def Node.portUp (s : Node) (p : Port) : Bool := s.linkOn p && (s.link p).state == .up

/-- The ports that are UP. -/
def Node.upPorts (s : Node) : List Port := ports.filter fun p => s.portUp p

/-- The UP ports of a role. -/
def Node.rolePorts (s : Node) (r : Role) : List Port := s.upPorts.filter fun p => (s.link p).role == r

/-- The own serial as a number (K:0004). -/
def ownSerial : Nat := Config.serial.toNat

/-! Counting (R354). -/

/-- A counter of a port, by its place in the list of R354: 0 frames sent and received, 1 discards, 2 drops, 3 failures, 4
disables and HELD episodes, 5 time UP, 6 delay samples rejected, 7 histogram. Each port repeats the list: port A at the
indexes 0 to 7, B at 8 to 15, C at 16 to 23; the node's list goes on at 24. -/
def linkCountBy (p : Port) (item cell n : Nat) : Node → Node := countBy .f blkChain (portCode p * 8 + item) cell n

/-- Counts one. -/
def linkCount (p : Port) (item cell : Nat) : Node → Node := linkCountBy p item cell 1

/-- Frames dropped: 0 at a full queue, 1 for the hop limit, 2 for lack of a route. A frame that came through no port is
counted on port A. -/
def dropFrames (p : Option Port) (cell n : Nat) : Node → Node := linkCountBy (p.getD .a) 2 cell n

/-! Frames. -/

/-- Types of frames (R318). -/
def tyHello : Nat := 0
def tyDiscover : Nat := 3
def tyReport : Nat := 4
def tyAssign : Nat := 5
def tyCommit : Nat := 6
def tyJoin : Nat := 7
def tyRediscover : Nat := 8
def tyRepair : Nat := 9
def tyCandidate : Nat := 10
def tyTry : Nat := 11
def tyAttach : Nat := 12
def tyAttachOk : Nat := 13
def tyFlip : Nat := 14
def tyTopo : Nat := 15
def tyTime : Nat := 16
def tyStatus : Nat := 17
def tyTrigger : Nat := 18

/-- The urgent bit of a type (R318). -/
def typeUrgent (ty : Nat) : Bool := [3, 5, 6, 9, 10, 11, 12, 13, 14, 15, 16, 18, 19, 20].contains ty

/-- Types of the link, which the queue order and the sequence count leave out (R316, R336). -/
def bypasses (ty : Nat) : Bool := decide (ty ≤ 2)

/-- A port carries a frame type in its state and role (R320). -/
def carries (l : Link) (ty : Nat) : Bool :=
  match l.state with
  | .bringup => ty == 0
  | .up =>
    match l.role with
    | .parent => true
    | .child => true
    | .standby => [0, 1, 2, 3, 12, 13, 14, 23, 24].contains ty
    | .none => [0, 1, 2, 3, 12, 13, 14, 23, 24].contains ty
  | _ => false

/-- A two-word value, lower word first (R319). -/
def twoWords (n : Nat) : List Nat := [n % 16777216, n / 16777216 % 16777216]

/-- A frame of words from this node, not yet given its sequence. -/
def wordFrame (src dst ty hop typeField : Nat) (ws : List Nat) : ChainFrame :=
  ⟨dst, src, ty, hop, 0, typeUrgent ty, typeField, 0, ws⟩

/-! Queues (R336). -/

/-- The place of a frame in the order of a queue: DISCOVER, which follows at the end of the frame on the line (R326), then the
other urgent frames, then the rest. -/
def queueRank (f : ChainFrame) : Nat := if f.type = tyDiscover then 0 else if f.urgent then 1 else 2

/-- Puts a frame into a queue, behind those of its own place. -/
def insertFrame (f : ChainFrame) : List ChainFrame → List ChainFrame
  | [] => [f]
  | x :: xs => if queueRank f < queueRank x then f :: x :: xs else x :: insertFrame f xs

/-- A frame goes out on the line, counted by type; LINK_ERR corrupts every A-th one there (R354, R535). -/
def putOnLine (p : Port) (type : Nat) (s : Node) : Node :=
  linkCount p 0 (type % 25) (match s.filFind .f filLinkErr fun t => t == portCode p with
    | some i => (filEvery i s).1
    | none => s)

/-- A free port starts the next frame: HELLO and PDELAY first, then the queue (R336), which stands still while the port is
parked (R357). -/
def startNext (p : Port) (s : Node) : Node :=
  let l := s.link p
  if l.busy || !(l.state == .bringup || l.state == .up) then s
  else match l.bypass with
    | f :: rest => putOnLine p f.type (modLink p (fun l => { l with busy := true, bypass := rest }) s)
    | [] =>
      if l.state == .up && !s.portsParked then
        match l.queue with
        | f :: rest => putOnLine p f.type (modLink p (fun l => { l with busy := true, queue := rest }) s)
        | [] => s
      else s

/-- Sends a frame that bypasses the queue. -/
def sendBypass (p : Port) (f : ChainFrame) (s : Node) : Node :=
  startNext p (modLink p (fun l => { l with bypass := l.bypass ++ [f] }) s)

/-- Puts a frame into a port's queue; the queue's room has been looked at. -/
def enqueue (p : Port) (f : ChainFrame) (s : Node) : Node :=
  startNext p (modLink p (fun l => { l with queue := insertFrame f l.queue }) s)

/-- A port's queue is full. -/
def Node.queueFull (s : Node) (p : Port) : Bool := decide (16 ≤ (s.link p).queue.length)

/-- A forwarded frame that finds the queue full is dropped and counted (R336). -/
def forwardOn (p : Port) (f : ChainFrame) (s : Node) : Node :=
  if s.queueFull p then dropFrames (some p) 0 1 s else enqueue p f s

/-! The parent table and routes (R333). -/

/-- The row of a node in the parent table. -/
def Node.tableRow (s : Node) (d : Nat) : Option NodeRow := s.f.chain.table.find? fun r => r.number == d && d != 0

/-- The parent of a node, 0 for the root and for a node the table does not hold. -/
def Node.parentOf (s : Node) (d : Nat) : Nat := ((s.tableRow d).map NodeRow.parent).getD 0

/-- The child of a node through which another descends from it, looking up at most `fuel` parents. -/
def Node.childToward (s : Node) (self : Nat) : Nat → Nat → Option Nat
  | 0, _ => none
  | fuel + 1, d =>
    if d = 0 then none
    else if s.parentOf d = self then some d
    else s.childToward self fuel (s.parentOf d)

/-- A node lies in the subtree of another. -/
def Node.inSubtree (s : Node) (x d : Nat) : Bool := x == d || (s.childToward x 32 d).isSome

/-- Hops from a node up to one of its ancestors. -/
def Node.hopsUp (s : Node) (x : Nat) : Nat → Nat → Nat
  | 0, _ => 0
  | fuel + 1, d => if d = x ∨ d = 0 then 0 else 1 + s.hopsUp x fuel (s.parentOf d)

/-- The port to a child: the CHILD port that it is the neighbour of, else an UP port, else one that has lost it (R333, R339). -/
def Node.portTo (s : Node) (n : Nat) : Option Port :=
  let ps := ports.filter fun p => (s.link p).neighbour == n && n != 0
  match ps.find? fun p => s.portUp p && (s.link p).role == .child with
  | some p => some p
  | none => match ps.find? fun p => s.portUp p with
    | some p => some p
    | none => ps.head?

/-- Where a frame for a destination goes. -/
inductive Route where
  | here
  | port (p : Port)
  | none
  deriving DecidableEq, Repr

/-- The route to a node of the parent table (R333). -/
def Node.route (s : Node) (d : Nat) : Route :=
  let self := s.f.chain.number
  if d = self then .here
  else match s.childToward self 32 d with
    | some c => match s.portTo c with
      | some p => .port p
      | none => .none
    | none => match s.f.chain.parentPort with
      | some p => .port p
      | none => .none

/-- The Chain routes frames (R330). -/
def Node.routes (s : Node) : Bool := s.f.chain.state != .off && s.f.chain.state != .noRoot

/-- The ports of a broadcast: every PARENT and CHILD port but one (R334). -/
def Node.treePorts (s : Node) (except : Option Port) : List Port :=
  s.upPorts.filter fun p => ((s.link p).role == .parent || (s.link p).role == .child) && some p != except

/-- A frame leaves the Chain through CAN (R335): it crosses to the N-die on stream 2. -/
def egress (f : ChainFrame) (s : Node) : Node := bump .f blkChain 28 0 (sendData .f 2 (.chain f) s)

/-- The own CAN port is error-active (R335). -/
def Node.canActive (s : Node) : Bool := s.trained && s.n.can.state == .active

/-- A frame for a node that is not in the parent table (R335). `send` puts it on a port. -/
def unknownDest (send : Port → ChainFrame → Node → Node) (from_ : Option Port) (f : ChainFrame) (s : Node) : Node :=
  if s.val 0x400A = 1 && s.canActive then egress f s
  else match s.f.chain.parentPort with
    | some p => if s.f.chain.root then dropFrames from_ 2 1 s else send p f s
    | none => dropFrames from_ 2 1 s

/-- The head of a partition drops frames for nodes outside it and for destination 0 (R340). -/
def Node.cutOff (s : Node) (d : Nat) : Bool :=
  s.f.chain.head && s.f.chain.state == .partitioned && (d == 0 || !s.inSubtree s.f.chain.number d)

/-- Sends a frame on its way by its destination, after any local delivery (R334, R335). -/
def sendOn (send : Port → ChainFrame → Node → Node) (from_ : Option Port) (f : ChainFrame) (s : Node) : Node :=
  if !s.routes then dropFrames from_ 2 1 s
  else if f.dst = 127 then forEach (s.treePorts from_) (fun p s => send p f s) s
  else if s.cutOff f.dst then dropFrames from_ 2 1 s
  else if f.dst = 0 then
    (if s.f.chain.root then s
     else match s.f.chain.parentPort with
      | some p => send p f s
      | none => dropFrames from_ 2 1 s)
  else if (s.tableRow f.dst).isSome then
    match s.route f.dst with
    | .here => s
    | .port p => send p f s
    | .none => dropFrames from_ 2 1 s
  else unknownDest send from_ f s

/-- A frame that the node originates: it waits, and stalls its source, while the queue is full (R336). -/
def originOn (p : Port) (f : ChainFrame) (s : Node) : Node :=
  if s.queueFull p then modChain (fun c => { c with stalled := c.stalled ++ [(p, f)] }) s else enqueue p f s

/-- The next sequence of the node (R316). -/
def takeSeq (f : ChainFrame) (s : Node) : ChainFrame × Node :=
  ({ f with seq := s.f.chain.seq }, modChain (fun c => { c with seq := (c.seq + 1) % 256 }) s)

/-- Originates a frame (R316, R334): it gets the node's next sequence. A node with number 0 originates only DISCOVER, REPORT and
JOIN (R329). -/
def originate (f : ChainFrame) (s : Node) : Node :=
  if s.fUp && (s.f.chain.number != 0 || [3, 4, 7].contains f.type) then
    let r := takeSeq f s
    sendOn originOn none r.1 r.2
  else s

/-- Sends one frame on given ports: one frame, one sequence (R316). -/
def sendPorts (ps : List Port) (f : ChainFrame) (s : Node) : Node :=
  let r := takeSeq f s
  forEach ps (fun p s => originOn p r.1 s) r.2

/-- Frames that wait for a queue are tried again. -/
def unstall (s : Node) : Node :=
  forEach s.f.chain.stalled (fun e s => originOn e.1 e.2 s) (modChain (fun c => { c with stalled := [] }) s)

/-- Frames kept by a failed port move to the queue of their new route; those that do not fit are dropped (R339). TIME frames are
never kept, and frames for all nodes have no other route. -/
def moveOrphans (p : Port) (s : Node) : Node :=
  let l := s.link p
  if l.orphaned then
    let kept := l.queue.filter fun f => f.type != tyTime
    startNext p (forEach (kept.filter fun f => f.dst != 127) (fun f s => sendOn forwardOn none f s)
      (modLink p (fun l => { l with queue := kept.filter fun f => f.dst == 127, orphaned := l.state != .up }) s))
  else s

/-- Frames for all nodes that a failed PARENT port kept go on by the new one (R339). -/
def moveBroadcasts (old new : Port) (s : Node) : Node :=
  let l := s.link old
  if l.orphaned && old != new then
    forEach (l.queue.filter fun f => f.dst == 127 && f.type != tyTime) (forwardOn new)
      (modLink old (fun l => { l with queue := l.queue.filter fun f => f.dst != 127 }) s)
  else s

/-- A waiting frame of a port that is not UP is routed anew, but for one of the port alone. -/
def rerouteStalled (e : Port × ChainFrame) (s : Node) : Node :=
  if s.portUp e.1 || e.2.dst == 127 || [tyAttach, tyAttachOk, tyFlip].contains e.2.type then
    modChain (fun c => { c with stalled := c.stalled ++ [e] }) s
  else sendOn originOn none e.2 s

/-- The routes have changed: kept and waiting frames move. -/
def routesChanged (s : Node) : Node :=
  let t := forEach ports moveOrphans s
  forEach t.f.chain.stalled rerouteStalled (modChain (fun c => { c with stalled := [] }) t)

/-- The ports by which a frame that the node originates for a destination would leave now. -/
def Node.exitPorts (s : Node) (dst : Nat) : List Port :=
  if dst = 127 then s.treePorts none
  else if (s.tableRow dst).isSome then
    match s.route dst with
    | .port p => [p]
    | _ => []
  else if s.val 0x400A = 1 && s.canActive then []
  else if s.f.chain.root then []
  else s.f.chain.parentPort.toList

/-! Node number (R325, K:0012). -/

/-- The N-die shows the Chain number, or the configured number while the Chain has given none. -/
def syncNumber (s : Node) : Node :=
  modN (fun n =>
    { n with number := if s.trained && s.f.chain.number != 0 then s.f.chain.number
             else if s.trained || n.number == 0 then s.val 0x0011 else n.number }) s

/-- A node cause: F source 18, and K:4002 (R351). -/
def nodeCause (c : Nat) (s : Node) : Node := detect .f 18 c (modChain (fun x => { x with nodeCause := c }) s)

/-! Repair (R337, R338). -/

/-- The depth of a node in the table. -/
def Node.depthOf (s : Node) (d : Nat) : Nat := ((s.tableRow d).map NodeRow.depth).getD 0

/-- The standby ports that lead outside the subtree of the repairer, in the order B, C, A. -/
def Node.standbyOut (s : Node) (x : Nat) : List Port :=
  [Port.b, Port.c, Port.a].filter fun p =>
    s.portUp p && (s.link p).role == .standby && (s.tableRow (s.link p).neighbour).isSome
      && !s.inSubtree x (s.link p).neighbour

/-- The own CANDIDATE for a repairer (R338, step 2): the port whose node has the lowest depth. -/
def Node.ownCandidate (s : Node) (x : Nat) : Candidate :=
  let ps := s.standbyOut x
  let least := ps.foldl (fun m p => min m (s.depthOf (s.link p).neighbour)) 64
  match ps.find? fun p => s.depthOf (s.link p).neighbour == least with
  | some p => ⟨s.f.chain.number, true, p, (s.link p).neighbour, least⟩
  | none => ⟨s.f.chain.number, false, .a, 0, 0⟩

/-- Starts a repair at this node (R337, R338 step 1). -/
def startRepair (s : Node) : Node :=
  let x := s.f.chain.number
  sendPorts (s.rolePorts .child)
    (wordFrame x 127 tyRepair 31 0 [x * 131072 + s.f.chain.epoch * 256])
    (modChain (fun c => { c with state := .repairing, head := false, repair := some { found := [s.ownCandidate x] } }) s)

/-- A port leaves its tree: it has no role and no neighbour data, and its queue is kept (R339). -/
def Link.dropped (st : LinkPortState) (cause : Nat) (l : Link) : Link :=
  { l with
    state := st, role := .none, serial := 0, nbParent := false, nbRoot := 0, hellos := 0, heard := false
    cause := cause, bypass := [], busy := false, delays := [], rejections := 0, t1 := none, answered := false, orphaned := true }

/-- The port was the PARENT of a numbered node: its loss makes the node a repairer (R337). -/
def Node.lostParent (s : Node) (p : Port) : Bool := (s.link p).role == .parent && s.f.chain.number != 0 && s.routes

/-- Disables in a row: none once the port has been clean and UP for 60 s (R324). -/
def Node.disablesNow (s : Node) (p : Port) : Nat :=
  let l := s.link p
  if l.state == .up && decide (l.cleanFrom + 60 * ticksPerSecond ≤ s.f.ticks) then 0 else l.disables

/-- A clean spell of a port ends here, by an error or as it leaves UP. -/
def endClean (p : Port) (s : Node) : Node :=
  modLink p (fun l => { l with disables := s.disablesNow p, cleanFrom := s.f.ticks }) s

/-- A port fails (R322): it raises its source, records the cause and returns to BRINGUP, or stays DISABLED or HELD (R324). -/
def failPort (p : Port) (cause : Nat) (next : LinkPortState) (s : Node) : Node :=
  let lost := s.lostParent p
  let t := detect .f (linkSource p) cause (linkCount p 3 cause (modLink p (Link.dropped next cause) (endClean p s)))
  if lost then startRepair t else t

/-- A port is turned off by its setting, or starts where it is turned on (R320, R325). -/
def enablePort (p : Port) (on : Bool) (s : Node) : Node :=
  let l := s.link p
  if on then
    (if l.state == .off then modLink p (fun l => { l with state := if s.f.chain.settled && !s.f.park.around then .bringup else .listen }) s else s)
  else if l.state == .off then s
  else
    let lost := s.lostParent p
    let t := modLink p (Link.dropped .off l.cause) (endClean p s)
    if lost then startRepair t else t

/-- A port's state at F-die ready: LISTEN where K:4008 enables it (R320). -/
def startPorts (s : Node) : Node :=
  forEach ports (fun p s => modLink p (fun _ => { state := if bit (s.val 0x4008) (portCode p) then .listen else .off }) s) s

end Sys2Proof.Machine
end

