-- ==== Sys2Proof/Machine/HallmarkOps.lean ====
section
/-! DEFINITION. Hallmark time: its faults, steps across launch slots, sources and the servo (R249 to R277). -/

namespace Sys2Proof.Machine

open Sys2Proof

/-! Units. Offsets are in 1/8 ns (K:3008), rates in 10^-15, slews in femtoseconds. -/

/-- Ticks as an offset in 1/8 ns, rounded down. -/
def offsetOfTicks (t : Int) : Int := t * 8000000000 / 67108864

/-- An offset in 1/8 ns as the nearest whole number of ticks (R265). -/
def ticksOfOffset (o : Int) : Int := (o * 134217728 + 8000000000) / 16000000000

/-- The signed number of ticks by which a is ahead of b (R249). -/
def ticksAhead (a b : T48) : Int := (a - b).toInt

/-- An offset in µs, saturated to a signed word (K:300A). -/
def wantedOf (o : Int) : Int := clampInt 8388607 (Int.tdiv o 8000)

/-- The threshold of K:3011 in 1/8 ns. -/
def Node.stepThreshold (s : Node) : Nat := s.val 0x3011 * 8000

/-- An offset lies beyond K:3011. -/
def Node.beyond (s : Node) (o : Int) : Bool := decide (s.stepThreshold < o.natAbs)

/-- The policy allows a step of that sign (R264). -/
def Node.stepAllowed (s : Node) (o : Int) : Bool :=
  match s.val 0x3010 with
  | 0 => true
  | 2 => decide (0 < o)
  | _ => false

/-! Time faults (R275, R277). -/

/-- The bit of a cause. -/
def causeBit (c : Nat) : BitVec 6 := BitVec.ofNat 6 (2 ^ c)

/-- Raises N source 19 with a cause, which is present from now on. -/
def raise19 (c : Nat) (s : Node) : Node :=
  detect .n 19 c (modFaults .n (fun x => { x with cond := setSrc x.cond 19 true })
    (modHm (fun h => { h with lastCause := c, conds := h.conds ||| causeBit c }) s))

/-- A cause of N source 19 is over: the source's live state ends with the last of them. -/
def end19 (c : Nat) (s : Node) : Node :=
  let t := modHm (fun h => { h with conds := h.conds &&& ~~~ causeBit c }) s
  if s.n.hm.conds != 0 && t.n.hm.conds == 0 then setCond .n 19 false 0 t else t

/-- Raises F source 23 with a cause that lasts no longer than its detection: a set of the follower, or an era that
disagreed. -/
def raise23 (c : Nat) (s : Node) : Node :=
  let t := detect .f 23 c (modFol (fun x => { x with lastCause := c }) s)
  if t.f.faults.cond.getLsbD 23 then t else condFell .f 23 t

/-- The bin of a holdover's duration (R276). -/
def holdoverBin (ms : Nat) : Nat := if ms < 1000 then 0 else if ms < 60000 then 1 else 2

/-- The number of a master state in K:3001 (R273). -/
def TimeState.code : TimeState → Nat
  | .free => 0
  | .tracking => 1
  | .holdover => 2

/-- The master changes its state; a holdover that ends is counted by its duration (R276). Causes 1 and 2
end with holdover. -/
def setTimeState (st : TimeState) (s : Node) : Node :=
  let h := s.n.hm
  if h.state = st then s
  else
    let ms := msOf (lateBy h.count h.since)
    let t := onlyIf (h.state == .holdover) (bump .n blkTime 3 (holdoverBin ms)) s
    let u := modHm (fun h => { h with state := st, since := h.count }) t
    if h.state == .holdover then end19 2 (end19 1 u) else u

/-- The master takes a source, which is counted as a switch where it changes (R256, R276). -/
def setTimeSource (src : Nat) (s : Node) : Node :=
  if s.n.hm.source = src then s else bump .n blkTime 2 src (modHm (fun h => { h with source := src }) s)

/-! Launch slots across a jump of the count (R266, R267, R293). -/

/-- A launch time lies after the old time and no later than the new one. -/
def spanned (old new launch : T48) : Bool :=
  decide (0 < ticksAhead launch old) && decide (ticksAhead launch old ≤ ticksAhead new old)

/-- The first period instant after a time (R293). -/
def periodAfter (launch new : T48) (p : Nat) : T48 :=
  let behind := ticksAhead new launch
  if p = 0 ∨ behind < 0 then launch else addTicks launch ((behind.toNat / p + 1) * p : Nat)

/-- Moves a periodic slot to its first period instant after the new time (R293). -/
def slotPast (d : Die) (i : Nat) (new : T48) (s : Node) : Node :=
  let x := s.slot d i
  if x.state == .armed || x.state == .rearmed then
    putSlot d i { x with launch := periodAfter x.launch new (periodTicks x.period) } s
  else s

/-- A skipped slot that ends without launching (R266): a one-shot becomes free, a periodic slot goes on after the new time. -/
def dropSlot (d : Die) (i : Nat) (s : Node) : Node :=
  let x := s.slot d i
  bump d blkSeq 3 0 (record d i x.list 2 x.launch 0 (putSlot d i (skipped x) s))

/-- What R266 does to one slot that a forward jump has skipped over. -/
def slotOver (d : Die) (new : T48) (drop : Bool) (i : Nat) (s : Node) : Node :=
  slotPast d i new (onlyIf (d == .f) (bump .f blkTime 2 (b2n drop))
    (if drop then dropSlot d i s else launchSlot d i true s))

/-- Puts a slot into its place: ascending launch time, then ascending slot number (R266). -/
def insertLaunch (k i : Nat) : List (Nat × Nat) → List (Nat × Nat)
  | [] => [(k, i)]
  | e :: es => if k < e.1 then (k, i) :: e :: es else e :: insertLaunch k i es

/-- The slots that a jump skips over, in the order of R266. -/
def Node.skippedSlots (s : Node) (d : Die) (old new : T48) : List Nat :=
  ((List.range 32).foldl (fun l i =>
    let x := s.slot d i
    if (x.state == .armed || x.state == .rearmed) && spanned old new x.launch then
      insertLaunch (ticksAhead x.launch old).toNat i l
    else l) []).map Prod.snd

/-- The count of a die has jumped from an old time to its present one: slots skipped over by a forward jump launch late or are
dropped; after a backward one armed slots wait for the new time (R266, R267). -/
def jumped (d : Die) (old : T48) (drop : Bool) (s : Node) : Node :=
  forEach (s.skippedSlots d old (s.time d)) (slotOver d (s.time d) drop) s

/-! The master. -/

/-- Sets the master's time, and its era where one is given. -/
def setMaster (t : T48) (era : Option Word) (s : Node) : Node :=
  modHm (fun h =>
    { h with count := t, acquired := true, era := era.getD h.era, eraKnown := h.eraKnown || era.isSome, since := t }) s

/-- The bin of a step's size (R276): below 1 ms, to 1 s, larger. -/
def stepBin (ticks : Int) : Nat := if ticks.natAbs < 67109 then 0 else if ticks.natAbs ≤ ticksPerSecond then 1 else 2

/-- A step has been applied: it is counted in K:3001 and by direction and size, and the next CAN time frames say so (R258, R273,
R276). -/
def countStep (ticks : Int) (s : Node) : Node :=
  bump .n blkTime 0 ((if ticks < 0 then 3 else 0) + stepBin ticks) (modCan (fun c => { c with stepped := true })
    (modHm (fun h => { h with steps := satAdd 255 h.steps 1 }) s))

/-- A set under FREE takes effect (R263). -/
def applyFreeSet (s : Node) : Node :=
  match s.n.hm.set with
  | none => s
  | some (d, era) =>
    let old := s.n.hm.count
    jumped .n old (s.val 0x3012 == 1)
      (bump .n blkTime 1 0 (modHm (fun h => { h with set := none }) (setMaster (addTicks old d) era s)))

/-- A phase sample under FREE: the time is set at the next TIME_C instant, at once where the Clasp sends none (R263). -/
def acquire (src : Nat) (ticks : Int) (era : Option Word) (s : Node) : Node :=
  let t := setTimeState .tracking (setTimeSource src (modHm (fun h => { h with set := some (ticks, era) }) s))
  if t.linkUp then t else applyFreeSet t

/-- The instant of a step decided now: the first quarter-second boundary at least 100 ms away (R265). -/
def stepInstantAfter (now : T48) : T48 := BitVec.ofNat 48 ((now.toNat + 6710887 + 16777215) / 16777216 * 16777216)

/-- Holds a scheduled step and has session 7 write it into K:3021 (R265). -/
def scheduleStep (instant amount : T48) (s : Node) : Node :=
  sendData .n 3 .step
    (modHm (fun h => { h with step := some ⟨instant, amount, s.val 0x3012 == 1⟩, wanted := 0, limited := false }) s)

/-- The interval of a source's samples, in seconds as a fraction (R256). -/
def Node.sampleInterval (s : Node) (src : Nat) : Nat × Nat :=
  match src with
  | 1 => (1, 32)
  | 2 => (s.val 0x3006, 1000)
  | _ => (s.val 0x301A, 1024)

/-- r_target from r_rate and r_phase; cause 4 ends when it leaves its limit (R263). -/
def setTarget (rate phase : Int) (s : Node) : Node :=
  let t := modHm (fun h => { h with rTarget := clampInt 2000000000000 (rate + phase) }) s
  if t.n.hm.rTarget.natAbs = 2000000000000 then t else end19 4 t

/-- The policy keeps the servo from a step: cause 3 is raised once per episode, and ends with it (R263, R264). -/
def setLimited (on : Bool) (s : Node) : Node :=
  let was := s.n.hm.limited
  let t := modHm (fun h => { h with limited := on }) s
  if on && !was then raise19 3 (bump .n blkTime 5 0 t) else if !on then end19 3 t else t

/-- The phase path of the servo while tracking (R263). `o` is the offset in 1/8 ns, `ticks` the same in ticks. -/
def phaseSample (src : Nat) (o ticks : Int) (s : Node) : Node :=
  if s.n.hm.step.isSome then s
  else if s.beyond o && s.stepAllowed o then
    scheduleStep (stepInstantAfter s.n.hm.count) (BitVec.ofInt 48 ticks) (setLimited false s)
  else
    let i := s.sampleInterval src
    let s1 := setLimited (s.beyond o) s
    let s2 := modHm (fun h =>
      { h with
        wanted := if s.beyond o then wantedOf o else 0
        slew := 0
        rRate := if src = 1 ∨ s.servoFrozen then h.rRate else h.rRate + o * 125000 * i.2 / (16 * i.1) }) s1
    setTarget s2.n.hm.rRate (clampInt 200000000000 (o * 125000 * i.2 / (4 * i.1))) s2

/-- A source may be used: the setting names it or is AUTO, and it is available to this node (R255). -/
def Node.sourceUsable (s : Node) (src : Nat) : Bool :=
  (s.val 0x3003 == 0 || s.val 0x3003 == src)
    && (match src with
      | 1 => !s.f.chain.root
      | 2 => s.val 0x3005 != 0
      | _ => s.val 0x3018 == 1)

/-- A sample of a source while the master tracks: the one in use goes to the servo, one of a higher priority takes over at the
fourth in a row, and one of a lower priority is left (R255, R256). The answer says whether the servo takes it. -/
def chooseSource (src : Nat) (s : Node) : Node × Bool :=
  let cur := s.n.hm.source
  if cur = src then (s, true)
  else if s.val 0x3003 = src then (setTimeSource src s, true)
  else if cur = 0 ∨ src < cur then
    let n := if s.n.hm.higher.1 = src then s.n.hm.higher.2 + 1 else 1
    if 4 ≤ n then (setTimeSource src (modHm (fun h => { h with higher := (0, 0) }) s), true)
    else (modHm (fun h => { h with higher := (src, n) }) s, false)
  else (s, false)

/-- The offset of a sample that carries an era, over all eras: ticks by which the source is ahead (R250). -/
def eraTicks (srcEra ownEra : Word) (t own : T48) : Int :=
  (srcEra - ownEra).toInt * 281474976710656 + (t.toNat : Int) - (own.toNat : Int)

/-- A sample lies more than 2^21 s away: time and era are set together, as one set (R250). -/
def farAway (ticks : Int) : Bool := decide (140737488355328 < ticks.natAbs)

/-- The era that goes with a time set by a number of ticks within half the range (R250). -/
def eraOfSet (srcEra : Word) (t own : T48) : Word :=
  let d := ticksAhead t own
  if 0 ≤ d ∧ t.toNat < own.toNat then srcEra - 1
  else if d < 0 ∧ own.toNat < t.toNat then srcEra + 1
  else srcEra

/-- A phase sample of a source arrives at the servo (R255, R256, R263); one that comes before a set under FREE has taken effect
says nothing of the time that is to be set. `ticks` is the offset in whole ticks, `o` in 1/8 ns;
`src` 1 is the Chain, 2 CAN, 3 N_SYNC. `era` is the source's era at its time `t`, where it carries one. -/
def takeSample (src : Nat) (o ticks : Int) (era : Option (Word × T48 × T48)) (s : Node) : Node :=
  if !s.nUp || !s.sourceUsable src || s.n.hm.set.isSome then s
  else
    let setEra := era.map fun e => e.1
    match s.n.hm.state with
    | .free => acquire src ticks setEra (modHm (fun h => { h with offset := clampInt 8388607 o }) s)
    | st =>
      let c := if st == .holdover then (setTimeState .tracking (setTimeSource src s), true) else chooseSource src s
      if !c.2 then c.1
      else
        let u := c.1
        let s1 := modHm (fun h => { h with offset := clampInt 8388607 o }) (end19 5 (peak .n blkTime 8 0 o.natAbs u))
        match era with
        | none => phaseSample src o ticks s1
        | some (e, t, own) =>
          if !u.n.hm.eraKnown then
            phaseSample src o ticks (modHm (fun h => { h with era := eraOfSet e t own, eraKnown := true }) s1)
          else if farAway (eraTicks e u.n.hm.era t own) && s1.stepAllowed (eraTicks e u.n.hm.era t own) then
            jumped .n u.n.hm.count (s.val 0x3012 == 1) (setMaster (addTicks u.n.hm.count ticks) (some e)
              (countStep (eraTicks e u.n.hm.era t own) s1))
          else phaseSample src o ticks s1

/-- A CAN time frame is discarded and counted; three in a row raise N source 19 with cause 5 (R259). -/
def discardTime (s : Node) : Node :=
  let t := bump .n blkTime 7 0 (modCan (fun c => { c with timeDiscards := c.timeDiscards + 1 }) s)
  if t.n.can.timeDiscards = 3 then raise19 5 (modCan (fun c => { c with timeDiscards := 0 }) t) else t

/-! Manual time and era (R268). -/

/-- A manual time or era may be written (R268). -/
def Node.manualAllowed (s : Node) : Bool := s.val 0x3003 == 3 || s.val 0x3003 == 4 || s.n.hm.state == .free

/-- A write of K:300B (R268): a set in FREE, a step where the policy allows one, else a slew. -/
def manualSet (v : T48) (s : Node) : Node :=
  let old := s.n.hm.count
  let ticks := ticksAhead v old
  let o := offsetOfTicks ticks
  let drop := s.val 0x3012 == 1
  let s0 := modHm (fun h => { h with set := none, slew := 0 }) s
  if s.n.hm.state == .free then
    jumped .n old drop (setMaster v none (setTimeState .tracking (setTimeSource 4 (bump .n blkTime 1 0 s0))))
  else if s.beyond o && s.stepAllowed o then
    jumped .n old drop (setMaster v none (setTimeSource 4 (setLimited false (countStep ticks
      (modHm (fun h => { h with wanted := 0 }) s0)))))
  else
    setLimited (s.beyond o) (setTimeSource 4 (modHm (fun h =>
      { h with slew := o * 125000, wanted := if s.beyond o then wantedOf o else 0 }) s0))

/-- A write of K:300C (R268). -/
def manualEraSet (v : Word) : Node → Node := modHm fun h => { h with era := v, eraKnown := true }

/-! Readback (R273, R274). -/

/-- K:3001 (R273). -/
def Node.timeStatus (s : Node) : Nat :=
  let h := s.n.hm
  TimeState.code h.state * 4194304 + h.source % 8 * 524288 + b2n s.f.chain.root * 262144 + b2n h.step.isSome * 131072
    + b2n h.limited * 65536 + b2n (decide (h.rTarget.natAbs = 2000000000000)) * 32768 + b2n s.n.crystal * 16384
    + h.lastCause % 8 * 2048 + h.steps % 256

/-- K:3031 (R274). -/
def Node.followerStatus (s : Node) : Nat :=
  let x := s.f.fol
  (match x.state with
    | .unaligned => 0
    | .aligned => 1
    | .holdover => 2) * 4194304 + b2n x.step.isSome * 2097152 + x.lastCause % 4 * 524288 + x.sets % 256

/-- K:3020 and K:3021: empty, or 13 bytes. -/
def stepBytes : Option TimeStep → List Byte
  | none => []
  | some x => leBytes 6 x.instant.toNat ++ leBytes 6 x.amount.toNat ++ leBytes 1 (b2n x.drop)

end Sys2Proof.Machine
end

