-- ==== Sys2Proof/Machine/Chain.lean ====
section
/-! DEFINITION. The Chain's events: neighbours, discovery, numbering, relaying, switchover and services (R320 to R345). -/

namespace Sys2Proof.Machine

open Sys2Proof

/-! Discovery (R326). -/

/-- The DISCOVER that a node sends for its best root. -/
def Node.discoverFrame (s : Node) (b : Best) : ChainFrame :=
  wordFrame s.f.chain.number 127 tyDiscover (31 - s.f.chain.depth) 0 ((b.epoch * 65536 + b.priority) :: twoWords b.serial)

/-- Sends the best root on ports; a DISCOVER whose hop limit would be 0 is not sent, and node cause 3 is raised (R326, R330). -/
def sendBest (ps : List Port) (s : Node) : Node :=
  match s.f.chain.best with
  | none => s
  | some b =>
    if 31 ≤ s.f.chain.depth then (if ps == [] then s else nodeCause 3 s)
    else sendPorts ps (s.discoverFrame b) s

/-- Epoch a is newer than b (R326). -/
def newerEpoch (a b : Nat) : Bool := decide (1 ≤ (a + 256 - b) % 256) && decide ((a + 256 - b) % 256 ≤ 127)

/-- One root is better than another (R326). -/
def better (a b : Best) : Bool :=
  decide (a.priority < b.priority) || (a.priority == b.priority &&
    (decide (a.serial < b.serial) || (a.serial == b.serial && newerEpoch a.epoch b.epoch)))

/-- A discovery starts: a candidate's best is itself with the given epoch, another's is none (R326). -/
def startDiscovery (epoch : Nat) (s : Node) : Node :=
  let cand := s.f.chain.candidateStrap
  let t := bump .f blkChain 24 0 (modChain (fun c =>
    { c with
      state := .discovering, root := false, collecting := false, head := false, repair := none, relayDue := none
      reports := [], sets := [], set := {}, heardAny := cand
      depth := if cand then 0 else c.depth, epoch := if cand then epoch else c.epoch
      parentPort := if cand then none else c.parentPort
      best := if cand then some ⟨s.val 0x4004, ownSerial, epoch⟩ else none }) s)
  let u := forEach ports (fun p s => modLink p (fun l =>
    { l with answered := false, role := if cand && l.role == .parent then .standby else l.role }) s) t
  sendBest u.upPorts u

/-- The ports leave LISTEN for BRINGUP, and discovery starts. -/
def leaveListen (s : Node) : Node :=
  startDiscovery 1 (forEach ports (fun p s =>
    modLink p (fun l => if l.state == .listen then { l with state := .bringup } else l) s) s)

/-- R325: K:4005 after the first training, the ports leave LISTEN for BRINGUP, and discovery starts. While the Chain around is
parked the ports stay in LISTEN (R357). -/
def doChainSettleExpiry (s : Node) : Node :=
  if s.fUp && s.f.chain.settling && !s.f.chain.settled then
    let t := modChain (fun c => { c with settled := true }) s
    if s.f.park.around then t else leaveListen t
  else s

def execChainSettleExpiry (s : State) : Host.Outcome State Fault Refusal := s.run doChainSettleExpiry

/-- A node adopts a better root on a port (R326). A candidate that was the root stops originating. -/
def adoptRoot (p : Port) (d : Discover) (s : Node) : Node :=
  let t := forEach ports (fun q s => modLink q (fun l =>
    { l with
      answered := false
      role := if q = p then .parent else if l.role == .parent then .standby else l.role }) s) s
  modChain (fun c =>
    { c with
      best := some ⟨d.priority, d.rootSerial, d.epoch⟩, epoch := d.epoch, depth := 32 - d.hop, parentPort := some p
      heardAny := true, relayDue := some p, root := false, collecting := false, repair := none, head := false
      sets := [], set := {}, state := .discovering }) t

/-- A DISCOVER is adopted over the node's best (R326). In a partition the root of that best is out of reach, and a discovery
with a newer epoch is adopted whatever its root (R340). -/
def Node.adopts (s : Node) (n b : Best) : Bool := better n b || (s.f.chain.state == .partitioned && newerEpoch n.epoch b.epoch)

/-- R326: a DISCOVER better than the node's best is adopted; a worse one is answered once on its port. -/
def doDiscover (p : Port) (d : Discover) (s : Node) : Node :=
  if s.portUp p then
    let t := modChain (fun c => { c with heardAny := true }) s
    let n : Best := ⟨d.priority, d.rootSerial, d.epoch⟩
    match s.f.chain.best with
    | none => adoptRoot p d t
    | some b =>
      if s.adopts n b then adoptRoot p d t
      else if better b n && !(s.link p).answered then
        sendBest [p] (modLink p (fun l => { l with answered := true }) t)
      else t
  else s

def execDiscover (p : Port) (d : Discover) (s : State) : Host.Outcome State Fault Refusal := s.run (doDiscover p d)

/-- R326: 4 µs after the mark, the adopted DISCOVER goes out on every other UP port. -/
def doDiscoverRelay (s : Node) : Node :=
  match s.f.chain.relayDue with
  | none => s
  | some p =>
    if s.fUp then sendBest (s.upPorts.filter fun q => q != p) (modChain (fun c => { c with relayDue := none }) s) else s

def execDiscoverRelay (s : State) : Host.Outcome State Fault Refusal := s.run doDiscoverRelay

/-- The own report (R327). -/
def Node.ownReport (s : Node) : Report :=
  let one := fun (p : Port) =>
    let l := s.link p
    let up := s.portUp p
    (⟨if up then l.serial else 0, l.letter, up, l.role == .parent⟩ : ReportPort)
  ⟨ownSerial, s.f.chain.configured, s.f.chain.candidateStrap, one .a, one .b, one .c⟩

/-- The words of a REPORT (R327). -/
def reportWords (r : Report) : List Nat :=
  let one := fun (q : ReportPort) =>
    twoWords q.neighbour ++ [q.letter % 4 * 4194304 + b2n q.up * 2097152 + b2n q.parent * 1048576]
  twoWords r.serial ++ [r.configured % 128 + 128 * b2n r.candidate] ++ one r.portA ++ one r.portB ++ one r.portC

/-- The root has no PARENT port. -/
def dropParent (s : Node) : Node :=
  forEach ports (fun p s => modLink p (fun l => { l with role := if l.role == .parent then .standby else l.role }) s)
    (modChain (fun c => { c with parentPort := none }) s)

/-- R327: after a quiet time a node reports to the root, and a candidate whose best is still itself is the root and collects
reports. -/
def doQuietTimeExpiry (s : Node) : Node :=
  match s.f.chain.best with
  | some b =>
    if s.fUp && s.routes then
      if b.serial = ownSerial then
        if s.f.chain.state == .discovering then
          let t := dropParent s
          modChain (fun c => { c with root := true, collecting := true, reports := [t.ownReport] }) t
        else s
      else originate (wordFrame s.f.chain.number 0 tyReport 31 0 (reportWords s.ownReport)) s
    else s
  | none => s

def execQuietTimeExpiry (s : State) : Host.Outcome State Fault Refusal := s.run doQuietTimeExpiry

/-- R330: no candidate heard K:4006 after discovery started: NO_ROOT. -/
def doNoRootTimeout (s : Node) : Node :=
  if s.fUp && s.f.chain.state == .discovering && !s.f.chain.heardAny then
    modChain (fun c => { c with state := .noRoot }) s
  else s

def execNoRootTimeout (s : State) : Host.Outcome State Fault Refusal := s.run doNoRootTimeout

/-! Numbering (R328). -/

/-- A numbering as it grows: the nodes visited with their numbers, in visit order, and the numbers taken. -/
structure Numbering where
  visited : List (Nat × Nat)
  taken : List Nat
  deriving DecidableEq, Repr

/-- The lowest number from 1 to 126 that is not taken, 0 when none is left. -/
def lowestFree (taken : List Nat) : Nat := ((List.range 126).map (· + 1)).find? (fun i => !taken.contains i) |>.getD 0

/-- Numbers one node (R328): its configured number unless one visited earlier holds it, else the lowest free one. -/
def numberNode (serial configured : Nat) (g : Numbering) : Numbering :=
  if configured ≠ 0 then
    { g with visited := g.visited ++ [(serial, if g.visited.any fun e => e.2 == configured then 0 else configured)] }
  else
    let n := lowestFree g.taken
    { visited := g.visited ++ [(serial, n)], taken := if n = 0 then g.taken else n :: g.taken }

/-- The serials a report's UP ports lead to, in the order B, C, A (R328). -/
def reportNeighbours (r : Report) : List Nat :=
  ([r.portB, r.portC, r.portA].filter fun q => q.up).map ReportPort.neighbour

/-- Visits the nodes from a stack of serials, depth first (R328). -/
def visitAll (rs : List Report) : Nat → List Nat → Numbering → Numbering
  | 0, _, g => g
  | _ + 1, [], g => g
  | fuel + 1, n :: stack, g =>
    if g.visited.any fun e => e.1 == n then visitAll rs fuel stack g
    else match rs.find? fun r => r.serial == n with
      | none => visitAll rs fuel stack g
      | some r => visitAll rs fuel (reportNeighbours r ++ stack) (numberNode n r.configured g)

/-- The serial of a reported node's parent: the neighbour on its PARENT port. -/
def parentSerial (r : Report) : Nat := (([r.portA, r.portB, r.portC].find? fun q => q.parent).map ReportPort.neighbour).getD 0

/-- The depth of a reported node, looking up at most `fuel` parents. -/
def reportDepth (rs : List Report) (root : Nat) : Nat → Nat → Nat
  | 0, _ => 0
  | fuel + 1, n =>
    if n = root then 0
    else match rs.find? fun r => r.serial == n with
      | none => 0
      | some r => 1 + reportDepth rs root fuel (parentSerial r)

/-- The assignment set of a discovery (R328, R329). -/
def numberSet (rs : List Report) (root : Nat) : List NodeRow :=
  let taken := (rs.map Report.configured).filter fun n => n != 0
  let g := visitAll rs (4 * rs.length + 1) [root] ⟨[], taken⟩
  let numOf := fun (serial : Nat) => ((g.visited.find? fun e => e.1 == serial).map Prod.snd).getD 0
  g.visited.map fun e =>
    let parent := ((rs.find? fun r => r.serial == e.1).map parentSerial).getD 0
    ⟨e.2, e.1, if e.1 = root then 0 else numOf parent, reportDepth rs root 32 e.1⟩

/-- An ASSIGN entry's words (R329). -/
def assignWords (r : NodeRow) : List Nat :=
  twoWords r.serial ++ [r.number % 128 * 131072 + r.parent % 128 * 1024 + r.depth % 32 * 32]

/-- Sends one assignment set: ASSIGN frames of eight entries, then COMMIT (R329). -/
def sendSet (rows : List NodeRow) (s : Node) : Node :=
  let c := s.f.chain
  let frames := (rows.length + 7) / 8
  let t := forEach (List.range frames)
    (fun i s => originate (wordFrame c.number 127 tyAssign 31 i ((slice rows (8 * i) 8).flatMap assignWords)) s) s
  originate (wordFrame c.number 127 tyCommit 31 0
    [c.epoch % 256 * 65536 + c.rootNumber % 128 * 256 + rows.length % 128, frames % 32]) t

/-- Merges rows into a parent table, by serial. -/
def mergeRows (table rows : List NodeRow) : List NodeRow :=
  table.filter (fun r => !(rows.any fun n => n.serial == r.serial)) ++ rows.filter fun r => r.number != 0

/-- A node takes an assignment set (R329): its number, its parent table and routes; without a number it raises node cause 1 or 2
and sends JOIN. -/
def applySet (root : Nat) (rows : List NodeRow) (s : Node) : Node :=
  let c := s.f.chain
  let inTree := c.state == .up || c.state == .repairing || c.state == .partitioned
  let first := !inTree || c.number == 0
  let own := rows.find? fun r => r.serial == ownSerial
  let t := modChain (fun c =>
    { c with
      table := if inTree then mergeRows c.table rows else rows.filter fun r => r.number != 0
      rootNumber := root, state := if inTree then c.state else .up, set := {}
      number := match own with
        | some r => r.number
        | none => if first then 0 else c.number
      depth := match own with
        | some r => r.depth
        | none => c.depth }) s
  let u := routesChanged (syncNumber t)
  if u.f.chain.number = 0 ∧ first then
    let cause := if c.configured ≠ 0 ∧ own.isSome then 1 else 2
    originate (wordFrame 0 0 tyJoin 31 0 (twoWords ownSerial ++ [c.configured % 128])) (nodeCause cause u)
  else u

/-- The configured number that R328 uses for a report: under keep, every present number counts as configured (R332). -/
def Node.keptConfigured (s : Node) (r : Report) : Report :=
  if s.f.chain.keep then
    match s.f.chain.table.find? fun e => e.serial == r.serial with
    | some e => { r with configured := e.number }
    | none => r
  else r

/-- R328: reports are in, or 100 ms have passed: the root numbers the nodes and sends the set. -/
def doRootCollectEnd (s : Node) : Node :=
  if s.fUp && s.f.chain.root && s.f.chain.collecting then
    let rows := numberSet (s.f.chain.reports.map s.keptConfigured) ownSerial
    let root := ((rows.find? fun r => r.serial == ownSerial).map NodeRow.number).getD 0
    let t := applySet root rows (modChain (fun c =>
      { c with collecting := false, keep := false, sets := [(rows, 2)] }) s)
    sendSet rows t
  else s

def execRootCollectEnd (s : State) : Host.Outcome State Fault Refusal := s.run doRootCollectEnd

/-- R329: each set is sent again until it has been sent three times. -/
def doAssignRepeat (s : Node) : Node :=
  if s.fUp && s.f.chain.root then
    let sets := s.f.chain.sets
    forEach sets (fun e s => sendSet e.1 s)
      (modChain (fun c => { c with sets := (sets.map fun e => (e.1, e.2 - 1)).filter fun e => e.2 != 0 }) s)
  else s

def execAssignRepeat (s : State) : Host.Outcome State Fault Refusal := s.run doAssignRepeat

/-- R329: an ASSIGN frame adds its entries to the set being collected. -/
def doAssign (index : Nat) (rows : List NodeRow) (s : Node) : Node :=
  if s.fUp && s.f.chain.state != .off then
    modChain (fun c => { c with set := { frames := tput c.set.frames index rows } }) s
  else s

def execAssign (index : Nat) (rows : List NodeRow) (s : State) : Host.Outcome State Fault Refusal := s.run (doAssign index rows)

/-- R329: a COMMIT completes a set that carries the node's root and epoch; an incomplete one is dropped. -/
def doCommit (epoch root entries frames : Nat) (s : Node) : Node :=
  if s.fUp && s.f.chain.state != .off && !s.f.chain.root then
    let rows := s.f.chain.set.frames.flatMap Prod.snd
    let rootRow := rows.find? fun r => r.number == root
    let mine := match s.f.chain.best, rootRow with
      | some b, some r => r.serial == b.serial
      | _, _ => true
    let t := modChain (fun c => { c with set := {} }) s
    if rows.length == entries && s.f.chain.set.frames.length == frames && epoch == s.f.chain.epoch && mine then
      applySet root rows t
    else t
  else s

def execCommit (epoch root entries frames : Nat) (s : State) : Host.Outcome State Fault Refusal :=
  s.run (doCommit epoch root entries frames)

/-- The root's answer to a JOIN (R331): the number its table holds for the serial, else the configured number if free, else the
lowest free one. A JOIN does not tell the root the node's parent and depth: for a node the table does not hold they are free
values, unless a report gives the parent. -/
def answerJoin (serial configured : Nat) (parent : Option Nat) (s : Node) : Node :=
  let table := s.f.chain.table
  let taken := table.map NodeRow.number
  let known := table.find? fun r => r.serial == serial
  let number := if configured ≠ 0 ∧ !taken.contains configured then configured else lowestFree taken
  let parentRow := parent.bind fun p => table.find? fun r => r.serial == p
  let row : NodeRow := match known, parentRow with
    | some r, some p => { r with parent := p.number, depth := p.depth + 1 }
    | some r, none => r
    | none, some p => ⟨number, serial, p.number, p.depth + 1⟩
    | none, none => ⟨number, serial, s.freeValue % 127, Config.freeValue (s.free + 1) % 32⟩
  let t := if known.isNone && parentRow.isNone then tookFree (tookFree s) else s
  bump .f blkChain 24 1 (sendSet [row] (routesChanged (modChain (fun c =>
    { c with table := mergeRows c.table [row], sets := c.sets ++ [([row], 2)] }) t)))

/-- R331: the root answers a JOIN with a one-entry set that keeps the epoch. -/
def doJoinFrame (serial configured : Nat) (s : Node) : Node :=
  if s.fUp && s.f.chain.root && !s.f.chain.collecting && s.f.chain.state == .up then answerJoin serial configured none s else s

def execJoinFrame (serial configured : Nat) (s : State) : Host.Outcome State Fault Refusal :=
  s.run (doJoinFrame serial configured)

/-- R327: the root collects a REPORT that names it and its epoch; after COMMIT it handles one as a JOIN (R331). -/
def doReportFrame (r : Report) (root epoch : Nat) (s : Node) : Node :=
  if s.fUp && s.f.chain.root && root == ownSerial && epoch == s.f.chain.epoch then
    if s.f.chain.collecting then
      modChain (fun c => { c with reports := c.reports.filter (fun x => x.serial != r.serial) ++ [r] }) s
    else if s.f.chain.state == .up then answerJoin r.serial r.configured (some (parentSerial r)) s
    else s
  else s

def execReportFrame (r : Report) (root epoch : Nat) (s : State) : Host.Outcome State Fault Refusal :=
  s.run (doReportFrame r root epoch)

/-- The root starts a new discovery with its epoch plus 1 (R332). -/
def rediscoverRoot (discard : Bool) (s : Node) : Node :=
  startDiscovery ((s.f.chain.epoch + 1) % 256) (modChain (fun c => { c with keep := !discard }) s)

/-- R332: the root receives REDISCOVER. -/
def doRediscoverFrame (discard : Bool) (s : Node) : Node :=
  if s.fUp && s.f.chain.root then rediscoverRoot discard s else s

def execRediscoverFrame (discard : Bool) (s : State) : Host.Outcome State Fault Refusal := s.run (doRediscoverFrame discard)

/-- K:4007 (R332): REDISCOVER to the root, or at the root itself the new discovery. -/
def rediscoverNow (arg : Nat) (s : Node) : Node :=
  if s.f.chain.root then rediscoverRoot (arg % 2 == 1) s
  else originate (wordFrame s.f.chain.number 0 tyRediscover 31 0 [arg % 2]) s

/-! Neighbours (R321 to R324). -/

/-- The HELLO that a port sends (R321). -/
def Node.helloFrame (s : Node) (p : Port) : ChainFrame :=
  let l := s.link p
  let w2 := portCode p * 4194304 + b2n s.f.chain.candidateStrap * 2097152 + b2n (l.role == .parent) * 1048576
    + b2n l.heard * 524288 + s.f.chain.epoch % 256 * 2048 + s.f.chain.number % 128 * 16
  wordFrame s.f.chain.number 127 tyHello 31 0
    (twoWords ownSerial ++ [w2] ++ twoWords ((s.f.chain.best.map Best.serial).getD 0))

/-- R321: a port in BRINGUP or UP sends HELLO. -/
def doHelloSend (p : Port) (s : Node) : Node :=
  let l := s.link p
  if s.linkOn p && (l.state == .bringup || l.state == .up) then sendBypass p (s.helloFrame p) s else s

def execHelloSend (p : Port) (s : State) : Host.Outcome State Fault Refusal := s.run (doHelloSend p)

/-- The role of an UP port at a HELLO (R323): PARENT stays, else CHILD where the neighbour calls it its parent, else
STANDBY. -/
def roleAt (l : Link) (h : Hello) : Role := if l.role == .parent then .parent else if h.parent then .child else .standby

/-- A node with number 0 sends JOIN through a numbered neighbour whose HELLO names a root, and takes its port as PARENT
(R331). -/
def joinThrough (p : Port) (h : Hello) (s : Node) : Node :=
  if s.f.chain.number == 0 && h.number != 0 && h.rootSerial != 0 && s.portUp p && !s.f.chain.collecting
      && (s.rolePorts .parent == [] || (s.link p).role == .parent) then
    let t := modChain (fun c => { c with parentPort := some p, state := if c.state == .noRoot then .discovering else c.state })
      (modLink p (fun l => { l with role := .parent }) s)
    if (t.link p).queue.any fun f => f.type == tyJoin then t
    else originate (wordFrame 0 0 tyJoin 31 0 (twoWords ownSerial ++ [s.f.chain.configured % 128])) t
  else s

/-- R322: a valid HELLO. In BRINGUP, three in a row with heard = 1 of one serial bring the port UP; an UP port fails on heard = 0
or another serial, and otherwise takes its neighbour's data and its role. -/
def helloOn (p : Port) (h : Hello) (s : Node) : Node :=
  let l := s.link p
  if s.linkOn p then
    match l.state with
    | .bringup =>
      let n := if !h.heard then 0 else if l.serial = h.serial then l.hellos + 1 else 1
      let t := modLink p (fun l =>
        { l with heard := true, hellos := n, serial := h.serial, neighbour := h.number, letter := h.letter
                 nbParent := h.parent, nbRoot := h.rootSerial }) s
      if 3 ≤ n && l.role != .none && h.serial != l.parkedSerial then failPort p 4 .bringup t
      else if 3 ≤ n then
        let u := modLink p (fun l =>
          { l with state := .up, role := if l.role == .none then roleAt l h else l.role, crcErrors := 0, violations := 0, delays := []
                   rejections := 0, t1 := none, answered := false, parkedSerial := h.serial, cleanFrom := s.f.ticks }) t
        joinThrough p h (moveOrphans p (onlyIf ((u.link p).role != .parent) (sendBest [p]) u))
      else t
    | .up =>
      if !h.heard then failPort p 3 .bringup s
      else if h.serial ≠ l.serial then failPort p 4 .bringup s
      else
        joinThrough p h (modLink p (fun l =>
          { l with heard := true, neighbour := h.number, letter := h.letter, nbParent := h.parent, nbRoot := h.rootSerial
                   role := roleAt l h }) s)
    | _ => s
  else s

/-- R322, cause 1: no level change for 0.5 µs. -/
def doLinkSilence (p : Port) (s : Node) : Node := if s.fUp && (s.link p).state == .up then failPort p 1 .bringup s else s

def execLinkSilence (p : Port) (s : State) : Host.Outcome State Fault Refusal := s.run (doLinkSilence p)

/-- R322, cause 2: no valid HELLO for 3.5 ms. In BRINGUP the neighbour is no longer heard (R321). -/
def doHelloTimeout (p : Port) (s : Node) : Node :=
  if s.portUp p then failPort p 2 .bringup s
  else if s.linkOn p && (s.link p).state == .bringup then modLink p (fun l => { l with heard := false, hellos := 0 }) s
  else s

def execHelloTimeout (p : Port) (s : State) : Host.Outcome State Fault Refusal := s.run (doHelloTimeout p)

/-- R324: too many errors within 1 s: the port fails with cause 5 and is DISABLED; after its fourth disable in a row it is HELD,
with cause 6. -/
def disableLink (p : Port) (s : Node) : Node :=
  let n := s.disablesNow p + 1
  let t := linkCount p 4 0 (failPort p 5 .disabled s)
  if 4 ≤ n then linkCount p 4 1 (modLink p (fun l => { l with disables := 4, state := .held, cause := 6 }) t)
  else modLink p (fun l => { l with disables := n }) t

/-- R324: after K:4011 a disabled port returns to BRINGUP. -/
def doDisableHoldoffExpiry (p : Port) (s : Node) : Node :=
  if s.fUp && (s.link p).state == .disabled then modLink p (fun l => { l with state := .bringup }) s else s

def execDisableHoldoffExpiry (p : Port) (s : State) : Host.Outcome State Fault Refusal := s.run (doDisableHoldoffExpiry p)

/-- K:4012 (R350). Only 60 s of clean UP end a row of disables (R324). -/
def reenableLink (p : Port) (s : Node) : Node :=
  let st := (s.link p).state
  if st == .disabled || st == .held then modLink p (fun l => { l with state := .bringup }) s else s

/-! Relaying (R317, R334 to R336). -/

/-- Why a port discards a frame: 0 CRC, 1 violation, 2 length, 3 reserved type, 4 role; none where it takes it (R317). -/
def discardCause (l : Link) (err : FrameError) (f : ChainFrame) : Option Nat :=
  match err with
  | .crc => some 0
  | .violation => some 1
  | .length => some 2
  | .none => if 25 ≤ f.type then some 3 else if !carries l f.type then some 4 else none

/-- Discards a frame, counting CRC errors and code violations on the port (R324, K:4023). -/
def discardFrame (p : Port) (cause : Nat) (overRate : Bool) (s : Node) : Node :=
  let t := linkCount p 1 cause (modLink p (fun l =>
    { l with
      crcErrors := if cause = 0 then satAdd 4095 l.crcErrors 1 else l.crcErrors
      violations := if cause = 1 then satAdd 4095 l.violations 1 else l.violations })
    (onlyIf (decide (cause ≤ 1)) (endClean p) s))
  if overRate && decide (cause ≤ 1) && s.portUp p then disableLink p t else t

/-- A frame for this node that the N-die serves crosses the Clasp on stream 2 (R17, R342, R343). -/
def deliverToN (f : ChainFrame) (s : Node) : Node :=
  if decide (19 ≤ f.type) && decide (f.type ≤ 22) then sendData .f 2 (.chain f) s else s

/-- Local delivery: to root or to the own number or to all (R334). -/
def Node.isFor (s : Node) (f : ChainFrame) : Bool :=
  f.dst == 127 || (f.dst == 0 && s.f.chain.root) || (f.dst == s.f.chain.number && s.f.chain.number != 0)

/-- R334: a received frame is checked, delivered where it is addressed, and forwarded on its route with its hop limit one
lower. What a delivered frame does is the command of its type; the types that their own commands relay end here. -/
def doChainFrameRelay (p : Port) (err : FrameError) (frame : ChainFrame) (overRate : Bool) (s : Node) : Node :=
  let l := s.link p
  if s.linkOn p && (l.state == .bringup || l.state == .up) then
    match discardCause l err frame with
    | some cause => discardFrame p cause overRate s
    | none =>
      let t := linkCount p 0 (25 + frame.type % 25) s
      if decide (frame.type ≤ 3) || [9, 12, 13, 14, 16, 23, 24].contains frame.type then t
      else
        let u := if s.isFor frame then deliverToN frame t else t
        if frame.dst = s.f.chain.number ∧ frame.dst ≠ 0 then u
        else if frame.dst = 0 ∧ s.f.chain.root then u
        else if frame.hop ≤ 1 then dropFrames (some p) 1 1 u
        else sendOn forwardOn (some p) { frame with hop := frame.hop - 1 } u
  else s

def execChainFrameRelay (p : Port) (err : FrameError) (frame : ChainFrame) (overRate : Bool) (s : State) :
    Host.Outcome State Fault Refusal := s.run (doChainFrameRelay p err frame overRate)

/-- R336: a frame has left the line; the port starts the next, and frames that waited for room go on. -/
def doLinkFrameSent (p : Port) (s : Node) : Node :=
  if (s.link p).busy then unstall (startNext p (modLink p (fun l => { l with busy := false }) s)) else s

def execLinkFrameSent (p : Port) (s : State) : Host.Outcome State Fault Refusal := s.run (doLinkFrameSent p)

/-- R339: frames still without a route 8 ms after a failure are dropped and counted. -/
def doOrphanFrameDrop (p : Port) (s : Node) : Node :=
  let l := s.link p
  if s.fUp && l.orphaned && l.state != .up then
    dropFrames (some p) 2 l.queue.length (modLink p (fun l => { l with queue := [], orphaned := false }) s)
  else s

def execOrphanFrameDrop (p : Port) (s : State) : Host.Outcome State Fault Refusal := s.run (doOrphanFrameDrop p)

/-! Link delay (R345). -/

/-- R345: an UP port sends PDELAY_REQ and stamps t1. -/
def doPdelaySchedule (p : Port) (t1 : T48) (s : Node) : Node :=
  if s.portUp p then
    sendBypass p (wordFrame s.f.chain.number 127 1 31 0 []) (modLink p (fun l => { l with t1 := some t1 }) s)
  else s

def execPdelaySchedule (p : Port) (t1 : T48) (s : State) : Host.Outcome State Fault Refusal := s.run (doPdelaySchedule p t1)

/-- R345: a PDELAY_REQ is answered with the stamps t2 and t3. -/
def doPdelayReq (p : Port) (t2 t3 : T48) (s : Node) : Node :=
  if s.portUp p then sendBypass p (wordFrame s.f.chain.number 127 2 31 0 (twoWords t2.toNat ++ twoWords t3.toNat)) s else s

def execPdelayReq (p : Port) (t2 t3 : T48) (s : State) : Host.Outcome State Fault Refusal := s.run (doPdelayReq p t2 t3)

/-- K:4022: the mean of the accepted samples, in 1/256 ns (R345). -/
def linkDelay (l : Link) : Nat := if l.delays = [] then 0 else l.delays.sum / l.delays.length

/-- A sample lies within 5 ns of the mean, or there is no mean yet (R345). -/
def delayAccepted (l : Link) (sample : Nat) : Bool :=
  l.delays == [] || (decide (sample ≤ linkDelay l + 1280) && decide (linkDelay l ≤ sample + 1280))

/-- R345: a PDELAY_RESP completes a sample, which is accepted into the mean of 8 or rejected; after 4 rejections in a row the mean
starts afresh. -/
def doPdelayResp (p : Port) (_t2 _t3 _t4 : T48) (sample : Nat) (s : Node) : Node :=
  let l := s.link p
  if s.portUp p && l.t1.isSome then
    if delayAccepted l sample then
      linkCount p 7 (min 63 (sample / 256))
        (modLink p (fun l => { l with t1 := none, rejections := 0, delays := (sample :: l.delays).take 8 }) s)
    else linkCount p 6 0 (modLink p (fun l =>
      if 4 ≤ l.rejections + 1 then { l with t1 := none, rejections := 0, delays := [] }
      else { l with t1 := none, rejections := l.rejections + 1 }) s)
  else s

def execPdelayResp (p : Port) (t2 t3 t4 : T48) (sample : Nat) (s : State) : Host.Outcome State Fault Refusal :=
  s.run (doPdelayResp p t2 t3 t4 sample)

/-! Switchover (R338 to R340). -/

/-- The CANDIDATE word (R338, step 2). -/
def candidateWord (c : Candidate) : Nat :=
  c.number % 128 * 131072 + portCode c.port * 32768 + b2n c.valid * 16384 + c.target % 128 * 128 + c.depth % 32 * 4

/-- R338, steps 1 and 2: a REPAIR from the parent goes on to the children and is answered with CANDIDATE. -/
def doRepairFrame (p : Port) (x epoch : Nat) (s : Node) : Node :=
  if s.portUp p && (s.link p).role == .parent && epoch == s.f.chain.epoch && s.f.chain.number != 0 then
    let t := sendPorts (s.rolePorts .child) (wordFrame x 127 tyRepair 31 0 [x * 131072 + epoch * 256]) s
    originate (wordFrame s.f.chain.number x tyCandidate 31 0 [candidateWord (s.ownCandidate x)]) t
  else s

def execRepairFrame (p : Port) (x epoch : Nat) (s : State) : Host.Outcome State Fault Refusal := s.run (doRepairFrame p x epoch)

/-- R338, step 2: the repairer collects a CANDIDATE. -/
def doCandidate (c : Candidate) (s : Node) : Node :=
  if s.fUp then
    modChain (fun x => { x with repair := x.repair.map fun r => { r with found := r.found.filter (fun e => e.number != c.number) ++ [c] } }) s
  else s

def execCandidate (c : Candidate) (s : State) : Host.Outcome State Fault Refusal := s.run (doCandidate c)

/-- The new depth a candidate gives the repairer (R338, step 3). -/
def Node.candidateDepth (s : Node) (x : Nat) (c : Candidate) : Nat := c.depth + 1 + s.hopsUp x 32 c.number

/-- A candidate beats another: the least new depth, then the lower number. -/
def Node.beats (s : Node) (x : Nat) (a b : Candidate) : Bool :=
  let da := s.candidateDepth x a
  let db := s.candidateDepth x b
  decide (da < db) || (da == db && decide (a.number < b.number))

/-- The candidate to try next (R338). -/
def Node.bestCandidate (s : Node) (x : Nat) (r : Repair) : Option Candidate :=
  (r.found.filter fun c => c.valid && !r.refused.contains c.number).foldl
    (fun best c => match best with
      | none => some c
      | some b => if s.beats x c b then some c else some b) none

/-- The chosen node sends ATTACH on its standby port (R338, step 4). -/
def sendAttach (p : Port) (s : Node) : Node :=
  sendPorts [p] (wordFrame s.f.chain.number 0 tyAttach 31 0 [s.f.chain.number * 131072]) s

/-- X heads a partition (R340). -/
def headPartition (s : Node) : Node :=
  let x := s.f.chain.number
  let t := modChain (fun c => { c with state := .partitioned, head := true, repair := none }) s
  let u := bump .f blkChain 25 1 (onlyIf (s.f.chain.state != .partitioned) (fun s => nodeCause 4 (bump .f blkChain 26 0 s)) t)
  originate (wordFrame x 127 tyTopo 31 4 [x * 131072]) u

/-- X tries its best candidate, or heads a partition where none is left (R338, R340). -/
def tryNext (s : Node) : Node :=
  match s.f.chain.repair with
  | none => s
  | some r =>
    let x := s.f.chain.number
    match s.bestCandidate x r with
    | none => headPartition s
    | some c =>
      let t := modChain (fun k => { k with repair := some { r with trying := some c } }) s
      if c.number = x then sendAttach c.port t
      else originate (wordFrame x c.number tyTry 31 0 [portCode c.port * 32768]) t

/-- R338, step 3: the repairer chooses. -/
def doRepairChoose (s : Node) : Node := if s.fUp then tryNext s else s

def execRepairChoose (s : State) : Host.Outcome State Fault Refusal := s.run doRepairChoose

/-- R338, step 4: TRY makes this node send ATTACH on its standby port. -/
def doTryFrame (p : Port) (s : Node) : Node :=
  if s.portUp p && (s.link p).role == .standby then sendAttach p s else s

def execTryFrame (p : Port) (s : State) : Host.Outcome State Fault Refusal := s.run (doTryFrame p)

/-- ATTACH_OK for a candidate through a node m (R338, step 5). -/
def attachOkFrame (s : Node) (dst c m : Nat) : ChainFrame :=
  wordFrame s.f.chain.number dst tyAttachOk 31 0 [c * 131072 + m * 256]

/-- The port by which a candidate's ATTACH reached this node. -/
def Node.attachPort (s : Node) (c : Nat) : Option Port :=
  match s.f.chain.attach with
  | some (k, p) => if k = c then some p else none
  | none => none

/-- R338, step 5: the node that ATTACH reaches on a link writes itself into it and forwards it to the root, which answers
ATTACH_OK. -/
def doAttach (p : Port) (c m : Nat) (s : Node) : Node :=
  if s.portUp p && s.f.chain.number != 0 then
    let self := s.f.chain.number
    let m' := if m = 0 then self else m
    let t := if m = 0 then modChain (fun k => { k with attach := some (c, p) }) s else s
    if s.f.chain.root then
      if m' = self then sendPorts [p] (attachOkFrame s c c m') t else originate (attachOkFrame s m' c m') t
    else sendOn forwardOn (some p) (wordFrame c 0 tyAttach 31 0 [c * 131072 + m' * 256]) t
  else s

def execAttach (p : Port) (c m : Nat) (s : State) : Host.Outcome State Fault Refusal := s.run (doAttach p c m)

/-- A node takes a port as PARENT (R338, step 6). -/
def takeParent (p : Port) (s : Node) : Node :=
  let t := modChain (fun c => { c with parentPort := some p })
    (forEach ports (fun q s => modLink q (fun l =>
      { l with role := if q = p then .parent else if l.role == .parent then .child else l.role }) s) s)
  routesChanged (match s.f.chain.parentPort with
    | some old => moveBroadcasts old p t
    | none => t)

/-- The path from the candidate up to the repairer in the old tree. -/
def Node.pathUp (s : Node) (x : Nat) : Nat → Nat → List Nat
  | 0, _ => []
  | fuel + 1, d => if d = 0 then [] else if d = x then [x] else d :: s.pathUp x fuel (s.parentOf d)

/-- The TOPO rows of a repair: the path from c to X, each with its new parent and depth (R338, step 7). -/
def Node.topoRows (s : Node) (x : Nat) (c : Candidate) : List NodeRow :=
  let path := s.pathUp x 32 c.number
  (path.zip (c.target :: path)).zipIdx.map fun (e, i) =>
    ⟨e.1, ((s.tableRow e.1).map NodeRow.serial).getD 0, e.2, c.depth + 1 + i⟩

/-- Applies new parents and depths to the parent table. -/
def applyTopo (rows : List NodeRow) (s : Node) : Node :=
  routesChanged (modChain (fun c =>
    { c with
      table := c.table.map fun r => match rows.find? fun n => n.number == r.number with
        | some n => { r with parent := n.parent, depth := n.depth }
        | none => r
      depth := ((rows.find? fun n => n.number == c.number).map NodeRow.depth).getD c.depth }) s)

/-- A TOPO word (R338, step 7). -/
def topoWord (r : NodeRow) : Nat := r.number % 128 * 131072 + r.parent % 128 * 1024 + r.depth % 32 * 32

/-- X ends its repair: TOPO, and UP (R338, step 7). -/
def endRepair (c : Candidate) (s : Node) : Node :=
  let rows := s.topoRows s.f.chain.number c
  let t := applyTopo rows (modChain (fun k => { k with state := .up, head := false, repair := none }) s)
  bump .f blkChain 25 0 (originate (wordFrame s.f.chain.number 127 tyTopo 31 0 (rows.map topoWord)) t)

/-- The new parent has been taken: X ends its repair, another node sends FLIP on its old PARENT port (R338, steps 6 and 7). -/
def afterParent (old : Option Port) (s : Node) : Node :=
  match s.f.chain.repair with
  | some r => match r.trying with
    | some c => endRepair c s
    | none => s
  | none => match old with
    | some q => sendPorts [q] (wordFrame s.f.chain.number 127 tyFlip 31 0 [s.f.chain.number * 131072]) s
    | none => s

/-- R338, steps 5 and 6: ATTACH_OK is passed down; the candidate takes the port as PARENT and sends FLIP. -/
def doAttachOk (p : Port) (c m : Nat) (s : Node) : Node :=
  if s.portUp p then
    if c = s.f.chain.number then
      let old := s.f.chain.parentPort
      afterParent old (takeParent p s)
    else if m = s.f.chain.number then
      match s.attachPort c with
      | some q => sendPorts [q] (attachOkFrame s c c m) (modChain (fun k => { k with attach := none }) s)
      | none => s
    else sendOn forwardOn (some p) (wordFrame s.f.chain.rootNumber m tyAttachOk 31 0 [c * 131072 + m * 256]) s
  else s

def execAttachOk (p : Port) (c m : Nat) (s : State) : Host.Outcome State Fault Refusal := s.run (doAttachOk p c m)

/-- R338, step 5: the candidate is refused, and the next is tried. -/
def doAttachOkTimeout (s : Node) : Node :=
  match s.f.chain.repair with
  | some r => match r.trying with
    | some c =>
      if s.fUp then
        tryNext (modChain (fun k => { k with repair := some { r with trying := none, refused := c.number :: r.refused } }) s)
      else s
    | none => s
  | none => s

def execAttachOkTimeout (s : State) : Host.Outcome State Fault Refusal := s.run doAttachOkTimeout

/-- R338, step 6: a node on the path takes the port FLIP arrived on as PARENT and passes FLIP up to the repairer. -/
def doFlip (p : Port) (s : Node) : Node :=
  if s.portUp p then
    let old := s.f.chain.parentPort
    afterParent old (takeParent p s)
  else s

def execFlip (p : Port) (s : State) : Host.Outcome State Fault Refusal := s.run (doFlip p)

/-- R338, R340: TOPO updates the parent table and the routes, or marks a partition. -/
def doTopo (partition : Bool) (rows : List NodeRow) (s : Node) : Node :=
  if s.fUp && s.f.chain.state != .off then
    if partition then
      if s.f.chain.state == .partitioned then s
      else nodeCause 4 (bump .f blkChain 26 0 (modChain (fun c => { c with state := .partitioned }) s))
    else
      let t := applyTopo rows s
      modChain (fun c => { c with state := if c.state == .partitioned && !c.head then .up else c.state }) t
  else s

def execTopo (partition : Bool) (rows : List NodeRow) (s : State) : Host.Outcome State Fault Refusal :=
  s.run (doTopo partition rows)

/-- R340: the head of a partition repeats its repair. -/
def doPartitionRepairRetry (s : Node) : Node :=
  if s.fUp && s.f.chain.state == .partitioned && s.f.chain.head then
    let x := s.f.chain.number
    sendPorts (s.rolePorts .child) (wordFrame x 127 tyRepair 31 0 [x * 131072 + s.f.chain.epoch * 256])
      (modChain (fun c => { c with repair := some { found := [s.ownCandidate x] } }) s)
  else s

def execPartitionRepairRetry (s : State) : Host.Outcome State Fault Refusal := s.run doPartitionRepairRetry

/-- R340: a candidate partitioned for K:4009 starts a discovery with its own serial and its known epoch plus 1, keeping every
number. -/
def doPartitionWaitExpiry (s : Node) : Node :=
  if s.fUp && s.f.chain.state == .partitioned && s.f.chain.candidateStrap then
    startDiscovery ((s.f.chain.epoch + 1) % 256) (modChain (fun c => { c with keep := true }) s)
  else s

def execPartitionWaitExpiry (s : State) : Host.Outcome State Fault Refusal := s.run doPartitionWaitExpiry

/-! Services (R341 to R344). -/

/-- The CAN error state of K:1110 (R143). -/
def CanState.code : CanState → Nat
  | .active => 0
  | .passive => 1
  | .busOff => 2
  | .integrating => 3
  | .stopped => 3

/-- R341: a STATUS updates the entry of its sender. It may name a node for a pending alert of a bus-off port (R137). -/
def doStatusFrame (src can time dev : Nat) (root : Bool) (s : Node) : Node :=
  if s.fUp && decide (1 ≤ src) && decide (src ≤ 126) then
    detourNext (modChain (fun c => { c with nodes := tput c.nodes src ⟨can % 4, time % 4, dev % 8, root, false⟩ }) s)
  else s

def execStatusFrame (src can time dev : Nat) (root : Bool) (s : State) : Host.Outcome State Fault Refusal :=
  s.run (doStatusFrame src can time dev root)

/-- R341: a numbered node sends STATUS to all nodes. -/
def doStatusSend (s : Node) : Node :=
  let c := s.f.chain
  if s.fUp && c.number != 0 && s.routes then
    let can := CanState.code s.n.can.state
    let time := TimeState.code s.n.hm.state
    let w := can * 4194304 + time * 1048576 + DevState.code s.f.dev * 131072 + b2n c.root * 65536
    originate (wordFrame c.number 127 tyStatus 31 0 [w])
      (modChain (fun c => { c with nodes := tput c.nodes c.number ⟨can, time, DevState.code s.f.dev, c.root, false⟩ }) s)
  else s

def execStatusSend (s : State) : Host.Outcome State Fault Refusal := s.run doStatusSend

/-- R341: an entry without STATUS for 350 ms is stale. -/
def doStatusStale (node : Nat) (s : Node) : Node :=
  match tget? s.f.chain.nodes node with
  | some e => if s.fUp then modChain (fun c => { c with nodes := tput c.nodes node { e with stale := true } }) s else s
  | none => s

def execStatusStale (node : Nat) (s : State) : Host.Outcome State Fault Refusal := s.run (doStatusStale node)

/-- R344, R298: a Chain TRIGGER arms its list, or is discarded and counted. -/
def doChainTrigger (src : Nat) (launch : T48) (list : Nat) (s : Node) : Node :=
  if s.fUp && src != s.f.chain.number then takeTrigger .f 2 list launch s else s

def execChainTrigger (src : Nat) (launch : T48) (list : Nat) (s : State) : Host.Outcome State Fault Refusal :=
  s.run (doChainTrigger src launch list)

/-! Status words (R350 to R353). -/

/-- K:4001 (R351). -/
def Node.chainStatus (s : Node) : Nat :=
  let c := s.f.chain
  (match c.state with
    | .off => 0
    | .noRoot => 1
    | .discovering => 2
    | .up => 3
    | .repairing => 4
    | .partitioned => 5) * 2097152 + c.rootNumber % 128 * 16384 + c.table.length % 128 * 128 + c.depth % 32 * 4

/-- K:4002 (R350). -/
def Node.chainEpoch (s : Node) : Nat := s.f.chain.epoch % 256 * 65536 + s.f.chain.nodeCause % 8 * 8192

/-- K:4020 (R352). -/
def Node.linkStatus (s : Node) (p : Port) : Nat :=
  let l := s.link p
  (match l.state with
    | .off => 0
    | .listen => 1
    | .bringup => 2
    | .up => 3
    | .failed => 4
    | .disabled => 5
    | .held => 6) * 2097152
  + (match l.role with
    | .none => 0
    | .parent => 1
    | .child => 2
    | .standby => 3) * 524288
  + l.neighbour % 128 * 4096 + l.cause % 8 * 512 + s.disablesNow p % 16 * 32 + min 16 l.queue.length

/-- K:4023 (R350). -/
def linkErrors (l : Link) : Nat := l.crcErrors * 4096 + l.violations

/-- K:4030 (R353): 8 bytes for each node from 1 to 126. A node without a STATUS yet shows stale. -/
def Node.nodeTable (s : Node) : List Byte :=
  ((List.range 126).map (· + 1)).flatMap fun d =>
    match s.tableRow d with
    | none => leBytes 8 0
    | some r =>
      let st := match tget? s.f.chain.nodes d with
        | some e => 32 * e.can + 8 * e.time + 4 * b2n e.stale
        | none => 4
      leBytes 6 r.serial ++ leBytes 1 r.parent ++ leBytes 1 (128 + st)

/-- K:4031 (R353). -/
def Node.routeTable (s : Node) : List Byte :=
  ((List.range 126).map (· + 1)).map fun d =>
    if (s.tableRow d).isNone then 255#8
    else match s.route d with
      | .here => 3#8
      | .port p => BitVec.ofNat 8 (portCode p)
      | .none => 255#8

end Sys2Proof.Machine
end

