-- ==== Sys2Proof/Machine/Hallmark.lean ====
section
/-! DEFINITION. Hallmark time: TIME words, CAN time frames, Chain time, sync pins, the servo, steps and holdover (R249 to
R277, R346, R347). -/

namespace Sys2Proof.Machine

open Sys2Proof

/-! Across the Clasp (R182, R253, R254). -/

/-- R182: the N-die sends a TIME triple, and an ERA pair after every 16th. A set made under FREE takes effect here (R263). -/
def doTimeTripleSend (s : Node) : Node :=
  if s.nUp && s.linkUp then
    let t := applyFreeSet s
    let era := decide (15 ≤ t.n.clasp.triples)
    let u := sendCtrl .n (.time t.n.hm.count)
      (modClasp .n (fun c => { c with triples := if era then 0 else c.triples + 1 }) t)
    onlyIf era (sendCtrl .n (.era u.n.hm.era)) u
  else s

def execTimeTripleSend (s : State) : Host.Outcome State Fault Refusal := s.run doTimeTripleSend

/-- The follower is aligned: its holdover, and the alarm of it, are over (R253, R269). -/
def followerAligned (s : Node) : Node :=
  setCond .f 23 false 0 (modFol (fun x => { x with state := .aligned, alarm := false, seenTriple := true }) s)

/-- A scheduled step that the follower's new time has left behind is held no longer. -/
def dropPastStep (x : Follower) : Follower :=
  match x.step with
  | some st => if before x.count st.instant then x else { x with step := none }
  | none => x

/-- The master time that a triple describes, at the arrival of its TIME_C word (R181, R253). -/
def Node.tripleTime (s : Node) (time : T48) (fraction : Nat) : T48 :=
  addTicks time ((fraction + Config.claspDelay s.f.clasp.half) / 512 : Nat)

/-- R253: a complete TIME triple. A difference of 8 ticks or less is removed; a larger one, and the first after a training,
sets the count at once. -/
def doTimeTriple (time : T48) (fraction : Nat) (s : Node) : Node :=
  if s.receives .f then
    let x := s.f.fol
    let new := s.tripleTime time fraction
    let big := decide (8 < (ticksAhead new x.count).natAbs)
    let t := followerAligned (modFol (fun x => dropPastStep { x with count := new }) (gotCtrl .n (.time time) s))
    if x.state == .unaligned then t
    else if big || !x.seenTriple then
      let counted := big && x.seenTriple
      let u := onlyIf counted (fun s =>
        raise23 1 (bump .f blkTime 0 1 (modFol (fun x => { x with sets := satAdd 255 x.sets 1 }) s))) t
      jumped .f x.count (s.val 0x3012 == 1) u
    else t
  else s

def execTimeTriple (time : T48) (fraction : Nat) (s : State) : Host.Outcome State Fault Refusal := s.run (ctrlWord .f (doTimeTriple time fraction))

/-- R253: an ERA pair gives the follower its era; one that disagrees raises F source 23 with cause 3 (R275). -/
def doEraPair (era : Word) (s : Node) : Node :=
  if s.receives .f then
    let x := s.f.fol
    let t := modFol (fun x => { x with era := era, eraKnown := true }) (gotCtrl .n (.era era) s)
    onlyIf (x.eraKnown && x.era != era) (raise23 3) t
  else s

def execEraPair (era : Word) (s : State) : Host.Outcome State Fault Refusal := s.run (ctrlWord .f (doEraPair era))

/-! CAN time frames (R258 to R260). -/

/-- R259: a SYNC is timestamped; one from another node than K:3005 is discarded and counted. -/
def doCanTimeSync (src tag : Nat) (stamp : T48) (s : Node) : Node :=
  if s.canOn then
    let t := canReceived 1 s
    if src = s.val 0x3005 ∧ src ≠ 0 then modCan (fun c => { c with syncSeen := some (src, tag, stamp) }) t
    else discardTime t
  else s

def execCanTimeSync (src tag : Nat) (stamp : T48) (s : State) : Host.Outcome State Fault Refusal :=
  s.run (doCanTimeSync src tag stamp)

/-- The era whose low bits match and that lies nearest a node's own (R259). -/
def nearestEra (own : Word) (low : Nat) : Word :=
  let d := BitVec.ofNat 8 (low + 256 - own.toNat % 256)
  own + BitVec.ofInt 24 d.toInt

/-- R259: the FOLLOW_UP gives the sample, its time less the stamp with K:3007 added. One without its SYNC, or too late, is
discarded and counted. -/
def doCanTimeFollowUp (src tag : Nat) (time : T48) (era8 : Nat) (inTime : Bool) (s : Node) : Node :=
  if s.canOn then
    let t := canReceived 1 s
    match s.n.can.syncSeen with
    | none => discardTime t
    | some (a, b, stamp) =>
      if a = src ∧ b = tag ∧ inTime then
        let o := offsetOfTicks (ticksAhead time stamp) - s.val 0x3007 * 8
        takeSample 2 o (ticksOfOffset o) (some (nearestEra s.n.hm.era era8, time, stamp))
          (modCan (fun c => { c with syncSeen := none, timeDiscards := 0 }) t)
      else discardTime t
  else s

def execCanTimeFollowUp (src tag : Nat) (time : T48) (era8 : Nat) (inTime : Bool) (s : State) :
    Host.Outcome State Fault Refusal := s.run (doCanTimeFollowUp src tag time era8 inTime)

/-- The FOLLOW_UP payload (R258). -/
def followUpBytes (stamp : T48) (era : Word) (locked stepped : Bool) : List Byte :=
  leBytes 6 stamp.toNat ++ leBytes 1 (era.toNat % 256) ++ leBytes 1 (b2n locked + 2 * b2n stepped)

/-- R260: the time producer sends a pair. Its SYNC takes the class 1 buffer, so an older pair that still waits is displaced,
FOLLOW_UP included (R124). -/
def doCanTimeSend (stamp : T48) (s : Node) : Node :=
  if s.canOn && s.val 0x3004 == 1 && s.n.number != 0 then
    let c := s.n.can
    let locked := s.n.hm.state == .tracking
    modCan (fun c => { c with syncTag := (c.syncTag + 1) % 128, stepped := false })
      (pushTx [⟨1, 127, 0, c.syncTag, none, false, []⟩,
          ⟨1, 127, 1, c.syncTag, none, false, followUpBytes stamp s.n.hm.era locked c.stepped⟩]
        (modCan (fun c => { c with tx := c.tx.filter fun f => f.cls != 1 }) s))
  else s

def execCanTimeSend (stamp : T48) (s : State) : Host.Outcome State Fault Refusal := s.run (doCanTimeSend stamp)

/-! Chain time (R257, R346, R347). -/

/-- The words of a TIME frame (R346). -/
def timeWords (origin : T48) (era : Word) (correction : Nat) (tracks : Bool) (step : Option TimeStep) : List Nat :=
  twoWords origin.toNat ++ [era.toNat] ++ twoWords correction ++ [b2n tracks + 2 * b2n step.isSome]
    ++ (match step with
      | some x => twoWords x.instant.toNat ++ twoWords x.amount.toNat
      | none => [0, 0, 0, 0])

/-- R346: the root sends TIME on every CHILD port, with the notice of a step that its F-die holds (R265). -/
def doRootTimeSend (s : Node) : Node :=
  if s.fUp && s.f.chain.root && s.routes && s.f.fol.state != .unaligned then
    sendPorts (s.rolePorts .child)
      (wordFrame s.f.chain.number 127 tyTime 31 0
        (timeWords s.f.fol.count s.f.fol.era 0 (s.n.hm.state == .tracking) s.f.fol.step)) s
  else s

def execRootTimeSend (s : State) : Host.Outcome State Fault Refusal := s.run doRootTimeSend

/-- The notice of a TIME frame. -/
def noticeOf (t : TimeFrame) : Option TimeStep := if t.notice then some ⟨t.stepInstant, t.stepAmount, false⟩ else none

/-- A TIME frame goes on to one CHILD port with this hop's delay and the node's residence time in its correction. The
residence time is the frame's own departure, which no rule states: a free value (R347). -/
def relayTime (t : TimeFrame) (delay : Nat) (p : Port) (s : Node) : Node :=
  let correction := (t.correction + delay + s.freeValue) % 281474976710656
  forwardOn p { wordFrame s.f.chain.rootNumber 127 tyTime (t.hop - 1) 0
    (timeWords t.origin t.era correction t.tracks (noticeOf t)) with seq := t.seq } (tookFree s)

/-- A step notice (R265): the node schedules the same step, if its policy allows that direction and it has none pending. -/
def takeNotice (t : TimeFrame) (s : Node) : Node :=
  if t.notice && s.n.hm.source == 1 && s.n.hm.state == .tracking && s.n.hm.step.isNone
      && s.stepAllowed t.stepAmount.toInt && before s.n.hm.count t.stepInstant then
    scheduleStep t.stepInstant t.stepAmount (setLimited false s)
  else s

/-- R347: a TIME frame on the PARENT port gives the N servo a phase sample (R257) and goes on to the CHILD ports. One on any
other port is discarded. -/
def doChainTimeFrame (port : Port) (t : TimeFrame) (s : Node) : Node :=
  if s.portUp port && (s.link port).role == .parent && !s.f.chain.root then
    let delay := linkDelay (s.link port)
    let o := offsetOfTicks (ticksAhead t.origin t.arrival) + ((t.correction + delay) / 32 : Nat)
    let s1 := linkCount port 0 (25 + tyTime) s
    let s2 := if s1.trained && s.f.fol.state != .unaligned then
        takeNotice t (takeSample 1 o (ticksOfOffset o) (some (t.era, t.origin, t.arrival)) (sendData .f 2 .timeSample s1))
      else s1
    if t.hop ≤ 1 then dropFrames (some port) 1 1 s2 else forEach (s2.rolePorts .child) (relayTime t delay) s2
  else s

def execChainTimeFrame (port : Port) (t : TimeFrame) (s : State) : Host.Outcome State Fault Refusal := s.run (doChainTimeFrame port t)

/-- R257, R263: a rate sample of the upstream line clock, in 10^-15. -/
def doRateSample (rho : Int) (s : Node) : Node :=
  if s.nUp && s.fUp && s.trained && s.n.hm.source == 1 && s.n.hm.state == .tracking && !s.servoFrozen then
    modHm (fun h => { h with rRate := h.rRate + rho / 8 }) (sendData .f 2 .timeSample s)
  else s

def execRateSample (rho : Int) (s : State) : Host.Outcome State Fault Refusal := s.run (doRateSample rho)

/-! The servo (R263, R264). -/

/-- What a slew does in 8.192 µs: at most 200 ppm of them, 1638400 fs (R264). -/
def slewPart (slew : Int) : Int := clampInt 1638400 slew

/-- A slew goes on: its part of this update leaves the remainder, and sets r_target (R264). -/
def slewOn (s : Node) : Node :=
  let part := slewPart s.n.hm.slew
  let left := s.n.hm.slew - part
  let o := left / 125000
  let t := setLimited (s.n.hm.limited && s.beyond o) (modHm (fun h =>
    { h with slew := left, wanted := if s.beyond o then wantedOf o else 0 }) s)
  setTarget t.n.hm.rRate (part * 1000000000 / 8192) t

/-- R263: every 8.192 µs, r moves toward r_target by at most 0.05 ppm, unless the servo is frozen. -/
def doServoRateUpdate (s : Node) : Node :=
  if s.nUp && !s.servoFrozen then
    let t := if s.n.hm.slew != 0 then slewOn s else s
    modHm (fun h => { h with r := h.r + clampInt 50000000 (h.rTarget - h.r) }) t
  else s

def execServoRateUpdate (s : State) : Host.Outcome State Fault Refusal := s.run doServoRateUpdate

/-- R263: r_target has been held at its limit for 1 s. -/
def doRateLimitAlarm (s : Node) : Node :=
  if s.nUp && s.n.hm.rTarget.natAbs == 2000000000000 then raise19 4 (bump .n blkTime 6 0 s) else s

def execRateLimitAlarm (s : State) : Host.Outcome State Fault Refusal := s.run doRateLimitAlarm

/-- R256: three expected samples have not arrived. The master keeps its last r (R269). -/
def doSourceLoss (s : Node) : Node :=
  let h := s.n.hm
  if s.nUp && h.state == .tracking && decide (1 ≤ h.source) && decide (h.source ≤ 3) then
    let t := onlyIf (h.source == 1 && s.fUp) (countBy .f blkChain 27 0 3) s
    raise19 1 (setLimited false (setTimeState .holdover (modHm (fun h =>
      { h with source := 0, rTarget := h.r, wanted := 0, slew := 0, higher := (0, 0) }) t)))
  else s

def execSourceLoss (s : State) : Host.Outcome State Fault Refusal := s.run doSourceLoss

/-- R269: holdover has lasted longer than K:3013. -/
def doHoldoverAlarm (d : Die) (s : Node) : Node :=
  match d with
  | .n => if s.nUp && s.n.hm.state == .holdover then raise19 2 s else s
  | .f =>
    if s.fUp && s.f.fol.state == .holdover then
      detect .f 23 2 (modFaults .f (fun x => { x with cond := setSrc x.cond 23 true })
        (bump .f blkTime 1 0 (modFol (fun x => { x with lastCause := 2, alarm := true }) s)))
    else s

def execHoldoverAlarm (d : Die) (s : State) : Host.Outcome State Fault Refusal := s.run (doHoldoverAlarm d)

/-! Steps and the wrap (R250, R265 to R267). -/

/-- The era after a step: it follows the count across the wrap (R250). -/
def eraStepped (era : Word) (old new : T48) (amount : Int) : Word :=
  if 0 ≤ amount ∧ new.toNat < old.toNat then era + 1
  else if amount < 0 ∧ old.toNat < new.toNat then era - 1
  else era

/-- The master applies its step at the instant of its own count (R265). -/
def stepMaster (s : Node) : Node :=
  match s.n.hm.step with
  | none => s
  | some x =>
    if s.nUp then
      let new := x.instant + x.amount
      let a := x.amount.toInt
      let t := modHm (fun h =>
        { h with count := new, era := eraStepped h.era x.instant new a, step := none, since := new }) s
      jumped .n x.instant x.drop (countStep a t)
    else s

/-- The follower applies the step that it holds, also in holdover (R254, R265). -/
def stepFollower (s : Node) : Node :=
  match s.f.fol.step with
  | none => s
  | some x =>
    if s.fUp && s.f.fol.state != .unaligned then
      let new := x.instant + x.amount
      jumped .f x.instant x.drop (modFol (fun f =>
        { f with count := new, era := eraStepped f.era x.instant new x.amount.toInt, step := none }) s)
    else s

/-- R265: the instant of a scheduled step. -/
def doStepInstant (s : Node) : Node := stepFollower (stepMaster s)

def execStepInstant (s : State) : Host.Outcome State Fault Refusal := s.run doStepInstant

/-- R250: a count that stands at its largest value wraps to 0, and the era rises. -/
def doCountWrap (s : Node) : Node :=
  let t := if s.nUp && s.n.hm.count == BitVec.allOnes 48 then
      modHm (fun h => { h with count := 0, era := h.era + 1 }) s
    else s
  if t.fUp && t.f.fol.state != .unaligned && t.f.fol.count == BitVec.allOnes 48 then
    modFol (fun x => { x with count := 0, era := x.era + 1 }) t
  else t

def execCountWrap (s : State) : Host.Outcome State Fault Refusal := s.run doCountWrap

/-! Sync pins (R261, R262). -/

/-- The whole multiple of K:301A nearest a time (R262). -/
def nearestMultiple (period : Nat) (t : T48) : T48 :=
  let p := period * 65536
  if p = 0 then t else BitVec.ofNat 48 ((t.toNat + p / 2) / p * p)

/-- R261, R262: a rising edge on N_SYNC is a sample in mode 1 and a capture in mode 2. -/
def doNSyncEdge (at_ : T48) (s : Node) : Node :=
  if s.nUp then
    match s.val 0x3018 with
    | 1 =>
      let ticks := ticksAhead (nearestMultiple (s.val 0x301A) at_) at_
      takeSample 3 (offsetOfTicks ticks) ticks none s
    | 2 => modDie .n (fun x => { x with syncCapture := at_ }) s
    | _ => s
  else s

def execNSyncEdge (at_ : T48) (s : State) : Host.Outcome State Fault Refusal := s.run (doNSyncEdge at_)

/-- R261: a rising edge on F_SYNC is captured in mode 2; the capture reads 0 until the follower is aligned (R272). -/
def doFSyncEdge (at_ : T48) (s : Node) : Node :=
  if s.fUp && s.val 0x3019 == 2 && s.f.fol.state != .unaligned then modDie .f (fun x => { x with syncCapture := at_ }) s else s

def execFSyncEdge (at_ : T48) (s : State) : Host.Outcome State Fault Refusal := s.run (doFSyncEdge at_)

/-- The mode of a die's sync pin. -/
def Node.syncMode (s : Node) : Die → Nat
  | .n => s.val 0x3018
  | .f => s.val 0x3019

/-- R261: in mode 3 a pulse starts at a whole multiple of K:301A. -/
def doSyncPulseOutput (d : Die) (s : Node) : Node :=
  if s.up d && s.syncMode d == 3 then modDie d (fun x => { x with syncPulseAt := some (s.time d) }) s else s

def execSyncPulseOutput (d : Die) (s : State) : Host.Outcome State Fault Refusal := s.run (doSyncPulseOutput d)

/-- The level of a die's sync pin in mode 3: high for K:301B from the start of the pulse (R261). -/
def Node.syncPin (s : Node) (d : Die) : Bool :=
  s.syncMode d == 3
    && (match (s.die d).syncPulseAt with
      | some t => decide ((s.time d - t).toNat < usTicks (s.val 0x301B))
      | none => false)

end Sys2Proof.Machine
end

