-- ==== Sys2Proof/Machine/Sequencer.lean ====
section
/-! DEFINITION. The action sequencers: launches and the steps of a list that need neither the dictionary nor a port of the
F-die (R278 to R307). -/

namespace Sys2Proof.Machine

open Sys2Proof

/-- R293: the count reaches a slot's launch time. -/
def doSlotLaunch (d : Die) (slot : Fin 32) (s : Node) : Node := if s.up d then launchSlot d slot.val false s else s

def execSlotLaunch (d : Die) (slot : Fin 32) (s : State) : Host.Outcome State Fault Refusal := s.run (doSlotLaunch d slot)

/-- A run's reference (R306). -/
def refOf (r : Runner) (run : Run) : RunRef := ⟨r, run.launch⟩

/-- The step a runner stands at, on a die that is up. -/
def Node.stepNow (s : Node) (d : Die) (r : Runner) (op : Nat) : Option (Run × Nat × Nat × Nat) :=
  if s.up d then s.stepAt d r op else none

/-- The island that performs a step is held in reset, so that its launch strobe is lost and the step fails (R243, R287). -/
def Node.strobeLost (s : Node) (d : Die) (island : Nat) : Bool := (tget? (s.die d).isl.inReset island).isSome

/-! Flow (R280, R281, R283, R286). -/

/-- R293: END ends the list, once no step is outstanding. -/
def doEndStep (d : Die) (r : Runner) (s : Node) : Node :=
  match s.stepNow d r 0x00 with
  | none => s
  | some (run, _) =>
    if run.outstanding = 0 then endRun d r false s else modRun d r (fun run => { run with ending := true }) s

def execEndStep (d : Die) (r : Runner) (s : State) : Host.Outcome State Fault Refusal := s.run (doEndStep d r)

/-- The ticks of a WAIT (R281, R283). -/
def waitTicks (w : Nat) : Nat := bits w 16 0 * (if bit w 17 then 4096 else 1)

/-- R283: WAIT moves the schedule on by its count and takes no tick itself. -/
def doWait (d : Die) (r : Runner) (s : Node) : Node :=
  match s.stepNow d r 0x01 with
  | none => s
  | some (_, w, _) => advance d r (fun run => { run with pc := run.pc + 1, sched := addTicks run.sched (waitTicks w) }) s

def execWait (d : Die) (r : Runner) (s : State) : Host.Outcome State Fault Refusal := s.run (doWait d r)

/-- R283: JOIN waits while an earlier step is outstanding. One that finds none takes a tick as every other step does. -/
def doJoin (d : Die) (r : Runner) (s : Node) : Node :=
  match s.stepNow d r 0x02 with
  | none => s
  | some (run, _) =>
    if run.outstanding = 0 then advance d r (fun run => { run with pc := run.pc + 1, sched := run.sched + 1 }) s
    else modRun d r (fun run => { run with joining := true }) s

def execJoin (d : Die) (r : Runner) (s : State) : Host.Outcome State Fault Refusal := s.run (doJoin d r)

/-- R283: the last earlier step has completed, and the next step is scheduled at that tick. -/
def doJoinRelease (d : Die) (r : Runner) (s : Node) : Node :=
  match s.run d r with
  | none => s
  | some run =>
    if s.up d && run.joining && run.outstanding == 0 then
      advance d r (fun run => { run with joining := false, pc := run.pc + 1, sched := s.time d }) s
    else s

def execJoinRelease (d : Die) (r : Runner) (s : State) : Host.Outcome State Fault Refusal := s.run (doJoinRelease d r)

/-- A LOOP met by a run (R281): further passes go back to the first word of the body, and the last goes on. -/
def loopRun (w : Nat) (run : Run) : Run :=
  let back := { run with pc := run.pc - bits w 11 0 }
  let fresh := match run.passes with
    | some (_, i) => i != run.pc
    | none => true
  let left := match run.passes with
    | some (n, _) => n
    | none => 0
  if fresh then { back with passes := some (bits w 17 12 - 1, run.pc) }
  else if left = 0 then { run with pc := run.pc + 1, passes := none }
  else { back with passes := some (left - 1, run.pc) }

/-- R281, R283: LOOP takes no tick. -/
def doLoop (d : Die) (r : Runner) (s : Node) : Node :=
  match s.stepNow d r 0x03 with
  | none => s
  | some (_, w, _) => advance d r (loopRun w) s

def execLoop (d : Die) (r : Runner) (s : State) : Host.Outcome State Fault Refusal := s.run (doLoop d r)

/-! Outputs (R288, R307). -/

/-- A timed channel takes a level; a change makes an edge with its capture instant now (R288). -/
def setTimed (d : Die) (levels c : Nat) (s : Node) : Node :=
  let v := bit levels c
  if (s.chan d c).timedLevel == v then s
  else captureEdge d c (s.time d).toNat (modChan d c (fun k => { k with timedLevel := v }) s)

/-- The Clasp island of a die (R225, R226). -/
def claspIsland : Die → Nat
  | .n => 4
  | .f => 2

/-- R288: LEVEL sets timed channels; one that names a channel that is not timed changes none and fails. -/
def doLevel (d : Die) (r : Runner) (late : Nat) (s : Node) : Node :=
  match s.stepNow d r 0x08 with
  | none => s
  | some (run, w, _) =>
    let t := issueStep d r 0x08 late s
    let mask := BitVec.ofNat 8 (bits w 15 8)
    if (mask &&& ~~~ (s.die d).ch.timed) != 0 || s.strobeLost d (claspIsland d) then failStep d (refOf r run) 0x08 t
    else forEach (eight.filter fun c => mask.getLsbD c) (setTimed d w) t

def execLevel (d : Die) (r : Runner) (late : Nat) (s : State) : Host.Outcome State Fault Refusal := s.run (doLevel d r late)

/-- R307: FORCE sets or clears origin 2 for the masked outputs that the die drives. -/
def doForceStep (d : Die) (r : Runner) (late : Nat) (s : Node) : Node :=
  match s.stepNow d r 0x09 with
  | none => s
  | some (_, w, _) =>
    let mask := BitVec.ofNat 8 (bits w 7 0) &&& s.outputs d
    let own := tget 0 (s.die d).ch.own 2
    setForce d 2 (if bit w 16 then own ||| mask else own &&& ~~~ mask) (issueStep d r 0x09 late s)

def execForceStep (d : Die) (r : Runner) (late : Nat) (s : State) : Host.Outcome State Fault Refusal := s.run (doForceStep d r late)

/-! Result objects (R302, R305). -/

/-- R302: OPEN clears the working buffer and stamps it with the launch time; one that is open fails the step. -/
def doOpen (d : Die) (r : Runner) (late : Nat) (s : Node) : Node :=
  match s.stepNow d r 0x10 with
  | none => s
  | some (run, w, _) =>
    let t := issueStep d r 0x10 late s
    let o := bits w 2 0
    if (s.object d o).isOpen then failStep d (refOf r run) 0x10 t
    else modRun d r (fun run => { run with opened := run.opened ++ [o] })
      (modObject d o (fun x => { x with isOpen := true, work := [], workTime := run.launch, deferred := false }) t)

def execOpen (d : Die) (r : Runner) (late : Nat) (s : State) : Host.Outcome State Fault Refusal := s.run (doOpen d r late)

/-- R302, R305: CLOSE publishes the working buffer within the die, and with bit 8 on CAN. One of an object that is not open
fails the step. -/
def doClose (d : Die) (r : Runner) (late : Nat) (s : Node) : Node :=
  match s.stepNow d r 0x11 with
  | none => s
  | some (run, w, _) =>
    let t := issueStep d r 0x11 late s
    let o := bits w 2 0
    if (s.object d o).isOpen then
      onlyIf (bit w 8) (publish d o) (disown d o (closeObject d o ((t.run d r).getD run) false t))
    else failStep d (refOf r run) 0x11 t

def execClose (d : Die) (r : Runner) (late : Nat) (s : State) : Host.Outcome State Fault Refusal := s.run (doClose d r late)

/-- K:2006 and K:2007: pin levels, outputs, and outputs held under rows 2 to 6 of R216 (R221). -/
def Node.pinsWord (s : Node) (d : Die) : Nat :=
  (maskOf fun c => s.pinLevel d c).toNat * 65536 + (s.outputs d).toNat * 256
    + (maskOf fun c => s.role d c == 2 && decide (2 ≤ s.pinRow d c) && decide (s.pinRow d c ≤ 6)).toNat

/-- What a CAPTURE step stores (R281). -/
def Node.captured (s : Node) (d : Die) (what : Nat) : List Byte :=
  match what with
  | 0 => leBytes 6 (s.time d).toNat
  | 1 => leBytes 3 (s.pinsWord d)
  | _ => leBytes 3 (s.die d).faults.status.toNat

/-- R281: CAPTURE stores the time, the channel pins or the fault status into a result object. -/
def doCapture (d : Die) (r : Runner) (late : Nat) (s : Node) : Node :=
  match s.stepNow d r 0x12 with
  | none => s
  | some (run, w, dest, _) =>
    let t := storeData d dest (s.captured d (bits w 1 0)) false (issueStep d r 0x12 late s)
    if t.2 then t.1 else failStep d (refOf r run) 0x12 t.1

def execCapture (d : Die) (r : Runner) (late : Nat) (s : State) : Host.Outcome State Fault Refusal := s.run (doCapture d r late)

/-! Arms and triggers (R291, R292, R296, R299). -/

/-- A die accepts arms (R289). -/
def Node.armsNow (s : Node) (d : Die) : Bool := s.devOf d == .setup || s.devOf d == .run || s.devOf d == .safeHold

/-- A local arm by a step: the slot it takes, or none where it is not accepted (R287, R291). -/
def Node.localArm (s : Node) (d : Die) (floor list : Nat) (launch : T48) : Option Nat :=
  if s.armsNow d && s.listDefined d list && !s.tooLate d launch then s.freeSlot d floor else none

/-- R292: ARM arms its list at its scheduled tick plus the offset, on this die or by an order on the other. -/
def doArmStep (d : Die) (r : Runner) (late : Nat) (s : Node) : Node :=
  match s.stepNow d r 0x18 with
  | none => s
  | some (run, w, offset, _) =>
    let t := issueStep d r 0x18 late s
    let list := bits w 7 0
    let launch := addTicks run.sched offset
    if 128 ≤ list then failStep d (refOf r run) 0x18 t
    else if listDie list == d then
      match t.localArm d (bits w 12 8) list launch with
      | some i => armSlot d i { list := list, launch := launch, origin := 4 } t
      | none => failStep d (refOf r run) 0x18 t
    else sendOrder d (bits w 12 8) list launch (some (refOf r run)) (beginStep d (refOf r run) t)

def execArmStep (d : Die) (r : Runner) (late : Nat) (s : State) : Host.Outcome State Fault Refusal := s.run (doArmStep d r late)

/-- The payload of a class 2 frame (R138). -/
def triggerPayload (launch : T48) (list scope : Nat) : List Byte := leBytes 6 launch.toNat ++ leBytes 1 list ++ leBytes 1 scope

/-- R299: TRIG sends a trigger for its scheduled tick plus the offset: a class 2 frame from the N-die, a Chain trigger from the
F-die. Full trigger buffers fail the step (R124); a full link queue holds it back (R284), and a node that originates or routes
no such frame fails it (R287, R329, R330). -/
def doTrig (d : Die) (r : Runner) (late : Nat) (s : Node) : Node :=
  match s.stepNow d r 0x19 with
  | none => s
  | some (run, w, offset, _) =>
    let n := (s.die d).seq.trigCount
    let launch := addTicks run.sched offset
    let dst := bits w 17 11
    let t := modSeq d (fun q => { q with trigCount := q.trigCount + 1 }) (issueStep d r 0x19 late s)
    match d with
    | .n =>
      if (s.n.can.tx.filter fun f => f.cls == 2).length < 2 && !s.strobeLost .n 2 then
        pushTx [⟨2, dst, 0, n % 128, none, false, triggerPayload launch (bits w 7 0) (bits w 8 8)⟩] t
      else failStep d (refOf r run) 0x19 t
    | .f =>
      if s.f.chain.number = 0 ∨ s.routes = false ∨ ((s.exitPorts dst).any fun p => s.strobeLost .f (10 + portCode p)) = true then failStep d (refOf r run) 0x19 t
      else if (s.exitPorts dst).any fun p => s.queueFull p then s
      else originate (wordFrame s.f.chain.number dst tyTrigger 31 0 (twoWords launch.toNat ++ [bits w 6 0])) t

def execTrig (d : Die) (r : Runner) (late : Nat) (s : State) : Host.Outcome State Fault Refusal := s.run (doTrig d r late)

/-- R300: NPORT starts a stored N-port transaction; its read bytes go to the destination when it ends. -/
def doNportStep (r : Runner) (late : Nat) (s : Node) : Node :=
  match s.stepNow .n r 0x22 with
  | none => s
  | some (run, w, dest, _) =>
    if s.strobeLost .n 3 then failStep .n (refOf r run) 0x22 (issueStep .n r 0x22 late s)
    else startMaster ⟨bits w 2 0, [], refOf r run, dest⟩ late s

def execNportStep (r : Runner) (late : Nat) (s : State) : Host.Outcome State Fault Refusal := s.run (doNportStep r late)

end Sys2Proof.Machine
end

