-- ==== Sys2Proof/Machine/Islands.lean ====
section
/-! DEFINITION. Islands reset alone, clock monitors, and torn crossings (R225 to R248). -/

namespace Sys2Proof.Machine

open Sys2Proof

/-- A link port whose crossing is torn is a failed port to the Chain (R240). -/
def tornPort (d : Die) (i : Nat) (s : Node) : Node :=
  match d with
  | .n => s
  | .f =>
    if 7 ≤ i ∧ (s.link (portOf (i - 7))).state = .up then failPort (portOf (i - 7)) 1 .bringup s else s

/-- The islands that are reset alone: every one but the hub and the wake island (R238). -/
def isIsland (d : Die) (island : Nat) : Bool :=
  decide (2 ≤ island) && (match d with
    | .n => decide (island ≤ 7)
    | .f => decide (island ≤ 12))

/-- R238, R248: an island's clock leaves its range. In SLAVE mode the N-port's clock is the host's and is not monitored. -/
def doClockMonitorTrip (d : Die) (island : Nat) (s : Node) : Node :=
  let hosted := d == .n && island == 3 && s.n.port.mode == 1
  if s.up d && isIsland d island && !hosted then
    let t := resetIsland d island 1 (detect d 3 0 (bump d blkIsl 4 island s))
    match islandCrossing d island with
    | some i => tornPort d i t
    | none => t
  else s

def execClockMonitorTrip (d : Die) (island : Nat) (s : State) : Host.Outcome State Fault Refusal :=
  s.run (doClockMonitorTrip d island)

/-- An island leaves its reset, where it was held for one of the given causes. -/
def releaseIsland (d : Die) (island : Nat) (byClock : Bool) (s : Node) : Node :=
  match tget? (s.die d).isl.inReset island with
  | some cause =>
    if (cause == 1) == byClock then modIsl d (fun x => { x with inReset := tdel x.inReset island }) s else s
  | none => s

/-- R238: the island's clock has been in range for 16 periods. Its crossing stays torn (R240). -/
def doIslandClockRecovered (d : Die) (island : Nat) (s : Node) : Node := releaseIsland d island true s

def execIslandClockRecovered (d : Die) (island : Nat) (s : State) : Host.Outcome State Fault Refusal :=
  s.run (doIslandClockRecovered d island)

/-- R238: 4 periods of the island's clock have passed after a BLOCK_RESET reaction. Its crossing stays torn (R240). -/
def doIslandResetRelease (d : Die) (island : Nat) (s : Node) : Node := releaseIsland d island false s

def execIslandResetRelease (d : Die) (island : Nat) (s : State) : Host.Outcome State Fault Refusal :=
  s.run (doIslandResetRelease d island)

/-- R238: a hub clock failure restarts the die, with cause 4 on the N-die and cause 3 on the F-die. -/
def doHubClockFailure (d : Die) (s : Node) : Node :=
  if s.collects d || (s.die d).phase == .starting then
    bump d blkIsl 7 0 (match d with
      | .n => restartN .starting 4 s
      | .f => restartF .starting 3 s)
  else s

def execHubClockFailure (d : Die) (s : State) : Host.Outcome State Fault Refusal := s.run (doHubClockFailure d)

/-- The die and the place of a crossing number (R228). -/
def crossingOf (n : Nat) : Option (Die × Nat) :=
  if 0x01 ≤ n ∧ n ≤ 0x05 then some (.n, n - 0x01)
  else if 0x11 ≤ n ∧ n ≤ 0x1A then some (.f, n - 0x11)
  else none

/-- R239, R240: a crossing is found torn. It freezes, its entries are discarded and counted, and the source of its die is
raised. -/
def doCrossingTear (crossing entries : Nat) (s : Node) : Node :=
  match crossingOf crossing with
  | none => s
  | some (d, i) => if s.up d && !s.torn d i then tornPort d i (tear d i entries s) else s

def execCrossingTear (crossing entries : Nat) (s : State) : Host.Outcome State Fault Refusal :=
  s.run (doCrossingTear crossing entries)

/-- K:9040 and K:9041 (R245). -/
def Node.tearReport (s : Node) (d : Die) : Nat :=
  let x := (s.die d).isl
  min x.tears 63 * 262144 + x.lastTorn % 256 * 1024 + x.torn.toNat

/-- K:9042 and K:9043 (R246). -/
def Node.islandReport (s : Node) (d : Die) : Nat :=
  let x := (s.die d).isl
  x.lastIsland % 16 * 1048576 + x.lastCause % 4 * 262144 + min x.resets 65535

end Sys2Proof.Machine
end

