-- ==== Sys2Proof/Machine/FPort.lean ====
section
/-! DEFINITION. The F-port: stored transactions, memory windows, program jobs, erases and the SFDP proposal (R379 to R408). -/

namespace Sys2Proof.Machine

open Sys2Proof

/-- The F-port works: the F-die is ready and crossing 0x13 is whole (R240). -/
def Node.fportOn (s : Node) : Bool := s.fUp && !s.torn .f 2

/-- A target is reached (R382). -/
def Node.targetOn (s : Node) (t : Nat) : Bool := decide (1 ≤ t) && decide (t ≤ 7) && s.valAt 0x7010 t == 1

/-- The windows. -/
def windows : List Nat := [0, 1]

/-- A window's value. -/
def Node.windowVal (s : Node) (w key : Nat) : Nat := s.val (windowKey w key)

/-- A window's size in bytes (R390). -/
def Node.windowSize (s : Node) (w : Nat) : Nat := s.windowVal w 0x7103 * 65536

/-- Counts a transaction by its source: stored, tunnel, window read, fetch, poll, job, erase (R407). -/
def countWork (i : Nat) : Node → Node := bump .f blkFPort 0 i

/-! SFDP (R398, R399, R406). The tables are laid out as JESD216 lays them out (PRESUMED). -/

/-- Little-endian DWORD n, counted from 1, of the Basic Flash Parameter Table; 0 beyond its length. -/
def sfdpDword (table : List Byte) (n : Nat) : Nat := fromLe (slice table (4 * (n - 1)) 4)

/-- The density in bytes. -/
def sfdpDensity (t : List Byte) : Nat :=
  let d := sfdpDword t 2
  if bit d 31 then 2 ^ (min 64 (bits d 30 0)) / 8 else (bits d 30 0 + 1) / 8

/-- The widest fast-read mode: command, dummy clocks with mode clocks, address and data lane codes. -/
def sfdpRead (t : List Byte) : Option (Nat × Nat × Nat × Nat) :=
  let d1 := sfdpDword t 1
  let d3 := sfdpDword t 3
  let d4 := sfdpDword t 4
  let mode := fun (half : Nat) => (bits half 15 8, bits half 4 0 + bits half 7 5)
  if bit d1 21 then some ((mode (d3 % 65536)).1, (mode (d3 % 65536)).2, 2, 2)
  else if bit d1 22 then some ((mode (d3 / 65536)).1, (mode (d3 / 65536)).2, 0, 2)
  else if bit d1 20 then some ((mode (d4 / 65536)).1, (mode (d4 / 65536)).2, 1, 1)
  else if bit d1 16 then some ((mode (d4 % 65536)).1, (mode (d4 % 65536)).2, 0, 1)
  else none

/-- The erase types: log2 of the size, and the command. -/
def sfdpErases (t : List Byte) : List (Nat × Nat) :=
  let d8 := sfdpDword t 8
  let d9 := sfdpDword t 9
  [(bits d8 7 0, bits d8 15 8), (bits d8 23 16, bits d8 31 24), (bits d9 7 0, bits d9 15 8), (bits d9 23 16, bits d9 31 24)].filter
    fun e => e.1 != 0

/-- The smallest erase type of 4 KiB or more. -/
def smallErase (l : List (Nat × Nat)) : Option (Nat × Nat) :=
  (l.filter fun e => decide (12 ≤ e.1)).foldl (fun m e => match m with
    | some x => if e.1 < x.1 then some e else some x
    | none => some e) none

/-- The largest erase type of 64 KiB or less. -/
def largeErase (l : List (Nat × Nat)) : Option (Nat × Nat) :=
  (l.filter fun e => decide (e.1 ≤ 16)).foldl (fun m e => match m with
    | some x => if x.1 < e.1 then some e else some x
    | none => some e) none

/-- The proposal of 16 bytes that the flash's answer gives (R399, R406): the first parameter header at byte 8, the table after
it. A flash without a table gives 16 bytes of 0. -/
def sfdpProposal (bytes : List Byte) : List Byte :=
  let found := slice bytes 0 4 == [0x53, 0x46, 0x44, 0x50] && slice bytes 8 1 == [0x00] && slice bytes 15 1 == [0xFF]
  if !found then List.replicate 16 0
  else
    let dwords := min 16 (fromLe (slice bytes 11 1))
    let t := slice bytes 16 (4 * dwords)
    let four := decide (16777216 < sfdpDensity t)
    let addr := b2n four * 32768
    let read := match sfdpRead t with
      | some (cmd, dummy, a, d) => cmd * 65536 + addr + dummy % 32 * 1024 + a * 64 + d * 16
      | none => 0
    let erases := sfdpErases t
    let small := (smallErase erases).getD (12, 0)
    let large := (largeErase erases).getD (12, 0)
    let page := if 11 ≤ dwords then bits (sfdpDword t 11) 7 4 else 0
    leBytes 3 read ++ leBytes 3 (0x020000 + addr)
      ++ leBytes 3 (small.2 * 65536 + large.2 * 256 + (small.1 - 12) % 16 * 16 + (large.1 - 12) % 16)
      ++ leBytes 1 page ++ leBytes 2 (min 256 (sfdpDensity t / 65536)) ++ [1] ++ leBytes 1 dwords ++ [0, 0]

/-! The order of work (R388, R389). -/

/-- A transaction goes onto the pins. -/
def putOnPins (work : FWork) (target read source : Nat) (s : Node) : Node :=
  countWork source (modFPort (fun x => { x with current := some ⟨work, target, read⟩ }) s)

/-- Entries of the work queue in use (R388): a window read keeps its entry while its flash reads run (R392). -/
def Node.queueUsed (s : Node) : Nat :=
  s.f.fport.queue.length + b2n (s.f.fport.current.any fun c => match c.work with
    | .windowRead _ _ _ _ left _ => decide (256 < left)
    | _ => false)

/-- Fetches that wait for a target stall, and their lists are marked (R301, R396). -/
def stallFetches (t : Nat) (s : Node) : Node :=
  forEach s.f.fport.fetches (fun w s => match w with
    | .fetch r window _ _ =>
      if s.windowTarget window = t then bump .f blkFPort 8 0 (modRef .f r (fun run => { run with stalled := true }) s) else s
    | _ => s) s

/-- Lengths and target of a stored transaction's BLOB (R163, R387). -/
def blobTarget (b : List Byte) : Nat := fromLe (slice b 0 1)
def blobRead (b : List Byte) : Nat := fromLe (slice b 7 2)

/-- A stored transaction starts with its BLOB as it stands now; an empty BLOB or a disabled target fails its step (R382,
R387). -/
def startStored (r : RunRef) (index dest : Nat) (s : Node) : Node :=
  let b := s.blob (0x7300 + index)
  if b == [] || !s.targetOn (blobTarget b) then endOutstanding .f r (failStep .f r 0x21 s)
  else putOnPins (.stored r index dest) (blobTarget b) (blobRead b) 0 s

/-- The work that a program job or an erase has to send next (R394, R395). A target is reached only while it is enabled
(R382). -/
def Node.jobWork (s : Node) : Option (FWork × Nat × Nat) :=
  let page := s.f.fport.job.bind fun j => if j.polling || !s.targetOn j.target then none else some (FWork.page j.enabled, j.target, 5)
  match page with
  | some w => some w
  | none => s.f.fport.erase.bind fun e =>
    if e.polling || !s.targetOn e.target then none else some (FWork.eraseCmd e.enabled, e.target, 6)

/-- The first stored transaction of the work queue. -/
def isStored : FWork → Bool
  | .stored .. => true
  | _ => false

/-- A fetch whose run has ended is dropped. -/
def Node.fetchLive (s : Node) : FWork → Bool
  | .fetch r .. => s.isRun .f r
  | _ => false

/-- A fetch that no program, erase or recovery stalls, of an enabled target (R301, R382, R396). -/
def Node.fetchFree (s : Node) : FWork → Bool
  | .fetch _ w .. => !s.windowHeld w && s.targetOn (s.windowTarget w)
  | _ => false

/-- The flash of a window has answered its SFDP query: its proposal is kept (R398, R399). -/
def takeSfdp (w : Nat) (bytes : List Byte) (s : Node) : Node :=
  let p := sfdpProposal bytes
  bump .f blkFPort 9 (if bit (fromLe (slice p 12 1)) 0 then 0 else 1)
    (modFPort (fun x => { x with proposals := tput x.proposals w p }) s)

/-- Starts an item of work that has been taken from where it waited. A target that is not enabled gives no SFDP table (R382). -/
def startWork (w : FWork) (s : Node) : Node :=
  match w with
  | .stored r index dest => startStored r index dest s
  | .fetch _ window _ words => putOnPins w (s.windowTarget window) (3 * words) 3 s
  | .tunnel tag =>
    match s.n.port.tunnels.find? fun k => k.tag == tag with
    | some k =>
      putOnPins w k.target k.body.read 1 (modPort (fun p =>
        { p with tunnels := p.tunnels.map fun k => if k.tag == tag then { k with started := true } else k }) s)
    | none => s
  | .windowRead _ _ window _ left _ => putOnPins w (s.windowTarget window) (min 256 left) 2 s
  | .page _ => s
  | .eraseCmd _ => s
  | .sfdp window => if s.targetOn (s.windowTarget window) then putOnPins w (s.windowTarget window) 80 4 s else takeSfdp window [] s

/-- R389: a free port starts the first waiting item in the order of that rule. SFDP reads come last. -/
def doFportNextWork (s : Node) : Node :=
  let x := s.f.fport
  if !s.fportOn || x.current.isSome then s
  else
    match x.queue.find? isStored with
    | some w => startWork w (modFPort (fun x => { x with queue := x.queue.erase w }) s)
    | none =>
      match (x.fetches.filter s.fetchLive).find? s.fetchFree with
      | some w => startWork w (modFPort (fun x => { x with fetches := (x.fetches.filter s.fetchLive).erase w }) s)
      | none =>
        match x.tunnels with
        | w :: rest => startWork w (modFPort (fun x => { x with tunnels := rest }) s)
        | [] =>
          match x.queue with
          | w :: rest => startWork w (modFPort (fun x => { x with queue := rest }) s)
          | [] =>
            match s.jobWork with
            | some (w, t, source) => putOnPins w t 0 source s
            | none =>
              match x.sfdp with
              | w :: rest => startWork (.sfdp w) (modFPort (fun x => { x with sfdp := rest }) s)
              | [] => s

def execFportNextWork (s : State) : Host.Outcome State Fault Refusal := s.run doFportNextWork

/-- R388: an FPORT step is issued into the work queue; while that is full it waits. -/
def doFportStep (r : Runner) (late : Nat) (s : Node) : Node :=
  match s.stepNow .f r 0x21 with
  | none => s
  | some (run, w, dest, _) =>
    if s.strobeLost .f 5 then failStep .f (refOf r run) 0x21 (issueStep .f r 0x21 late s)
    else if 4 ≤ s.queueUsed ∨ s.torn .f 2 = true then bump .f blkFPort 1 0 s
    else
      modFPort (fun x => { x with queue := x.queue ++ [.stored (refOf r run) (bits w 3 0) dest] })
        (beginStep .f (refOf r run) (issueStep .f r 0x21 late s))

def execFportStep (r : Runner) (late : Nat) (s : State) : Host.Outcome State Fault Refusal := s.run (doFportStep r late)

/-! Fetched lists (R280, R301). -/

/-- The steps fetched so far are valid: as `walkSteps`, but a list may break off where no more words have come. -/
def walkPrefix (d : Die) (trap : Bool) (total : Nat) (all : List Nat) : Nat → Nat → List Nat → List Nat → Bool
  | 0, _, _, _ => true
  | fuel + 1, i, starts, loops =>
    match all[i]? with
    | none => decide (i < total)
    | some w =>
      let op := stepOp w
      let n := stepLength op
      if n = 0 then false
      else if all.length < i + n then decide (i + n ≤ total)
      else
        opAllowed d trap op && stepOk d w (all.getD (i + 1) 0) (all.getD (i + 2) 0) && decide (i + n ≤ total)
          && (if op = 0x00 then i + 1 == total
              else (op != 0x03 || loopOk i (bits w 11 0) starts loops)
                && walkPrefix d trap total all fuel (i + n) (i :: starts) (if op = 0x03 then i :: loops else loops))

/-- Words come from a window: a step that fails the check ends the list as a step failure (R280). -/
def takeFetched (r : RunRef) (words : List Nat) (s : Node) : Node :=
  let t := modRef .f r (fun run => { run with fetched := run.fetched ++ words }) s
  match t.run .f r.runner with
  | none => t
  | some run =>
    if !t.isRun .f r then t
    else if walkPrefix .f (run.list == 63) (listLength (s.blob (listKey run.list))) run.fetched (run.fetched.length + 1) 0 [] [] then
      fetchAhead .f r.runner t
    else endRun .f r.runner true (failStep .f r 0 t)

/-! Jobs and erases (R393 to R397). -/

/-- The bytes of a job's next page (R394). -/
def Node.pageBytes (s : Node) (j : Job) : Nat :=
  let p := 2 ^ s.windowVal j.window 0x7108
  min j.bytes.length (p - j.addr % p)

/-- Pages left in the job (R405). -/
def Node.pagesLeft (s : Node) : Nat :=
  match s.f.fport.job with
  | some j =>
    let p := 2 ^ s.windowVal j.window 0x7108
    (j.addr % p + j.bytes.length + p - 1) / p
  | none => 0

/-- A target is left recovering (R397). -/
def leaveRecovering (t : Nat) (s : Node) : Node :=
  detect .f 21 0 (bump .f blkFPort 6 0 (modFPort (fun x => { x with recovering := x.recovering ||| BitVec.ofNat 8 (2 ^ t) }) s))

/-- A job ends with an outcome: 1 done, 2 TIMEOUT, 3 ABORTED (R405). -/
def endJob (outcome : Nat) (s : Node) : Node :=
  match s.f.fport.job with
  | none => s
  | some j =>
    let t := bump .f blkFPort 5 (outcome - 1) (modFPort (fun x =>
      { x with job := none, jobOutcome := outcome, jobWindow := j.window }) s)
    if outcome = 1 then t else leaveRecovering j.target t

/-- An erase ends with an outcome. -/
def endErase (outcome : Nat) (s : Node) : Node :=
  match s.f.fport.erase with
  | none => s
  | some e =>
    let t := bump .f blkFPort 5 (2 + outcome) (modFPort (fun x =>
      { x with erase := none, eraseOutcome := outcome, eraseWindow := e.window }) s)
    if outcome = 1 then t else leaveRecovering e.target t

/-- The flash is busy: a bit of the busy mask reads 1 (R394). -/
def Node.flashBusy (s : Node) (window : Nat) (status : Byte) : Bool :=
  Nat.land (s.windowVal window 0x7106 % 256) status.toNat != 0

/-- R394, R395: a status poll of the job or of the erase. -/
def doStatusPoll (erase : Bool) (status : Byte) (s : Node) : Node :=
  if !s.fportOn || s.f.fport.current.isSome then s
  else if erase then
    match s.f.fport.erase with
    | some e =>
      if !e.polling then s
      else
        let t := countWork 4 s
        if s.flashBusy e.window status then t
        else endErase 1 (peak .f blkFPort 7 1 (msOf (s.f.ticks - s.f.fport.eraseFrom)) (bump .f blkFPort 4 (b2n e.large) t))
    | none => s
  else
    match s.f.fport.job with
    | some j =>
      if !j.polling then s
      else
        let t := countWork 4 s
        if s.flashBusy j.window status then t
        else
          let n := s.pageBytes j
          let u := peak .f blkFPort 7 0 (msOf (s.f.ticks - s.f.fport.pageFrom)) (bump .f blkFPort 3 0 t)
          if j.bytes.length ≤ n then endJob 1 u
          else
            let next : Job := { j with addr := j.addr + n, bytes := j.bytes.drop n, enabled := false, polling := false }
            modFPort (fun x => { x with job := some next }) u
    | none => s

def execStatusPoll (erase : Bool) (status : Byte) (s : State) : Host.Outcome State Fault Refusal := s.run (doStatusPoll erase status)

/-- R394: the flash is still busy K:7109 ms after the page command. -/
def doProgramTimeout (s : Node) : Node :=
  if s.fportOn && (s.f.fport.job.any fun j => j.polling) then endJob 2 s else s

def execProgramTimeout (s : State) : Host.Outcome State Fault Refusal := s.run doProgramTimeout

/-- R395: an erase is still busy after K:710A. -/
def doEraseTimeout (s : Node) : Node :=
  if s.fportOn && (s.f.fport.erase.any fun e => e.polling) then endErase 2 s else s

def execEraseTimeout (s : State) : Host.Outcome State Fault Refusal := s.run doEraseTimeout

/-- A window on a target, whose busy mask a recovery poll uses. -/
def Node.windowOf (s : Node) (t : Nat) : Nat := if s.windowTarget 0 = t then 0 else 1

/-- R397: a poll of a recovering target; it leaves recovering once the flash is not busy. -/
def doRecoveryPoll (target : Nat) (status : Byte) (s : Node) : Node :=
  if s.fportOn && s.f.fport.current.isNone && s.recovers target && decide (target ≤ 7) then
    let t := countWork 4 s
    if s.flashBusy (s.windowOf target) status then t
    else modFPort (fun x => { x with recovering := x.recovering &&& ~~~ BitVec.ofNat 8 (2 ^ target) }) t
  else s

def execRecoveryPoll (target : Nat) (status : Byte) (s : State) : Host.Outcome State Fault Refusal := s.run (doRecoveryPoll target status)

/-- A program job is accepted with all its data, or refused (R393): its status. The write enable is checked before the device
state (R91). -/
def Node.programCheck (s : Node) (window addr len : Nat) : Nat :=
  if len = 0 ∨ s.windowSize window < addr + len then stRange
  else if s.f.fport.job.isSome || (s.f.fport.erase.any fun e => e.target == s.windowTarget window)
      || s.recovers (s.windowTarget window) then stBusy
  else stOk

/-- A program job starts (R393). -/
def startJob (window addr : Nat) (bytes : List Byte) (s : Node) : Node :=
  stallFetches (s.windowTarget window)
    (modFPort (fun x => { x with job := some ⟨window, s.windowTarget window, addr, bytes, false, false⟩ }) s)

/-- The size of an erase type (R395, R403). -/
def Node.eraseSize (s : Node) (window : Nat) (large : Bool) : Nat :=
  let w := s.windowVal window 0x7107
  2 ^ (12 + if large then bits w 3 0 else bits w 7 4)

/-- An erase is accepted or refused (R395): its status. The write enable is checked before the device state (R91). -/
def Node.eraseCheck (s : Node) (arg : Nat) : Nat :=
  let window := bits arg 20 20
  let addr := bits arg 11 0 * 4096
  if 2 ≤ bits arg 23 22 ∨ bits arg 21 21 ≠ 0 ∨ bits arg 19 12 ≠ 0 then stRange
  else if addr % s.eraseSize window (bit arg 22) ≠ 0 ∨ s.windowSize window ≤ addr then stRange
  else if s.f.fport.erase.isSome || (s.f.fport.job.any fun j => j.target == s.windowTarget window)
      || s.recovers (s.windowTarget window) then stBusy
  else stOk

/-- An erase starts; its transaction is answered once the erase command has been sent (R395). -/
def startErase (arg : Nat) (txn : Option (Nat × Nat)) (s : Node) : Node :=
  let window := bits arg 20 20
  stallFetches (s.windowTarget window) (modFPort (fun x =>
    { x with erase := some ⟨window, s.windowTarget window, bits arg 11 0 * 4096, bit arg 22, false, false, txn⟩ }) s)

/-! Window reads (R391, R392). -/

/-- The current length of a window data key: the lesser of 4096 and the window size less the pointer (R391). -/
def Node.windowLength (s : Node) (window pointer : Nat) : Nat := min 4096 (s.windowSize window - pointer)

/-- A window read is taken or refused (R392): its status. -/
def Node.windowReadCheck (s : Node) (window : Nat) : Nat :=
  if s.windowVal window 0x7100 = 0 then stState
  else if decide (4 ≤ s.queueUsed) || s.windowHeld window then stBusy
  else stOk

/-- A window read waits in the work queue (R388). -/
def startWindowRead (session tag window addr len : Nat) (s : Node) : Node :=
  modFPort (fun x => { x with queue := x.queue ++ [.windowRead session tag window addr len []] }) s

/-- A part of a window read has come: the next part waits at the head of the reads, or the result goes to the N-die. One for
an N-die that no longer waits is discarded and counted (R392, R400). -/
def takeRead (session tag window addr left : Nat) (sofar bytes : List Byte) (s : Node) : Node :=
  let all := sofar ++ bytes
  let rest := left - bytes.length
  if !s.trained || !s.servedByF session tag then bump .f blkFPort 11 0 s
  else if rest = 0 ∨ bytes = [] then fAnswer session tag stOk all s
  else modFPort (fun x => { x with queue := .windowRead session tag window (addr + bytes.length) rest all :: x.queue }) s

/-! The proposals of the windows (R399, R406). -/

/-- The proposal of a window (K:710F, K:711F). -/
def Node.proposal (s : Node) (w : Nat) : List Byte := tget [] s.f.fport.proposals w

/-- The fields of a proposal, each with its key and place (R399, R403, R406). -/
def proposalFields : List (Nat × Nat × Nat) :=
  [(0x7104, 0, 3), (0x7105, 3, 3), (0x7107, 6, 3), (0x7108, 9, 1), (0x7103, 10, 2)]

/-- A proposed value is one that its key takes (R403). -/
def proposalFits (key v : Nat) : Bool :=
  v != 0 && match key with
    | 0x7108 => decide (6 ≤ v) && decide (v ≤ 8)
    | 0x7107 => decide (bits v 7 4 ≤ 12) && decide (bits v 3 0 ≤ 12)
    | _ => true

/-- K:7142: the fields that SFDP supplied are written (R399); one that holds 0, or a value that its key does not take, leaves its
setting. -/
def applyProposal (w : Nat) (s : Node) : Node :=
  let p := s.proposal w
  bump .f blkFPort 10 0 (forEach proposalFields (fun f s =>
    let v := fromLe (slice p f.2.1 f.2.2)
    if proposalFits f.1 v then setVal (windowKey w f.1) 0 v s else s) s)

/-- A proposal holds an SFDP result (R399). -/
def Node.hasProposal (s : Node) (w : Nat) : Bool := bit (fromLe (slice (s.proposal w) 12 1)) 0

/-! Ends of transactions. -/

/-- R386 to R398: the transaction on the pins ends, with the bytes it read. -/
def doFportTransactionEnd (bytes : List Byte) (s : Node) : Node :=
  match s.f.fport.current with
  | none => s
  | some now =>
    if !s.fportOn then s
    else
      let got := bytes.take now.read
      let t := modFPort (fun x => { x with current := none }) s
      match now.work with
      | .stored r _ dest => stepData .f r 0x21 dest (some got) false t
      | .windowRead session tag window addr left sofar => takeRead session tag window addr left sofar got t
      | .fetch r _ _ _ => takeFetched r (wordsOf got) t
      | .tunnel tag => if t.trained then sendData .f 1 (.tunnelResult tag) t else bump .f blkFPort 11 0 t
      | .page data =>
        modFPort (fun x =>
          { x with
            job := x.job.map fun j => if data then { j with polling := true } else { j with enabled := true }
            pageFrom := if data then s.f.ticks else x.pageFrom }) t
      | .eraseCmd data =>
        let u := modFPort (fun x =>
          { x with
            erase := x.erase.map fun e => if data then { e with polling := true, txn := none } else { e with enabled := true }
            eraseFrom := if data then s.f.ticks else x.eraseFrom }) t
        match data, s.f.fport.erase.bind fun e => e.txn with
        | true, some k => if u.trained && u.servedByF k.1 k.2 then fAnswer k.1 k.2 stOk [] u else u
        | _, _ => u
      | .sfdp w => takeSfdp w got t

def execFportTransactionEnd (bytes : List Byte) (s : State) : Host.Outcome State Fault Refusal :=
  s.run (doFportTransactionEnd bytes)

/-- What the pair reset of crossing 0x13 does to the F-port (R241, R400): the transaction on the pins ends, its entries are lost,
and a job or an erase ends ABORTED. -/
def resetFPort (s : Node) : Node :=
  let x := s.f.fport
  let runs := (x.queue ++ (x.current.map fun c => c.work).toList).filterMap fun w => match w with
    | .stored r _ _ => some r
    | _ => none
  let t := modFPort (fun x => { x with current := none, queue := [], fetches := [], tunnels := [], sfdp := [] }) s
  endErase 3 (endJob 3 (forEach runs (fun r s => endOutstanding .f r (failStep .f r 0x21 s)) t))

/-- The F-port at F-die ready (R398, R400): every window's target is recovering until a poll finds it not busy, and its SFDP
table is read. -/
def startFPort (s : Node) : Node :=
  let used := windows.filter fun w => s.targetOn (s.windowTarget w)
  modFPort (fun x =>
    { x with
      recovering := used.foldl (fun m w => m ||| BitVec.ofNat 8 (2 ^ s.windowTarget w)) 0
      sfdp := used }) s

/-- K:7130 (R405). -/
def Node.windowStatus (s : Node) : Nat :=
  let x := s.f.fport
  let jw := (x.job.map fun j => j.window).getD x.jobWindow
  let ew := (x.erase.map fun e => e.window).getD x.eraseWindow
  b2n x.job.isSome * 8388608 + jw % 2 * 4194304 + x.jobOutcome % 4 * 1048576 + b2n x.erase.isSome * 524288
    + ew % 2 * 262144 + x.eraseOutcome % 4 * 65536 + min 255 s.pagesLeft * 256 + b2n (x.recovering != 0) * 128
    + s.queueUsed % 8 * 16 + ((x.current.map fun c => c.target).getD 0) % 8

/-- F_SEL[2:0] while a transaction's data phases run: its target's code; 000 otherwise (R384). -/
def Node.selectPins (s : Node) : Nat := (s.f.fport.current.map fun c => c.target).getD 0

end Sys2Proof.Machine
end

