-- ==== Sys2Proof/Machine/Beads.lean ====
section
/-! DEFINITION. The bead ports: trains, records, slow messages, the strong pull-up and its budget, PSI5 frames and port faults
(R409 to R436). -/

namespace Sys2Proof.Machine

open Sys2Proof

/-! Ports. -/

/-- The bead ports, by number. -/
def beadPorts : List Nat := [0, 1, 2, 3]

/-- A bead port. -/
def Node.bead (s : Node) (p : Nat) : Bead := tget {} s.f.beads p

/-- Changes a bead port. -/
def modBead (p : Nat) (g : Bead → Bead) : Node → Node := modF fun f => { f with beads := tmod {} f.beads p g }

/-- A position of a port, numbered from 1. -/
def Bead.at_ (b : Bead) (k : Nat) : BeadPos := tget {} b.pos k

/-- Changes a position. -/
def modPos (p k : Nat) (g : BeadPos → BeadPos) : Node → Node := modBead p fun b => { b with pos := tmod {} b.pos k g }

/-- A port works: the F-die is ready and the port's crossing, 0x14 to 0x17, is whole (R240). -/
def Node.beadOn (s : Node) (p : Nat) : Bool := s.fUp && !s.torn .f (3 + p)

/-- Mode and positions of a port (R409). -/
def Node.beadMode (s : Node) (p : Nat) : Nat := s.valAt 0x5010 p
def Node.beadPositions (s : Node) (p : Nat) : Nat := s.valAt 0x5012 p

/-- A counter of a port: each port repeats the list of R435, ten records to a port. -/
def beadCount (p item cell : Nat) : Node → Node := bump .f blkBead (p * 10 + item) cell

/-! Faults (R429). -/

/-- The bit of a cause. -/
def beadCauseBit (c : Nat) : BitVec 8 := BitVec.ofNat 8 (2 ^ c)

/-- Raises a port's source with a cause that is present from now on, once per episode. -/
def raiseBead (p c : Nat) (s : Node) : Node :=
  if (s.bead p).episode.getLsbD c then s
  else
    detect .f (12 + p) c (modFaults .f (fun x => { x with cond := setSrc x.cond (12 + p) true })
      (beadCount p 6 (c - 1) (modBead p (fun b => { b with cause := c, episode := b.episode ||| beadCauseBit c }) s)))

/-- A cause is over: the source's live state ends with the last of them. -/
def endBead (p c : Nat) (s : Node) : Node :=
  let t := modBead p (fun b => { b with episode := b.episode &&& ~~~ beadCauseBit c }) s
  if (s.bead p).episode != 0 && (t.bead p).episode == 0 then setCond .f (12 + p) false 0 t else t

/-- Raises a cause that lasts no longer than its detection. -/
def flashBead (p c : Nat) (s : Node) : Node := endBead p c (raiseBead p c s)

/-! Records (R420 to R423). -/

/-- An outcome whose record carries neither data nor status. -/
def emptyOutcome (o : Nat) : Bool := o == 2 || o == 3 || o == 4 || o == 6

/-- Byte 3 of a record. -/
def recordByte (outcome status : Nat) : Nat := outcome * 16 + if emptyOutcome outcome then 0 else status % 16

/-- The four bytes of a record. -/
def recordBytes (r : Nat × Nat) : List Byte := leBytes 3 r.1 ++ leBytes 1 r.2

/-- A slow message's 36 bits as a number, from bits collected newest first. -/
def slowValue : List Bool → Nat
  | [] => 0
  | b :: bs => b2n b + 2 * slowValue bs

/-- The check of a slow message: the exclusive-OR of the eight nibbles above it (R423). -/
def slowCheck (m : Nat) : Nat := [1, 2, 3, 4, 5, 6, 7, 8].foldl (fun c i => Nat.xor c (bits m (4 * i + 3) (4 * i))) 0

/-- A slow message is dropped, by reason: 1 outcome, 2 early start, 3 check. -/
def dropSlow (p k reason : Nat) (s : Node) : Node :=
  beadCount p 2 reason (modPos p k (fun x => { x with slow := [], slowOn := false }) s)

/-- A complete slow message is stored under its kind; one of another position raises cause 5 (R423). -/
def takeSlow (p k m : Nat) (s : Node) : Node :=
  if slowCheck m ≠ bits m 3 0 then dropSlow p k 3 s
  else
    let kind := bits m 35 32
    let n := ((tget (0, 0) ((s.bead p).at_ k).kinds kind).2 + 1) % 128
    let t := beadCount p 2 0 (modPos p k (fun x =>
      { x with slow := [], slowOn := false, kinds := tput x.kinds kind (bits m 27 4, 128 + n) }) s)
    if bits m 31 28 + 1 = k then t else flashBead p 5 t

/-- The slow message bits of a frame (R423). -/
def slowFrame (p k status : Nat) (s : Node) : Node :=
  let x := (s.bead p).at_ k
  let b := bit status 3
  if bit status 2 then
    modPos p k (fun x => { x with slow := [b], slowOn := true }) (onlyIf x.slowOn (dropSlow p k 2) s)
  else if x.slowOn then
    let l := b :: x.slow
    if l.length = 36 then takeSlow p k (slowValue l) s else modPos p k (fun x => { x with slow := l }) s
  else s

/-- Some position has failed K:5019 trains in a row (R429). -/
def Node.beadFailing (s : Node) (p : Nat) : Bool :=
  (s.bead p).pos.any fun e => decide (s.valAt 0x5019 p ≤ e.2.failures) && decide (0 < e.2.failures)

/-- The latest record and frame of a position (R421, R422, R434). -/
def posRecord (outcome status data : Nat) (t : T48) (x : BeadPos) : BeadPos :=
  let good := outcome == 0 || outcome == 5
  { x with
    byte3 := recordByte outcome status
    since := if outcome = 0 then 0 else satAdd 255 x.since 1
    value := if good then data else x.value
    time := if good then t else x.time
    frame := if outcome = 2 ∨ outcome = 6 then x.frame else some (if good then data else 0, recordByte outcome status)
    stored := if outcome = 2 ∨ outcome = 6 then x.stored else false
    failures := if outcome = 2 ∨ outcome = 3 ∨ outcome = 4 then x.failures + 1 else if good then 0 else x.failures }

/-- Cause 4 follows the failing positions (R429). -/
def judgeFailures (p : Nat) (s : Node) : Node := if s.beadFailing p then raiseBead p 4 s else endBead p 4 s

/-- The frame of a position that has sent one in this train has been stored by a BEAD step (R421). -/
def frameStored (p k : Nat) (s : Node) : Node :=
  let o := (tget (0, 0x60) (s.bead p).records k).2 / 16
  if o = 2 ∨ o = 6 then s else modPos p k (fun x => { x with stored := true }) s

/-- A BEAD step whose positions are all judged stores their records and completes (R421). -/
def completeBead (p : Nat) (w : BeadWait) (s : Node) : Node :=
  let ks := (List.range w.count).map fun i => w.first + i
  let rs := ks.map fun k => tget (0, 0x60) (s.bead p).records k
  let deferred := rs.any fun r => r.2 / 16 == 5
  stepData .f w.runner 0x20 w.dest (some (rs.map recordBytes).flatten) deferred
    (modBead p (fun b => { b with step := none }) (forEach ks (frameStored p) s))

/-- A record that a BEAD step stores outside a train: it is counted, and K:5111 holds its byte 3 (R422, R435). -/
def plainRecord (p k byte3 : Nat) (s : Node) : Node :=
  modPos p k (fun x => { x with byte3 := byte3 }) (beadCount p 1 (7 + (k - 1)) (beadCount p 1 (byte3 / 16) s))

/-- The step that waits for a train completes once the last of its positions is judged. -/
def stepJudged (p k : Nat) (s : Node) : Node :=
  match (s.bead p).step with
  | some w => if w.first + w.count ≤ k + 1 then completeBead p w s else s
  | none => s

/-- Position k of the train is judged (R419 to R423): its record, its slow message, its failures, and the step that waits. -/
def judge (p k outcome status data : Nat) (s : Node) : Node :=
  let good := outcome == 0 || outcome == 5
  let s1 := modPos p k (posRecord outcome status data (s.bead p).sync)
    (beadCount p 1 (7 + (k - 1)) (beadCount p 1 outcome s))
  let s2 := if outcome = 0 then slowFrame p k status s1
    else if ((s1.bead p).at_ k).slowOn then dropSlow p k 1 s1 else s1
  let s3 := modBead p (fun b =>
    { b with
      position := k + 1
      answering := if good then b.answering ||| BitVec.ofNat 16 (2 ^ (k - 1)) else b.answering
      request := b.request || good && bit status 1
      records := tput b.records k (if good then data else 0, recordByte outcome status) }) s2
  judgeFailures p (stepJudged p k s3)

/-- BEAD_ERR names a position, whose every A-th train is judged CRC (R535). -/
def beadError (p k : Nat) (s : Node) : Node × Bool :=
  match s.filFind .f filBeadErr fun t => t == p * 16 + (k - 1) with
  | some i => filEvery i s
  | none => (s, false)

/-- The outcome of a frame received (R420, R425). -/
def Node.frameOutcome (s : Node) (p : Nat) (j : BeadJudgement) (status : Nat) : Nat :=
  match j with
  | .badCrc => 3
  | .badCode => 4
  | .valid => if s.beadMode p == 2 && (s.bead p).waiting && bit status 1 then 5 else 0

/-- The train of a port stands at a position that is still to be judged. -/
def Node.judging (s : Node) (p : Nat) : Bool :=
  s.beadOn p && (s.bead p).state == .train && decide ((s.bead p).position ≤ s.beadPositions p)

/-- R419: a frame in the window of the position that is due. -/
def doBeadFrame (p : Fin 4) (j : BeadJudgement) (status : BitVec 4) (data : Word) (s : Node) : Node :=
  if s.judging p then
    let k := (s.bead p).position
    let e := beadError p k s
    endBead p 3 (judge p k (if e.2 then 3 else s.frameOutcome p j status.toNat) status.toNat data.toNat e.1)
  else s

def execBeadFrame (p : Fin 4) (j : BeadJudgement) (status : BitVec 4) (data : Word) (s : State) :
    Host.Outcome State Fault Refusal := s.run (doBeadFrame p j status data)

/-- R419: no frame sync began in the window of the position that is due. -/
def doPositionWindowExpiry (p : Fin 4) (s : Node) : Node :=
  if s.judging p then
    let k := (s.bead p).position
    let e := beadError p k s
    judge p k (if e.2 then 3 else 2) 0 0 e.1
  else s

def execPositionWindowExpiry (p : Fin 4) (s : State) : Host.Outcome State Fault Refusal := s.run (doPositionWindowExpiry p)

/-! The strong pull-up (R425). -/

/-- The currents of the windows in force. -/
def Node.pullCurrent (s : Node) : Nat :=
  (beadPorts.map fun p => if (s.bead p).state == .pullup then s.valAt 0x5017 p else 0).sum

/-- A port's request fits the budget. -/
def Node.pullFits (s : Node) (p : Nat) : Bool := decide (s.pullCurrent + s.valAt 0x5017 p ≤ s.val 0x5020)

/-- A window starts. -/
def grant (p : Nat) (s : Node) : Node :=
  let wait := if (s.bead p).waiting then msOf (s.f.ticks - (s.bead p).waitFrom) else 0
  peak .f blkBead (p * 10 + 3) 3 wait (beadCount p 3 1 (modF (fun f => { f with pullQueue := f.pullQueue.erase p })
    (modBead p (fun b => { b with state := .pullup, waiting := false }) s)))

/-- A port makes a request: it is granted, or waits behind those before it. -/
def requestPull (p : Nat) (s : Node) : Node :=
  let t := beadCount p 3 0 s
  if s.f.pullQueue == [] && s.pullFits p then grant p t
  else beadCount p 3 2 (modF (fun f => { f with pullQueue := f.pullQueue ++ [p] })
    (modBead p (fun b => { b with waiting := true, waitFrom := s.f.ticks }) t))

/-- R425: the head of the queue is granted once it fits and its port runs no train. -/
def doPullupGrant (s : Node) : Node :=
  match s.f.pullQueue with
  | p :: _ => if s.beadOn p && (s.bead p).state == .idle && s.pullFits p then grant p s else s
  | [] => s

def execPullupGrant (s : State) : Host.Outcome State Fault Refusal := s.run doPullupGrant

/-- R425: the window of K:5018 ends. -/
def doPullupWindowEnd (p : Fin 4) (s : Node) : Node :=
  if s.beadOn p && (s.bead p).state == .pullup then endBead p 6 (modBead p (fun b => { b with state := .idle }) s) else s

def execPullupWindowEnd (p : Fin 4) (s : State) : Host.Outcome State Fault Refusal := s.run (doPullupWindowEnd p)

/-! Trains (R417 to R422). -/

/-- A train starts with its port sync, at the follower's present time: path 0 a BEAD step, 1 K:5021. -/
def startTrain (p path : Nat) (at_ : T48) (s : Node) : Node :=
  beadCount p 0 path (modBead p (fun b =>
    { b with state := .train, position := 1, sync := at_, request := false, answering := 0, records := [] }) s)

/-- R419, R425: the train ends after its last position; its requests become one request of the port. -/
def doTrainEnd (p : Fin 4) (s : Node) : Node :=
  let b := s.bead p
  if s.beadOn p && b.state == .train && decide (s.beadPositions p < b.position) then
    let t := beadCount p 7 (min 20 (b.base / 10))
      (modBead p (fun b => { b with state := .idle, answers := b.answering, records := [] }) s)
    if s.beadMode p == 2 && b.request && !b.waiting then requestPull p t else t
  else s

def execTrainEnd (p : Fin 4) (s : State) : Host.Outcome State Fault Refusal := s.run (doTrainEnd p)

/-- The record that a BEAD step without sync stores for a position: the latest frame, or REPEAT where a step has stored it. For
a position that no frame has come from, no rule gives the bytes: a free value. -/
def Node.latestRecord (s : Node) (p k : Nat) : Nat × Nat :=
  let x := (s.bead p).at_ k
  match x.frame with
  | some (data, b3) => if x.stored then (data, 16 + b3 % 16) else (data, b3)
  | none => (s.freeValue % 16777216, s.freeValue / 16777216 % 256)

/-- A BEAD step without sync (R421). -/
def beadLatest (p first count dest : Nat) (r : RunRef) (s : Node) : Node :=
  let ks := (List.range count).map fun i => first + i
  let rs := ks.map fun k => s.latestRecord p k
  let t := storeData .f dest (rs.map recordBytes).flatten (rs.any fun r => r.2 / 16 == 5)
    (forEach ks (fun k => fun t => plainRecord p k (s.latestRecord p k).2 (modPos p k (fun x => { x with stored := true }) t))
      (tookFree s))
  if t.2 then t.1 else failStep .f r 0x20 t.1

/-- R421: a BEAD step. A port busy with a train or a window makes it wait, unissued. -/
def doBeadStep (r : Runner) (late : Nat) (s : Node) : Node :=
  match s.stepNow .f r 0x20 with
  | none => s
  | some (run, w, dest, _) =>
    let p := bits w 17 16
    let first := bits w 15 12 + 1
    let count := bits w 11 8 + 1
    let sync := bit w 0
    let b := s.bead p
    let ref := refOf r run
    let t := issueStep .f r 0x20 late s
    if s.strobeLost .f (6 + p) then failStep .f ref 0x20 t
    else if s.torn .f (3 + p) || b.state == .train || b.state == .pullup then s
    else if s.beadPositions p < first + count - 1 || (sync && s.beadMode p == 3) then failStep .f ref 0x20 t
    else if b.state == .idle then
      (if sync then
        modBead p (fun b => { b with step := some ⟨ref, first, count, dest⟩ })
          (startTrain p 0 (s.time .f) (beginStep .f ref t))
      else beadLatest p first count dest ref t)
    else
      let u := storeData .f dest ((List.replicate count (recordBytes (0, 0x60))).flatten) false
        (forEach ((List.range count).map fun i => first + i) (fun k => plainRecord p k 0x60) t)
      if u.2 then u.1 else failStep .f ref 0x20 u.1

def execBeadStep (r : Runner) (late : Nat) (s : State) : Host.Outcome State Fault Refusal := s.run (doBeadStep r late)

/-! Going off and coming back (R410, R430). -/

/-- The positions of a train still to be judged. -/
def Node.unjudged (s : Node) (p : Nat) : List Nat :=
  (List.range (s.beadPositions p)).map (fun i => i + 1) |>.filter fun k => decide ((s.bead p).position ≤ k)

/-- A port goes off (R430): what is still to be judged takes PORT_OFF, its step completes, a window ends and its queue entry
goes. Its causes are no longer present. -/
def beadOff (p : Nat) (next : BeadState) (s : Node) : Node :=
  let t := if (s.bead p).state == .train then forEach (s.unjudged p) (fun k => judge p k 6 0 0) s else s
  let u := modF (fun f => { f with pullQueue := f.pullQueue.erase p }) (modBead p (fun b =>
    { b with
      state := next, waiting := false, request := false, tripped := false, records := []
      answers := if b.state == .train then b.answering else b.answers }) t)
  forEach [1, 2, 3, 4, 6, 7] (endBead p) u

/-- A port starts: POWERING, or OFF in mode 0 (R409, R430). -/
def beadStart (p : Nat) (s : Node) : Node :=
  modBead p (fun b => { b with state := if s.beadMode p = 0 then .off else .powering }) s

/-- Every port starts: at F-die ready and at unpark (R430). -/
def startBeads (s : Node) : Node := forEach beadPorts beadStart s

/-- R430: overcurrent for 50 µs. `within` counts the earlier trips that lie within 1 s. -/
def doOvercurrentTrip (p : Fin 4) (within : Nat) (s : Node) : Node :=
  let b := s.bead p
  let powered := b.state == .powering || b.state == .idle || b.state == .train
  if s.beadOn p && powered && (s.beadMode p == 1 || s.beadMode p == 3) then
    let n := min 3 (min within b.trips + 1)
    let t := beadOff p (if n = 3 then .faultOff else .off) s
    let u := modBead p (fun b => { b with trips := n, tripped := n != 3 }) t
    raiseBead p 1 (beadCount p 5 0 (onlyIf (n == 3) (beadCount p 5 1) u))
  else s

def execOvercurrentTrip (p : Fin 4) (within : Nat) (s : State) : Host.Outcome State Fault Refusal := s.run (doOvercurrentTrip p within)

/-- R430: 10 ms after a trip the line is switched on again. -/
def doLineOffEnd (p : Fin 4) (s : Node) : Node :=
  if s.beadOn p && (s.bead p).tripped then endBead p 1 (beadStart p (modBead p (fun b => { b with tripped := false }) s)) else s

def execLineOffEnd (p : Fin 4) (s : State) : Host.Outcome State Fault Refusal := s.run (doLineOffEnd p)

/-- R430: 5 ms after the line was switched on. -/
def doPoweringEnd (p : Fin 4) (s : Node) : Node :=
  if s.beadOn p && (s.bead p).state == .powering then modBead p (fun b => { b with state := .idle }) s else s

def execPoweringEnd (p : Fin 4) (s : State) : Host.Outcome State Fault Refusal := s.run (doPoweringEnd p)

/-- K:5032: FAULT_OFF is left for POWERING (R432). -/
def reenableBead (p : Nat) (s : Node) : Node :=
  if (s.bead p).state == .faultOff then endBead p 1 (beadStart p (modBead p (fun b => { b with trips := 0 }) s)) else s

/-! Line faults (R424, R429). -/

/-- The line of a port is on. -/
def Node.beadLine (s : Node) (p : Nat) : Bool :=
  s.beadOn p && ((s.bead p).state == .idle || (s.bead p).state == .train || (s.bead p).state == .pullup)

/-- The distance of two bases. -/
def baseApart (a b : Nat) : Nat := if a ≤ b then b - a else a - b

/-- R424: the tracked base, as it has stood for 10 ms: outside the window of K:5016 it raises cause 2, far from a pinned base
cause 7; within, the episode ends. -/
def doBaseWindowFault (p : Fin 4) (base : Nat) (s : Node) : Node :=
  if s.beadLine p && s.beadMode p != 2 then
    let v := base % 65536
    let t := modBead p (fun b => { b with base := v }) s
    let window := s.valAt 0x5016 p
    let t2 := if v < window % 256 ∨ window / 256 < v then raiseBead p 2 t else endBead p 2 t
    let apart := baseApart v (s.valAt 0x5015 p)
    if s.valAt 0x5014 p = 1 ∧ 20 < apart then raiseBead p 7 t2
    else if s.valAt 0x5014 p = 0 ∨ apart ≤ 10 then endBead p 7 t2
    else t2
  else s

def execBaseWindowFault (p : Fin 4) (base : Nat) (s : State) : Host.Outcome State Fault Refusal := s.run (doBaseWindowFault p base)

/-- R429: an open or stuck line. -/
def doOpenLineFault (p : Fin 4) (s : Node) : Node := if s.beadLine p then raiseBead p 3 s else s

def execOpenLineFault (p : Fin 4) (s : State) : Host.Outcome State Fault Refusal := s.run (doOpenLineFault p)

/-- R429: the strong pull-up has stood below its level for 1 ms within a window. -/
def doPullupLevelFault (p : Fin 4) (s : Node) : Node :=
  if s.beadOn p && (s.bead p).state == .pullup then raiseBead p 6 s else s

def execPullupLevelFault (p : Fin 4) (s : State) : Host.Outcome State Fault Refusal := s.run (doPullupLevelFault p)

/-! PSI5 (R427 to R429). -/

/-- A PSI5 port receives. -/
def Node.psi5On (s : Node) (p : Nat) : Bool := s.beadOn p && (s.bead p).state == .idle && s.beadMode p == 3

/-- R428: a PSI5 frame is judged as it arrives. -/
def doPsi5Frame (p : Fin 4) (j : BeadJudgement) (data : Word) (at_ : T48) (s : Node) : Node :=
  if s.psi5On p then
    match j with
    | .valid =>
      let v := data.toNat % 2 ^ (s.valAt 0x5013 p % 32)
      let t := modPos p 1 (fun x => { x with value := v, time := at_, byte3 := 0, since := 0, frame := some (v, 0), stored := false })
        (modBead p (fun b => { b with badFrames := 0 }) (beadCount p 9 0 s))
      endBead p 3 (endBead p 4 t)
    | bad =>
      let o := if bad == .badCrc then 3 else 4
      let t := modPos p 1 (fun x => { x with byte3 := o * 16, frame := some (0, o * 16), stored := false })
        (modBead p (fun b => { b with badFrames := b.badFrames + 1 }) (beadCount p 9 o s))
      if s.valAt 0x5019 p ≤ (t.bead p).badFrames then raiseBead p 4 t else t
  else s

def execPsi5Frame (p : Fin 4) (j : BeadJudgement) (data : Word) (at_ : T48) (s : State) : Host.Outcome State Fault Refusal :=
  s.run (doPsi5Frame p j data at_)

/-- R429: no PSI5 frame for 100 ms. -/
def doPsi5Silence (p : Fin 4) (s : Node) : Node := if s.psi5On p then raiseBead p 4 s else s

def execPsi5Silence (p : Fin 4) (s : State) : Host.Outcome State Fault Refusal := s.run (doPsi5Silence p)

/-! Readback (R432 to R434). -/

/-- The number of a state in K:5030. -/
def BeadState.code : BeadState → Nat
  | .off => 0
  | .powering => 1
  | .idle => 2
  | .train => 3
  | .pullup => 4
  | .faultOff => 5

/-- K:5030 (R433). -/
def Node.beadStatus (s : Node) (p : Nat) : Nat :=
  let b := s.bead p
  BeadState.code b.state * 2097152 + b2n b.waiting * 1048576 + s.valAt 0x5014 p % 2 * 524288 + b.cause % 8 * 65536
    + b.trips % 4 * 16384

/-- K:5111 (R434). -/
def posStatus (x : BeadPos) : Nat := x.since % 256 * 65536 + x.byte3 % 256

/-- K:5120 (R432). -/
def slowImage (x : BeadPos) : List Byte :=
  ((List.range 16).map fun k => leBytes 3 (tget (0, 0) x.kinds k).1 ++ leBytes 1 (tget (0, 0) x.kinds k).2).flatten

end Sys2Proof.Machine
end

