-- ==== Sys2Proof/Machine/LoupeOps.lean ====
section
/-! DEFINITION. Flushes of the lifetime record, and the commands that wait for them (R489 to R494, R503, R512). -/

namespace Sys2Proof.Machine

open Sys2Proof

/-- Capacity of a die's flush bucket (R489). -/
def bucketCap : Die → Nat
  | .n => 63
  | .f => 16

/-- Slots below which a die raises its source 6 at every startup (R491). -/
def fewestSlots : Die → Nat
  | .n => 24
  | .f => 8

/-- A flush starts where one is due, a token is held and the ledger is free (R489, R492). It is counted in the image that it
writes. -/
def tryFlush (d : Die) (s : Node) : Node :=
  let l := (s.die d).loupe
  if l.due && decide (0 < l.tokens) && l.writing.isNone && s.n.dict.run.isNone && s.collects d then
    let t := addTotal (cellOf blkEnv 12 0) 1 l
    modLoupe d (fun _ => { t with due := false, tokens := t.tokens - 1, writing := some (t.cells, s.stamp d) }) s
  else s

/-- A flush is asked for, and starts where it may. -/
def flush (d : Die) (s : Node) : Node := tryFlush d (requestFlush d s)

/-- Both slots that the waiting commands need are written. -/
def Node.flushesDone (s : Node) : Bool :=
  !s.n.loupe.due && s.n.loupe.writing.isNone && !s.f.loupe.due && s.f.loupe.writing.isNone

/-- Powered time of a die in seconds, from its totals (R502). -/
def poweredSeconds (cells : Tab Nat) : Nat := tget 0 cells (cellOf blkEnv 0 0) / 1000

/-- The lowest free epoch slot (R503). -/
def Node.freeEpoch (s : Node) : Nat :=
  ((List.range 8).find? fun i => !s.n.bar.epochs.any fun e => e.slot == i).getD 0

/-- Stores a new epoch with both newest images as its baseline (R503). The label is the first 16 bytes of K:0019. -/
def storeEpoch (s : Node) : Node :=
  let label := (s.blob 0x0019).take 16
  let e : Epoch :=
    { number := s.n.bar.started + 1, slot := s.freeEpoch, start := s.stamp .n, powered := poweredSeconds s.n.loupe.stored
      label := label ++ List.replicate (16 - label.length) 0, nBase := s.n.loupe.stored, fBase := s.f.loupe.stored }
  bump .n blkEnv 13 0 (modBar (fun b => { b with epochs := b.epochs ++ [e], started := b.started + 1 }) s)

/-- Answers a command that waited for both flushes: K:A020 with its epoch number, K:A010 without a word. -/
def endFlushWait (w : Nat × Nat × Bool) (s : Node) : Node :=
  if w.2.2 then
    let t := storeEpoch s
    finish w.1 w.2.1 stOk (leBytes 3 t.n.bar.started) t
  else finish w.1 w.2.1 stOk [] s

/-- Answers the commands that waited for both flushes, once both are written. -/
def serveFlushes (s : Node) : Node :=
  if s.flushesDone then forEach s.n.bar.flushWaits endFlushWait (modBar (fun b => { b with flushWaits := [] }) s) else s

/-- A slot write ends (R491): the new slot is in force, and the F-die sends its image to the N-die (R494). A slot that fails its
verification is retired, and the image goes into the next one. -/
def endFlush (d : Die) (verified : Bool) (s : Node) : Node :=
  match (s.die d).loupe.writing with
  | none => s
  | some (image, time) =>
    if verified then
      let t := modLoupe d (fun l =>
        { l with writing := none, stored := image, storedTime := time, seq := (l.seq + 1) % 16777216 }) s
      tryFlush d (serveFlushes (onlyIf (d == .f) (sendData .f 4 .loupeImage) t))
    else
      let t := modLoupe d (fun l =>
        addTotal (cellOf blkEnv 12 2) 1
          { l with writing := none, due := true, slots := l.slots - 1, seq := (l.seq + 1) % 16777216 }) s
      tryFlush d (detect d 6 1 t)

/-- A command that waits for both flushes is accepted (R503, R512). -/
def waitFlush (session tag : Nat) (epoch : Bool) (s : Node) : Node :=
  flush .f (flush .n (modBar (fun b => { b with flushWaits := b.flushWaits ++ [(session, tag, epoch)] }) s))

/-- A die lacks a token (R503, R512). -/
def Node.lacksToken (s : Node) : Bool := s.n.loupe.tokens == 0 || s.f.loupe.tokens == 0

/-- Writes a barrier log entry: the oldest makes room for it (R495, R507). -/
def logBarrier (kind detail value : Nat) (s : Node) : Node :=
  modBar (fun b => { b with log := (⟨kind, detail, value, s.stamp .n⟩ :: b.log).take 341 }) s

/-- The entry into standby flushes if a token is held; otherwise one lost flush goes into the retention register (R490). -/
def flushForStandby (s : Node) : Node :=
  let l := s.n.loupe
  match l.writing with
  | some (image, time) => modLoupe .n (fun l => { l with writing := none, stored := image, storedTime := time }) s
  | none =>
    if 0 < l.tokens then
      modLoupe .n (fun l =>
        let t := addTotal (cellOf blkEnv 12 0) 1 l
        { t with due := false, tokens := t.tokens - 1, stored := t.cells, storedTime := s.stamp .n
                 seq := (t.seq + 1) % 16777216 }) s
    else modN (fun n => { n with ret := { n.ret with lostFlush := n.ret.lostFlush + 1 } }) s

end Sys2Proof.Machine
end

