-- ==== Sys2Proof/Machine/ParkOps.lean ====
section
/-! DEFINITION. SAFE pairs as they start, stop and force (R446 to R450), and the parked node: entering PARKED, unparking, its
frames and its schedule (R356 to R374). -/

namespace Sys2Proof.Machine

open Sys2Proof

/-! SAFE pairs. -/

/-- A SAFE pair. -/
def Node.pair (s : Node) (p : Nat) : SafePair := if p = 0 then s.f.safe0 else s.f.safe1

/-- Changes a SAFE pair. -/
def modPair (p : Nat) (g : SafePair → SafePair) : Node → Node :=
  modF fun f => if p = 0 then { f with safe0 := g f.safe0 } else { f with safe1 := g f.safe1 }

/-- A counter of a pair, by its place in the list of R454; each pair repeats the list. -/
def pairCount (p item cell : Nat) : Node → Node := bump .f blkSafe (p * 8 + item) cell

/-- The fault source of a pair (R455). -/
def pairSource (p : Nat) : Nat := 16 + p

/-- A state's number in K:6020 (R453). -/
def SafeState.code : SafeState → Nat
  | .off => 0
  | .starting => 1
  | .safe => 2
  | .active => 3
  | .transition => 4
  | .blocked => 5
  | .discrepancy => 6

/-- The pair asserts its origin with the mask of K:6011 (R447); a changed mask of an asserted origin follows (R449). -/
def assertPair (p : Nat) (s : Node) : Node :=
  let t := onlyIf (!(s.pair p).forcing) (pairCount p 5 (s.valAt 0x6016 p)) s
  setForce .f p (BitVec.ofNat 8 (s.valAt 0x6011 p)) (modPair p (fun x => { x with forcing := true }) t)

/-- The origin of a pair is cleared (R447). -/
def clearPair (p : Nat) (s : Node) : Node :=
  let t := onlyIf (s.pair p).forcing (pairCount p 5 (2 + s.valAt 0x6016 p)) s
  setForce .f p 0 (modPair p (fun x => { x with forcing := false, releasePending := false }) t)

/-- Moves a pair to a state, counted and timed (R454, K:6022). -/
def enterPair (p : Nat) (st : SafeState) (s : Node) : Node :=
  if (s.pair p).state == st then s
  else
    onlyIf (st == .blocked) (pairCount p 3 0)
      (pairCount p 0 (SafeState.code st) (modPair p (fun x => { x with state := st, changed := s.stamp .f }) s))

/-- A pair starts: in DISCREPANCY where its latch record is present, else in STARTING (R441, R446). Its origin is asserted. -/
def startPair (p : Nat) (s : Node) : Node :=
  let fresh := modPair p (fun x => { x with count := 0, clear := 0, permit := false, releasePending := false }) s
  if (s.pair p).record then
    assertPair p (setCond .f (pairSource p) true 0 (pairCount p 6 0 (enterPair p .discrepancy fresh)))
  else assertPair p (enterPair p .starting fresh)

/-- A pair is turned off: its origin is cleared (R447, R450). -/
def stopPair (p : Nat) (s : Node) : Node :=
  setCond .f (pairSource p) false 0 (clearPair p (enterPair p .off (modPair p (fun x => { x with permit := false, count := 0, clear := 0 }) s)))

/-- The parked policy of a pair (K:4046): 0 OFF, 1 REPORT, 2 WAKE_NODE, 3 WAKE_VAN. -/
def Node.parkPolicy (s : Node) (p : Nat) : Nat := bits (s.val 0x4046) (2 * p + 1) (2 * p)

/-- The F-die is PARKED or F-dormant: its oscillator runs only in listen windows and SAFE samples (R357, R524). -/
def Node.fAsleep (s : Node) : Bool := s.f.phase == .parked || s.f.phase == .dormant

/-- The parked policies of the SAFE pairs apply (R373, R524). -/
def Node.safeParked (s : Node) : Bool := s.portsParked || s.fAsleep

/-- A pair is to be on: its mode is not OFF, and no parked policy turns it off. -/
def Node.pairWanted (s : Node) (p : Nat) : Bool := s.valAt 0x6010 p != 0 && !(s.safeParked && s.parkPolicy p == 0)

/-- Starts or stops a pair that is not as it is wanted. -/
def syncPair (p : Nat) (s : Node) : Node :=
  let on := (s.pair p).state != .off
  if s.pairWanted p && !on then startPair p s else if !s.pairWanted p && on then stopPair p s else s

/-- Brings both pairs into line with their modes and parked policies. -/
def syncPairs (s : Node) : Node := syncPair 1 (syncPair 0 s)

/-- What a WAKE word says of a pair (R363): 0 off, 1 ACTIVE, 2 not ACTIVE, 3 discrepancy latched. -/
def Node.pairReport (s : Node) (p : Nat) : Nat :=
  match (s.pair p).state with
  | .off => 0
  | .active => 1
  | .discrepancy => 3
  | .starting => 2
  | .safe => 2
  | .transition => 2
  | .blocked => 2

/-- K:6017 (R447): STATE unless a release is pending. -/
def releasePair (p : Nat) (s : Node) : Except Nat Node :=
  if (s.pair p).releasePending then .ok (clearPair p s) else .error stState

/-- What an accepted write of a pair's settings brings (R449): K:6010, K:6012, K:6013 and K:6015 restart it in STARTING. -/
def pairWritten (key p : Nat) (s : Node) : Node :=
  if key = 0x6010 ∨ key = 0x6012 ∨ key = 0x6013 ∨ key = 0x6015 then
    (if s.pairWanted p then
      assertPair p (enterPair p .starting (modPair p (fun x =>
        { x with count := 0, clear := 0, permit := false, releasePending := false }) s))
    else if (s.pair p).state == .off then s
    else stopPair p s)
  else s

/-! Parked frames and instants. -/

/-- A counter of R377, by its place in the list. -/
def parkCount (item cell : Nat) : Node → Node := bump .f blkPark item cell

/-- 200 µs per depth, in ticks (R361). -/
def depthTicks (k : Nat) : Nat := usTicks (200 * k)

/-- The interval P in ticks. -/
def Parked.intervalTicks (x : Parked) : Nat := x.interval * ticksPerSecond

/-- The rendezvous instant nearest to a parked time (R361). -/
def Parked.rendezvousAt (x : Parked) (t : T48) : T48 :=
  if x.interval = 0 then x.origin
  else
    let since := (t - x.origin).toNat
    x.origin + BitVec.ofNat 48 ((since + x.intervalTicks / 2) / x.intervalTicks * x.intervalTicks)

/-- The ports of a role, whether the port is on or parked. -/
def Node.treeRole (s : Node) (r : Role) : List Port := ports.filter fun p => (s.link p).role == r

/-- Sends a parked frame on a port: it goes before what waits in the queue, which stays there while the port is parked. -/
def sendParked (p : Port) (f : ChainFrame) (s : Node) : Node := sendBypass p f s

/-- A WAKE word (R363). -/
def wakeBits (w : WakeWord) : Nat :=
  w.sender % 128 * 131072 + w.safe0 % 4 * 32768 + w.safe1 % 4 * 8192 + b2n w.changed * 4096 + w.cause % 16 * 256 + w.misses % 256

/-- The WAKE word this node sends. -/
def Node.wakeWord (s : Node) (cause misses : Nat) : WakeWord :=
  ⟨s.f.chain.number, s.pairReport 0, s.pairReport 1, s.f.park.safeChanged, cause, misses⟩

/-- A WAKE frame: kind 0 ANSWER, 1 REQUEST, 2 NOTICE (R363). The node that originates it gives it its sequence. -/
def wakeFrame (src dst kind : Nat) (w : WakeWord) : ChainFrame := ⟨dst, src, 24, 31, 0, true, kind, 0, [wakeBits w]⟩

/-- Sends a WAKE frame on its way, by its destination (R334, R364). -/
def routeWake (from_ : Option Port) (f : ChainFrame) (s : Node) : Node :=
  if f.dst = 127 then
    forEach ((s.treeRole .parent ++ s.treeRole .child).filter fun p => some p != from_) (fun p s => sendParked p f s) s
  else if f.dst = 0 then
    (if s.f.chain.root then s else forEach (s.treeRole .parent) (fun p s => sendParked p f s) s)
  else match s.route f.dst with
    | .port p => sendParked p f s
    | .here => s
    | .none => dropFrames from_ 2 1 s

/-- Sends a WAKE frame of this node on its way, with the node's next sequence (R316). -/
def ownWake (f : ChainFrame) (s : Node) : Node :=
  let r := takeSeq f s
  routeWake none r.1 r.2

/-- Sends the REQUESTs that wait, and the NOTICE (R371, R373). The root keeps its own NOTICE in K:4044. That a pair has changed is
told until the ANSWER of this rendezvous has told it, and by the root, which sends none, until now. -/
def sendWakes (s : Node) : Node :=
  let n := s.f.chain.number
  let reqs := s.f.park.requests
  let s1 := forEach reqs (fun r s => parkCount 11 0 (ownWake (wakeFrame n r.1 1 (s.wakeWord r.2 0)) s)) s
  let s2 := onlyIf s.f.park.notice (fun s =>
    let w := s.wakeWord 2 0
    parkCount 11 1 (if s.f.chain.root then modPark (fun x => { x with notices := tput x.notices n (wakeBits w) }) s
      else ownWake (wakeFrame n 0 2 w) s)) s1
  modPark (fun x => { x with requests := [], notice := false, safeChanged := x.safeChanged && !s.f.chain.root }) s2

/-- A node has a REQUEST to send: at once where its window is open, else at its next (R371). -/
def queueRequest (dest cause : Nat) (s : Node) : Node :=
  let t := modPark (fun x => { x with requests := x.requests ++ [(dest, cause)] }) s
  if s.f.park.window then sendWakes t else t

/-! PARKED and F-dormant. -/

/-- The F-die goes to sleep, PARKED or F-dormant: its Clasp half is off, its outputs take their fail-safe choice without source
10, its bead ports and F-port are off, and its lists stop (R295, R357, R401, R430, R524). SRAM and settings stay. -/
def sleepF (ph : Phase) (s : Node) : Node :=
  let s1 := resetFPort (stopLists .f s)
  let s2 := forEach beadPorts (fun p s => beadOff p .off s) s1
  let s3 := settlePins .f (modCh .f fun x => { x with timedOut := true, timedOutAt := s.time .f, timer := false }) s2
  let s4 := modClasp .f (fun x => { x with link := .off, synth := .off }) s3
  syncPairs (modF (fun f => { f with phase := ph }) (requestFlush .f s4))

/-- A port as its node parks (R357): a tree port keeps its role, any other is off, and one that is out of use for errors stays so
(R324). -/
def Link.parkedWith (l : Link) (disables : Nat) : Link :=
  if l.role == .parent || l.role == .child then { l with bypass := [], busy := false, parkedSerial := l.serial }
  else if l.state == .disabled || l.state == .held then l
  else { state := .off, crcErrors := l.crcErrors, violations := l.violations, cause := l.cause, disables := disables }

/-- A node parks (R356, R357): its tree ports are parked with their roles, its standby ports are off, and the F-die enters
PARKED where the N-die sleeps or is unpowered. -/
def enterPark (s : Node) : Node :=
  let s1 := forEach ports (fun p s => modLink p (fun l => l.parkedWith (s.disablesNow p)) s) s
  let s2 := parkCount 0 0 (modPark (fun x =>
    { x with
      state := .parked, parking := false, window := false, acquired := false, missed := false, misses := 0, widen := 0
      cause := 0, unparked := 0, requests := [], notice := false
      safeChanged := false }) s1)
  let asleep := s.n.phase == .standby || s.n.phase == .unpowered || s.n.phase == .held
  if asleep then sleepF .parked s2 else syncPairs s2

/-- The F-die wakes from PARKED or F-dormant for the Clasp, without restarting (R358, R524). -/
def wakeF (s : Node) : Node :=
  if s.fAsleep then
    startBeads (modClasp .f (fun x => { x with link := .training, synth := .locked }) (modF (fun f => { f with phase := .ready }) s))
  else s

/-- The F-die sends training step 0 words to wake its N-die (R358, R524). -/
def wakeNDie (s : Node) : Node :=
  if s.n.phase == .standby then bump .f blkPower 3 0 (modPark (fun x => { x with wakeN := true }) s) else s

/-- A port begins to unpark: BRINGUP with its role kept; a port that is off and that the settings enable starts afresh (R358). -/
def unparkPort (p : Port) (s : Node) : Node :=
  modLink p (fun l =>
    if l.role == .parent || l.role == .child then
      { l with state := .bringup, serial := 0, hellos := 0, heard := false, bypass := [], busy := false, t1 := none }
    else if l.state == .off && bit (s.val 0x4008) (portCode p) then { l with state := .bringup } else l) s

/-- A node unparks for a cause of R376 (R358, R372): the F-die leaves PARKED and wakes its N-die, and its ports come back. -/
def unpark (cause : Nat) (s : Node) : Node :=
  if s.portsParked then
    let s1 := parkCount 10 (cause - 1) (modPark (fun x => { x with state := .unparking, cause := cause, unparked := 0 }) s)
    let asleep := s1.fAsleep
    let s2 := onlyIf asleep (fun s => wakeNDie (wakeF s)) s1
    syncPairs (forEach ports unparkPort s2)
  else s

/-- The N-die has woken while the node is parked (R358, R371, R372): the F-die leaves PARKED. A wake of the N-die's own unparks
the node and sends a REQUEST to 127 while K:4045 is 1; a node in FALLBACK unparks on it in any case (R367). -/
def nDieWoke (own : Bool) (s : Node) : Node :=
  let t := wakeF s
  let u := if t.portsParked && own && t.val 0x4045 == 1 then queueRequest 127 1 (unpark 3 t)
    else if t.f.park.state == .fallback && own then unpark 3 t
    else t
  syncPairs u

/-- A SAFE pair has changed while its parked policy applies (R373). -/
def safeChange (p : Nat) (s : Node) : Node :=
  if s.safeParked then
    let pol := s.parkPolicy p
    let s1 := onlyIf (decide (1 ≤ pol)) (modPark fun x => { x with notice := true, safeChanged := true }) s
    let s2 := onlyIf (pol == 3) (queueRequest 127 2) s1
    if 2 ≤ pol then (if s2.portsParked then unpark 4 s2 else wakeNDie s2) else s2
  else s

/-- Every tree port is UP: the node has unparked (R358). -/
def checkUnparked (s : Node) : Node :=
  if s.f.park.state == .unparking && (ports.all fun p =>
      !((s.link p).role == .parent || (s.link p).role == .child) || (s.link p).state == .up) then
    modPark (fun x => { x with state := .none, window := false }) s
  else s

/-- K:4041 (R356): the root, UP, with a hold window long enough, sends the park beacon. -/
def parkRefusal (arg : Nat) (s : Node) : Option Nat :=
  let deepest := s.f.chain.table.foldl (fun m r => max m r.depth) 0
  if !(s.f.chain.root && s.f.chain.state == .up) then some stState
  else if 60 < arg then some stRange
  else if 10 * s.val 0x4042 < 2 * deepest + 10 then some stRange
  else none

/-- A BEACON (R362): of the park beacon or of a rendezvous. `half` is the half-span of a long one in units of 128 µs. -/
def Node.beaconFrame (s : Node) (long : Bool) (half : Nat) : ChainFrame :=
  let x := s.f.park
  ⟨127, s.f.chain.number, 23, 31, 0, true, s.f.chain.depth, 0,
    twoWords x.time.toNat ++ [x.rendezvous % 65536 * 256 + x.interval, b2n long * 8388608 + x.hold % 128 * 65536 + half % 65536]⟩

/-- The half-span U of a long beacon in µs: t_a × 300 ppm + 50 µs, at most P / 8 (R368). `t` counts intervals since the child's
last ANSWER. -/
def halfSpan (interval t : Nat) : Nat := min (t * interval * 300 + 50) (interval * 125000)

/-- Sends the beacons of a node on its CHILD ports: one normal beacon, a long one to each child adrift, none to those given up
(R361, R368, R369). -/
def sendBeacons (s : Node) : Node :=
  let x := s.f.park
  let live := (s.treeRole .child).filter fun p => !x.givenUp.getLsbD (portCode p)
  let normal := live.filter fun p => !x.adrift.getLsbD (portCode p)
  let r := takeSeq (s.beaconFrame false 0) s
  let t := if normal == [] then s else forEach normal (fun p s => sendParked p r.1 s) r.2
  forEach (live.filter fun p => x.adrift.getLsbD (portCode p)) (fun p s =>
    let b := takeSeq (s.beaconFrame true ((halfSpan x.interval (tget 0 x.silent (portCode p) + 1) + 127) / 128)) s
    parkCount 8 0 (sendParked p b.1 b.2)) t

/-- The root parks the Chain: rendezvous 0 (R356). -/
def startPark (arg : Nat) (s : Node) : Node :=
  let p := if arg = 0 then s.val 0x4040 else arg
  let now := s.time .f
  sendBeacons (modPark (fun x =>
    { x with
      parking := true, interval := p, hold := s.val 0x4042, origin := now, rendezvous := 0, time := now, window := true
      adrift := 0, givenUp := 0, silent := [] }) s)

end Sys2Proof.Machine
end

