-- ==== Sys2Proof/Machine/Safe.lean ====
section
/-! DEFINITION. The SAFE pairs tick by tick (R437 to R455). -/

namespace Sys2Proof.Machine

open Sys2Proof

/-- How a tick's sample of a pair reads (R439, R442). -/
inductive PairSample where
  | bothSafe | bothActive | disagree
  deriving DecidableEq, Repr

/-- The sample of a pair under its mode (R439): channel A is active when closed; channel B when closed in EQUIVALENT and when
open in ANTIVALENT mode. -/
def pairSample (mode : Nat) (a b : Bool) : PairSample :=
  let bActive := if mode = 2 then !b else b
  if a && bActive then .bothActive else if !a && !bActive then .bothSafe else .disagree

/-- Both channels' samples of this tick, as K:6020 shows them. -/
def setChannels (p : Nat) (a b : Bool) : Node → Node := modPair p fun x => { x with chA := a, chB := b }

/-- A declaration (R444, R446). -/
def declare (p : Nat) (s : Node) : Node :=
  let t := modPair p (fun x =>
    { x with declared := s.stamp .f, leadB := x.firstB, clear := 0, permit := false, recordDue := true }) (enterPair p .discrepancy s)
  setCond .f (pairSource p) true 0 (pairCount p 1 (b2n (s.pair p).firstB) t)

/-- The pair enters TRANSITION (R442). The channel that left agreement first is the one that moved; a pair that was never seen
in agreement has none, and its leading channel is a free value. With T = 1 the count that starts at 1 has reached it (R444). -/
def enterTransition (p : Nat) (permit a b : Bool) (s : Node) : Node :=
  let x := s.pair p
  let moved := if x.state == .starting then s.freeValue % 2 == 1 else (a == x.chA) && (b != x.chB)
  let t := if x.state == .starting then tookFree s else s
  let u := assertPair p (enterPair p .transition (modPair p (fun x =>
    { x with permit := permit, count := 1, firstB := moved, releasePending := false }) t))
  if s.valAt 0x6014 p ≤ 1 then declare p u else u

/-- The count of a disagreement in TRANSITION rises; at T it is declared (R442, R443). -/
def countDisagree (p : Nat) (s : Node) : Node :=
  let n := (s.pair p).count + 1
  let t := modPair p (fun x => { x with count := n }) s
  if s.valAt 0x6014 p ≤ n then declare p t else t

/-- The pair enters SAFE: it forces, and an undeclared disagreement is over (R442, R446, R447). -/
def enterSafe (p : Nat) (s : Node) : Node :=
  let x := s.pair p
  let s1 := onlyIf (x.state == .transition) (peak .f blkSafe (p * 8 + 2) 0 x.count) s
  let s2 := modPair p (fun x =>
    { x with count := 0, clear := 0, permit := false, releasePending := false
             record := if x.state == .discrepancy then false else x.record
             recordDue := if x.state == .discrepancy then false else x.recordDue }) s1
  onlyIf (x.state == .discrepancy) (setCond .f (pairSource p) false 0) (assertPair p (enterPair p .safe s2))

/-- The pair enters ACTIVE: the origin is cleared under AUTO, and a release is pending under COMMANDED (R447). -/
def enterActive (p : Nat) (s : Node) : Node :=
  let x := s.pair p
  let s1 := onlyIf (x.state == .transition) (peak .f blkSafe (p * 8 + 2) 0 x.count) s
  let t := enterPair p .active (modPair p (fun x => { x with count := 0, permit := false }) s1)
  if x.state == .active then t
  else if s.valAt 0x6016 p = 0 then clearPair p t
  else modPair p (fun x => { x with releasePending := x.forcing }) t

/-- The pair enters or stays in BLOCKED (R442). -/
def enterBlocked (p : Nat) (s : Node) : Node :=
  let x := s.pair p
  let s1 := onlyIf (x.state == .transition) (peak .f blkSafe (p * 8 + 2) 0 x.count) s
  assertPair p (enterPair p .blocked (modPair p (fun x => { x with count := 0, permit := false }) s1))

/-- R442: one pair is evaluated from its sample of the tick. -/
def pairTick (p : Nat) (a b : Bool) (s : Node) : Node :=
  let free := s.valAt 0x6013 p == 0
  let x := s.pair p
  let t := match x.state, pairSample (s.valAt 0x6010 p) a b with
    | .off, _ => s
    | .starting, .bothSafe => enterSafe p s
    | .starting, .bothActive => if free then enterActive p s else enterBlocked p s
    | .starting, .disagree => enterTransition p free a b s
    | .safe, .bothSafe => enterSafe p s
    | .safe, .bothActive => enterActive p s
    | .safe, .disagree => enterTransition p true a b s
    | .active, .bothSafe => enterSafe p s
    | .active, .bothActive => s
    | .active, .disagree => enterTransition p false a b s
    | .transition, .bothSafe => enterSafe p s
    | .transition, .bothActive => if x.permit then enterActive p s else enterBlocked p s
    | .transition, .disagree => countDisagree p s
    | .blocked, .bothSafe => enterSafe p s
    | .blocked, .bothActive => s
    | .blocked, .disagree => enterTransition p false a b s
    | .discrepancy, .bothSafe =>
      if 4 ≤ x.clear + 1 then enterSafe p s else modPair p (fun x => { x with clear := x.clear + 1 }) s
    | .discrepancy, .bothActive => modPair p (fun x => { x with clear := 0 }) s
    | .discrepancy, .disagree => modPair p (fun x => { x with clear := 0 }) s
  if x.state == .off then t
  else
    let u := setChannels p a b t
    onlyIf (s.pairReport p != u.pairReport p) (safeChange p)
      (onlyIf s.fAsleep (pairCount p 7 0) (onlyIf (u.pair p).forcing (assertPair p) u))

/-- The tick runs: while the F-die is ready, and in PARKED and F-dormant for the pairs whose policy is not OFF (R440, R450,
R524). -/
def Node.safeTicks (s : Node) : Bool := s.fUp || s.fAsleep

/-- R440, R442: every 250 µs each pair is evaluated from the filter outputs, true for closed. -/
def doSafeTick (a0 b0 a1 b1 : Bool) (s : Node) : Node :=
  if s.safeTicks then pairTick 1 a1 b1 (pairTick 0 a0 b0 s) else s

def execSafeTick (a0 b0 a1 b1 : Bool) (s : State) : Host.Outcome State Fault Refusal := s.run (doSafeTick a0 b0 a1 b1)

/-- R446: within 5 ms of a declaration the latch record is written to the F ledger. -/
def doLatchRecordWrite (pair : Fin 2) (s : Node) : Node :=
  if s.safeTicks && (s.pair pair).recordDue then modPair pair (fun x => { x with record := true, recordDue := false }) s else s

def execLatchRecordWrite (pair : Fin 2) (s : State) : Host.Outcome State Fault Refusal := s.run (doLatchRecordWrite pair)

/-- K:6020 (R453). -/
def Node.pairStatus (s : Node) (p : Nat) : Nat :=
  let x := s.pair p
  SafeState.code x.state * 2097152 + b2n x.chA * 1048576 + b2n x.chB * 524288 + b2n x.forcing * 262144
    + b2n x.releasePending * 131072 + b2n x.leadB * 65536 + x.clear % 8 * 8192 + b2n x.permit * 4096 + min x.count 2047

end Sys2Proof.Machine
end

