-- ==== Sys2Proof/Machine/Park.lean ====
section
/-! DEFINITION. The parked Chain: parking, rendezvous, missed beacons, children adrift and wake requests (R356 to R378). -/

namespace Sys2Proof.Machine

open Sys2Proof

/-- The node takes part in rendezvous: its F-die runs or is PARKED, and it has not fallen back. -/
def Node.attends (s : Node) : Bool := (s.fUp || s.f.phase == .parked) && s.f.park.state != .fallback

/-- The schedule runs: parked, or unparking (R358). -/
def Node.scheduled (s : Node) : Bool := s.attends && s.f.park.state != .none

/-- R358, R372: a HELLO on a tree port during a window unparks the node; elsewhere it is the HELLO of R322, which may bring the
last tree port UP. One in LISTEN shows that the Chain around a node that waited for it has unparked (R357). -/
def doHello (p : Port) (h : Hello) (s : Node) : Node :=
  if s.linkOn p && s.f.park.around && (s.link p).state == .listen then
    let t := modPark (fun x => { x with around := false }) s
    if t.f.chain.settled then leaveListen t else t
  else if s.portsParked then
    let l := s.link p
    let heard := s.f.park.window || s.f.park.state == .listening
    if s.attends && heard && (l.role == .parent || l.role == .child) && !s.torn .f (linkCrossing p) then unpark 2 s else s
  else checkUnparked (helloOn p h s)

def execHello (p : Port) (h : Hello) (s : State) : Host.Outcome State Fault Refusal := s.run (doHello p h)

/-- R356: at the end of the hold window of rendezvous 0 the node parks. -/
def doParkEntry (s : Node) : Node := if s.fUp && s.f.park.parking then enterPark s else s

def execParkEntry (s : State) : Host.Outcome State Fault Refusal := s.run doParkEntry

/-- A link delay in ticks: K:4022 is in 1/256 ns (R345). -/
def delayTicks (v : Nat) : Nat := v * ticksPerSecond / 256000000000

/-- The rate correction after an acquisition (R360): e / 2t, or the full e / t after a miss, in 0.01 ppm. -/
def nextRate (rate e : Int) (elapsed : Nat) (missed : Bool) : Int :=
  if elapsed = 0 then rate else clampInt 8388607 (rate + e * 100000000 / ((if missed then 1 else 2) * elapsed))

/-- A beacon is acquired (R360, R366, R370): parked time, rate and schedule are set, ANSWER is sent, and beacons whose own
instant has passed are relayed at once. `first` is the park beacon, which starts the parked time. -/
def acquireBeacon (b : Beacon) (elapsed : Nat) (first : Bool) (s : Node) : Node :=
  let x := s.f.park
  let port := (s.treeRole .parent).headD .a
  let time := b.origin + BitVec.ofNat 48 (delayTicks (linkDelay (s.link port)))
  let e : Int := (time - b.mark).toInt
  let missed := x.missed || x.state == .listening || x.state == .adrift
  let adriftMisses := if x.state == .adrift then x.misses else 0
  let s1 := onlyIf missed (fun s => peak .f blkPark 7 1 (e.natAbs * 1000000 / ticksPerSecond) (parkCount 7 0 s)) s
  let s2 := parkCount 2 0 (modPark (fun x =>
    { x with
      state := if x.state == .listening || x.state == .adrift then .parked else x.state
      parking := x.parking || first
      adrift := if first then 0 else x.adrift
      givenUp := if first then 0 else x.givenUp
      silent := if first then [] else x.silent
      time := time
      origin := if first then b.origin - BitVec.ofNat 48 (depthTicks b.depth) else x.origin
      rate := if first then x.rate else nextRate x.rate e elapsed missed
      rendezvous := b.rendezvous, interval := b.interval, hold := b.hold
      acquired := true, missed := false, window := true }) s1)
  let answer := takeSeq (wakeFrame s.f.chain.number 0 0 (s2.wakeWord 0 (min 255 adriftMisses))) s2
  let s3 := modPark (fun x => { x with safeChanged := false }) (sendParked port answer.1 answer.2)
  let own := (s3.f.park.rendezvousAt time) + BitVec.ofNat 48 (depthTicks s.f.chain.depth)
  if before own time then sendBeacons s3 else s3

/-- R356, R360: a beacon on the PARENT port: the park beacon of a tree that is UP, or a rendezvous. An F-die that started while
the Chain is parked hears it in LISTEN and keeps its ports there (R357). -/
def takeBeacon (b : Beacon) (elapsed : Nat) (s : Node) : Node :=
  let x := s.f.park
  if s.fUp && !s.f.chain.root && x.state == .none && (s.treeRole .parent).isEmpty && ports.any fun p => (s.link p).state == .listen then
    modPark (fun x => { x with around := true }) s
  else if !s.attends || s.f.chain.root || (s.treeRole .parent).isEmpty then s
  else match x.state with
    | .none => if b.rendezvous = 0 && !x.parking && s.f.chain.state == .up then acquireBeacon b elapsed true s else s
    | .parked => if x.window && !x.acquired then acquireBeacon b elapsed false s else s
    | .listening => acquireBeacon b elapsed false s
    | .adrift => if x.window then acquireBeacon b elapsed false s else s
    | .unparking => if x.window && !x.acquired then acquireBeacon b elapsed false s else s
    | .fallback => s

/-- R356, R360: a beacon arrives. Under MISS_RDV the beacons of the next A rendezvous are discarded (R535). -/
def doBeacon (b : Beacon) (elapsed : Nat) (s : Node) : Node :=
  match s.filFind .f filMissRdv fun _ => true with
  | some i =>
    if s.f.park.state != .none && decide ((s.filSlot i).effects < (s.filSlot i).a) then filEffect i s
    else takeBeacon b elapsed s
  | none => takeBeacon b elapsed s

def execBeacon (b : Beacon) (elapsed : Nat) (s : State) : Host.Outcome State Fault Refusal := s.run (doBeacon b elapsed)

/-- R361: the beacon instant. The root opens its window there, at the next rendezvous; another node has acquired its parent's
beacon. -/
def doRendezvousBeaconSend (s : Node) : Node :=
  let x := s.f.park
  if s.f.chain.root && s.scheduled then
    sendBeacons (sendWakes (parkCount 2 0 (modPark (fun x =>
      { x with rendezvous := (x.rendezvous + 1) % 65536, window := true, acquired := true
               time := x.rendezvousAt x.time }) s)))
  else if s.attends && x.window && x.acquired then sendBeacons s
  else s

def execRendezvousBeaconSend (s : State) : Host.Outcome State Fault Refusal := s.run doRendezvousBeaconSend

/-- R365, R366: the listen window opens, and what waits to be sent at a rendezvous goes out (R371, R373). -/
def doListenWindowOpen (s : Node) : Node :=
  let x := s.f.park
  if s.scheduled && !s.f.chain.root && x.state != .listening then
    sendWakes (modPark (fun x => { x with window := true, acquired := false, rendezvous := (x.rendezvous + 1) % 65536 }) s)
  else s

def execListenWindowOpen (s : State) : Host.Outcome State Fault Refusal := s.run doListenWindowOpen

/-- R366: a window without a beacon: a PARKED node becomes LISTENING. -/
def doListenWindowMiss (s : Node) : Node :=
  let x := s.f.park
  if s.attends && x.state == .parked && x.window && !x.acquired && !s.f.chain.root then
    parkCount 4 0 (parkCount 3 0 (modPark (fun x => { x with state := .listening, missed := true }) s))
  else s

def execListenWindowMiss (s : State) : Host.Outcome State Fault Refusal := s.run doListenWindowMiss

/-- R366: three intervals after the missed beacon the node is ADRIFT. -/
def doListeningTimeout (s : Node) : Node :=
  if s.attends && s.f.park.state == .listening then
    parkCount 5 0 (modPark (fun x => { x with state := .adrift, widen := 1, misses := 0, window := false }) s)
  else s

def execListeningTimeout (s : State) : Host.Outcome State Fault Refusal := s.run doListeningTimeout

/-- R367: the node falls back: its link ports are off, and the source of its PARENT port is raised with cause 7. -/
def fallBack (s : Node) : Node :=
  let s1 := parkCount 6 0 (modPark (fun x => { x with state := .fallback, window := false }) s)
  let s2 := forEach ports (fun p s => modLink p (fun l => { l with state := .off, bypass := [], busy := false }) s) s1
  forEach (s2.treeRole .parent) (fun p s => detect .f (linkSource p) 7 (modLink p (fun l => { l with cause := 7 }) s)) s2

/-- R366: an adrift window without a beacon; the 64th miss falls back. -/
def doAdriftWindowMiss (s : Node) : Node :=
  let x := s.f.park
  if s.attends && x.state == .adrift && x.window && !x.acquired then
    let t := parkCount 5 1 (parkCount 3 0 (modPark (fun x =>
      { x with misses := satAdd 255 x.misses 1, widen := x.widen + 1, window := false }) s))
    if 64 ≤ t.f.park.misses then fallBack t else t
  else s

def execAdriftWindowMiss (s : State) : Host.Outcome State Fault Refusal := s.run doAdriftWindowMiss

/-- Intervals without ANSWER after which a parent gives up on a child (R369). -/
def giveUpAfter : Nat := 67

/-- R368, R369: no ANSWER from a child within the listen time marks it adrift; after 67 intervals the parent gives up. -/
def doChildAnswerTimeout (p : Port) (s : Node) : Node :=
  let i := portCode p
  if (s.scheduled || (s.attends && s.f.park.parking)) && (s.link p).role == .child && !s.f.park.givenUp.getLsbD i then
    let n := tget 0 s.f.park.silent i + 1
    let t := modPark (fun x =>
      { x with adrift := x.adrift ||| BitVec.ofNat 3 (2 ^ i), silent := tput x.silent i n }) s
    if giveUpAfter ≤ n then
      detect .f (linkSource p) 7 (parkCount 9 0 (modLink p (fun l => { l with cause := 7 })
        (modPark (fun x => { x with givenUp := x.givenUp ||| BitVec.ofNat 3 (2 ^ i) }) t)))
    else t
  else s

def execChildAnswerTimeout (p : Port) (s : State) : Host.Outcome State Fault Refusal := s.run (doChildAnswerTimeout p)

/-- After three intervals an unparking node has failed the tree ports that are not UP (R358). -/
def endUnparking (s : Node) : Node :=
  let late := ports.filter fun p => ((s.link p).role == .parent || (s.link p).role == .child) && (s.link p).state != .up
  forEach late (fun p s => failPort p 2 .bringup s) (modPark (fun x => { x with state := .none }) s)

/-- R364: the hold span ends and the tree ports turn off. A node keeps the schedule for at most 3 intervals after it began to
unpark (R358). -/
def doHoldWindowEnd (s : Node) : Node :=
  let x := s.f.park
  if s.scheduled && x.window && x.state != .listening then
    let t := modPark (fun x =>
      { x with window := false, unparked := if x.state == .unparking then x.unparked + 1 else x.unparked }) s
    if x.state == .unparking && decide (3 ≤ t.f.park.unparked) then endUnparking t else t
  else s

def execHoldWindowEnd (s : State) : Host.Outcome State Fault Refusal := s.run doHoldWindowEnd

/-- R363, R368: an ANSWER on a CHILD port clears its adrift mark. -/
def doWakeAnswer (p : Port) (w : WakeWord) (s : Node) : Node :=
  let i := portCode p
  if (s.scheduled || (s.attends && s.f.park.parking)) && (s.link p).role == .child && w.cause == 0 then
    modPark (fun x => { x with adrift := x.adrift &&& ~~~ BitVec.ofNat 3 (2 ^ i), silent := tdel x.silent i }) s
  else s

def execWakeAnswer (p : Port) (w : WakeWord) (s : State) : Host.Outcome State Fault Refusal := s.run (doWakeAnswer p w)

/-- R372, R524: a REQUEST is forwarded, and one for this node unparks it, or wakes its N-die where the F-die runs. -/
def doWakeRequest (p : Port) (dest : Nat) (w : WakeWord) (s : Node) : Node :=
  let mine := dest == 127 || (dest == s.f.chain.number && dest != 0)
  let heard := !s.portsParked || s.f.park.window || s.f.park.state == .listening
  if s.attends && heard then
    let t := if dest == s.f.chain.number then s else routeWake (some p) (wakeFrame w.sender dest 1 w) s
    if mine then (if t.portsParked then unpark 1 t else wakeNDie t) else t
  else s

def execWakeRequest (p : Port) (dest : Nat) (w : WakeWord) (s : State) : Host.Outcome State Fault Refusal :=
  s.run (doWakeRequest p dest w)

/-- R373: the root stores a NOTICE in K:4044; another node passes it on towards the root. -/
def doWakeNotice (w : WakeWord) (s : Node) : Node :=
  if s.attends then
    if s.f.chain.root then modPark (fun x => { x with notices := tput x.notices (w.sender % 128) (wakeBits w) }) s
    else routeWake none (wakeFrame w.sender 0 2 w) s
  else s

def execWakeNotice (w : WakeWord) (s : State) : Host.Outcome State Fault Refusal := s.run (doWakeNotice w)

/-- K:4047 (R371, R372): 0 and values above 127 are refused with RANGE. A node in FALLBACK takes part in no rendezvous and leaves it
by its N-die's own wake alone (R367). -/
def requestWake (arg : Nat) (s : Node) : Except Nat Node :=
  if arg = 0 ∨ 127 < arg then .error stRange
  else if s.f.park.state == .none || s.f.park.state == .fallback then .ok s
  else .ok (unpark 5 (queueRequest arg 0 s))

/-- R359: every 1 s an active F-die whose follower is aligned calibrates its low-frequency oscillator. -/
def doLfCalibration (rate : Int) (s : Node) : Node :=
  if s.fUp && s.f.fol.state == .aligned then
    modPark (fun x => { x with calibrated := true, rate := clampInt 8388607 rate }) s
  else s

def execLfCalibration (rate : Int) (s : State) : Host.Outcome State Fault Refusal := s.run (doLfCalibration rate)

/-- States in K:4043 (R376). -/
def ParkState.code : ParkState → Nat
  | .none => 0
  | .parked => 1
  | .listening => 2
  | .adrift => 3
  | .fallback => 4
  | .unparking => 5

/-- K:4043 (R376). -/
def Node.parkStatus (s : Node) : Nat :=
  let x := s.f.park
  let up := b2n (x.givenUp.getLsbD 0) * 128 + b2n (x.givenUp.getLsbD 1) * 256 + b2n (x.givenUp.getLsbD 2) * 512
  ParkState.code x.state * 2097152 + min x.misses 255 * 8192 + x.adrift.toNat * 1024 + up + x.cause % 8 * 16

/-- K:4044 (R375): the root's latest notices, 3 bytes for each node; empty on any other node. -/
def Node.parkNotices (s : Node) : List Byte :=
  if s.f.chain.root then (List.range 126).flatMap fun i => leBytes 3 (tget 0 s.f.park.notices (i + 1)) else []

end Sys2Proof.Machine
end

