-- ==== Sys2Proof/Machine/Filigree.lean ====
section
/-! DEFINITION. Filigree: unlocking, arming and ending slots (R533 to R541). -/

namespace Sys2Proof.Machine

open Sys2Proof

/-- The lower word of the serial number XOR 0x5A17E5 (R533). -/
def unlockCode : Nat := Nat.xor (Config.serial.toNat % 16777216) 0x5A17E5

/-- K:E000 (R533): its refusal, or the node unlocked. A wrong argument is counted whatever the answer. -/
def unlockFil (arg : Nat) (s : Node) : Nat × Node :=
  if s.n.dev != .setup then (stState, s)
  else if s.fil.lockout then (stAccess, s)
  else if arg = unlockCode then
    (stOk, bump .n blkFil 0 0 { s with fil := { s.fil with unlocked := true, wrong := 0, since := s.n.ticks } })
  else
    let n := s.fil.wrong + 1
    (stAccess, bump .n blkFil 0 1 { s with fil := { s.fil with wrong := min 3 n, lockout := decide (3 ≤ n) } })

/-- K:E001 (R533). Armed slots stay. -/
def lockFil (s : Node) : Node := { s with fil := { s.fil with unlocked := false } }

/-- The bytes of an arm BLOB (R534). -/
def filOfBlob (bs : List Byte) : FilSlot :=
  let at_ := fun o n => fromLe (slice bs o n)
  let code := at_ 0 1
  let target := at_ 1 1
  let die : Die :=
    if code = 4 ∨ code = 5 ∨ code = 8 then .f
    else if code = 7 ∨ code = 9 then .n
    else if code = 10 then (if bit target 6 then .n else .f)
    else if bit target 0 then .f else .n
  { armed := true, code := code, target := target, a := at_ 2 3, b := at_ 5 3, duration := at_ 8 2, die := die }

/-- The fields of an arm are in range (R534, R535). -/
def filFieldsOk (x : FilSlot) (bs : List Byte) (s : Node) : Bool :=
  let between := fun v lo hi => decide (lo ≤ v) && decide (v ≤ hi)
  fromLe (slice bs 10 2) == 0 && between x.duration 1 65535 &&
    match x.code with
    | 1 => between x.target 0 1 && between x.a 1 5000 && x.b == 0
    | 2 => between x.target 0 1 && between x.a 1 5000 && x.b == 0
    | 3 => between x.target 2 7 && between x.a 1 65535 && between x.b 1 2
    | 4 => between x.target 0 2 && between x.a 1 65535 && between x.b 1 2
    | 5 => between x.target 0 63 && between x.a 1 255 && x.b == 0
    | 6 => between x.target 0 1 && x.a == 0 && x.b == 0
    | 7 => x.target == 0 && x.a == 0 && x.b == 0
    | 8 => x.target == 0 && between x.a 1 255 && x.b == 0
    | 9 => between x.target 0 6 && between x.a 1 255 && x.b == 0
    | 10 => between x.target 0 127 && x.a == 0 && between x.b 1 16777215 && s.listDefined x.die x.target
    | _ => false

/-- The Chain is parked on this node (R535, MISS_RDV). -/
def Node.chainParked (s : Node) : Bool := s.portsParked

/-- The lowest slot that is not in use. -/
def Node.freeFil (s : Node) : Option Nat := (List.range 8).find? fun i => !(s.filSlot i).armed && !(s.filSlot i).onDie

/-- The refusal of an arm, or the slot it takes (R534). -/
def armFilCheck (bs : List Byte) (s : Node) : Except Nat Nat :=
  let x := filOfBlob bs
  if !s.fil.unlocked then .error stAccess
  else if bs.length ≠ 12 then .error stType
  else if s.n.dev == .boot || s.n.dev == .sealed then .error stState
  else if s.fil.slots.any fun e => e.2.armed && e.2.code == x.code && e.2.target == x.target then .error stState
  else if x.code = filMissRdv ∧ !s.chainParked then .error stState
  else if !filFieldsOk x bs s then .error stRange
  else match s.freeFil with
    | none => .error stRange
    | some i => if x.die == .f && !s.trained then .error stRemote else .ok i

/-- The performing die takes a slot: its duration runs from here, and RECAL loses lock once (R534, R535). -/
def holdFil (i : Nat) (s : Node) : Node :=
  let d := (s.filSlot i).die
  let t := modFil i (fun x => { x with onDie := true, since := (s.die d).ticks, effects := 0, count := 0 }) s
  let u := peak d blkFil 4 0 (poweredSeconds (s.die d).loupe.cells) (bump d blkFil 1 ((s.filSlot i).code - 1) t)
  if (s.filSlot i).code = filRecal then doSynthLockLoss d (filEffect i u)
  else if (s.filSlot i).code = filServoFreeze then raise19 4 (filEffect i u)
  else u

/-- Arms a slot (R534): an N slot at once; an F slot crosses on DATA stream 3, and the write waits for the F-die. -/
def armFil (session tag i : Nat) (bs : List Byte) (s : Node) : Node :=
  let x := filOfBlob bs
  let t := slotsLive (modFil i (fun _ => x) s)
  match x.die with
  | .n => finish session tag stOk (leBytes 1 i) (holdFil i t)
  | .f => sendData .n 3 (.filigree i) { t with fil := { t.fil with waits := tput t.fil.waits i (session, tag) } }

/-- Ends a slot by K:E011 (R536). The end of an F slot crosses to the F-die, which reports it (R537). -/
def disarmFil (i : Nat) (s : Node) : Node :=
  if (s.filSlot i).armed then
    match (s.filSlot i).die with
    | .n => endFil i endDisarm s
    | .f =>
      if s.trained then endFil i endDisarm s
      else s
  else s

/-- K:E011 (R536): the slots it names, or RANGE. -/
def disarmSlots (arg : Nat) : Option (List Nat) :=
  if arg < 8 then some [arg] else if arg = 0xFF then some (List.range 8) else none

/-- R536: a slot's duration runs out. -/
def doFiligreeSlotExpiry (slot : Fin 8) (s : Node) : Node :=
  if (s.filSlot slot).onDie && (s.collects (s.filSlot slot).die) then endFil slot endDuration s else s

def execFiligreeSlotExpiry (slot : Fin 8) (s : State) : Host.Outcome State Fault Refusal := s.run (doFiligreeSlotExpiry slot)

/-- The write that armed an F slot is answered. -/
def answerFil (i status : Nat) (data : List Byte) (s : Node) : Node :=
  match tget? s.fil.waits i with
  | some (session, tag) => finish session tag status data { s with fil := { s.fil with waits := tdel s.fil.waits i } }
  | none => s

/-- R537: the F-die reports an arm or an end. -/
def doFiligreeSlotReport (slot : Fin 8) (armed : Bool) (s : Node) : Node :=
  if s.nUp && s.trained && (s.filSlot slot).die == .f then
    let t := slotsLive (modFil slot (fun x => { x with armed := armed }) s)
    if armed then answerFil slot stOk (leBytes 1 slot) t else t
  else s

def execFiligreeSlotReport (slot : Fin 8) (armed : Bool) (s : State) : Host.Outcome State Fault Refusal :=
  s.run (doFiligreeSlotReport slot armed)

/-- At every training the F-die reports the slots it holds (R537). -/
def reportSlots (s : Node) : Node :=
  slotsLive (forEach ((s.fil.slots.filter fun e => e.2.die == .f).map Prod.fst)
    (fun i s => modFil i (fun x => { x with armed := x.onDie }) s) s)

/-- R533: 600 s after the unlock. -/
def doUnlockExpiry (s : Node) : Node := if s.nUp then lockFil s else s

def execUnlockExpiry (s : State) : Host.Outcome State Fault Refusal := s.run doUnlockExpiry

/-- R533: 60 s after three wrong arguments in a row. -/
def doUnlockLockoutExpiry (s : Node) : Node :=
  if s.nUp && s.fil.lockout then { s with fil := { s.fil with lockout := false, wrong := 0 } } else s

def execUnlockLockoutExpiry (s : State) : Host.Outcome State Fault Refusal := s.run doUnlockLockoutExpiry

/-- The oldest frame that CLASP_DELAY holds is sent. -/
def sendOldest (d : Die) (s : Node) : Node :=
  match (s.die d).clasp.delayed with
  | [] => s
  | f :: rest => pumpData d (modClasp d (fun x => { x with waiting := x.waiting ++ [f], delayed := rest }) s)

/-- A credit that CREDIT_HOLD held back is returned. -/
def returnHeld (d : Die) (s : Node) : Node :=
  if 0 < (s.die d).clasp.heldCredits then
    modClasp d (fun x => { x with heldCredits := x.heldCredits - 1, owed := x.owed + 1 }) s
  else s

/-- R535: the hold A of CLASP_DELAY or CREDIT_HOLD runs out. A credit held when its slot ended is still returned after A
(R536). -/
def doFiligreeHoldEnd (slot : Fin 8) (s : Node) : Node :=
  let x := s.filSlot slot
  if x.code = filClaspDelay then sendOldest x.die s
  else if x.code = filCreditHold then returnHeld x.die s
  else s

def execFiligreeHoldEnd (slot : Fin 8) (s : State) : Host.Outcome State Fault Refusal := s.run (doFiligreeHoldEnd slot)

/-- Seconds left of a duration that started at a tick of its die. -/
def secondsLeft (duration since now : Nat) : Nat := duration - (now - since) / ticksPerSecond

/-- K:E002 (R539). -/
def Node.filStatus (s : Node) : Nat :=
  let inUse := (List.range 8).foldl (fun w i => if (s.filSlot i).armed then w + 2 ^ i else w) 0
  b2n s.fil.unlocked * 8388608 + s.fil.wrong % 4 * 2097152
    + (if s.fil.unlocked then secondsLeft 600 s.fil.since s.n.ticks % 4096 * 256 else 0) + inUse

/-- K:E020 to K:E027 (R539). -/
def Node.filImage (s : Node) (i : Nat) : List Byte :=
  let x := s.filSlot i
  let left := if x.armed then secondsLeft x.duration x.since (s.die x.die).ticks else 0
  leBytes 1 x.code ++ leBytes 1 x.target ++ leBytes 3 x.a ++ leBytes 3 x.b ++ leBytes 2 left ++ [0, 0]
    ++ leBytes 1 (b2n x.armed) ++ leBytes 1 (dieCode x.die) ++ leBytes 2 x.effects

end Sys2Proof.Machine
end

