-- ==== Sys2Proof/Machine/Loupe.lean ====
section
/-! DEFINITION. The lifetime record: its records, sampling, flush commands, images, epochs, the barrier monitor and the bulk
readout (R486 to R514), and the frames that leave the CAN buffers (R124). -/

namespace Sys2Proof.Machine

open Sys2Proof

/-! Records (R486 to R488, R502). -/

/-- A record of the lifetime image: its kind (R487), the cells that hold it in SRAM, and which of them hold milliseconds that
the image shows in seconds. -/
structure Rec where
  kind : Nat
  cells : List Nat
  ms : List Nat
  deriving DecidableEq, Repr

/-- Counts in n cells. -/
def rc (n : Nat) : Option Rec := some ⟨0, List.range n, []⟩

/-- Counts in n cells, the first of which is numbered `first`. -/
def rcFrom (first n : Nat) : Option Rec := some ⟨0, (List.range n).map (· + first), []⟩

/-- Times in n cells. -/
def rt (n : Nat) : Option Rec := some ⟨0, List.range n, List.range n⟩

/-- A count and a time. -/
def rct : Option Rec := some ⟨0, [0, 1], [1]⟩

/-- Extremes in n cells. -/
def rx (n : Nat) : Option Rec := some ⟨1, List.range n, []⟩

/-- The opcodes that exist (R281). -/
def stepOpcodes : List Nat :=
  [0x00, 0x01, 0x02, 0x03, 0x08, 0x09, 0x10, 0x11, 0x12, 0x13, 0x14, 0x18, 0x19, 0x20, 0x21, 0x22]

/-- The records of a link port (R354). -/
def linkRecords : List (Option Rec) := [rc 50, rc 5, rc 3, rcFrom 1 7, rc 2, rt 1, rc 1, rc 64]

/-- The records of a bead port (R435). -/
def beadRecords : List (Option Rec) := [rc 2, rc 23, rc 4, rc 4, rt 6, rc 2, rc 7, rc 21, rt 1, rc 7]

/-- The records of a SAFE pair (R454). -/
def pairRecords : List (Option Rec) := [rc 7, rc 2, rx 1, rc 1, rt 1, rc 4, rc 2, rc 1]

/-- The records that both dies hold for a block, by index, with the number of crossings and islands of the die. -/
def islandRecords (crossings islands : Nat) : List (Option Rec) :=
  [rc crossings, rc crossings, rc crossings, rc (3 * islands), rc islands, rc 2, rc 1, rc 1]

/-- The records of the Clasp block (R200). -/
def claspRecords : List (Option Rec) :=
  [rc 1, rc 1, rc 4, rc 2, rc 1, rc 1, rc 1, rc 1, rc 4, rc 1, rt 8, rc 16, rt 1, rc 2, rc 1]

/-- The records of the sequencer block (R311). -/
def seqRecords : List (Option Rec) :=
  [rc 3, rc 49, rc 2, rc 1, some ⟨0, stepOpcodes, []⟩, rc 5, rc 3, rc 4, rc 1, rc 1, rc 2]

/-- The records of the fault block (R484). -/
def faultRecords : List (Option Rec) := [rc 48, rc 24, rc 1, rc 1, rc 5, rc 2, rc 1, rc 24, rc 24, rc 2]

/-- The records of a block on the N-die, by index; none where the die does not keep one. -/
def recordsN (blk : Nat) : List (Option Rec) :=
  if blk = blkStartup then [rc 9, rc 1, rc 1, rc 1, rc 1, rc 1, rc 1, rx 1]
  else if blk = blkDict then [rc 1, rc 1, rc 1, rc 1, rc 4, rc 2, rc 7, rc 1]
  else if blk = blkCan then [rc 16, rc 1, rc 1, rc 1, rc 1, rc 2, rc 2, rx 1, rc 32, rc 1, rc 3, rc 1, rc 3, rc 1]
  else if blk = blkPort then [rc 9, rcFrom 1 6, rc 1, rc 1, rc 1, rc 1, rc 1, rc 5, rc 1, rx 1, rc 1, rc 1]
  else if blk = blkClasp then claspRecords
  else if blk = blkCh then [rc 8, rc 1, rc 3, rc 6, rc 1, rc 1, rc 3]
  else if blk = blkIsl then islandRecords 5 8
  else if blk = blkTime then [rc 6, rc 1, rc 5, rc 3, rt 3, rc 1, rc 1, rc 1, rx 1]
  else if blk = blkSeq then seqRecords
  else if blk = blkFault then faultRecords
  else if blk = blkEnv then
    [rt 1, rt 21, rx 2, rt 8, rc 8, rc 8, rc 8, rc 1, rct, rx 1, rc 2, rc 1, rc 3, rc 1]
  else if blk = blkPower then [rc 2, rc 4, rt 1, rc 1, rt 1, rc 1, rc 2, rc 1]
  else if blk = blkFil then [rc 2, rcFrom 0 10, rt 10, rc 4, rx 1]
  else []

/-- The records of a block on the F-die. -/
def recordsF (blk : Nat) : List (Option Rec) :=
  if blk = blkStartup then [rc 4, rc 1, rc 1, none, none, none, rc 1, rx 1]
  else if blk = blkClasp then claspRecords
  else if blk = blkCh then [rc 8, rc 1, rc 3, rc 6, rc 1, rc 1]
  else if blk = blkIsl then islandRecords 10 13
  else if blk = blkTime then [rcFrom 1 3, rc 1, rc 2]
  else if blk = blkSeq then seqRecords
  else if blk = blkChain then linkRecords ++ linkRecords ++ linkRecords ++ [rc 2, rc 2, rct, rc 1, rc 1]
  else if blk = blkPark then [rc 1, rt 1, rc 1, rc 1, rc 1, rc 2, rc 1, rc 2, rc 1, rc 1, rc 5, rc 2]
  else if blk = blkFPort then [rc 7, rc 1, rc 1, rc 1, rc 2, rc 6, rc 1, rx 2, rc 1, rc 2, rc 1, rc 1]
  else if blk = blkBead then beadRecords ++ beadRecords ++ beadRecords ++ beadRecords
  else if blk = blkSafe then pairRecords ++ pairRecords
  else if blk = blkFault then faultRecords ++ [rc 3]
  else if blk = blkEnv then
    [rt 1, rt 21, rx 2, none, none, none, none, none, none, none, none, none, rc 3]
  else if blk = blkPower then [rc 1, rt 1, rc 1, rc 1, rc 1, rc 1]
  else if blk = blkFil then [none, rcFrom 0 10, rt 10, rc 4, rx 1]
  else []

/-- The records of a block on a die. -/
def recordsOf : Die → Nat → List (Option Rec)
  | .n => recordsN
  | .f => recordsF

/-- The blocks of a die, in ascending code (R488). -/
def blocksOf (d : Die) : List Nat := ((List.range 18).map (· + 3)).filter fun b => !(recordsOf d b).isEmpty

/-! Sampling (R232, R489). -/

/-- The bin of a die temperature in tenths of a degree (R502, index 1). -/
def tempBin (t : Int) : Nat := if t < -400 then 0 else if 1500 ≤ t then 20 else ((t + 400) / 100).toNat + 1

/-- The bin of N_VBAT in millivolts (R502, index 3). -/
def vbatBin (v : Nat) : Nat :=
  if v < 6000 then 0 else if v < 9000 then 1 else if v < 12000 then 2 else if v < 16000 then 3
  else if v < 20000 then 4 else if v < 28000 then 5 else if v < 36000 then 6 else 7

/-- The time cells of a die's Clasp half that run now (R200). -/
def claspTimes (d : Die) (s : Node) : List Nat :=
  let c := (s.die d).clasp
  if c.link == .up then
    cellOf blkClasp 10 (c.swing % 8) :: (if c.half then [cellOf blkClasp 12 0] else [])
  else []

/-- The time cells of the slots that a die performs (R540). -/
def filTimes (d : Die) (s : Node) : List Nat :=
  (s.fil.slots.filter fun e => e.2.onDie && e.2.die == d).map fun e => cellOf blkFil 2 (e.2.code - 1)

/-- A master time state's place in R276. -/
def timeCell : TimeState → Nat
  | .free => 0
  | .tracking => 1
  | .holdover => 2

/-- A bead port state's place in R433. -/
def beadCell : BeadState → Nat
  | .off => 0
  | .powering => 1
  | .idle => 2
  | .train => 3
  | .pullup => 4
  | .faultOff => 5

/-- The time cells of the N-die that run now. -/
def timesN (s : Node) : List Nat :=
  [cellOf blkEnv 0 0, cellOf blkEnv 1 (tempBin s.n.pow.nTemp), cellOf blkEnv 3 (vbatBin s.n.pow.vbat),
    cellOf blkTime 4 (timeCell s.n.hm.state)]
  ++ (if s.n.bar.alarm then [cellOf blkEnv 8 1] else []) ++ (if s.n.crystal then [cellOf blkPower 4 0] else [])
  ++ claspTimes .n s ++ filTimes .n s

/-- The time cells of the F-die that run now. -/
def timesF (s : Node) : List Nat :=
  [cellOf blkEnv 0 0, cellOf blkEnv 1 (tempBin s.f.fTemp)]
  ++ (ports.filter fun p => (s.link p).state == .up).map (fun p => cellOf blkChain (portCode p * 8 + 5) 0)
  ++ (if s.f.chain.state == .partitioned then [cellOf blkChain 26 1] else [])
  ++ (if s.portsParked then [cellOf blkPark 1 0] else [])
  ++ beadPorts.map (fun p => cellOf blkBead (p * 10 + 4) (beadCell (s.bead p).state))
  ++ (beadPorts.filter fun p => (s.bead p).episode.getLsbD 7).map (fun p => cellOf blkBead (p * 10 + 8) 0)
  ++ ([0, 1].filter fun p => (s.pair p).state == .active).map (fun p => cellOf blkSafe (p * 8 + 4) 0)
  ++ (if s.f.phase == .dormant then [cellOf blkPower 1 0] else [])
  ++ claspTimes .f s ++ filTimes .f s

/-- The time cells of a die that run now. -/
def timesOf : Die → Node → List Nat
  | .n => timesN
  | .f => timesF

/-- R232, R489: each hub samples its islands' counters every 1 ms, and times rise by that. -/
def doCounterSample (d : Die) (s : Node) : Node :=
  if s.collects d then
    let t := modLoupe d (fun l => (s.die d).isl.unsampled.foldl (fun l e => addTotal e.1 e.2 l) l) s
    modIsl d (fun x => { x with unsampled := [] })
      (modLoupe d (fun l => (timesOf d s).foldl (fun l c => addTotal c 1 l) l) t)
  else s

def execCounterSample (d : Die) (s : State) : Host.Outcome State Fault Refusal := s.run (doCounterSample d)

/-! Flushes (R489 to R494, R512). -/

/-- R489: the periodic interval ends. -/
def doPeriodicFlush (d : Die) (s : Node) : Node := if s.collects d then flush d s else s

def execPeriodicFlush (d : Die) (s : State) : Host.Outcome State Fault Refusal := s.run (doPeriodicFlush d)

/-- R489: a flush that an early cause asked for starts as soon as a token allows. -/
def doEarlyFlush (d : Die) (s : Node) : Node := tryFlush d s

def execEarlyFlush (d : Die) (s : State) : Host.Outcome State Fault Refusal := s.run (doEarlyFlush d)

/-- R489: the bucket gains a token, up to its capacity. -/
def doTokenGain (d : Die) (s : Node) : Node :=
  if s.collects d then tryFlush d (modLoupe d (fun l => { l with tokens := min (bucketCap d) (l.tokens + 1) }) s) else s

def execTokenGain (d : Die) (s : State) : Host.Outcome State Fault Refusal := s.run (doTokenGain d)

/-- R491: a slot write completes or fails its verification. -/
def doFlushComplete (d : Die) (verified : Bool) (s : Node) : Node := if s.collects d then endFlush d verified s else s

def execFlushComplete (d : Die) (verified : Bool) (s : State) : Host.Outcome State Fault Refusal :=
  s.run (doFlushComplete d verified)

/-- K:A010 (R512): its refusal, or none where it waits for both slots. -/
def flushRefusal (s : Node) : Option Nat :=
  if !s.trained then some stRemote else if s.lacksToken then some stBusy else none

/-- R494: an F image received on stream 4 is held in N SRAM, with its flush time. -/
def doLoupeFImage (time : T48) (s : Node) : Node :=
  if s.nUp && s.trained then
    modBar (fun b =>
      { b with fImage := some (s.f.loupe.stored, time), fImageNew := true
               fTokens := s.f.loupe.tokens, fSlots := s.f.loupe.slots }) s
  else s

def execLoupeFImage (time : T48) (s : State) : Host.Outcome State Fault Refusal := s.run (doLoupeFImage time)

/-- R494: once per 600 s the held F image is written into the F copy ring. -/
def doFCopyWrite (s : Node) : Node :=
  if s.nUp && s.n.bar.fImageNew then modBar (fun b => { b with fCopy := b.fImage, fImageNew := false }) s else s

def execFCopyWrite (s : State) : Host.Outcome State Fault Refusal := s.run doFCopyWrite

/-! Epochs (R503, R504). -/

/-- K:A020 (R503): its refusal, or none where it waits for both slots. -/
def epochRefusal (s : Node) : Option Nat :=
  if s.n.dev != .setup then some stState
  else if decide (8 ≤ s.n.bar.epochs.length) || decide (255 ≤ s.n.bar.started) then some stRange
  else flushRefusal s

/-- K:A022 (R503). -/
def deleteEpoch (arg : Nat) (s : Node) : Except Nat Node :=
  if s.n.dev != .setup then .error stState
  else if s.n.bar.epochs.any fun e => e.number == arg then
    .ok (modBar (fun b => { b with epochs := b.epochs.filter fun e => e.number != arg }) s)
  else .error stRange

/-- A view names a stored epoch, or the lifetime (R504). -/
def Node.viewOk (s : Node) (view : Nat) : Bool := view == 0 || s.n.bar.epochs.any fun e => e.number == view

/-- The baseline of a view on a die; none for the lifetime. -/
def Node.baseline (s : Node) (d : Die) (view : Nat) : Option (Tab Nat) :=
  (s.n.bar.epochs.find? fun e => e.number == view && view != 0).map fun e => match d with
    | .n => e.nBase
    | .f => e.fBase

/-! Images (R505 to R507, R509). -/

/-- The value of a cell in an image (R504): the total, or what it has risen by since the baseline. -/
def imageCell (cells : Tab Nat) (base : Option (Tab Nat)) (blk idx : Nat) (r : Rec) (c : Nat) : Nat :=
  let unit := if r.ms.contains c then 1000 else 1
  let v := fun (t : Tab Nat) => tget 0 t (cellOf blk idx c) / unit
  match base with
  | none => v cells
  | some b => if r.kind = 1 then v cells else v cells - v b

/-- One record of a block image (R505). -/
def loupeRecord (cells : Tab Nat) (base : Option (Tab Nat)) (blk : Nat) (e : Option Rec × Nat) : List Byte :=
  match e with
  | (none, _) => []
  | (some r, idx) =>
    leBytes 1 idx ++ leBytes 1 r.kind ++ leBytes 1 r.cells.length
      ++ r.cells.flatMap fun c => leBytes 6 (imageCell cells base blk idx r c)

/-- A block image (R505). -/
def blockBytes (d : Die) (blk view : Nat) (cells : Tab Nat) (base : Option (Tab Nat)) (time : T48) (copy : Bool) : List Byte :=
  let rs := (recordsOf d blk).zipIdx
  let body := rs.flatMap (loupeRecord cells base blk)
  leBytes 1 blk ++ leBytes 1 (dieCode d) ++ leBytes 1 (rs.filter fun e => e.1.isSome).length ++ leBytes 1 view
    ++ leBytes 2 body.length ++ leBytes 6 time.toNat ++ leBytes 1 (b2n copy) ++ [0] ++ body

/-- Where the N-die serves a die's totals from (R506): its own SRAM; for the F-die its SRAM while the Clasp is UP, else the newest
image held. The second part is the data time, the third says that it is a copy. -/
def Node.source (s : Node) : Die → Tab Nat × T48 × Bool
  | .n => (s.n.loupe.cells, s.stamp .n, false)
  | .f =>
    if s.trained then (s.f.loupe.cells, s.stamp .f, false)
    else match s.n.bar.fImage with
      | some (t, time) => (t, time, true)
      | none => ([], 0, true)

/-- The image of a block as K:A1xx serves it (R512). -/
def Node.blockImage (s : Node) (d : Die) (blk view : Nat) : List Byte :=
  let x := s.source d
  blockBytes d blk view x.1 (s.baseline d view) x.2.1 x.2.2

/-- The blocks of a die one after another (R509). -/
def Node.lifetime (s : Node) (d : Die) (view : Nat) : List Byte := (blocksOf d).flatMap fun b => s.blockImage d b view

/-- A barrier log entry (R507). -/
def logBytes (e : BarrierEntry) : List Byte :=
  leBytes 1 e.kind ++ leBytes 1 e.detail ++ leBytes 3 e.value ++ [0] ++ leBytes 6 e.time.toNat

/-- K:A040 (R507). -/
def Node.logImage (s : Node) : List Byte := leBytes 2 s.n.bar.log.length ++ s.n.bar.log.flatMap logBytes

/-- An entry of the epoch table (R509). -/
def epochBytes (e : Epoch) : List Byte :=
  leBytes 1 e.number ++ leBytes 1 e.slot ++ leBytes 6 e.start.toNat ++ leBytes 6 e.powered ++ e.label

/-- K:A021 (R512): epochs start in ascending number. -/
def Node.epochTable (s : Node) : List Byte := s.n.bar.epochs.flatMap epochBytes

/-- A part of the transfer image (R509). -/
def partBytes (kind view : Nat) (time : T48) (copy : Bool) (body : List Byte) : List Byte :=
  leBytes 1 kind ++ leBytes 1 view ++ leBytes 3 body.length ++ leBytes 6 time.toNat ++ leBytes 1 (b2n copy) ++ body

/-- The transfer image of a bulk readout (R509). -/
def Node.transferImage (s : Node) (mask view : Nat) : List Byte :=
  let now := s.stamp .n
  let f := s.source .f
  let part := fun i (p : List Byte) => if bit mask i then p else []
  leBytes 3 0x002481 ++ leBytes 1 mask ++ leBytes 6 Config.serial.toNat ++ leBytes 6 now.toNat
    ++ part 0 (partBytes 1 view now false (s.lifetime .n view))
    ++ part 1 (partBytes 2 view f.2.1 f.2.2 (s.lifetime .f view))
    ++ part 2 (partBytes 3 view now false s.logImage)
    ++ part 3 (partBytes 4 view now false s.epochTable)
    ++ part 4 (partBytes 5 view now false Config.factoryRecord)

/-- K:A000 (R512). -/
def Node.loupeStatus (s : Node) : Nat :=
  let l := s.n.loupe
  l.slots % 64 * 262144 + l.tokens % 64 * 4096 + s.n.bar.epochs.length % 16 * 256 + b2n (!s.trained) * 128
    + b2n l.writing.isSome * 64

/-- K:A001 (R512). -/
def Node.loupeStatusF (s : Node) : Nat := s.n.bar.fSlots % 64 * 262144 + s.n.bar.fTokens % 64 * 4096

/-- K:A030 (R512). -/
def Node.barrierStatus (s : Node) : Nat :=
  b2n s.n.bar.alarm * 8388608 + b2n s.n.bar.selfTest * 4194304 + min s.n.bar.latest 65535

/-! The barrier monitor (R496 to R500). -/

/-- The monitor works: the N-die is out of standby and reset (R496, R511). -/
def Node.monitors (s : Node) : Bool := s.nUp || s.n.phase == .starting

/-- Crossing 0x05 is torn: the monitor's events do not reach the hub (R496). -/
def Node.monitorTorn (s : Node) : Bool := s.torn .n 4

/-- An event of the monitor reaches the hub, or is lost and counted (R496). -/
def monitorEvent (g : Node → Node) (s : Node) : Node :=
  if !s.monitors then s
  else if s.monitorTorn then bump .n blkEnv 11 0 (modBar (fun b => { b with lost := b.lost + 1 }) s)
  else g s

/-- The number of bin edges at or below a value, less one: its bin. -/
def binOf (edges : List Nat) (v : Nat) : Nat := (edges.filter fun e => decide (e ≤ v)).length - 1

/-- R497: a transient is binned by its peak, in 0.1 kV/µs, and polarity; at or above 250 kV/µs it raises N source 20 with cause 1.
The time for which it blanks discharge detection is counted (R498). -/
def doCmTransient (peak : Nat) (falling : Bool) (blankedMs : Nat) (s : Node) : Node :=
  if peak < 50 then s
  else
    monitorEvent (fun s =>
      let t := countBy .n blkEnv 7 0 blankedMs
        (bump .n blkEnv (if falling then 5 else 4) (binOf [50, 100, 250, 500, 1000, 1500, 2000, 2500] peak) s)
      if 2500 ≤ peak then detect .n 20 1 (logBarrier 1 (b2n falling) peak t) else t) s

def execCmTransient (peak : Nat) (falling : Bool) (blankedMs : Nat) (s : State) : Host.Outcome State Fault Refusal :=
  s.run (doCmTransient peak falling blankedMs)

/-- R498, R499: a discharge pulse of 5 pC or more is binned by its charge in pC, and counted in the window from K:A031 up. -/
def doPdPulse (charge : Nat) (s : Node) : Node :=
  if charge < 5 then s
  else
    monitorEvent (fun s =>
      modBar (fun b => if b.charge ≤ charge then { b with window := b.window + 1 } else b)
        (bump .n blkEnv 6 (binOf [5, 10, 20, 50, 100, 200, 500, 1000] charge) s)) s

def execPdPulse (charge : Nat) (s : State) : Host.Outcome State Fault Refusal := s.run (doPdPulse charge)

/-- R499: a 60 s window ends: the alarm starts or ends, and changed settings apply from the next window. -/
def doPdWindowEnd (s : Node) : Node :=
  if s.nUp && !s.monitorTorn then
    let w := s.n.bar.window
    let t := peak .n blkEnv 9 0 w (modBar (fun b =>
      { b with window := 0, latest := min w 65535, charge := s.val 0xA031, limit := s.val 0xA032 }) s)
    if !s.n.bar.alarm && decide (s.n.bar.limit ≤ w) then
      setCond .n 21 true 0 (bump .n blkEnv 8 0 (logBarrier 2 0 w (modBar (fun b => { b with alarm := true }) t)))
    else if s.n.bar.alarm && decide (2 * w < s.n.bar.limit) then
      setCond .n 21 false 0 (logBarrier 3 0 w (modBar (fun b => { b with alarm := false }) t))
    else t
  else s

def execPdWindowEnd (s : State) : Host.Outcome State Fault Refusal := s.run doPdWindowEnd

/-- The self-test of phase N7 (R500): bit 0 the charge test failed, bit 1 the ramp test. -/
def selfTest (failed : Nat) (s : Node) : Node :=
  let t := bump .n blkEnv 10 0 (modBar (fun b => { b with selfTest := failed == 0 }) s)
  if failed = 0 then t else detect .n 20 2 (logBarrier 4 failed 0 (bump .n blkEnv 10 1 t))

/-! Bulk readout (R508 to R510). -/

/-- Removes the frames of the bulk readout from the buffers. -/
def dropBulk : Node → Node := modCan fun c => { c with tx := c.tx.filter fun f => f.cls != 7 }

/-- Takes the snapshot and sends it from an offset (R510). -/
def startBulk (src mask view offset : Nat) (image : List Byte) (s : Node) : Node :=
  queueBulk (modBar (fun b => { b with bulk := some ⟨src, mask, view, offset, offset, image, s.stamp .n, false⟩ }) (dropBulk s))

/-- R510: a REQUEST takes a snapshot and starts a transfer, or is answered with END status 1, 3 or 4. -/
def doBulkRequest (src mask view offset : Nat) (formOk : Bool) (s : Node) : Node :=
  if s.canOn && s.val 0x1102 == 0 && s.n.number != 0 then
    let t := canReceived 7 s
    let other := match s.n.bar.bulk with
      | some b => b.client != src
      | none => false
    let image := s.transferImage mask view
    if !formOk || mask == 0 || decide (32 ≤ mask) then pushTx [bulkEnd src [] 3] t
    else if other then pushTx [bulkEnd src [] 1] t
    else if !s.viewOk view then pushTx [bulkEnd src [] 4] t
    else if image.length < offset then pushTx [bulkEnd src [] 3] t
    else startBulk src mask view offset image t
  else s

def execBulkRequest (src mask view offset : Nat) (formOk : Bool) (s : State) : Host.Outcome State Fault Refusal :=
  s.run (doBulkRequest src mask view offset formOk)

/-- Ends the transfer with END status 2. -/
def abortBulk (b : Bulk) (s : Node) : Node :=
  let t := modBar (fun x => { x with bulk := some { b with dropped := true } }) (dropBulk s)
  if s.n.can.state == .busOff then t else pushTx [bulkEnd b.client b.image 2] t

/-- R510: ABORT ends the transfer of its client with END status 2. -/
def doBulkAbort (src : Nat) (s : Node) : Node :=
  match s.n.bar.bulk with
  | some b => if s.canOn && b.client == src && !b.dropped then abortBulk b (canReceived 7 s) else s
  | none => s

def execBulkAbort (src : Nat) (s : State) : Host.Outcome State Fault Refusal := s.run (doBulkAbort src)

/-- R510: a snapshot that has sent no frame for 5 s is dropped. -/
def doBulkSnapshotTimeout (s : Node) : Node :=
  match s.n.bar.bulk with
  | some b => if s.nUp && !b.dropped then abortBulk b s else s
  | none => s

def execBulkSnapshotTimeout (s : State) : Host.Outcome State Fault Refusal := s.run doBulkSnapshotTimeout

/-! Frames that have been sent on CAN (R124). -/

/-- An alert has been sent: it leaves its buffer, and one relayed for another node is confirmed there (R137, R343). -/
def alertSent (s : Node) : Node :=
  match firstAlert s.n.can.alerts with
  | none => s
  | some q =>
    let t := canSent 0 (modCan (fun c => { c with alerts := c.alerts.erase q }) s)
    match q.relayFor with
    | some node => alertAnswer node q.alert.seq q.alert.origin 0 t
    | none => t

/-- R124: a frame other than a DAP response has been acknowledged on the bus and leaves its buffer. An END ends the bulk readout
(R510). -/
def doCanFrameSent (cls : Nat) (s : Node) : Node :=
  if !s.canSends then s
  else if cls = 0 then alertSent s
  else if cls = 4 then s
  else match s.n.can.tx.find? fun f => f.cls == cls with
    | none => s
    | some f =>
      let t := canSent cls (modCan (fun c => { c with tx := c.tx.erase f }) s)
      match s.n.bar.bulk with
      | some b => if cls = 7 && f.service == 2 && f.dest == b.client then modBar (fun x => { x with bulk := none }) t else t
      | none => t

def execCanFrameSent (cls : Nat) (s : State) : Host.Outcome State Fault Refusal := s.run (doCanFrameSent cls)

end Sys2Proof.Machine
end

