-- ==== Sys2Proof/Machine/Power.lean ====
section
/-! DEFINITION. Standby and its wakes, and the supply and temperature monitors (R515 to R532). -/

namespace Sys2Proof.Machine

open Sys2Proof

/-! Entry into standby (R521 to R523). -/

/-- The wake sources that the settings enable (R525): bit 0 timer, 1 N_WAKE#, 2 CAN, 3 Chain. -/
def Node.wakeSources (s : Node) : BitVec 4 :=
  let e := s.val 0x9013
  let timer := bit e 0 && s.val 0x9014 != 0
  BitVec.ofNat 4 (b2n timer + 2 * b2n (bit e 1) + 4 * s.val 0x110A + 8 * b2n (bit e 2))

/-- The core supply is removed (R522, R523): the N-die is in standby. The wake island keeps the elapsed time (R271) and the wake
settings; N_INH follows K:9012 (R526). -/
def removeCore (s : Node) : Node :=
  let p := s.n.pow
  let h := s.n.hm
  modPow (fun x =>
    { x with
      inh := s.val 0x9012 == 1, wakes := s.wakeSources, canLowPower := p.canLowPower
      kept := some (h.count, h.count), keptEra := h.era, keptAcquired := h.acquired, keptEraKnown := h.eraKnown
      standbyCause := p.entering.getD p.standbyCause, notified := p.notified })
    (restartN .standby s.n.cause s)

/-- The N-die leaves standby on a wake event (R525): it restarts with the cause, N_INH is high, and the length of the standby is
reported (K:9015). -/
def wake (cause : Nat) (s : Node) : Node :=
  let p := s.n.pow
  let span := (p.kept.map fun k => (k.2 - k.1).toNat).getD 0
  let t := modPow (fun x =>
    { x with
      kept := p.kept, keptEra := p.keptEra, keptAcquired := p.keptAcquired, keptEraKnown := p.keptEraKnown
      standbyCause := p.standbyCause, standbyLength := min 4194303 (span / ticksPerSecond) })
    (restartN (if p.rstLow then .held else .starting) cause s)
  modPark (fun x => { x with wakeN := false })
    (countBy .n blkPower 2 0 (span * 1000 / ticksPerSecond) (bump .n blkPower 1 (cause - 5) t))

/-- Entry is complete (R522): the Clasp is off, the core supply is removed, and a wake latched meanwhile starts the N-die at once
(R525). -/
def completeStandby (s : Node) : Node :=
  let latched := s.n.pow.latched
  let t := removeCore s
  match latched with
  | some c => bump .n blkPower 3 0 (wake c t)
  | none => t

/-- K:9010 and K:9011 (R521): standby is refused with STATE in BOOT, and while an entry runs. -/
def standbyRefusal (s : Node) : Option Nat :=
  if s.n.dev == .boot || s.n.pow.entering.isSome then some stState else none

/-- Entry into standby, for cause 1 K:9010 or 2 idle (R522): sessions are released, the CAN port stops, a flush is made if a token
is held, and the F-die is notified where the Clasp is trained. -/
def startStandby (cause : Nat) (s : Node) : Node :=
  let s1 := modPow (fun p => { p with entering := some cause, latched := none, canLowPower := s.val 0x110A == 1 })
    (bump .n blkPower 0 (cause - 1) s)
  let s2 := modN (fun n =>
    { n with
      dict := { n.dict with sessions := [], txns := [] }
      can := { n.can with state := .stopped, tx := [] } }) s1
  let s3 := flushForStandby s2
  if s3.trained then sendData .n 3 .standby (modPow (fun p => { p with notified := true }) s3) else completeStandby s3

/-- R521: K:9011 seconds without a CAN frame, an N-port frame and an ARMED N launch slot. -/
def doIdleStandbyExpiry (s : Node) : Node :=
  let armed := s.n.seq.slots.any fun e => e.2.state == .armed
  if s.nUp && s.val 0x9011 != 0 && !armed && s.n.dict.run.isNone && (standbyRefusal s).isNone then startStandby 2 s else s

def execIdleStandbyExpiry (s : State) : Host.Outcome State Fault Refusal := s.run doIdleStandbyExpiry

/-- R522: no credit for the notice within 1 ms: the entry completes, and the F-die meets the loss as LOST (R24). -/
def doStandbyCreditTimeout (s : Node) : Node :=
  if s.nUp && s.n.pow.entering.isSome then completeStandby (modPow (fun p => { p with notified := false }) s) else s

def execStandbyCreditTimeout (s : State) : Host.Outcome State Fault Refusal := s.run doStandbyCreditTimeout

/-! The notice on the F-die (R524). -/

/-- Every link port is off (R524). -/
def linksOff : Node → Node := forEach ports fun p s => modLink p (fun l => Link.dropped .off l.cause l) s

/-- Outputs take their fail-safe choice under row 4 of R216, without source 10 (R524). -/
def rowFour (s : Node) : Node :=
  settlePins .f (modCh .f fun x => { x with timedOut := true, timedOutAt := s.time .f, timer := false }) s

/-- R524: the F-die acts on the standby notice according to its Chain state. The notice is a change from RUN (R295). -/
def noticeF (s : Node) : Node :=
  let s1 := modF (fun f => { f with dev := if f.dev == .run then .boot else f.dev }) (onlyIf (s.f.dev == .run) (stopLists .f) s)
  let s2 := modClasp .f (fun x => { x with link := .off, lossSeen := false }) (loseLink .f s1)
  if s.portsParked then sleepF .parked s2
  else if s.f.chain.state == .off || s.f.chain.state == .noRoot then
    sleepF .dormant (bump .f blkPower 0 0 (linksOff s2))
  else bump .f blkPower 2 0 (rowFour s2)

/-- R524: the F-die receives the notice, and the N-die completes its entry (R522). -/
def doStandbyNotice (s : Node) : Node :=
  if s.hubReceives .f && s.n.pow.entering.isSome && s.n.pow.notified then completeStandby (noticeF s) else s

def execStandbyNotice (s : State) : Host.Outcome State Fault Refusal := s.run doStandbyNotice

/-! Wakes (R525). -/

/-- A wake event: it ends standby where its source is enabled, or is latched during entry, the lowest cause first. -/
def wakeEvent (enabled : BitVec 4 → Bool) (cause : Nat) (s : Node) : Node :=
  if s.n.phase == .standby then (if enabled s.n.pow.wakes then wake cause s else s)
  else if s.nUp && s.n.pow.entering.isSome && enabled s.wakeSources then
    modPow (fun p => { p with latched := some (min cause (p.latched.getD cause)) }) s
  else s

/-- R525: K:9014 seconds of standby have passed. -/
def doWakeTimer (s : Node) : Node := wakeEvent (fun w => w.getLsbD 0) 5 s

def execWakeTimer (s : State) : Host.Outcome State Fault Refusal := s.run doWakeTimer

/-- R525: N_WAKE# has been low for 50 µs. -/
def doNWakePin (s : Node) : Node := wakeEvent (fun w => w.getLsbD 1) 6 s

def execNWakePin (s : State) : Host.Outcome State Fault Refusal := s.run doNWakePin

/-- R141: a valid wake-up pattern in CAN-wake standby. It is counted as a CAN wake. -/
def doCanWakeWup (s : Node) : Node :=
  let t := wakeEvent (fun w => w.getLsbD 2) 7 s
  if s.n.phase == .standby && t.n.phase != .standby then bump .n blkCan 13 0 t else t

def execCanWakeWup (s : State) : Host.Outcome State Fault Refusal := s.run doCanWakeWup

/-- R358, R525: training step 0 words from an F-die that wakes its N-die. -/
def doChainWake (s : Node) : Node := if s.f.park.wakeN then wakeEvent (fun w => w.getLsbD 3) 8 s else s

def execChainWake (s : State) : Host.Outcome State Fault Refusal := s.run doChainWake

/-! Monitors (R517, R518, R52). -/

/-- A die's temperature source (R518): live from the limit in °C, until 10 K below it. -/
def tempCond (d : Die) (t : Int) (limit blk item : Nat) (s : Node) : Node :=
  let was := (s.die d).faults.cond.getLsbD 2
  if (10 * limit : Int) ≤ t then setCond d 2 true 0 (onlyIf (!was) (bump d blk item 0) s)
  else if t ≤ (10 * limit : Int) - 100 then setCond d 2 false 0 s
  else s

/-- The N_VBAT source (R518): live outside the window of K:9006 and K:9007, until the level has been back inside by 0.2 V for
1 ms, which `settled` says. -/
def vbatCond (v : Nat) (settled : Bool) (s : Node) : Node :=
  let lo := s.val 0x9006 * 100
  let hi := s.val 0x9007 * 100
  let was := s.n.faults.cond.getLsbD 1
  if v < lo then setCond .n 1 true 0 (onlyIf (!was) (bump .n blkPower 6 0) s)
  else if hi < v then setCond .n 1 true 0 (onlyIf (!was) (bump .n blkPower 6 1) s)
  else if settled && decide (lo + 200 ≤ v) && decide (v + 200 ≤ hi) then setCond .n 1 false 0 s
  else s

/-- The VBEAD source (R52, R547): live below 4.2 V while a port is in LOOP mode, and above 19.5 V; not live from 4.5 V to
18.5 V. Between these levels it stays as it is. -/
def vbeadCond (v : Nat) (s : Node) : Node :=
  let loop := beadPorts.any fun p => s.beadMode p == 1
  let was := s.f.faults.cond.getLsbD 1
  if (loop && decide (v < 4200)) || decide (19500 < v) then setCond .f 1 true 0 (onlyIf (!was) (bump .f blkPower 5 0) s)
  else if (!loop || decide (4500 ≤ v)) && decide (v ≤ 18500) then setCond .f 1 false 0 s
  else s

/-- The highest and lowest die temperature (R502, index 2), in 0.1 K. -/
def tempExtremes (d : Die) (t : Int) (s : Node) : Node :=
  let k := (t + 2732).toNat
  let low (x : Nat) : Nat := if x = 0 then k else min x k
  modLoupe d (fun l =>
    { l with cells := tmod 0 (tmod 0 l.cells (cellOf blkEnv 2 0) (max k)) (cellOf blkEnv 2 1) low }) s

/-- R518: every 1 ms the monitors of each running hub sample. -/
def doMonitorSample (m : Measures) (settled : Bool) (s : Node) : Node :=
  let s1 := if s.nUp then
      tempCond .n m.nTemp (s.val 0x9009) blkPower 7 (vbatCond m.vbat settled (tempExtremes .n m.nTemp
        (modPow (fun p => { p with vbat := m.vbat, nTemp := m.nTemp }) s)))
    else s
  if s1.fUp then
    vbeadCond m.vbead (tempCond .f m.fTemp (s1.val 0x900A) blkPower 4 (tempExtremes .f m.fTemp
      (modF (fun f => { f with vddf := m.vddf, vbead := m.vbead, fTemp := m.fTemp }) s1)))
  else s1

def execMonitorSample (m : Measures) (settled : Bool) (s : State) : Host.Outcome State Fault Refusal :=
  s.run (doMonitorSample m settled)

/-- R517: at 165 °C the pre-regulator folds back; VDDN falls and the N-die restarts with cause 2. -/
def doPreregFoldback (s : Node) : Node :=
  if s.nUp || s.n.phase == .starting then
    bump .n blkPower 5 0 (restartN .starting 2 (modN (fun n => { n with undervoltage := true }) s))
  else s

def execPreregFoldback (s : State) : Host.Outcome State Fault Refusal := s.run doPreregFoldback

/-- K:9015 (R530). -/
def Node.standbyReport (s : Node) : Nat := s.n.pow.standbyCause % 4 * 4194304 + min s.n.pow.standbyLength 4194303

end Sys2Proof.Machine
end

