-- ==== Sys2Proof/Machine/KeyRead.lean ====
section
/-! DEFINITION. What a read of each key returns: the layouts of the status keys, and the images behind the BLOB keys (R47, R78 to
R80, R108 to R111, R198 to R222, R309, R310 and the key tables of the other chapters). -/

namespace Sys2Proof.Machine

open Sys2Proof

/-! Identity, startup and sessions. -/

/-- K:0010 (R47). -/
def Node.strapReport (s : Node) : Nat :=
  s.n.ch.map % 4 * 512 + b2n s.n.adopted * 256 + s.n.floating.toNat * 16 + s.n.straps.toNat

/-- K:0020 (R78). -/
def Node.startupReport (s : Node) : Nat :=
  s.n.cause % 16 * 1048576 + b2n s.n.crystalFallback * 524288 + b2n s.n.rowRestored * 262144
    + b2n s.n.ledgerRecovered * 131072 + b2n s.n.noSettings * 65536 + b2n s.n.fAbsent * 32768
    + b2n s.n.runDeferred * 16384 + b2n s.n.runCancelled * 8192 + min 4095 s.n.readyTime

/-- K:0022 (R80). -/
def Node.trainingReport (s : Node) : Nat :=
  s.n.trainings % 256 * 65536 + s.n.failedAttempts % 16 * 4096 + s.n.trainDuration % 512

/-- K:1000 (R111), for the asking session; the read itself is in flight. -/
def Node.ownSession (s : Node) (session : Nat) : Nat :=
  let other := min 7 ((s.flightOf session).length - 1)
  match tget? s.n.dict.sessions session with
  | some x => x.epoch % 256 * 65536 + x.client % 128 * 256 + pathCode x.path * 64 + other * 8 + session
  | none => 192 + other * 8 + session

/-- K:1001 (R110). -/
def Node.sessionTable (s : Node) : Nat :=
  s.n.dict.txns.length % 32 * 256 + 128
    + [0, 1, 2, 3, 4, 5, 6].foldl (fun w i => if (tget? s.n.dict.sessions i).isSome then w + 2 ^ i else w) 0

/-! Clasp and direct channels. -/

/-- The number of a link state in K:2100 (R199). -/
def LinkState.code : LinkState → Nat
  | .off => 0
  | .training => 1
  | .up => 2
  | .outage => 3

/-- The number of a synthesiser state in K:2100 (R199). -/
def Synth.code : Synth → Nat
  | .off => 0
  | .calibrating => 1
  | .settling => 2
  | .locked => 3

/-- K:2100 and K:2101 (R199). -/
def Node.claspStatus (s : Node) (d : Die) : Nat :=
  let c := (s.die d).clasp
  LinkState.code c.link * 4194304 + b2n c.half * 2097152 + c.swing % 8 * 262144 + c.eq % 4 * 65536
    + Synth.code c.synth * 16384 + b2n (eight.any fun i => s.role d i == 1 && (s.chan d i).shifted) * 8192
    + c.credits % 64 * 128

/-- K:2110 and K:2111 (R198). -/
def Node.receiveMargin (s : Node) (d : Die) : Nat :=
  let c := (s.die d).clasp
  b2n c.below * 16384 + c.width % 64 * 256 + c.height % 256

/-- K:2112 and K:2113 (R198). -/
def Node.transmitWanted (s : Node) (d : Die) : Nat := (s.die d).clasp.wantedSwing % 8 * 4 + (s.die d).clasp.wantedEq % 4

/-- K:2001 (R220). -/
def Node.directionStatus (s : Node) : Nat :=
  s.n.agree.number % 256 * 65536 + s.n.agree.outcome % 4 * 16384 + b2n s.agreeing * 8192 + b2n s.n.ch.upper * 4096
    + s.n.ch.map % 4 * 1024

/-- K:2018 and K:2019 (R222). -/
def Node.channelStatus (s : Node) (d : Die) (c : Nat) : Nat :=
  let x := (s.die d).ch
  let k := s.chan d c
  let role := s.role d c
  origins.foldl (fun w o => if (x.originMask o).getLsbD c then w + 2 ^ (18 + o) else w) 0
    + b2n x.timedOut * 131072 + b2n k.shifted * 65536 + role * 16384 + b2n (s.pinLevel d c) * 8192
    + b2n (role == 2 && k.shadow) * 4096 + k.repairs % 4096

/-! Actions. -/

/-- K:3040 and K:3050 (R309). -/
def Node.seqStatus (s : Node) (d : Die) : Nat :=
  let slots := (s.die d).seq.slots
  (slots.filter fun e => e.2.state == .armed).length % 64 * 262144
    + (slots.filter fun e => e.2.state == .running || e.2.state == .rearmed).length % 64 * 4096
    + min 4095 (3072 - s.memoryUsed d 128)

/-- The number of a slot state (R310). -/
def SlotState.code : SlotState → Nat
  | .free => 0
  | .armed => 1
  | .running => 2
  | .rearmed => 3

/-- A slot image (R290, R310). -/
def Node.slotImage (s : Node) (d : Die) (i : Nat) : List Byte :=
  let x := s.slot d i
  leBytes 1 i ++ leBytes 1 x.list ++ leBytes 6 x.launch.toNat ++ leBytes 3 x.period ++ leBytes 3 x.launches
    ++ leBytes 1 (SlotState.code x.state) ++ leBytes 1 x.origin

/-- A launch record (R306). -/
def recordImage (x : LaunchRecord) : List Byte :=
  leBytes 1 x.slot ++ leBytes 1 x.list ++ leBytes 1 x.flags ++ leBytes 6 x.time.toNat ++ leBytes 3 x.lateness

/-! Words, by area. `sels` holds the session values captured at admission (R95). -/

def Node.readIdentity (s : Node) (key : Nat) : Nat :=
  match key with
  | 0x0000 => 0x00A21D
  | 0x0001 => 0x002481
  | 0x0002 => Config.revision.toNat
  | 0x0004 => Config.serial.toNat
  | 0x0006 => Config.week.toNat
  | 0x0007 => 0x0100
  | 0x0010 => s.strapReport
  | 0x0012 => s.n.number
  | 0x0014 => DevState.code s.n.dev
  | 0x0016 => s.n.lastTransition.toNat
  | 0x0017 => b2n (s.n.dict.unsaved != 0)
  | 0x0020 => s.startupReport
  | 0x0021 => s.n.fReport.toNat + 65536 * b2n s.n.adopted
  | 0x0022 => s.trainingReport
  | _ => s.val key

def Node.readPorts (s : Node) (session key : Nat) : Nat :=
  match key with
  | 0x1000 => s.ownSession session
  | 0x1001 => s.sessionTable
  | 0x1110 => s.canStatus
  | 0x1123 => s.alertStatus
  | 0x1203 => s.portStatus
  | _ => s.val key

def Node.readClasp (s : Node) (sel key : Nat) : Nat :=
  match key with
  | 0x2001 => s.directionStatus
  | 0x2006 => s.pinsWord .n
  | 0x2007 => s.pinsWord .f
  | 0x2018 => s.channelStatus .n sel
  | 0x2019 => s.channelStatus .f sel
  | 0x2100 => s.claspStatus .n
  | 0x2101 => s.claspStatus .f
  | 0x2110 => s.receiveMargin .n
  | 0x2111 => s.receiveMargin .f
  | 0x2112 => s.transmitWanted .n
  | 0x2113 => s.transmitWanted .f
  | 0x2114 => s.n.clasp.corrected * 4096 + s.n.clasp.uncorrectable
  | 0x2115 => s.f.clasp.corrected * 4096 + s.f.clasp.uncorrectable
  | 0x2116 => s.n.clasp.repeats * 4096 + s.n.clasp.naks
  | _ => s.valAt key sel

/-- K:3xxx (R272, R309). The rate of K:3009 is in 0.001 ppm. -/
def Node.readTime (s : Node) (key : Nat) : Nat :=
  match key with
  | 0x3000 => s.n.hm.count.toNat
  | 0x3001 => s.timeStatus
  | 0x3002 => s.n.hm.era.toNat
  | 0x3008 => s24 s.n.hm.offset
  | 0x3009 => s24 (Int.tdiv s.n.hm.r 1000000)
  | 0x300A => s24 s.n.hm.wanted
  | 0x301C => s.n.syncCapture.toNat
  | 0x301D => s.f.syncCapture.toNat
  | 0x3031 => s.followerStatus
  | 0x3040 => s.seqStatus .n
  | 0x3050 => s.seqStatus .f
  | _ => s.val key

def Node.readChain (s : Node) (sel key : Nat) : Nat :=
  let l := s.link (portOf sel)
  match key with
  | 0x4001 => s.chainStatus
  | 0x4002 => s.chainEpoch
  | 0x4020 => s.linkStatus (portOf sel)
  | 0x4021 => if l.state == .up then l.serial else 0
  | 0x4022 => linkDelay l
  | 0x4023 => linkErrors l
  | 0x4043 => s.parkStatus
  | 0x4048 => s24 s.f.park.rate
  | _ => s.valAt key sel

/-- K:5xxx. `sel` is the port, or for a position 16 times the port plus the position less 1. -/
def Node.readBead (s : Node) (sel key : Nat) : Nat :=
  let pos := (s.bead (sel / 16)).at_ (sel % 16 + 1)
  match key with
  | 0x5030 => s.beadStatus sel
  | 0x5031 => (s.bead sel).base
  | 0x5033 => (s.bead sel).answers.toNat
  | 0x5110 => pos.value
  | 0x5111 => posStatus pos
  | 0x5112 => pos.time.toNat
  | _ => s.valAt key sel

def Node.readSafe (s : Node) (sel key : Nat) : Nat :=
  match key with
  | 0x6020 => s.pairStatus sel
  | 0x6021 => (s.pair sel).declared.toNat
  | 0x6022 => (s.pair sel).changed.toNat
  | _ => s.valAt key sel

def Node.readFPort (s : Node) (sel key : Nat) : Nat :=
  match key with
  | 0x7130 => s.windowStatus
  | _ => s.valAt key sel

def Node.readFaults (s : Node) (key : Nat) : Nat :=
  match key with
  | 0x8000 => s.n.faults.status.toNat
  | 0x8001 => (s.live .n).toNat
  | 0x8005 => s.collectorStatus .n
  | 0x8006 => s.n.faults.unack.toNat
  | 0x8100 => s.f.faults.status.toNat
  | 0x8101 => (s.live .f).toNat
  | 0x8105 => s.collectorStatus .f
  | 0x8106 => s.f.faults.unack.toNat
  | _ => s.val key

def Node.readPower (s : Node) (key : Nat) : Nat :=
  match key with
  | 0x9000 => min 65535 s.n.pow.vbat
  | 0x9001 => s24 s.n.pow.nTemp
  | 0x9002 => min 65535 s.f.vddf
  | 0x9003 => min 65535 s.f.vbead
  | 0x9004 => s24 s.f.fTemp
  | 0x9015 => s.standbyReport
  | 0x9040 => s.tearReport .n
  | 0x9041 => s.tearReport .f
  | 0x9042 => s.islandReport .n
  | 0x9043 => s.islandReport .f
  | _ => s.val key

def Node.readLoupe (s : Node) (key : Nat) : Nat :=
  match key with
  | 0xA000 => s.loupeStatus
  | 0xA001 => s.loupeStatusF
  | 0xA002 => poweredSeconds (s.source .n).1
  | 0xA003 => poweredSeconds (s.source .f).1
  | 0xA030 => s.barrierStatus
  | _ => s.val key

/-- The word or two words that a read of a key returns. -/
def Node.readWord (s : Node) (session : Nat) (sels : Tab Nat) (row : KeyRow) (key : Nat) : Nat :=
  if (sessionValue key).isSome then selOf sels key
  else
    let sel := selIndex sels row.sel
    match key / 4096 with
    | 0x0 => s.readIdentity key
    | 0x1 => s.readPorts session key
    | 0x2 => s.readClasp sel key
    | 0x3 => s.readTime key
    | 0x4 => s.readChain sel key
    | 0x5 => s.readBead sel key
    | 0x6 => s.readSafe sel key
    | 0x7 => s.readFPort sel key
    | 0x8 => s.readFaults key
    | 0x9 => s.readPower key
    | 0xA => s.readLoupe key
    | _ => s.filStatus

/-- The bytes of a word key's value: 3, or 6 for T48 and W48 (R6, R126). -/
def wordBytes (t : KType) (v : Nat) : List Byte :=
  match t with
  | .t48 => leBytes 6 v
  | .w48 => leBytes 6 v
  | .bool => leBytes 3 v
  | .u8 => leBytes 3 v
  | .u16 => leBytes 3 v
  | .u24 => leBytes 3 v
  | .s24 => leBytes 3 v
  | .blob _ => []
  | .cmd => []

/-! BLOBs. -/

/-- A key lies in a run of keys. -/
def inRun (base count key : Nat) : Bool := decide (base ≤ key) && decide (key < base + count)

/-- The BLOB behind a key that a read neither changes nor refuses; window data, results and streams have reads of their own. -/
def Node.readBlob (s : Node) (sels : Tab Nat) (key : Nat) : List Byte :=
  if key = 0x3020 then stepBytes s.n.hm.step
  else if key = 0x3021 then stepBytes s.f.fol.step
  else if inRun 0x3060 32 key then s.slotImage .n (key - 0x3060)
  else if inRun 0x3080 32 key then s.slotImage .f (key - 0x3080)
  else if key = 0x4030 then s.nodeTable
  else if key = 0x4031 then s.routeTable
  else if key = 0x4044 then s.parkNotices
  else if key = 0x5120 then slowImage ((s.bead (selOf sels 0x5000)).at_ (selOf sels 0x5001))
  else if key = 0x710F then s.proposal 0
  else if key = 0x711F then s.proposal 1
  else if key = 0x8010 then s.historyBytes .n
  else if key = 0x8110 then s.historyBytes .f
  else if key = 0xA021 then s.epochTable
  else if key = 0xA040 then s.logImage
  else if key = 0xA041 then Config.factoryRecord
  else if inRun 0xA103 18 key then s.blockImage .n (key - 0xA100) (selOf sels 0xA008)
  else if inRun 0xA183 18 key then s.blockImage .f (key - 0xA180) (selOf sels 0xA008)
  else if inRun 0xE020 8 key then s.filImage (key - 0xE020)
  else s.blob key

/-! Reads. -/

/-- How an operation has ended: its status and data, or none while it still runs. -/
abbrev Outcome : Type := Node × Option (Nat × List Byte)

/-- An operation that ends with a status alone. -/
def endsWith (status : Nat) (s : Node) : Outcome := (s, some (status, []))

/-- What a read of a word key changes: K:1110 clears bit 21 (R143), a read of a status word is noted (R476). -/
def readEffect (key : Nat) (s : Node) : Node :=
  if key = 0x1110 then modCan (fun c => { c with exception := false }) s
  else if key = 0x8000 then statusSeen .n s
  else if key = 0x8100 then statusSeen .f s
  else s

/-- The part of a BLOB that a block read returns, or RANGE where its offset lies beyond the end (R126). -/
def sliceRead (status : Nat) (bs : List Byte) (offset length : Nat) (s : Node) : Outcome :=
  if bs.length < offset then endsWith stRange s else (s, some (status, slice bs offset length))

/-- A read of a result object (R304): STALE while it is open or has never been closed, REREAD of the tag read last by the
session, otherwise OK, with the tag remembered. BUSY while a torn crossing delivers no result (R240). -/
def readResult (d : Die) (o session offset length : Nat) (s : Node) : Outcome :=
  let x := s.object d o
  let image := if x.tag = 0 then objectImage {} else objectImage x
  let place := 8 * dieCode d + o
  let last := ((tget? s.n.dict.sessions session).map fun q => tget 0 q.tags place).getD 0
  if image.length < offset then endsWith stRange s
  else if s.seqTorn d then endsWith stBusy s
  else if x.isOpen ∨ x.tag = 0 then sliceRead stStale image offset length s
  else if x.tag = last then sliceRead stReread image offset length s
  else sliceRead stOk image offset length (modSession session (fun q => { q with tags := tput q.tags place x.tag }) s)

/-- A read of a launch record stream (R306). -/
def readStream (d : Die) (offset length : Nat) (s : Node) : Outcome :=
  if offset ≠ 0 ∨ length < 12 then endsWith stRange s
  else if s.seqTorn d then endsWith stBusy s
  else match (s.die d).seq.records with
    | [] => endsWith stEmpty s
    | r :: rest => (modSeq d (fun q => { q with records := rest }) s, some (stOk, recordImage r))

/-- A read of window data (R391, R392): its parts come with later events. -/
def readWindow (session tag window pointer offset length : Nat) (s : Node) : Outcome :=
  let len := s.windowLength window pointer
  if s.windowReadCheck window = stState then endsWith stState s
  else if len < offset then endsWith stRange s
  else if s.windowReadCheck window ≠ stOk then endsWith (s.windowReadCheck window) (bump .f blkFPort 2 0 s)
  else if len = offset then endsWith stOk s
  else (startWindowRead session tag window (pointer + offset) (min length (len - offset)) s, none)

/-- A block read (R126, R128): a length of 1 to 4096. -/
def readBlockKey (session tag : Nat) (sels : Tab Nat) (key offset length : Nat) (s : Node) : Outcome :=
  if length = 0 ∨ 4096 < length then endsWith stRange s
  else if inRun 0x3C00 8 key then readResult .n (key - 0x3C00) session offset length s
  else if inRun 0x3C10 8 key then readResult .f (key - 0x3C10) session offset length s
  else if key = 0x3D00 then readStream .n offset length s
  else if key = 0x3D10 then readStream .f offset length s
  else if key = 0x710E then readWindow session tag 0 (selOf sels 0x710D) offset length s
  else if key = 0x711E then readWindow session tag 1 (selOf sels 0x711D) offset length s
  else if decide (0xA103 ≤ key) && decide (key < 0xA200) && !s.viewOk (selOf sels 0xA008) then endsWith stRange s
  else sliceRead stOk (s.readBlob sels key) offset length s

/-- A read of a word key. -/
def readKeyWord (session : Nat) (sels : Tab Nat) (row : KeyRow) (key : Nat) (s : Node) : Outcome :=
  (readEffect key s, some (stOk, wordBytes row.type (s.readWord session sels row key)))

end Sys2Proof.Machine
end

