-- ==== Sys2Proof/Machine/KeyWrite.lean ====
section
/-! DEFINITION. Writes of dictionary keys: the checks of R91 on access, type, device state and range, each key's own rules, and
what an accepted write brings. -/

namespace Sys2Proof.Machine

open Sys2Proof

/-! Access and type (R91, checks 4 and 5). -/

/-- The access code of a key forbids an operation (R7). A session value is refused to a WRITEKEY step (R97), an arm while
Filigree is locked (R533). -/
def Node.accessRefuses (s : Node) (session key : Nat) (row : KeyRow) (op : DapOp) : Bool :=
  let reads := row.access == .wo || row.access == .cmd
  let writes := row.access == .ro || (session == 7 && (sessionValue key).isSome) || (key == 0xE010 && !s.fil.unlocked)
  match op with
  | .read => reads
  | .readBlock .. => reads
  | .selectRead _ => reads
  | .command _ => row.access != .cmd
  | .write _ => writes
  | .writeBlock _ => writes

/-- A key holds a BLOB. -/
def KType.isBlob : KType → Bool
  | .blob _ => true
  | _ => false

/-- A value has the size of a key's type (R5). -/
def valueFits (t : KType) (v : Val) : Bool :=
  match v with
  | .word _ => !(t.isBlob || t == .t48 || t == .w48)
  | .pair _ => t == .t48 || t == .w48
  | .bytes _ => false

/-- An operation does not fit a key's type, or its own form (R91, check 5; R126). -/
def typeRefuses (row : KeyRow) (op : DapOp) : Bool :=
  match op with
  | .read => row.type.isBlob
  | .selectRead pairs => row.type.isBlob || pairs.isEmpty || decide (2 < pairs.length)
  | .readBlock .. => !row.type.isBlob
  | .write v => !valueFits row.type v
  | .writeBlock seg => (match row.type with
      | .blob max => decide (max < seg.total)
      | _ => true)
  | .command _ => false

/-- Checks 3 to 5 of R91: the key's row, or the first refusal. -/
def Node.keyCheck (s : Node) (session key : Nat) (op : DapOp) (form : Form) : Except Nat KeyRow :=
  match keyRow key with
  | none => .error stNoKey
  | some row =>
    if s.accessRefuses session key row op then .error stAccess
    else if form == .shortOperand || form == .badControl || typeRefuses row op then .error stType
    else .ok row

/-- The number a value spells: a word or two. -/
def valNumber : Val → Nat
  | .word n => n % 16777216
  | .pair n => n % 281474976710656
  | .bytes bs => fromLe bs

/-! Device state (R91, check 6). -/

/-- The writes and commands that SEALED permits (R570). -/
def sealedKeys : List Nat :=
  [0x8002, 0x8102, 0x8003, 0x8103, 0x8004, 0x8104, 0x800A, 0x810A, 0x1008, 0x1105, 0x9010, 0xA010, 0xE001, 0xE011, 0xF002, 0xF003,
   0xF004]

/-- Commands permitted in SETUP only (R102, R399). -/
def setupCommands : List Nat := [0xF000, 0xF001, 0x7142]

/-- The device state forbids a write or a command (R67, R100, R102, R570). -/
def stateRefuses (dev : DevState) (row : KeyRow) (key : Nat) (op : DapOp) : Bool :=
  DapOp.changes op && match dev with
    | .boot => true
    | .setup => false
    | .run => row.access == .rws || setupCommands.contains key
    | .safeHold => row.access == .rws || setupCommands.contains key
    | .sealed => !sealedKeys.contains key

/-! A key's own rules: STATE. -/

/-- The rate code of K:1100, in kbit/s (R142). -/
def nominalRate (code : Nat) : Nat := [0, 125, 250, 500, 1000].getD code 0

/-- The rate code of K:1101, in kbit/s (R142). -/
def dataRate (code : Nat) : Nat := [0, 1000, 2000, 4000, 5000].getD code 0

/-- The code that a value of K:1100 stands for: 0 takes the strap (R41). -/
def Node.nominalOf (s : Node) (v : Nat) : Nat := (setVal 0x1100 0 v s).nominalCode

/-- The code that a value of K:1101 stands for: 0 takes the strap (R41). -/
def Node.dataOf (s : Node) (v : Nat) : Nat := (setVal 0x1101 0 v s).dataCode

/-- An enabled target or an enabled window has 8 lanes in some phase (R382). -/
def Node.eightLanes (s : Node) : Bool :=
  ((List.range 8).any fun t => s.targetOn t && lanesEight (s.valAt 0x7013 t))
    || (windows.any fun w => s.windowVal w 0x7100 == 1
      && (profileEight (s.windowVal w 0x7104) || profileEight (s.windowVal w 0x7105)))

/-- The straps select map 3, the map of the N default row (R41). -/
def Node.strapsSelectRow (s : Node) : Bool := s.n.straps.toNat % 4 == 3

/-- A key's own rule refuses a write with STATE. `sel` is the member it acts on. -/
def Node.ownState (s : Node) (sel key v : Nat) : Bool :=
  if key = 0x1101 then decide (3 ≤ s.dataOf v) && !s.n.crystal
  else if key = 0x2002 then !s.strapsSelectRow || s.agreeing
  else if key = 0x2008 then s.agreeing || (v == 0 && s.eightLanes)
  else if key = 0x2010 ∨ key = 0x2011 then s.n.ch.upper && decide (4 ≤ sel)
  else if key = 0x300B ∨ key = 0x300C then !s.manualAllowed
  else if inRun 0x6010 6 key then (s.pair sel).state == .discrepancy
  else if key = 0x7010 then
    v == 0 && windows.any fun w => s.windowVal w 0x7100 == 1 && s.windowTarget w == sel
  else if key = 0x7013 then lanesEight v && !s.f.ch.upper
  else if key = 0x7104 ∨ key = 0x7105 ∨ key = 0x7114 ∨ key = 0x7115 then profileEight v && !s.f.ch.upper
  else false

/-! A key's own rules: RANGE. -/

/-- Some bit of a timed-input mask names a channel that the die does not send (R288). -/
def Node.timedRefused (s : Node) (d : Die) (v : Nat) : Bool := eight.any fun c => bit v c && s.role d c != 1

/-- A value lies between two bounds. -/
def within (lo hi v : Nat) : Bool := decide (lo ≤ v) && decide (v ≤ hi)

/-- A key's own rule refuses a value with RANGE, beyond the bounds of its row. -/
def Node.ownRange (s : Node) (sel key v : Nat) : Bool :=
  if key = 0x1100 then decide (dataRate s.dataCode < nominalRate (s.nominalOf v))
  else if key = 0x1101 then decide (dataRate (s.dataOf v) < nominalRate s.nominalCode)
  else if key = 0x1102 then v == 1 && s.val 0x1106 == 0
  else if key = 0x3019 then v == 1
  else if key = 0x301A then decide (v * 1000000 ≤ s.val 0x301B * 1024)
  else if key = 0x301B then decide (s.val 0x301A * 1000000 ≤ v * 1024)
  else if key = 0x3044 then s.timedRefused .n v
  else if key = 0x3054 then s.timedRefused .f v
  else if key = 0x5010 then v == 3 && s.beadPositions sel != 1
  else if key = 0x5012 then v != 1 && s.beadMode sel == 3
  else if key = 0x5013 then !within 10 24 (bits v 4 0)
  else if key = 0x5016 then !(within 20 200 (bits v 15 8) && within 20 200 (bits v 7 0))
  else if key = 0x5017 then decide (s.val 0x5020 < v)
  else if key = 0x5020 then beadPorts.any fun p => s.beadMode p == 2 && decide (v < s.valAt 0x5017 p)
  else if key = 0x7100 ∨ key = 0x7110 then v == 1 && s.valAt 0x7010 (s.val (key + 1)) == 0
  else if key = 0x7101 ∨ key = 0x7111 then s.val (key - 1) == 1 && s.valAt 0x7010 v == 0
  else if key = 0x7104 ∨ key = 0x7114 then bits v 3 0 != 0
  else if key = 0x7105 ∨ key = 0x7115 then bits v 3 0 != 0 || bits v 14 10 != 0
  else if key = 0x7106 ∨ key = 0x7116 then bits v 7 0 == 0
  else if key = 0x7107 ∨ key = 0x7117 then decide (12 < bits v 7 4) || decide (12 < bits v 3 0)
  else if inRun 0x8020 24 key then
    (bit v 4 && (sourceIsland .n (key - 0x8020)).isNone) || (key == 0x8036 && bits v 1 0 != 0)
  else if inRun 0x8120 24 key then bit v 4 && (sourceIsland .f (key - 0x8120)).isNone
  else if key = 0x9006 then decide (s.val 0x9007 ≤ v)
  else if key = 0x9007 then decide (v ≤ s.val 0x9006)
  else false

/-- A value that a write of a key refuses with RANGE (R568). -/
def Node.rangeRefuses (s : Node) (row : KeyRow) (sel key v : Nat) : Bool :=
  !within row.lo row.hi v || s.ownRange sel key v

/-! What an accepted write of a word brings. -/

/-- A cap written below the swing in force lowers it (R194). -/
def capSwing (d : Die) (s : Node) : Node := modClasp d (fun c => { c with swing := min c.swing (s.swingCap d) }) s

/-- A timed-input setting reaches the Clasp island unless its crossing is torn (R233, R240, R288). -/
def publishTimed (d : Die) (s : Node) : Node :=
  if s.claspTorn d then s
  else applyTimed d (BitVec.ofNat 8 (s.val (match d with
    | .n => 0x3044
    | .f => 0x3054))) s

/-- Sets a working value, with what each key's rule says follows. -/
def applyWord (key sel v : Nat) (s : Node) : Node :=
  let t := setVal key sel v s
  if key = 0x1100 ∨ key = 0x1101 then modCan (fun c => { c with rateDue := true }) t
  else if key = 0x1122 then detourNext t
  else if key = 0x1200 then modPort (fun p => { p with modeDue := some v }) t
  else if key = 0x2004 then modCh .f (fun x => { x with timeout := v }) (modCh .n (fun x => { x with timeout := v }) t)
  else if key = 0x2102 then capSwing .n t
  else if key = 0x2103 then capSwing .f t
  else if key = 0x300B then manualSet (BitVec.ofNat 48 v) s
  else if key = 0x300C then manualEraSet (BitVec.ofNat 24 v) s
  else if key = 0x3044 then publishTimed .n t
  else if key = 0x3054 then publishTimed .f t
  else if key = 0x4008 then forEach ports (fun p s => enablePort p (bit v (portCode p)) s) t
  else if key = 0x4046 then syncPairs t
  else if key = 0x5010 ∨ key = 0x5011 ∨ key = 0x5012 then beadStart sel (setVal key sel v (beadOff sel .off s))
  else if inRun 0x6010 6 key then pairWritten key sel t
  else if key = 0x8002 then clearStatus .n (w24 v) s
  else if key = 0x8102 then clearStatus .f (w24 v) s
  else t

/-- The parts of R103 that hold a key: bit 0 N S keys, 1 F S keys, 2 the N row, 3 the F row. The direct-channel settings lie in
both rows (R219), K:002B in the F row (R85). -/
def partsOf (key : Nat) : BitVec 4 :=
  match keyRow key with
  | none => 0
  | some row =>
    match row.persist, row.home with
    | .s, .n => 1
    | .s, .f => 2
    | .d, .f => 8
    | .d, .n => if key = 0x002B then 8 else if key < 0x2000 then 4 else 12
    | _, _ => 0

/-- A write to a saved key flags the parts that hold it (K:0017, R108). -/
def markUnsaved (key : Nat) : Node → Node := modDict fun d => { d with unsaved := d.unsaved ||| partsOf key }

/-! BLOBs. -/

/-- A stored N-port transaction keeps its layout (R166); an empty one is allowed and fails its step (R169). -/
def masterOk (bs : List Byte) : Bool :=
  let w := fromLe (slice bs 3 2)
  let rd := fromLe (slice bs 5 2)
  let flags := fromLe (slice bs 0 1)
  bs == [] ||
  (bs.length == 7 + w && decide (flags ≤ 3) && within 1 250 (fromLe (slice bs 1 1)) && within 1 16 (fromLe (slice bs 2 1))
    && decide (w ≤ 256) && decide (rd ≤ 256) && (!bit flags 1 || rd == w))

/-- A stored F-port transaction keeps its layout (R163, R387); an empty one is allowed and fails its step. -/
def Node.storedOk (s : Node) (bs : List Byte) : Bool :=
  let at_ := fun o n => fromLe (slice bs o n)
  let target := at_ 0 1
  let flags := at_ 1 1
  let c := at_ 2 1
  let a := at_ 3 1
  let d := at_ 5 2
  let rd := at_ 7 2
  bs == [] ||
  (bs.length == 9 + c + a + d && within 1 7 target && decide (flags ≤ 1) && decide (c ≤ 2) && decide (a ≤ 4)
    && decide (at_ 4 1 ≤ 31) && decide (d ≤ 256) && decide (rd ≤ 256)
    && (flags == 0 || (s.valAt 0x7013 target == 0 && c == 0 && a == 0 && rd == d)))

/-- The list that a list key holds. -/
def listOfKey (key : Nat) : Nat := key - 0x3200

/-- An accepted or refused write of a list (R278, R280). BUSY while a torn crossing loads no list (R240). -/
def writeList (key : Nat) (bs : List Byte) (s : Node) : Outcome :=
  let l := listOfKey key
  let d := listDie l
  if s.listInUse d l then endsWith stState s
  else if !s.listOk d l bs then endsWith stRange s
  else if s.seqTorn d then endsWith stBusy s
  else endsWith stOk (setBlob key bs s)

/-- A write of K:3048 or K:3058 (R290, R291). BUSY while a torn crossing passes no slot write (R240). -/
def writeArm (d : Die) (bs : List Byte) (s : Node) : Outcome :=
  match armCheck d bs s with
  | .error st => endsWith st s
  | .ok i => if s.seqTorn d then endsWith stBusy s else endsWith stOk (armSlot d i (slotOfBlob bs) s)

/-- A write of window data: a program job at the session's pointer (R391, R393). -/
def writeWindow (window pointer : Nat) (bs : List Byte) (s : Node) : Outcome :=
  let st := s.programCheck window pointer bs.length
  if st = stOk then endsWith stOk (startJob window pointer bs s) else endsWith st s

/-- A write of a BLOB key that passes the device state (R91, checks 6 and 7, and what follows). -/
def writeBlob (sels : Tab Nat) (key : Nat) (bs : List Byte) (s : Node) : Outcome :=
  if inRun 0x3200 128 key then writeList key bs s
  else if key = 0x3048 then writeArm .n bs s
  else if key = 0x3058 then writeArm .f bs s
  else if key = 0x710E then writeWindow 0 (selOf sels 0x710D) bs s
  else if key = 0x711E then writeWindow 1 (selOf sels 0x711D) bs s
  else if inRun 0x1210 8 key then (if masterOk bs then endsWith stOk (setBlob key bs s) else endsWith stRange s)
  else if inRun 0x7300 16 key then (if s.storedOk bs then endsWith stOk (setBlob key bs s) else endsWith stRange s)
  else endsWith stOk (setBlob key bs s)

/-- An access rule that the F-die alone can check: writing or erasing a window whose write enable is 0 (R393, R395). It comes
before the device state (R91). -/
def Node.windowLocked (s : Node) (key arg : Nat) : Bool :=
  (key == 0x710E && s.windowVal 0 0x710C == 0) || (key == 0x711E && s.windowVal 1 0x710C == 0)
    || (key == 0x7140 && s.windowVal (bits arg 20 20) 0x710C == 0)

end Sys2Proof.Machine
end

