-- ==== Sys2Proof/Machine/KeyCommands.lean ====
section
/-! DEFINITION. The command keys of both dies (R7): the state request, pair resets, saves and restores, and the commands of every
chapter (R98 to R107, R241, R242 and the key tables). -/

namespace Sys2Proof.Machine

open Sys2Proof

/-- A detection whose cause code the manual does not state: a free value. -/
def detectUnstated (d : Die) (src : Nat) (s : Node) : Node := detect d src (s.freeValue % 256) (tookFree s)

/-- The result of a check: its refusal, or the node it leaves with OK. -/
def checked (r : Except Nat Node) (s : Node) : Outcome :=
  match r with
  | .error st => endsWith st s
  | .ok t => endsWith stOk t

/-! Pair resets (R241, R242). -/

/-- A sequencer's slots, running lists, trap list and objects do not survive; its launch records wait in the hub. -/
def resetSequencer (d : Die) (s : Node) : Node :=
  let t := endRun d .trap true (forEach slotNumbers (fun n => endRun d (.slot n) true) s)
  modSeq d (fun q => { records := q.records }) t

/-- The CAN island starts afresh: the port integrates with counts of 0, and what it had partly received is lost. -/
def resetCanPort (s : Node) : Node :=
  setCond .n 12 false 0 (setCond .n 13 false 0 (modCan (fun c =>
    { c with
      state := if c.state == .stopped then .stopped else .integrating, tecCount := 0, recCount := 0, recovering := false
      tunnelFirst := [], syncSeen := none }) s))

/-- The N-port island starts afresh: partly received and running work is lost. -/
def resetNPort (s : Node) : Node :=
  dropMaster (modPort (fun p => { p with out := none, busy := none, selLow := false, starts := [] }) s)

/-- A link port starts afresh (R320). -/
def restartLink (p : Port) (s : Node) : Node :=
  let t := if (s.link p).state == .up then failPort p 1 .bringup s else s
  modLink p (fun l =>
    if l.state == .off then l
    else { l with state := if s.f.chain.settled then .bringup else .listen, queue := [], bypass := [], busy := false, hellos := 0 }) t

/-- The monitor island's lost events reach the log once the crossing works again (R496). -/
def flushLost (s : Node) : Node :=
  if s.n.bar.lost = 0 then s else modBar (fun b => { b with lost := 0 }) (logBarrier 5 0 s.n.bar.lost s)

/-- A die's half of the Clasp is reset: a link that was up or in an outage is lost. -/
def cutLink (d : Die) (s : Node) : Node :=
  let l := (s.die d).clasp.link
  if l == .up || l == .outage then loseLink d s else s

/-- What a pair reset does to the blocks at a crossing, by die and place (R228, R241). -/
def resetBlocks (d : Die) (i : Nat) (s : Node) : Node :=
  match d, i with
  | .n, 0 => resetCanPort s
  | .n, 1 => resetNPort s
  | .n, 2 => publishTimed .n (cutLink .f (cutLink .n s))
  | .n, 3 => resetSequencer .n s
  | .n, _ => flushLost s
  | .f, 0 => publishTimed .f (cutLink .f (cutLink .n s))
  | .f, 1 => resetSequencer .f s
  | .f, 2 => resetFPort s
  | .f, j => if j < 7 then beadStart (j - 3) (beadOff (j - 3) .off s) else restartLink (portOf (j - 7)) s

/-- K:F004 (R241): the crossing and its island are released together, whole; latched sources stay. -/
def pairReset (d : Die) (i : Nat) (s : Node) : Node :=
  let island := crossingIsland d i
  let t := bump d blkIsl 2 i (modIsl d (fun x =>
    { x with
      torn := x.torn &&& ~~~ BitVec.ofNat 10 (2 ^ i), inReset := tdel x.inReset island
      lastIsland := island, lastCause := 2, resets := satAdd 65535 x.resets 1 }) s)
  let src := match d with
    | .n => 17
    | .f => 22
  resetBlocks d i (setCond d src ((t.die d).isl.torn != 0) 0 t)

/-! The state request (R98). -/

/-- An ALARM-class source is latched on a die: the class is that of its latest event. -/
def Node.alarmLatched (s : Node) (d : Die) : Bool :=
  let c := (s.die d).faults
  sources.any fun i => c.status.getLsbD i && (tget {} c.latest i).cls == 2

/-- What bars SAFE_HOLD from RUN beyond what bars SETUP (R98). -/
def Node.holdBars (s : Node) : Bool :=
  s.alarmLatched .n || s.alarmLatched .f || (s.pair 0).state == .discrepancy || (s.pair 1).state == .discrepancy

/-- K:0015 (R98): a request for the state in force changes nothing. -/
def requestState (session arg : Nat) (s : Node) : Outcome :=
  if !within 1 3 arg then endsWith stRange s
  else
    let wanted := devOfCode arg
    if s.n.dev == wanted then endsWith stOk s
    else if wanted == .run && (!s.runAllowed || (s.n.dev == .safeHold && s.holdBars)) then endsWith stState s
    else endsWith stOk (setDev wanted 1 0 session s)

/-- The word of K:F003 (R110). -/
def Node.sealWord (s : Node) : Nat :=
  let one (w : Word) : Nat := if w = 0 then 0 else 128 + lowestSrc w
  one s.n.ret.seals * 65536 + one s.n.fSeals * 256

/-! Save (R103, R104). -/

/-- The mask of a save, 0 standing for all four parts (R103). -/
def saveMask (arg : Nat) : Nat := if arg = 0 then 15 else arg

/-- A mask names parts of the F-die. -/
def namesF (mask : Nat) : Bool := bit mask 1 || bit mask 3

/-- K:F000 (R103): the working values are captured at admission. -/
def startSave (arg : Nat) (s : Node) : Outcome :=
  if 15 < arg then endsWith stRange s
  else if namesF (saveMask arg) && !s.trained then endsWith stRemote s
  else (modDict (fun d => { d with run := some (.saving (saveMask arg) s.vals s.blobs) }) s, none)

/-- One part commits from the captured values (R103, R104). -/
def commitPart (vals : Tab Nat) (blobs : Tab (List Byte)) (part : Nat) (s : Node) : Node :=
  let captured := { s with vals := vals, blobs := blobs }
  let area : Die → Area := fun d => { valid := true, vals := savable d vals, blobs := savable d blobs }
  let t := match part with
    | 0 => { s with nLedger := { s.nLedger with area := area .n } }
    | 1 => { s with fLedger := { s.fLedger with area := area .f } }
    | 2 => { s with nLedger := { s.nLedger with row := nRowOf captured } }
    | _ => { s with fLedger := { s.fLedger with row := fRowOf captured } }
  bump .n blkDict 4 part t

/-- The die of a part. -/
def partDie (part : Nat) : Die := if part % 2 = 0 then .n else .f

/-- The parts of a mask, ascending. -/
def partsIn (mask : Nat) : List Nat := (List.range 4).filter fun p => bit mask p

/-- Clears the unsaved flags of parts (R108). -/
def clearUnsaved (mask : Nat) : Node → Node := modDict fun d => { d with unsaved := d.unsaved &&& ~~~ BitVec.ofNat 4 mask }

/-- A save or restore is over: the ledgers are free for a flush that waited (R492). -/
def freeLedgers (s : Node) : Node := tryFlush .f (tryFlush .n (modDict (fun d => { d with run := none }) s))

/-- Latches source 6 for each part that failed (R104, R105). -/
def failParts (mask : Nat) : Node → Node := forEach (partsIn mask) fun p s => detectUnstated (partDie p) 6 s

/-- The answer of K:F000 or K:F001 is due. -/
def finishRun (key status : Nat) (data : List Byte) (s : Node) : Node :=
  match s.runningTxn key with
  | some t => finish t.session t.tag status data s
  | none => s

/-- R104: every named part has committed or failed; `failed` names those that failed. The outcome of an F part does not reach the
N-die while the Clasp is down. -/
def endSave (failed : Nat) (s : Node) : Node :=
  match s.n.dict.run with
  | some (.saving mask vals blobs) =>
    let bad := Nat.land mask failed
    let good := mask - bad
    let lost := namesF mask && !s.trained
    let t := failParts bad (forEach (partsIn good) (commitPart vals blobs) s)
    let u := clearUnsaved (if lost then Nat.land good 5 else good) (freeLedgers t)
    if lost then finishRun 0xF000 stRemote [] u
    else if bad = 0 then finishRun 0xF000 stOk [] u
    else finishRun 0xF000 stRange (leBytes 3 bad) u
  | _ => s

/-! Restore (R105). -/

/-- K:F001 (R105): the gather stage begins; nothing is applied. -/
def startRestore (arg : Nat) (s : Node) : Outcome :=
  if 1 < arg then endsWith stRange s
  else if !s.trained then endsWith stRemote s
  else (modDict (fun d => { d with run := some (.gather arg) }) s, none)

/-- The values that a restore brings: those of the settings areas and rows, or of a new part for argument 1. -/
def restored (arg : Nat) (s : Node) : Node :=
  let blank := { s with vals := [], blobs := [] }
  if arg = 1 then rowValsF factoryRow (rowValsN factoryRow factoryRow blank)
  else
    let nRow := rowInForce .n s.nLedger.row
    let fRow := rowInForce .f s.fLedger.row
    loadArea s.fLedger.area (loadArea s.nLedger.area (rowValsF fRow (rowValsN nRow fRow blank)))

/-- The keys that a restore reloads, ascending, each with its member (R105). -/
def restoreKeys : List (KeyRow × Nat × Nat) :=
  (keyTable.filter fun r => r.persist == .s || r.persist == .d).flatMap fun r =>
    (List.range r.count).flatMap fun i => (List.range (selCount r.sel)).map fun sel => (r, r.base + i, sel)

/-- A value left unchanged under its own rule (R105). -/
def leaveValue : Node → Node :=
  modDict fun d => { d with run := match d.run with
    | some (.apply arg _) => some (.apply arg true)
    | x => x }

/-- One restored value, as if a session had written it in SETUP (R105). `from_` holds what is restored. A changed direction map
or upper-group function is set here and put in force by one agreement afterwards. -/
def restoreValue (from_ : Node) (e : KeyRow × Nat × Nat) (s : Node) : Node :=
  let key := e.2.1
  let sel := e.2.2
  if e.1.type.isBlob then
    let bs := from_.blob key
    if s.blob key == bs then s
    else
      let r := writeBlob [] key bs s
      if r.2 == some (stOk, []) then r.1 else leaveValue s
  else
    let v := from_.valAt key sel
    if s.valAt key sel = v then s
    else if s.ownState sel key v || s.rangeRefuses e.1 sel key v then leaveValue s
    else if key = 0x2002 ∨ key = 0x2008 then setVal key sel v s
    else applyWord key sel v s

/-- The map that the straps and K:2002 give (R41, R46). -/
def Node.wantedMap (s : Node) : Nat := if s.strapsSelectRow then s.val 0x2002 else s.n.ch.map

/-- Restored direction values go into force through one agreement (R105, R204). -/
def agreeRestored (s : Node) : Node :=
  let upper := s.val 0x2008 == 1
  if s.wantedMap = s.n.ch.map ∧ upper = s.n.ch.upper then s else startAgreement 0x2002 s.wantedMap upper false none s

/-- The F-die acknowledges the apply order (R105): the restored values are applied in ascending key order. A row that may not be
used gives factory values and latches source 6 (R72). -/
def applyRestore (arg : Nat) (s : Node) : Node :=
  let from_ := restored arg s
  let t := modDict (fun d => { d with run := some (.apply arg false) }) s
  let u := agreeRestored (forEach restoreKeys (restoreValue from_) t)
  if arg = 1 then u
  else
    let v := onlyIf (!rowOk .n s.nLedger.row) (detectUnstated .n 6) u
    onlyIf (!rowOk .f s.fLedger.row) (detectUnstated .f 6) v

/-- A part of a new part: the factory row or an empty settings area (R105). -/
def factoryPart (part : Nat) (s : Node) : Node :=
  match part with
  | 0 => { s with nLedger := { s.nLedger with area := {} } }
  | 1 => { s with fLedger := { s.fLedger with area := {} } }
  | 2 => { s with nLedger := { s.nLedger with row := factoryRow } }
  | _ => { s with fLedger := { s.fLedger with row := factoryRow } }

/-- The parts whose flags a completed restore clears (R108). -/
def Node.restoredParts (s : Node) (arg failed : Nat) (reported : Bool) : Nat :=
  let n := if arg = 1 then 5 - Nat.land failed 5 else 1 + 4 * b2n (rowOk .n s.nLedger.row)
  let f := if arg = 1 then 10 - Nat.land failed 10 else 2 + 8 * b2n (rowOk .f s.fLedger.row)
  n + if reported then f else 0

/-- R105: the N-die has completed its apply stage, and the F-die has reported, or the Clasp was lost. -/
def endRestore (failed : Nat) (fReported : Bool) (s : Node) : Node :=
  match s.n.dict.run with
  | some (.apply arg left) =>
    let bad := if arg = 1 then failed else 0
    let reported := fReported && s.trained
    let t := if arg = 1 then failParts bad (forEach (partsIn (15 - bad)) factoryPart s) else s
    let u := clearUnsaved (s.restoredParts arg bad reported) (freeLedgers t)
    let told := if reported then bad else Nat.land bad 5
    finishRun 0xF001 (if told = 0 then stOk else stRange) (leBytes 3 (told + 16 * b2n (!reported) + 32 * b2n left))
      (bump .n blkDict 5 arg u)
  | _ => s

/-! Commands with the N-die as home. -/

/-- Where a command is asked from: its transaction. A command whose outcome comes later answers none. -/
def flushCommand (session tag : Nat) (epoch : Bool) (refusal : Option Nat) (s : Node) : Outcome :=
  match refusal with
  | some st => endsWith st s
  | none => (waitFlush session tag epoch s, none)

/-- K:3049 and K:3059 (R294): an ARMED slot becomes FREE, a running list stops before its next step. -/
def cancelSlot (d : Die) (arg : Nat) (s : Node) : Outcome :=
  if 32 ≤ arg then endsWith stRange s
  else if s.seqTorn d then endsWith stBusy s
  else
    let r : Runner := .slot (Fin.ofNat 32 arg)
    let t := if (s.run d r).isSome then endRun d r true s else s
    endsWith stOk (modSeq d (fun q => { q with slots := tdel q.slots arg }) t)

/-- K:E011 (R536). While the Clasp is down an F slot cannot be reached. -/
def disarmCommand (arg : Nat) (s : Node) : Outcome :=
  match disarmSlots arg with
  | none => endsWith stRange s
  | some l =>
    if (l.any fun i => (s.filSlot i).armed && (s.filSlot i).die == .f) && !s.trained then
      endsWith stRemote (forEach l disarmFil s)
    else endsWith stOk (forEach l disarmFil s)

/-- K:F004 (R242), checked: the crossing it names. -/
def pairResetCheck (arg : Nat) : Option (Die × Nat) := crossingOf arg

/-- A command key whose home is the N-die, on an argument (R7). -/
def commandN (session tag key arg : Nat) (s : Node) : Outcome :=
  match key with
  | 0x0015 => requestState session arg s
  | 0x1008 => endsWith stOk (if 1 ≤ session ∧ session ≤ 6 then modSession session (fun x => { x with releasing := true }) s else s)
  | 0x1105 => endsWith stOk (recoverCan s)
  | 0x2107 => endsWith stOk (if s.n.clasp.half then requestRate .n false s else s)
  | 0x3049 => cancelSlot .n arg s
  | 0x8003 => endsWith stOk (ackSources .n (w24 arg) s)
  | 0x8004 => endsWith stOk (releasePin .n s)
  | 0x800A => endsWith stOk (clearHistory .n s)
  | 0x9010 => (match standbyRefusal s with
      | some st => endsWith st s
      | none => endsWith stOk s)
  | 0xA010 => flushCommand session tag false (flushRefusal s) s
  | 0xA020 => flushCommand session tag true (epochRefusal s) s
  | 0xA022 => checked (deleteEpoch arg s) s
  | 0xE000 => let r := unlockFil arg s; endsWith r.1 r.2
  | 0xE001 => endsWith stOk (lockFil s)
  | 0xE011 => disarmCommand arg s
  | 0xF000 => startSave arg s
  | 0xF001 => startRestore arg s
  | 0xF002 => if 2 < arg then endsWith stRange s else endsWith stOk (modDict (fun d => { d with resetOrder := some arg }) s)
  | 0xF003 => (s, some (stOk, leBytes 3 s.sealWord))
  | 0xF004 => (match pairResetCheck arg with
      | some (d, i) => endsWith stOk (pairReset d i s)
      | none => endsWith stRange s)
  | _ => endsWith stNoKey s

/-! Commands with the F-die as home. -/

/-- K:4007 (R332). -/
def rediscoverCommand (arg : Nat) (s : Node) : Outcome :=
  if 1 < arg then endsWith stRange s
  else if arg = 1 ∧ s.f.dev ≠ .setup then endsWith stState s
  else endsWith stOk (rediscoverNow arg s)

/-- K:4041 (R356). -/
def parkCommand (arg : Nat) (s : Node) : Outcome :=
  match parkRefusal arg s with
  | some st => endsWith st s
  | none => endsWith stOk (startPark arg s)

/-- K:5021 (R422): a train over all positions, its records to the per-position keys. It starts at the follower time `now`. -/
def syncCommand (p : Nat) (now : T48) (s : Node) : Outcome :=
  let st := (s.bead p).state
  if s.beadMode p = 3 ∨ st = .off ∨ st = .powering ∨ st = .faultOff then endsWith stState s
  else if st ≠ .idle ∨ s.torn .f (3 + p) = true then endsWith stBusy s
  else endsWith stOk (startTrain p 1 now s)

/-- K:7140 (R395): it is answered once the erase command has been sent. -/
def eraseCommand (session tag arg : Nat) (waits : Bool) (s : Node) : Outcome :=
  let st := s.eraseCheck arg
  if st = stOk then (startErase arg (if waits then some (session, tag) else none) s, none) else endsWith st s

/-- K:7141 (R396, R398). -/
def sfdpCommand (arg : Nat) (s : Node) : Outcome :=
  if 1 < arg then endsWith stRange s
  else if s.windowHeld arg then endsWith stBusy s
  else endsWith stOk (modFPort (fun x => { x with sfdp := x.sfdp ++ [arg] }) s)

/-- K:7142 (R399). -/
def adoptCommand (arg : Nat) (s : Node) : Outcome :=
  if 1 < arg ∨ s.hasProposal arg = false then endsWith stRange s
  else endsWith stOk (modDict (fun d => { d with unsaved := d.unsaved ||| 2 }) (applyProposal arg s))

/-- A command key whose home is the F-die, on an argument and with captured session values. `waits` says that the N-die still
waits for the answer; `now` is the instant at which a train would start. -/
def commandF (session tag : Nat) (sels : Tab Nat) (key arg : Nat) (waits : Bool) (now : T48) (s : Node) : Outcome :=
  match key with
  | 0x3059 => cancelSlot .f arg s
  | 0x4007 => rediscoverCommand arg s
  | 0x4012 => endsWith stOk (reenableLink (portOf (selOf sels 0x4000)) s)
  | 0x4041 => parkCommand arg s
  | 0x4047 => checked (requestWake arg s) s
  | 0x5021 => syncCommand (selOf sels 0x5000) now s
  | 0x5032 => endsWith stOk (reenableBead (selOf sels 0x5000) s)
  | 0x6017 => checked (releasePair (selOf sels 0x6000) s) s
  | 0x7140 => eraseCommand session tag arg waits s
  | 0x7141 => sfdpCommand arg s
  | 0x7142 => adoptCommand arg s
  | 0x8103 => endsWith stOk (ackSources .f (w24 arg) s)
  | 0x8104 => endsWith stOk (releasePin .f s)
  | 0x810A => endsWith stOk (clearHistory .f s)
  | 0xF004 => (match pairResetCheck arg with
      | some (d, i) => endsWith stOk (pairReset d i s)
      | none => endsWith stRange s)
  | _ => endsWith stNoKey s

end Sys2Proof.Machine
end

