-- ==== Sys2Proof/Machine/Dictionary.lean ====
section
/-! DEFINITION. The dictionary engine: arrival of a request on each path, admission, execution on the key's home die, and the
steps of session 7 (R83 to R107, R121 to R131, R148 to R154, R342). -/

namespace Sys2Proof.Machine

open Sys2Proof

/-! Execution on the home die (R91, checks 6 to 8). -/

/-- A write of a direction key that passes its checks: the agreement starts, and the write waits for it (R204). -/
def directionKey (session tag key v : Nat) (s : Node) : Outcome :=
  if !s.trained then endsWith stRemote s
  else
    let map := if key = 0x2002 then v else s.n.ch.map
    let upper := if key = 0x2008 then v == 1 else s.n.ch.upper
    (startAgreement key map upper false (some (session, tag)) s, none)

/-- The refusal of a word write or a command by a rule that only the home die can check, its device state, its own rules and its
range, in the order of R91. -/
def Node.wordRefusal (s : Node) (t : Txn) (row : KeyRow) (v : Nat) : Option Nat :=
  let sel := selIndex t.sels row.sel
  if s.windowLocked t.key v then some stAccess
  else if stateRefuses (s.devOf row.home) row t.key t.op then some stState
  else if row.access == .cmd then none
  else if s.ownState sel t.key v then some stState
  else if s.rangeRefuses row sel t.key v then some stRange
  else none

/-- Executes a word write or a command (R91). -/
def executeWord (t : Txn) (row : KeyRow) (v : Nat) (waits : Bool) (now : T48) (s : Node) : Outcome :=
  match s.wordRefusal t row v with
  | some st => endsWith st s
  | none =>
    if row.access == .cmd then
      match row.home with
      | .n => commandN t.session t.tag t.key v s
      | .f => commandF t.session t.tag t.sels t.key v waits now s
    else if t.key = 0x2002 ∨ t.key = 0x2008 then directionKey t.session t.tag t.key v s
    else endsWith stOk (markUnsaved t.key (applyWord t.key (selIndex t.sels row.sel) v s))

/-- Executes a whole BLOB write (R91). -/
def executeBlob (t : Txn) (row : KeyRow) (bs : List Byte) (s : Node) : Outcome :=
  if s.windowLocked t.key 0 then endsWith stAccess s
  else if stateRefuses (s.devOf row.home) row t.key t.op then endsWith stState s
  else if t.key = 0xE010 then
    match armFilCheck bs s with
    | .error st => endsWith st s
    | .ok i => (armFil t.session t.tag i bs s, none)
  else
    let r := writeBlob t.sels t.key bs s
    if r.2 == some (stOk, []) then (markUnsaved t.key r.1, r.2) else r

/-- Executes a transaction on its key's home die. `waits` says that the N-die still waits for its outcome; `now` is the instant at
which a bead train would start. -/
def executeKey (t : Txn) (row : KeyRow) (waits : Bool) (now : T48) (s : Node) : Outcome :=
  match t.op with
  | .read => readKeyWord t.session t.sels row t.key s
  | .selectRead _ => readKeyWord t.session t.sels row t.key s
  | .readBlock offset length =>
    if !waits && (t.key == 0x710E || t.key == 0x711E) then endsWith stRemote s
    else readBlockKey t.session t.tag t.sels t.key offset length s
  | .write v => executeWord t row (valNumber v) waits now s
  | .command arg => executeWord t row (arg.getD 0 % 16777216) waits now s
  | .writeBlock seg => executeBlob t row seg.data s

/-- A write or command of a client that executes cancels a pending entry into RUN (R65). -/
def cancelRun (t : Txn) (status : Nat) (s : Node) : Node :=
  if DapOp.changes t.op && decide (t.session ≤ 6) && !refuses status && s.n.runPending then
    modN (fun n => { n with runPending := false, runCancelled := true }) s
  else s

/-- Ends a transaction by the outcome of its execution on the N-die, or leaves it running. A K:9010 that is accepted is answered
before the entry into standby releases every session (R522). -/
def conclude (t : Txn) (r : Outcome) : Node :=
  match r.2 with
  | some (st, data) =>
    let u := finish t.session t.tag st data (cancelRun t st r.1)
    if t.key = 0x9010 ∧ st = stOk ∧ DapOp.changes t.op = true then startStandby 1 u else u
  | none =>
    let u := cancelRun t stOk r.1
    if t.path == .nport && (t.key == 0xF000 || t.key == 0xF001) then
      answerDeferred 0x50 t.tag (respHead t.op stDeferred t.key) u
    else u

/-! Transactions for the F-die (R86, R93). -/

/-- Sends a transaction to the F-die: the N-port host gets DEFERRED (R153), except for keys whose home is the N-die. -/
def toFar (t : Txn) (row : KeyRow) (s : Node) : Node :=
  let u := if t.path == .nport && row.home == .f then answerDeferred 0x50 t.tag (respHead t.op stDeferred t.key) s else s
  sendData .n 0 (.request t.session t.tag)
    (modF (fun f => { f with inbox := f.inbox ++ [(t, true)] })
      (modTxn t.session t.tag (fun x => { x with stage := .toF }) u))

/-- A transaction executes on the F-die: its key lives there, it is a write of K:2004, which both dies apply (R219), or a pair
reset of an F crossing (R242). -/
def crosses (t : Txn) (row : KeyRow) : Bool :=
  row.home == .f || match t.op with
    | .write v => t.key == 0x2004 || (t.key == 0xF004 && (pairResetCheck (valNumber v)).any fun c => c.1 == .f)
    | .command arg => t.key == 0xF004 && (pairResetCheck (arg.getD 0 % 16777216)).any fun c => c.1 == .f
    | _ => false

/-- The checks that the N-die makes on an N key before its transaction crosses (R91). -/
def Node.refusedHere (s : Node) (t : Txn) (row : KeyRow) : Option Nat :=
  if row.home == .f then none
  else match t.op with
    | .write v => s.wordRefusal t row (valNumber v)
    | .command arg => s.wordRefusal t row (arg.getD 0 % 16777216)
    | _ => none

/-- Passes an admitted transaction to its home die (R86). While the Clasp is down a key held on the F-die answers
REMOTE_TIMEOUT at once (R68). -/
def dispatchTxn (t : Txn) (row : KeyRow) (now : T48) (s : Node) : Node :=
  if crosses t row then
    match s.refusedHere t row with
    | some st => finish t.session t.tag st [] s
    | none => if s.trained then toFar t row s else finish t.session t.tag stRemote [] s
  else conclude t (executeKey t row true now s)

/-- The F-die's frame that carries a message still waits on the sending die. -/
def Node.unsent (s : Node) (d : Die) (m : Msg) : Bool :=
  ((s.die d).clasp.waiting ++ (s.die d).clasp.delayed).any fun f => f.msg == m

/-- The F-die executes the first transaction of its inbox and answers it (R86). -/
def executeInbox (now : T48) (s : Node) : Node :=
  match s.f.inbox with
  | [] => s
  | (t, waits) :: rest =>
    let u := modF (fun f => { f with inbox := rest }) s
    match keyRow t.key with
    | none => u
    | some row =>
      let r := executeKey t row waits now u
      if !waits then r.1
      else match r.2 with
        | some (st, data) => if r.1.trained then fAnswer t.session t.tag st data r.1 else r.1
        | none => if r.1.servedByF t.session t.tag then modTxn t.session t.tag (fun x => { x with stage := .atF }) r.1 else r.1

/-- The N-die takes a result from the F-die and ends its transaction (R86). -/
def takeResult (session tag : Nat) (s : Node) : Node :=
  match s.txn session tag with
  | some t => if t.stage == .fromF then finish session tag t.status t.data (cancelRun t t.status s) else s
  | none => s

/-- Runs a transaction that has just been sent to the F-die to its end, where both crossings are whole, the Clasp carries words
and nothing is before it. -/
def runFar (now : T48) (s : Node) : Node :=
  match s.f.inbox with
  | [(t, true)] =>
    if s.linkUp && !s.claspTorn .n && !s.claspTorn .f && s.fUp && !s.unsent .n (.request t.session t.tag) then
      let u := executeInbox now s
      if u.unsent .f (.result t.session t.tag) then u else takeResult t.session t.tag u
    else s
  | _ => s

/-! Admission (R87 to R91). -/

/-- FORCE_BUSY refuses every A-th request of sessions 1 to 6 but those of K:Exxx (R535). -/
def forcedBusy (session key : Nat) (s : Node) : Node × Bool :=
  if 1 ≤ session ∧ session ≤ 6 ∧ key / 4096 ≠ 0xE then
    match s.filFind .n filForceBusy fun t => t == 0 || t == session with
    | some i => filEvery i s
    | none => (s, false)
  else (s, false)

/-- A request of a session is refused with BUSY (R90, R106). In compact mode the CAN peer has one place (R121). -/
def Node.busyFor (s : Node) (session : Nat) (path : Path) (op : DapOp) : Bool :=
  let own := if path == .can && s.val 0x1102 == 1 then 1 else 4
  decide (16 ≤ s.n.dict.txns.length) || decide (own ≤ (s.flightOf session).length)
    || (s.n.dict.run.isSome && DapOp.changes op)

/-- The session of a client, allocated if it has none (R87); none where none is free. -/
def findSession (path : Path) (client : Nat) (s : Node) : Option (Nat × Node) :=
  match s.sessionOf path client with
  | some i => some (i, modSession i (fun x => { x with releasing := false }) s)
  | none =>
    match path, s.freeSession with
    | .nport, _ => none
    | _, some i => some (i, allocSession i path client s)
    | _, none => none

/-- Checks 1 and 2 of R91. A refused request is answered and never in flight; an admitted one is, with the session values captured
(R90, R95). During the entry into standby every request is refused with STATE (R522). -/
def enterFlight (path : Path) (client tag : Nat) (op : DapOp) (key : Nat) (s : Node) : Node × Option Txn :=
  if s.n.pow.entering.isSome then (refuse path client tag op key stState s, none)
  else match findSession path client s with
    | none => (refuse path client tag op key stNoSession (detect .n 15 0 (bump .n blkDict 1 0 s)), none)
    | some (i, s1) =>
      let b := forcedBusy i key s1
      if s1.busyFor i path op || b.2 then (refuse path client tag op key stBusy (bump .n blkDict 2 0 b.1), none)
      else
        let t : Txn := ⟨i, tag, path, client, key, op, b.1.selectsOf i, .running, stOk, [], none⟩
        (modDict (fun d => { d with txns := d.txns ++ [t] }) b.1, some t)

/-! Session values and select reads (R85, R96, R129). -/

/-- A session value takes a value, or refuses it with RANGE (R96). -/
def selectOk (key v : Nat) : Bool :=
  match keyRow key with
  | some row => (sessionValue key).isSome && within row.lo row.hi v
  | none => false

/-- The select keys that SELECT_READ may name (R96). -/
def selectKeys : List Nat := [0x2000, 0x4000, 0x5000, 0x5001, 0x6000, 0x7000]

/-- Serves a read or write of a session value (R85). -/
def serveSession (t : Txn) (row : KeyRow) (s : Node) : Node :=
  match t.op with
  | .write v =>
    if stateRefuses s.n.dev row t.key t.op then finish t.session t.tag stState [] s
    else if selectOk t.key (valNumber v) then
      finish t.session t.tag stOk [] (cancelRun t stOk (setSelect t.session t.key (valNumber v) s))
    else finish t.session t.tag stRange [] s
  | _ => finish t.session t.tag stOk (wordBytes row.type (selOf t.sels t.key)) s

/-- Serves an admitted transaction whose row is known. The selects of SELECT_READ are written where the read is not refused at
once (R129). -/
def serveKey (t : Txn) (row : KeyRow) (now : T48) (s : Node) : Node :=
  let goOn := fun (t : Txn) (s : Node) =>
    if (sessionValue t.key).isSome then serveSession t row s else dispatchTxn t row now s
  match t.op with
  | .selectRead pairs =>
    if !(pairs.all fun p => selectKeys.contains p.1 && selectOk p.1 p.2) then finish t.session t.tag stRange [] s
    else if row.home == .f && !s.trained then finish t.session t.tag stRemote [] s
    else
      let sels := pairs.foldl (fun x p => tset ((sessionValue p.1).getD 0) x p.1 p.2) t.sels
      goOn { t with sels := sels }
        (forEach pairs (fun p s => setSelect t.session p.1 p.2 s) (modTxn t.session t.tag (fun x => { x with sels := sels }) s))
  | _ => goOn t s

/-- Serves an admitted transaction: checks 3 to 5 of R91, and what follows. -/
def beginTxn (t : Txn) (form : Form) (now : T48) (s : Node) : Node :=
  match s.keyCheck t.session t.key t.op form with
  | .error st => finish t.session t.tag st [] s
  | .ok row => serveKey t row now s

/-! Block writes (R93, R127). -/

/-- The last segment has come: the transaction takes its place in the order now and executes (R93). -/
def finishBlock (t : Txn) (bs : List Byte) (now : T48) (s : Node) : Node :=
  let whole : Txn := { t with op := .writeBlock ⟨0, false, bs.length, true, bs⟩, stage := .running }
  let u := modDict (fun d => { d with txns := d.txns.erase t ++ [whole] }) s
  match keyRow t.key with
  | some row => dispatchTxn whole row now u
  | none => finish t.session t.tag stNoKey [] u

/-- A segment of a block write in flight (R127). -/
def takeSegment (t : Txn) (key total next : Nat) (bytes : List Byte) (seg : Segment) (now : T48) (s : Node) : Node :=
  let all := bytes ++ seg.data
  if key ≠ t.key ∨ seg.number ≠ next ∨ (seg.more = true ∧ seg.full = false) ∨ total < all.length then
    finish t.session t.tag stType [] s
  else if seg.more then modTxn t.session t.tag (fun x => { x with stage := .collecting total (next + 1) all }) s
  else if all.length ≠ total then finish t.session t.tag stType [] s
  else finishBlock t all now s

/-- A block write is admitted at its first segment and checked as far as the N-die can (R91, R127). -/
def beginBlock (t : Txn) (form : Form) (seg : Segment) (now : T48) (s : Node) : Node :=
  match s.keyCheck t.session t.key t.op form with
  | .error st => finish t.session t.tag st [] s
  | .ok row =>
    if row.home == .n && stateRefuses s.n.dev row t.key t.op then finish t.session t.tag stState [] s
    else
      let c : Txn := { t with stage := .collecting seg.total 0 [] }
      takeSegment c t.key seg.total 0 [] seg now (modTxn t.session t.tag (fun _ => c) s)

/-- A block write of a client under a tag that still collects segments. -/
def Node.collecting (s : Node) (path : Path) (client tag : Nat) : Option (Txn × Nat × Nat × List Byte) :=
  (s.n.dict.txns.find? fun t => t.path == path && t.client == client && t.tag == tag).bind fun t =>
    match t.stage with
    | .collecting total next bytes => some (t, total, next, bytes)
    | _ => none

/-! The engine. -/

/-- A request that has arrived whole goes through the engine (R91). -/
def engine (path : Path) (client tag : Nat) (form : Form) (key : Nat) (op : DapOp) (now : T48) (s : Node) : Node :=
  match op, s.collecting path client tag with
  | .writeBlock seg, some (t, total, next, bytes) =>
    if form = .shortOperand ∨ form = .badControl then finish t.session t.tag stType [] s
    else takeSegment t key total next bytes seg now s
  | .writeBlock seg, none =>
    (match enterFlight path client tag op key s with
    | (u, none) => u
    | (u, some t) => beginBlock t form seg now u)
  | _, _ =>
    match enterFlight path client tag op key s with
    | (u, none) => u
    | (u, some t) => beginTxn t form now u

/-! The gateway (R148, R342). -/

/-- Select pairs as a request carries them (R126). -/
def pairBytes (p : Nat × Nat) : List Byte := leBytes 2 p.1 ++ leBytes 1 p.2

/-- A value as a request carries it. -/
def valBytes : Val → List Byte
  | .word n => leBytes 3 n
  | .pair n => leBytes 6 n
  | .bytes bs => bs

/-- The segments of a block write that the gateway sends: 58 bytes, then 60 each (R127). -/
def blockSegments (key : Nat) (bs : List Byte) : List (List Byte) :=
  let rest := bs.drop 58
  let count := (rest.length + 59) / 60
  (leBytes 1 4 ++ leBytes 1 (128 * b2n (decide (0 < count))) ++ leBytes 2 key ++ leBytes 2 bs.length ++ bs.take 58)
    :: (pieces 60 count rest).zipIdx.map fun (p, i) =>
      leBytes 1 4 ++ leBytes 1 ((i + 1) % 128 + 128 * b2n (decide (i + 1 < count))) ++ leBytes 2 key ++ p

/-- The data fields of the DAP requests that carry an operation (R125 to R127). -/
def requestFields (op : DapOp) (key : Nat) : List (List Byte) :=
  let head := fun (control : Nat) => leBytes 1 (opcodeOf op) ++ leBytes 1 control ++ leBytes 2 key
  match op with
  | .read => [head 0]
  | .write v => [head 0 ++ valBytes v]
  | .readBlock offset length => [head 0 ++ leBytes 2 offset ++ leBytes 2 length]
  | .writeBlock seg => blockSegments key seg.data
  | .command none => [head 0]
  | .command (some a) => [head 0 ++ leBytes 3 a]
  | .selectRead pairs => [head pairs.length ++ pairs.flatMap pairBytes]

/-- An N-port request for another node (R148, R153, R342): refused with STATE while this node has no number, else sent into the
Chain under a tag of the gateway's count and answered DEFERRED. -/
def gateway (dest tag : Nat) (form : Form) (key : Nat) (op : DapOp) (s : Node) : Node :=
  match enterFlight .nport 0 tag op key s with
  | (u, none) => u
  | (u, some t) =>
    if u.n.number = 0 then finish t.session t.tag stState [] u
    else if form = .shortOperand ∨ form = .badControl then finish t.session t.tag stType [] u
    else
      let g := u.n.can.gatewayTag
      let v := modCan (fun c => { c with gatewayTag := (g + 1) % 128 })
        (modTxn t.session t.tag (fun x => { x with stage := .remote dest g [] }) u)
      answerDeferred 0x50 tag (respHead op stDeferred key) (forEach (requestFields op key) (fun bs => chainFromN dest 21 false g bs) v)

/-! Arrival (R122 to R130, R148, R159). -/

/-- A frame breaks a rule of R130: its form, its source, its destination, or a tag that its session still has in flight. -/
def Node.protocolError (s : Node) (path : Path) (client dest tag : Nat) (form : Form) (op : DapOp) : Bool :=
  let goesOn := match op with
    | .writeBlock seg => seg.number != 0 || (s.collecting path client tag).isSome
    | _ => false
  form == .dlcBelow4 || form == .unknownOpcode || client == 0 || decide (127 ≤ client) || dest == 127 || decide (128 ≤ tag)
    || (!goesOn && match s.sessionOf path client with
      | some i => (s.txn i tag).isSome
      | none => false)

/-- A later segment of a block write that is not open, because its segment 0 was refused or it has ended: a transaction is
admitted at segment 0 only, and a block is answered once (R127), so the segment is discarded. -/
def Node.straySegment (s : Node) (path : Path) (client tag : Nat) (op : DapOp) : Bool :=
  match op with
  | .writeBlock seg => path != .nport && seg.number != 0 && (s.collecting path client tag).isNone
  | _ => false

/-- A class 5 frame on CAN (R121 to R123, R130). In compact mode it comes from the peer, with tag 0. -/
def serveCan (rq : Rq) (key : Nat) (op : DapOp) (now : T48) (s : Node) : Node :=
  if !s.canOn || s.n.number == 0 || !s.canAccepts rq.dest then s
  else
    let compact := s.val 0x1102 == 1
    let client := if compact then s.val 0x1106 else rq.client
    let tag := if compact then 0 else rq.tag
    match rq.form with
    | .queueFull => overflow15 1 s
    | .classical => overflow15 2 s
    | .badCheck => s
    | .badLength => s
    | form =>
      let t := canReceived 5 s
      if t.protocolError .can client rq.dest tag form op then overflow15 3 t
      else if t.straySegment .can client tag op then t
      else engine .can client tag form key op now t

/-- A DAP_REQ from the Chain (R342). -/
def serveChain (rq : Rq) (key : Nat) (op : DapOp) (now : T48) (s : Node) : Node :=
  if !s.hubReceives .n || rq.dest != s.n.number || s.n.number == 0 then s
  else if s.protocolError .chain rq.client rq.dest rq.tag rq.form op then overflow15 3 s
  else if s.straySegment .chain rq.client rq.tag op then s
  else engine .chain rq.client rq.tag rq.form key op now s

/-- A host frame on the N-port (R147 to R159). -/
def servePort (rq : Rq) (key : Nat) (op : DapOp) (now : T48) (s : Node) : Node :=
  if !s.portOn then s
  else
    let t := selectFrame rq.mode3 (opcodeOf op - 1) s
    let code := t.portError rq.form true false rq.tag rq.dest
    if code ≠ 0 then frameError code rq.tag t
    else if rq.dest = 0 ∨ rq.dest = t.n.number then engine .nport 0 rq.tag rq.form key op now t
    else gateway rq.dest rq.tag rq.form key op t

/-- Serves a request on its path. Session 7 sends none of these: its requests are READKEY and WRITEKEY steps. -/
def serve (rq : Rq) (key : Nat) (op : DapOp) (now : T48) (s : Node) : Node :=
  match rq.path with
  | .nport => servePort rq key op now s
  | .can => serveCan rq key op now s
  | .chain => serveChain rq key op now s
  | .internal => s

/-- Serves a request for a named key to its end where nothing holds it on the way to the F-die; `now` is the instant at which a
bead train would start. -/
def serveAt (now : T48) (rq : Rq) (key : Nat) (op : DapOp) (s : Node) : Node :=
  onlyIf s.f.inbox.isEmpty (runFar now) (serve rq key op now s)

/-- The same at the follower time. -/
def serveNow (rq : Rq) (key : Nat) (op : DapOp) (s : Node) : Node := serveAt (s.time .f) rq key op s

/-! Session 7 (R97, R284, R287). -/

/-- The session values that a step carries: the select value of the key's family, and the bead port where the family is the
position (R282). -/
def stepSelects (sel : Sel) (w : Nat) : Tab Nat :=
  let v := bits w 10 6
  match sel with
  | .none => []
  | .chan => tset 0 [] 0x2000 v
  | .link => tset 0 [] 0x4000 v
  | .bead => tset 0 [] 0x5000 v
  | .pos => tset 1 (tset 0 [] 0x5000 (bits w 5 4)) 0x5001 v
  | .pair => tset 0 [] 0x6000 v
  | .target => tset 1 [] 0x7000 v

/-- The select fields of a step name a member of the key's family (R96). -/
def stepSelectOk (sel : Sel) (w : Nat) : Bool :=
  let v := bits w 10 6
  match sel with
  | .none => true
  | .chan => decide (v ≤ 7)
  | .link => decide (v ≤ 2)
  | .bead => decide (v ≤ 3)
  | .pos => within 1 16 v
  | .pair => decide (v ≤ 1)
  | .target => within 1 7 v

/-- The lowest tag that session 7 does not use. -/
def Node.freeTag (s : Node) : Nat := ((List.range 4).find? fun i => (s.txn 7 i).isNone).getD 0

/-- A runner's dictionary step reaches the engine: the N-die is ready, and for a list of the F-die the Clasp is trained. -/
def Node.engineReached (s : Node) (d : Die) : Bool :=
  s.nUp && s.n.pow.entering.isNone && (d == .n || s.trained)

/-- A READKEY or WRITEKEY step (R97, R284, R286, R287): it waits, unissued, while the bounds of R90 are reached; it fails where
the engine refuses it. `w` holds the select fields. -/
def keyStep (d : Die) (r : Runner) (run : Run) (op key w dest late : Nat) (dop : DapOp) (s : Node) : Node :=
  let ref := refOf r run
  let full := decide (16 ≤ s.n.dict.txns.length) || decide (4 ≤ (s.flightOf 7).length)
  if s.engineReached d && full then s
  else
    let t := issueStep d r op late s
    if !s.engineReached d then failStep d ref op t
    else match s.keyCheck 7 key dop .good with
      | .error _ => failStep d ref op t
      | .ok row =>
        if t.n.dict.run.isSome && DapOp.changes dop then failStep d ref op (bump .n blkDict 2 0 t)
        else if (sessionValue key).isSome then
          stepData d ref op dest (some (wordBytes row.type (bits w 10 6))) false (beginStep d ref t)
        else if !stepSelectOk row.sel w then failStep d ref op t
        else
          let x : Txn := ⟨7, t.freeTag, .internal, 0, key, dop, stepSelects row.sel w, .running, stOk, [], some (d, ref, dest)⟩
          dispatchTxn x row (t.time .f) (modDict (fun q => { q with txns := q.txns ++ [x] }) (beginStep d ref t))

end Sys2Proof.Machine
end

