-- ==== Sys2Proof/Machine/Requests.lean ====
section
/-! DEFINITION. The commands that the dictionary serves: generic requests, the later events of a transaction, and the requests
that the command table names by their key. -/

namespace Sys2Proof.Machine

open Sys2Proof

/-! Generic requests (R83 to R96, R126 to R129). -/

/-- R83: a READ of a word key. -/
def doRead (rq : Rq) (key : Nat) (s : Node) : Node := serve rq key .read (s.time .f) s

def execRead (rq : Rq) (key : Nat) (s : State) : Host.Outcome State Fault Refusal := s.run (doRead rq key)

/-- R91: a WRITE of a word key, or of a command key, which invokes it (R7). -/
def doWrite (rq : Rq) (key : Nat) (v : Val) (s : Node) : Node := serve rq key (.write v) (s.time .f) s

def execWrite (rq : Rq) (key : Nat) (v : Val) (s : State) : Host.Outcome State Fault Refusal := s.run (doWrite rq key v)

/-- R126, R128: a READ_BLOCK. -/
def doReadBlock (rq : Rq) (key offset length : Nat) (s : Node) : Node := serve rq key (.readBlock offset length) (s.time .f) s

def execReadBlock (rq : Rq) (key offset length : Nat) (s : State) : Host.Outcome State Fault Refusal :=
  s.run (doReadBlock rq key offset length)

/-- R127: one segment of a WRITE_BLOCK. -/
def doWriteBlock (rq : Rq) (key : Nat) (seg : Segment) (s : Node) : Node := serve rq key (.writeBlock seg) (s.time .f) s

def execWriteBlock (rq : Rq) (key : Nat) (seg : Segment) (s : State) : Host.Outcome State Fault Refusal :=
  s.run (doWriteBlock rq key seg)

/-- R129: a SELECT_READ. -/
def doSelectRead (rq : Rq) (pairs : List (Nat × Nat)) (key : Nat) (s : Node) : Node :=
  serve rq key (.selectRead pairs) (s.time .f) s

def execSelectRead (rq : Rq) (pairs : List (Nat × Nat)) (key : Nat) (s : State) : Host.Outcome State Fault Refusal :=
  s.run (doSelectRead rq pairs key)

/-! Later events of a transaction. -/

/-- R127: 100 ms without the next segment. -/
def doBlockWriteTimeout (session tag : Nat) (s : Node) : Node :=
  match s.txn session tag with
  | some t =>
    (match t.stage with
    | .collecting .. => if s.nUp then finish session tag stType [] s else s
    | _ => s)
  | none => s

def execBlockWriteTimeout (session tag : Nat) (s : State) : Host.Outcome State Fault Refusal := s.run (doBlockWriteTimeout session tag)

/-- R87, R89: 2 s without a request and without a transaction in flight. -/
def doSessionIdleRelease (session : Nat) (s : Node) : Node :=
  if s.nUp && within 1 6 session && (s.flightOf session).isEmpty then dropSession session s else s

def execSessionIdleRelease (session : Nat) (s : State) : Host.Outcome State Fault Refusal := s.run (doSessionIdleRelease session)

/-- A window read has returned its first part, the result that R86 waits for (R392). -/
def Node.partReturned (s : Node) (session tag : Nat) : Bool :=
  let mine := fun (w : FWork) => match w with
    | .windowRead a b _ _ _ sofar => a == session && b == tag && sofar != []
    | _ => false
  s.f.fport.queue.any mine || s.f.fport.current.any fun c => mine c.work

/-- R86: no result within 1 ms of sending, or no answer of another node within K:1004. -/
def doRemoteAnswerTimeout (session tag : Nat) (s : Node) : Node :=
  match s.txn session tag with
  | some t =>
    let remote := match t.stage with
      | .remote .. => true
      | _ => false
    if s.nUp && (t.stage.atFar || remote) && !s.partReturned session tag then finish session tag stRemote [] s else s
  | none => s

def execRemoteAnswerTimeout (session tag : Nat) (s : State) : Host.Outcome State Fault Refusal :=
  s.run (doRemoteAnswerTimeout session tag)

/-- R86, R93: the F-die executes the transaction that is next in order. -/
def doFKeyTransaction (session tag : Nat) (s : Node) : Node :=
  match s.f.inbox with
  | (t, _) :: _ =>
    if s.hubReceives .f && t.session == session && t.tag == tag && !s.unsent .n (.request session tag) then
      executeInbox (s.time .f) s
    else s
  | [] => s

def execFKeyTransaction (session tag : Nat) (s : State) : Host.Outcome State Fault Refusal := s.run (doFKeyTransaction session tag)

/-- R86: the N-die receives the result. -/
def doFKeyResult (session tag : Nat) (s : Node) : Node :=
  if s.hubReceives .n && !s.unsent .f (.result session tag) then takeResult session tag s else s

def execFKeyResult (session tag : Nat) (s : State) : Host.Outcome State Fault Refusal := s.run (doFKeyResult session tag)

/-! Device state (R98, R295). -/

/-- R98: K:0015. -/
def doStateRequest (rq : Rq) (arg : Option Nat) (s : Node) : Node := serveNow rq 0x0015 (.command arg) s

def execStateRequest (rq : Rq) (arg : Option Nat) (s : State) : Host.Outcome State Fault Refusal := s.run (doStateRequest rq arg)

/-- R295: the F-die receives a change of the device state. A standby notice that it has taken stands. -/
def doDeviceStateFrame (st : DevState) (s : Node) : Node := if s.hubReceives .f then setDevF st s else s

def execDeviceStateFrame (st : DevState) (s : State) : Host.Outcome State Fault Refusal := s.run (doDeviceStateFrame st)

/-- R89: K:1008. -/
def doReleaseOwnSession (rq : Rq) (s : Node) : Node := serveNow rq 0x1008 (.command none) s

def execReleaseOwnSession (rq : Rq) (s : State) : Host.Outcome State Fault Refusal := s.run (doReleaseOwnSession rq)

/-! Save and restore (R103 to R106). -/

/-- R103: K:F000. -/
def doSave (rq : Rq) (arg : Option Nat) (s : Node) : Node := serveNow rq 0xF000 (.command arg) s

def execSave (rq : Rq) (arg : Option Nat) (s : State) : Host.Outcome State Fault Refusal := s.run (doSave rq arg)

/-- R104: every named part has committed or failed. -/
def doSaveComplete (failed : BitVec 4) (s : Node) : Node := if s.nUp then endSave failed.toNat s else s

def execSaveComplete (failed : BitVec 4) (s : State) : Host.Outcome State Fault Refusal := s.run (doSaveComplete failed)

/-- R105: K:F001. -/
def doRestore (rq : Rq) (arg : Option Nat) (s : Node) : Node := serveNow rq 0xF001 (.command arg) s

def execRestore (rq : Rq) (arg : Option Nat) (s : State) : Host.Outcome State Fault Refusal := s.run (doRestore rq arg)

/-- R105: the F-die acknowledges the apply order. -/
def doRestoreApplyAck (s : Node) : Node :=
  match s.n.dict.run with
  | some (.gather arg) => if s.hubReceives .n then applyRestore arg s else s
  | _ => s

def execRestoreApplyAck (s : State) : Host.Outcome State Fault Refusal := s.run doRestoreApplyAck

/-- R105: the apply stage is complete. -/
def doRestoreComplete (failed : BitVec 4) (fReported : Bool) (s : Node) : Node :=
  if s.nUp then endRestore failed.toNat fReported s else s

def execRestoreComplete (failed : BitVec 4) (fReported : Bool) (s : State) : Host.Outcome State Fault Refusal :=
  s.run (doRestoreComplete failed fReported)

/-! Resets. -/

/-- R107: K:F002. -/
def doDieReset (rq : Rq) (arg : Option Nat) (s : Node) : Node := serveNow rq 0xF002 (.command arg) s

def execDieReset (rq : Rq) (arg : Option Nat) (s : State) : Host.Outcome State Fault Refusal := s.run (doDieReset rq arg)

/-- R107: the response has left flight and the reset begins; for argument 2 the F-die goes first. -/
def doDieResetBegin (s : Node) : Node :=
  match s.n.dict.resetOrder with
  | none => s
  | some arg =>
    if s.nUp && s.n.dict.resetDue then
      let t := modDict (fun d => { d with resetOrder := none, resetDue := false }) s
      let u := if arg = 0 then t else restartF .starting 2 t
      if arg = 1 then u else restartN .starting 3 u
    else s

def execDieResetBegin (s : State) : Host.Outcome State Fault Refusal := s.run doDieResetBegin

/-- R110: K:F003. -/
def doSealQuery (rq : Rq) (s : Node) : Node := serveNow rq 0xF003 (.command none) s

def execSealQuery (rq : Rq) (s : State) : Host.Outcome State Fault Refusal := s.run (doSealQuery rq)

/-- R241, R242: K:F004. -/
def doPairReset (rq : Rq) (arg : Option Nat) (s : Node) : Node := serveNow rq 0xF004 (.command arg) s

def execPairReset (rq : Rq) (arg : Option Nat) (s : State) : Host.Outcome State Fault Refusal := s.run (doPairReset rq arg)

/-! CAN and N-port keys. -/

/-- R135: K:1105. -/
def doRecoverNow (rq : Rq) (s : Node) : Node := serveNow rq 0x1105 (.command none) s

def execRecoverNow (rq : Rq) (s : State) : Host.Outcome State Fault Refusal := s.run (doRecoverNow rq)

/-- R118, R119: K:1100 or K:1101. -/
def doRateWrite (rq : Rq) (data : Bool) (v : Val) (s : Node) : Node := serveNow rq (if data then 0x1101 else 0x1100) (.write v) s

def execRateWrite (rq : Rq) (data : Bool) (v : Val) (s : State) : Host.Outcome State Fault Refusal := s.run (doRateWrite rq data v)

/-- R143: a read of K:1110. -/
def doCanStatusRead (rq : Rq) (s : Node) : Node := serveNow rq 0x1110 .read s

def execCanStatusRead (rq : Rq) (s : State) : Host.Outcome State Fault Refusal := s.run (doCanStatusRead rq)

/-- R146: K:1200. -/
def doNportModeWrite (rq : Rq) (v : Val) (s : Node) : Node := serveNow rq 0x1200 (.write v) s

def execNportModeWrite (rq : Rq) (v : Val) (s : State) : Host.Outcome State Fault Refusal := s.run (doNportModeWrite rq v)

/-! Clasp and direct-channel keys. -/

/-- R196: K:2107. -/
def doFullRateRequest (rq : Rq) (s : Node) : Node := serveNow rq 0x2107 (.command none) s

def execFullRateRequest (rq : Rq) (s : State) : Host.Outcome State Fault Refusal := s.run (doFullRateRequest rq)

/-- R204: K:2002, or K:2008 for the upper group. -/
def doDirectionWrite (rq : Rq) (upper : Bool) (v : Val) (s : Node) : Node :=
  serveNow rq (if upper then 0x2008 else 0x2002) (.write v) s

def execDirectionWrite (rq : Rq) (upper : Bool) (v : Val) (s : State) : Host.Outcome State Fault Refusal :=
  s.run (doDirectionWrite rq upper v)

/-- R219: K:2004. -/
def doFailsafeTimeoutWrite (rq : Rq) (v : Val) (s : Node) : Node := serveNow rq 0x2004 (.write v) s

def execFailsafeTimeoutWrite (rq : Rq) (v : Val) (s : State) : Host.Outcome State Fault Refusal := s.run (doFailsafeTimeoutWrite rq v)

/-! Time keys. -/

/-- R268: K:300B. -/
def doManualTime (rq : Rq) (v : Val) (s : Node) : Node := serveNow rq 0x300B (.write v) s

def execManualTime (rq : Rq) (v : Val) (s : State) : Host.Outcome State Fault Refusal := s.run (doManualTime rq v)

/-- R268: K:300C. -/
def doManualEra (rq : Rq) (v : Val) (s : Node) : Node := serveNow rq 0x300C (.write v) s

def execManualEra (rq : Rq) (v : Val) (s : State) : Host.Outcome State Fault Refusal := s.run (doManualEra rq v)

/-! Action keys. -/

/-- A whole BLOB as one segment. -/
def wholeBlob (bs : List Byte) : DapOp := .writeBlock ⟨0, false, bs.length, true, bs⟩

/-- R278, R280: a write of a list key with its last byte. -/
def doListWrite (rq : Rq) (key : Nat) (bytes : List Byte) (s : Node) : Node :=
  if inRun 0x3200 128 key then serveNow rq key (wholeBlob bytes) s else s

def execListWrite (rq : Rq) (key : Nat) (bytes : List Byte) (s : State) : Host.Outcome State Fault Refusal :=
  s.run (doListWrite rq key bytes)

/-- R290, R291: K:3048 or K:3058. -/
def doArmWrite (rq : Rq) (d : Die) (bytes : List Byte) (s : Node) : Node :=
  serveNow rq (match d with
    | .n => 0x3048
    | .f => 0x3058) (wholeBlob bytes) s

def execArmWrite (rq : Rq) (d : Die) (bytes : List Byte) (s : State) : Host.Outcome State Fault Refusal :=
  s.run (doArmWrite rq d bytes)

/-- R294: K:3049 or K:3059. -/
def doSlotCancel (rq : Rq) (d : Die) (arg : Option Nat) (s : Node) : Node :=
  serveNow rq (match d with
    | .n => 0x3049
    | .f => 0x3059) (.command arg) s

def execSlotCancel (rq : Rq) (d : Die) (arg : Option Nat) (s : State) : Host.Outcome State Fault Refusal :=
  s.run (doSlotCancel rq d arg)

/-- R288: K:3044 or K:3054. -/
def doTimedInputWrite (rq : Rq) (d : Die) (v : Val) (s : Node) : Node :=
  serveNow rq (match d with
    | .n => 0x3044
    | .f => 0x3054) (.write v) s

def execTimedInputWrite (rq : Rq) (d : Die) (v : Val) (s : State) : Host.Outcome State Fault Refusal :=
  s.run (doTimedInputWrite rq d v)

/-- R97: a READKEY step. -/
def doReadkey (d : Die) (r : Runner) (late : Nat) (s : Node) : Node :=
  match s.stepNow d r 0x13 with
  | none => s
  | some (run, w, dest, _) => keyStep d r run 0x13 (bits w 15 0) dest dest late .read s

def execReadkey (d : Die) (r : Runner) (late : Nat) (s : State) : Host.Outcome State Fault Refusal := s.run (doReadkey d r late)

/-- R97: a WRITEKEY step. -/
def doWritekey (d : Die) (r : Runner) (late : Nat) (s : Node) : Node :=
  match s.stepNow d r 0x14 with
  | none => s
  | some (run, w, value, selects) => keyStep d r run 0x14 (bits w 15 0) selects 0 late (.write (.word value)) s

def execWritekey (d : Die) (r : Runner) (late : Nat) (s : State) : Host.Outcome State Fault Refusal := s.run (doWritekey d r late)

/-- R304: a read of a result object. -/
def doResultRead (rq : Rq) (d : Die) (object : Fin 8) (offset length : Nat) (s : Node) : Node :=
  serveNow rq (0x3C00 + 16 * dieCode d + object.val) (.readBlock offset length) s

def execResultRead (rq : Rq) (d : Die) (object : Fin 8) (offset length : Nat) (s : State) : Host.Outcome State Fault Refusal :=
  s.run (doResultRead rq d object offset length)

/-- R306: a read of a launch record stream. -/
def doLaunchRecordRead (rq : Rq) (d : Die) (offset length : Nat) (s : Node) : Node :=
  serveNow rq (0x3D00 + 16 * dieCode d) (.readBlock offset length) s

def execLaunchRecordRead (rq : Rq) (d : Die) (offset length : Nat) (s : State) : Host.Outcome State Fault Refusal :=
  s.run (doLaunchRecordRead rq d offset length)

/-! Chain keys and the gateway. -/

/-- R350: K:4012. -/
def doPortReenable (rq : Rq) (s : Node) : Node := serveNow rq 0x4012 (.command none) s

def execPortReenable (rq : Rq) (s : State) : Host.Outcome State Fault Refusal := s.run (doPortReenable rq)

/-- R332: K:4007. -/
def doRediscover (rq : Rq) (arg : Option Nat) (s : Node) : Node := serveNow rq 0x4007 (.command arg) s

def execRediscover (rq : Rq) (arg : Option Nat) (s : State) : Host.Outcome State Fault Refusal := s.run (doRediscover rq arg)

/-- R342: a DAP_REQ arrives from the Chain and is served as path 2. -/
def doDapReq (rq : Rq) (key : Nat) (op : DapOp) (s : Node) : Node := serve { rq with path := .chain } key op (s.time .f) s

def execDapReq (rq : Rq) (key : Nat) (op : DapOp) (s : State) : Host.Outcome State Fault Refusal := s.run (doDapReq rq key op)

/-- What a DAP_RESP adds to a gateway transaction: the bytes gathered so far, and whether more segments follow (R128). -/
def respPart (op : DapOp) (bs sofar : List Byte) : List Byte × Bool :=
  match op with
  | .readBlock .. =>
    let control := fromLe (slice bs 4 1)
    let data := if control % 128 = 0 ∧ sofar = [] then bs.drop 7 else bs.drop 5
    (sofar ++ data, bit control 7)
  | _ => (bs.drop 4, false)

/-- R342: a DAP_RESP arrives for a gateway transaction; its last segment ends it. -/
def doDapResp (src tag : Nat) (bytes : List Byte) (s : Node) : Node :=
  let mine := fun (t : Txn) => match t.stage with
    | .remote node g _ => node == src && g == tag
    | _ => false
  match s.n.dict.txns.find? mine with
  | none => s
  | some t =>
    if !s.hubReceives .n then s
    else
      let status := fromLe (slice bytes 1 1)
      let sofar := match t.stage with
        | .remote _ _ b => b
        | _ => []
      if refuses status then finish t.session t.tag status (bytes.drop 4) s
      else
        let p := respPart t.op bytes sofar
        if p.2 then modTxn t.session t.tag (fun x => { x with stage := .remote src tag p.1 }) s
        else finish t.session t.tag status p.1 s

def execDapResp (src tag : Nat) (bytes : List Byte) (s : State) : Host.Outcome State Fault Refusal := s.run (doDapResp src tag bytes)

/-- R356: K:4041. -/
def doPark (rq : Rq) (arg : Option Nat) (s : Node) : Node := serveNow rq 0x4041 (.command arg) s

def execPark (rq : Rq) (arg : Option Nat) (s : State) : Host.Outcome State Fault Refusal := s.run (doPark rq arg)

/-- R371: K:4047. -/
def doWakeRequestCmd (rq : Rq) (arg : Option Nat) (s : Node) : Node := serveNow rq 0x4047 (.command arg) s

def execWakeRequestCmd (rq : Rq) (arg : Option Nat) (s : State) : Host.Outcome State Fault Refusal := s.run (doWakeRequestCmd rq arg)

/-! F-port keys. -/

/-- R391, R392: a read of window data. -/
def doWindowRead (rq : Rq) (window : Fin 2) (offset length : Nat) (s : Node) : Node :=
  serveNow rq (windowKey window.val 0x710E) (.readBlock offset length) s

def execWindowRead (rq : Rq) (window : Fin 2) (offset length : Nat) (s : State) : Host.Outcome State Fault Refusal :=
  s.run (doWindowRead rq window offset length)

/-- R393: a write of window data starts a program job. -/
def doProgramJob (rq : Rq) (window : Fin 2) (bytes : List Byte) (s : Node) : Node :=
  serveNow rq (windowKey window.val 0x710E) (wholeBlob bytes) s

def execProgramJob (rq : Rq) (window : Fin 2) (bytes : List Byte) (s : State) : Host.Outcome State Fault Refusal :=
  s.run (doProgramJob rq window bytes)

/-- R395: K:7140. -/
def doErase (rq : Rq) (arg : Option Nat) (s : Node) : Node := serveNow rq 0x7140 (.command arg) s

def execErase (rq : Rq) (arg : Option Nat) (s : State) : Host.Outcome State Fault Refusal := s.run (doErase rq arg)

/-- R398: K:7141. -/
def doSfdpQuery (rq : Rq) (arg : Option Nat) (s : Node) : Node := serveNow rq 0x7141 (.command arg) s

def execSfdpQuery (rq : Rq) (arg : Option Nat) (s : State) : Host.Outcome State Fault Refusal := s.run (doSfdpQuery rq arg)

/-- R399: K:7142. -/
def doAdoptProposal (rq : Rq) (arg : Option Nat) (s : Node) : Node := serveNow rq 0x7142 (.command arg) s

def execAdoptProposal (rq : Rq) (arg : Option Nat) (s : State) : Host.Outcome State Fault Refusal := s.run (doAdoptProposal rq arg)

/-! Bead and SAFE keys. -/

/-- R422: K:5021; the train's sync edge is at `start` where the F-die takes the command at once. -/
def doSyncNow (rq : Rq) (start : T48) (s : Node) : Node := serveAt start rq 0x5021 (.command none) s

def execSyncNow (rq : Rq) (start : T48) (s : State) : Host.Outcome State Fault Refusal := s.run (doSyncNow rq start)

/-- R432: K:5032. -/
def doBeadPortReenable (rq : Rq) (s : Node) : Node := serveNow rq 0x5032 (.command none) s

def execBeadPortReenable (rq : Rq) (s : State) : Host.Outcome State Fault Refusal := s.run (doBeadPortReenable rq)

/-- R410: K:5010, K:5011 or K:5012. -/
def doBeadModeWrite (rq : Rq) (key : Nat) (v : Val) (s : Node) : Node :=
  if inRun 0x5010 3 key then serveNow rq key (.write v) s else s

def execBeadModeWrite (rq : Rq) (key : Nat) (v : Val) (s : State) : Host.Outcome State Fault Refusal :=
  s.run (doBeadModeWrite rq key v)

/-- R447: K:6017. -/
def doReleaseForce (rq : Rq) (s : Node) : Node := serveNow rq 0x6017 (.command none) s

def execReleaseForce (rq : Rq) (s : State) : Host.Outcome State Fault Refusal := s.run (doReleaseForce rq)

/-- R449: K:6010 to K:6015. -/
def doSafeSettingWrite (rq : Rq) (key : Nat) (v : Val) (s : Node) : Node :=
  if inRun 0x6010 6 key then serveNow rq key (.write v) s else s

def execSafeSettingWrite (rq : Rq) (key : Nat) (v : Val) (s : State) : Host.Outcome State Fault Refusal :=
  s.run (doSafeSettingWrite rq key v)

/-! Fault keys. -/

/-- A fault key of a die: the F-die's lie 0x100 above the N-die's (R481). -/
def faultKey (d : Die) (key : Nat) : Nat := key + 256 * dieCode d

/-- R474: K:8002 or K:8102. -/
def doStatusClear (rq : Rq) (d : Die) (v : Val) (s : Node) : Node := serveNow rq (faultKey d 0x8002) (.write v) s

def execStatusClear (rq : Rq) (d : Die) (v : Val) (s : State) : Host.Outcome State Fault Refusal := s.run (doStatusClear rq d v)

/-- R475: K:8003 or K:8103. -/
def doAcknowledge (rq : Rq) (d : Die) (arg : Option Nat) (s : Node) : Node := serveNow rq (faultKey d 0x8003) (.command arg) s

def execAcknowledge (rq : Rq) (d : Die) (arg : Option Nat) (s : State) : Host.Outcome State Fault Refusal :=
  s.run (doAcknowledge rq d arg)

/-- R467: K:8004 or K:8104. -/
def doErrPinRelease (rq : Rq) (d : Die) (s : Node) : Node := serveNow rq (faultKey d 0x8004) (.command none) s

def execErrPinRelease (rq : Rq) (d : Die) (s : State) : Host.Outcome State Fault Refusal := s.run (doErrPinRelease rq d)

/-- R473: K:800A or K:810A. -/
def doHistoryClear (rq : Rq) (d : Die) (s : Node) : Node := serveNow rq (faultKey d 0x800A) (.command none) s

def execHistoryClear (rq : Rq) (d : Die) (s : State) : Host.Outcome State Fault Refusal := s.run (doHistoryClear rq d)

/-- R476: a read of K:8000 or K:8100. -/
def doFaultStatusRead (rq : Rq) (d : Die) (s : Node) : Node := serveNow rq (faultKey d 0x8000) .read s

def execFaultStatusRead (rq : Rq) (d : Die) (s : State) : Host.Outcome State Fault Refusal := s.run (doFaultStatusRead rq d)

/-! Loupe, standby and Filigree keys. -/

/-- R512: K:A010. -/
def doFlushNow (rq : Rq) (s : Node) : Node := serveNow rq 0xA010 (.command none) s

def execFlushNow (rq : Rq) (s : State) : Host.Outcome State Fault Refusal := s.run (doFlushNow rq)

/-- R503: K:A020. -/
def doStartEpoch (rq : Rq) (s : Node) : Node := serveNow rq 0xA020 (.command none) s

def execStartEpoch (rq : Rq) (s : State) : Host.Outcome State Fault Refusal := s.run (doStartEpoch rq)

/-- R503: K:A022. -/
def doDeleteEpoch (rq : Rq) (arg : Option Nat) (s : Node) : Node := serveNow rq 0xA022 (.command arg) s

def execDeleteEpoch (rq : Rq) (arg : Option Nat) (s : State) : Host.Outcome State Fault Refusal := s.run (doDeleteEpoch rq arg)

/-- R521: K:9010. -/
def doStandby (rq : Rq) (s : Node) : Node := serveNow rq 0x9010 (.command none) s

def execStandby (rq : Rq) (s : State) : Host.Outcome State Fault Refusal := s.run (doStandby rq)

/-- R533: K:E000. -/
def doFiligreeUnlock (rq : Rq) (arg : Option Nat) (s : Node) : Node := serveNow rq 0xE000 (.command arg) s

def execFiligreeUnlock (rq : Rq) (arg : Option Nat) (s : State) : Host.Outcome State Fault Refusal := s.run (doFiligreeUnlock rq arg)

/-- R533: K:E001. -/
def doFiligreeLock (rq : Rq) (s : Node) : Node := serveNow rq 0xE001 (.command none) s

def execFiligreeLock (rq : Rq) (s : State) : Host.Outcome State Fault Refusal := s.run (doFiligreeLock rq)

/-- R534: K:E010. -/
def doFiligreeArm (rq : Rq) (bytes : List Byte) (s : Node) : Node := serveNow rq 0xE010 (wholeBlob bytes) s

def execFiligreeArm (rq : Rq) (bytes : List Byte) (s : State) : Host.Outcome State Fault Refusal := s.run (doFiligreeArm rq bytes)

/-- R536: K:E011. -/
def doFiligreeDisarm (rq : Rq) (arg : Option Nat) (s : Node) : Node := serveNow rq 0xE011 (.command arg) s

def execFiligreeDisarm (rq : Rq) (arg : Option Nat) (s : State) : Host.Outcome State Fault Refusal := s.run (doFiligreeDisarm rq arg)

end Sys2Proof.Machine
end

