-- ==== Sys2Proof/Machine/Messages.lean ====
section
/-! DEFINITION. DATA frames: how a receiver accepts or discards them, and what it does with contents that have no row of their
own (R183, R184, R17). -/

namespace Sys2Proof.Machine

open Sys2Proof

/-! Contents. -/

/-- A frame holds the last part of a response (R125, R128): another segment of a block read would follow while bit 7 of its
segment byte is set. -/
def lastPart (f : ChainFrame) : Bool := !(bits (f.words.getD 0 0) 7 0 == 3 && bit (f.words.getD 1 0) 15)

/-- A Chain frame from the N-die is sent into the Chain (R334, R342): the node's own takes its sequence, and one that came on
CAN keeps its words. The transaction that a DAP_RESP answers leaves flight. -/
def chainFromHub (f : ChainFrame) (s : Node) : Node :=
  if f.src = s.n.number then
    let t := originate f s
    match t.n.dict.txns.find? fun t => t.path == .chain && t.client == f.dst && t.tag == f.typeField && t.stage == .done with
    | some x => if f.type = 22 ∧ lastPart f = true then leaveFlight x.session x.tag t else t
    | none => t
  else sendOn originOn none f (onlyIf (s.isFor f) (deliverToN f) s)

/-- The three bytes of each word of a Chain frame, from W0 to its last payload word (R140, R316). -/
def tunnelBytes (f : ChainFrame) : List (List Byte) :=
  let w0 := f.dst % 128 * 131072 + f.src % 128 * 1024 + f.type % 32 * 32 + f.hop % 32
  let w1 := f.words.length % 64 * 262144 + f.seq % 256 * 1024 + 512 * b2n f.urgent + f.typeField % 128 * 4 + f.pad % 4
  (w0 :: w1 :: f.words).map (leBytes 3)

/-- A Chain frame leaves the Chain on CAN as one class 6 frame, or as two where it has more than 21 words (R140). In compact mode
it is discarded and counted (R121). -/
def tunnelOut (f : ChainFrame) (s : Node) : Node :=
  let ws := tunnelBytes f
  let frame := fun (service : Nat) (part : List (List Byte)) => (⟨6, f.dst, service, f.seq % 128, none, false, part.flatten⟩ : TxFrame)
  let fs := if ws.length ≤ 21 then [frame 0 ws] else [frame 1 (ws.take 21), frame 2 (ws.drop 21)]
  if s.val 0x1102 == 1 then txDiscard 6 2 fs.length s else pushTx fs s

/-- A Chain frame from the F-die (R335): one for this node awaits its own row, another leaves on CAN. -/
def chainFromField (f : ChainFrame) (s : Node) : Node :=
  if f.dst = s.n.number ∨ f.dst = 127 ∨ f.dst = 0 then s else tunnelOut f s

/-- An F slot's arm reaches the F-die: it holds the slot, and reports it (R534, R537). -/
def slotArrives (i : Nat) (s : Node) : Node :=
  let x := s.filSlot i
  if x.die == .f && x.armed && !x.onDie then sendData .f 3 (.filigree i) (holdFil i s) else s

/-- What the destination does with the content of a frame accepted by a die, where no row of its own does it. -/
def takeMessage (d : Die) (m : Msg) (s : Node) : Node :=
  match m with
  | .chain f =>
    match d with
    | .n => chainFromField f s
    | .f => chainFromHub f s
  | .tunnel tag =>
    if s.n.port.tunnels.any fun k => k.tag == tag then modFPort (fun x => { x with tunnels := x.tunnels ++ [.tunnel tag] }) s
    else s
  | .published o image => publishCan 1 o image s
  | .step => modFol (fun x => { x with step := s.n.hm.step }) s
  | .filigree i =>
    match d with
    | .n => s
    | .f => slotArrives i s
  | .request .. => s
  | .result .. => s
  | .tunnelResult _ => s
  | .devState _ => s
  | .faultEntry .. => s
  | .trap _ => s
  | .timeSample => s
  | .standby => s
  | .loupeImage => s

/-! Acceptance (R184). -/

/-- The credit of a frame is owed to its sender; under CREDIT_HOLD it is held back first (R535). -/
def oweCredit (d : Die) (s : Node) : Node :=
  match s.filFind d filCreditHold fun _ => true with
  | some i => filEffect i (modClasp d (fun x => { x with heldCredits := x.heldCredits + 1 }) s)
  | none => modClasp d (fun x => { x with owed := x.owed + 1 }) s

/-- A frame in order and whole: it is accepted, its credit is owed once its destination has taken it, and its content goes
there. A torn crossing lets no content pass (R240). -/
def acceptFrame (d : Die) (seq : Nat) (s : Node) : Node :=
  let t := modClasp d (fun x =>
    { x with rxSeq := (seq + 1) % 256, ackOwed := true, discarding := false, nakOwed := false, nakRun := 0 }) s
  match (s.die (otherDie d)).clasp.unacked.find? fun f => f.seq == seq with
  | some f => if s.claspTorn d then t else takeMessage d f.msg (oweCredit d t)
  | none => t

/-- A frame that is not accepted: it is discarded and its credit returned. The first of a run, and the expected frame when it
is damaged again, is answered with a NAK. -/
def discardData (d : Die) (seq : Nat) (s : Node) : Node :=
  let c := (s.die d).clasp
  oweCredit d (modClasp d (fun x =>
    { x with discarding := true, nakOwed := x.nakOwed || !c.discarding || seq == c.rxSeq }) s)

/-- R184: a die receives a DATA frame. `intact` is false for a CRC mismatch or an uncorrectable word; CLASP_ERR perturbs it
besides (R535). A reserved stream or a sequence gap discards it too. -/
def doDataFrame (d : Die) (stream seq : Nat) (intact : Bool) (s : Node) : Node :=
  if s.receives d then
    let r := perturbed d 3 s
    let t := countWord d r.2 r.1
    let whole := intact && r.2 != .uncorrectable && decide (stream ≤ 5) && seq == (t.die d).clasp.rxSeq
    if whole then acceptFrame d seq t else discardData d seq t
  else s

def execDataFrame (d : Die) (stream seq : Nat) (intact : Bool) (s : State) : Host.Outcome State Fault Refusal :=
  s.run (doDataFrame d stream seq intact)

end Sys2Proof.Machine
end

