-- ==== Sys2Proof/Machine/Startup.lean ====
section
/-! DEFINITION. From power to READY: supplies and N_RST#, the readiness of each die, Clasp training and what it brings, the
partner wait, and the pending entry into RUN (R55 to R82). -/

namespace Sys2Proof.Machine

open Sys2Proof

/-! Supplies and N_RST# (R35, R55, R56, R70). -/

/-- A power-on of a die's supply clears its retention register (R478). -/
def clearRetention (d : Die) : Node → Node := modDie d fun x => { x with ret := {} }

/-- The N-die starts with a cause of R78, or is held while N_RST# is low (R35). -/
def startN (cause : Nat) (s : Node) : Node := restartN (if s.n.pow.rstLow then .held else .starting) cause s

/-- R55, R70: N_VBAT becomes valid: a recovery from undervoltage (cause 2), else a power-on (cause 0), which the wake island
does not survive. -/
def doNVbatValid (s : Node) : Node :=
  if s.n.undervoltage then startN 2 s
  else startN 0 (modPow (fun p => { rstLow := p.rstLow }) (clearRetention .n s))

def execNVbatValid (s : State) : Host.Outcome State Fault Refusal := s.run doNVbatValid

/-- R56, R70: VDDF becomes valid: a recovery from undervoltage (cause 1), else a power-on (cause 0). -/
def doVddfValid (s : Node) : Node :=
  if s.f.undervoltage then restartF .starting 1 s else restartF .starting 0 (clearRetention .f s)

def execVddfValid (s : State) : Host.Outcome State Fault Refusal := s.run doVddfValid

/-- A die's supply is valid, so that it can fall (R70). In standby VDDN is off (R522). -/
def powered (p : Phase) : Bool := !(p == .unpowered || p == .standby)

/-- R357: the F-die of a parked node whose N-die has lost its supply loses the Clasp and enters PARKED. -/
def partnerLost (s : Node) : Node := if s.fUp && s.portsParked then sleepF .parked (loseLink .f s) else s

/-- R70: a die's supply falls below its undervoltage threshold: the die is held in reset until the supply recovers. -/
def doSupplyUndervoltage (d : Die) (s : Node) : Node :=
  if powered (s.die d).phase then
    let t := modDie d (fun x => { x with undervoltage := true }) s
    match d with
    | .n => partnerLost (restartN .held s.n.cause t)
    | .f => restartF .held s.f.cause t
  else s

def execSupplyUndervoltage (d : Die) (s : State) : Host.Outcome State Fault Refusal := s.run (doSupplyUndervoltage d)

/-- R35: N_RST# is taken low: the N-die is held in reset. -/
def doNRstAssert (s : Node) : Node :=
  let t := modPow (fun p => { p with rstLow := true }) s
  if s.n.phase == .unpowered then t else restartN .held s.n.cause t

def execNRstAssert (s : State) : Host.Outcome State Fault Refusal := s.run doNRstAssert

/-- R70: N_RST# goes high: the N-die restarts with cause 1, once its supply is valid. -/
def doNRstRelease (s : Node) : Node :=
  let t := modPow (fun p => { p with rstLow := false }) s
  if !s.n.pow.rstLow || s.n.phase == .unpowered || s.n.undervoltage then t else restartN .starting 1 t

def execNRstRelease (s : State) : Host.Outcome State Fault Refusal := s.run doNRstRelease

/-! Readiness (R55, R56). -/

/-- The map that the straps select: 0 to 2, or for 3 the one in the default row (R41). -/
def strapMap (straps : BitVec 4) (row : List Word) : Nat :=
  if straps.toNat % 4 = 3 then rowMap row else straps.toNat % 4

/-- The pin levels, fail-safe choices, timeout, map and upper group of a row are applied (R61, R63, R73, R74). -/
def applyRow (d : Die) (row : List Word) (map : Nat) : Node → Node :=
  settlePins d (modCh d fun x =>
    { x with
      rowApplied := true, levels := row.getD 0 0, timeout := rowTimeout row, map := map, upper := rowUpper row })

/-- The start counters of a die (R81, R488 block 0x03). -/
def countStart (d : Die) (restored recovered : Bool) (readyTime : Nat) (s : Node) : Node :=
  peak d blkStartup 7 0 readyTime
    (onlyIf recovered (bump d blkStartup 2 0) (onlyIf restored (bump d blkStartup 1 0) (bump d blkStartup 0 (s.die d).cause s)))

/-- The end of phases N5 and F5 for an error pin (R63, R468): it is released, or stays low for a new pulse where the retention
register marks it as held through a DIE_RESET restart. -/
def releaseStartup (d : Die) : Node → Node := modDie d fun x =>
  let held := x.ret.heldPin && x.ret.byReaction
  { x with
    faults := { x.faults with startupLow := false, pin := held, pulseRunning := held }
    ret := { x.ret with heldPin := false } }

/-- A die with a SEAL in its retention register sets those status bits again and is SEALED (R478); force origin 4 names all its
channels (R214). -/
def reseal (d : Die) (s : Node) : Node :=
  let seals := (s.die d).ret.seals
  if seals = 0 then s
  else setForce d 4 255 (sealChannels d (modFaults d (fun c => { c with status := c.status ||| seals }) s))

/-- The sources that a startup raises on a die (R72, R82, R491): an undervoltage restart, a row restore, a ring with few slots.
The manual gives a row restore no cause code: that code is a free value. -/
def startSources (d : Die) (restored : Bool) (s : Node) : Node :=
  let s1 := if (s.die d).undervoltage then detect d 0 0 (modDie d (fun x => { x with undervoltage := false }) s) else s
  let s2 := onlyIf restored (detectUnstated d 6) s1
  onlyIf (decide ((s.die d).loupe.slots < fewestSlots d)) (detect d 6 5) s2

/-- What both dies do on becoming ready: the phase ends, the row is applied, and the S keys come from the die's own settings
area (R57). -/
def dieReady (d : Die) (row : List Word) (map readyTime : Nat) (ledgerCut : Bool) (s : Node) : Node :=
  let restored := !rowOk d (s.ledger d).row
  let area := (s.ledger d).area
  let s1 := modDie d (fun x =>
    { x with
      phase := .ready, ticks := 0, rowRestored := restored, ledgerRecovered := ledgerCut, noSettings := !area.valid
      readyTime := min readyTime 4095, clasp := { x.clasp with link := .training, synth := .locked } }) s
  let s2 := publishTimed d (loadArea area (match d with
    | .n => rowValsN row factoryRow (applyRow .n row map s1)
    | .f => rowValsF row (applyRow .f row map s1)))
  startSources d restored (reseal d (releaseStartup d (countStart d restored ledgerCut (min readyTime 4095) s2)))

/-- The master count at N-die ready (R271): after standby it goes on from the time that the wake island kept, in HOLDOVER; else
it is FREE. -/
def startTime (s : Node) : Node :=
  let p := s.n.pow
  let t := match p.kept with
    | some (_, now) =>
      modHm (fun h =>
        { h with
          count := now, era := p.keptEra, state := .holdover, acquired := p.keptAcquired, eraKnown := p.keptEraKnown
          since := now }) s
    | none => s
  modPow (fun p => { p with kept := none }) t

/-- The CAN port starts: it integrates at the rates that keys and strap 3 select. A data rate that needs the crystal gives way
to 2 Mbit/s without it (R41, R117, R118). -/
def startCan (s : Node) : Node :=
  modCan (fun c =>
    { c with state := .integrating, nominal := s.nominalCode, dataRate := s.dataRateInForce, reduced := s.rateReduced }) s

/-- An F-die that runs answers the TRAIN of an N-die that has started (R58, R358). -/
def answerTrain (s : Node) : Node :=
  onlyIf (s.fUp && s.f.clasp.link == .off) (modClasp .f fun x => { x with link := .training, synth := .locked }) s

/-- R55: the N-die is ready: the straps are latched (R42 to R44), the row is in force, settings are loaded, the ports start. -/
def doNDieReady (readyTime : Nat) (crystalOk ledgerCut : Bool) (failed : BitVec 2) (straps floating : BitVec 4) (s : Node) :
    Node :=
  if s.n.phase == .starting then
    let row := rowInForce .n s.nLedger.row
    let values := straps &&& ~~~ floating
    let fallback := rowCrystal row && !crystalOk
    let s1 := modN (fun n =>
      { n with straps := values, floating := floating, crystalFallback := fallback, crystal := rowCrystal row && crystalOk })
      (dieReady .n row (strapMap values row) readyTime ledgerCut s)
    let s2 := onlyIf fallback (fun s => detect .n 3 0 (bump .n blkStartup 3 0 s)) s1
    let s3 := selfTest failed.toNat (modBar (fun b => { b with charge := s2.val 0xA031, limit := s2.val 0xA032 }) (startTime s2))
    let s4 := syncNumber (enterPortMode (s3.val 0x1200) (startCan s3))
    answerTrain (nDieWoke (s.n.cause == 5 || s.n.cause == 6 || s.n.cause == 7) s4)
  else s

def execNDieReady (readyTime : Nat) (crystalOk ledgerCut : Bool) (failed : BitVec 2) (straps floating : BitVec 4) (s : State) :
    Host.Outcome State Fault Refusal := s.run (doNDieReady readyTime crystalOk ledgerCut failed straps floating)

/-- R56, R63: the F-die is ready: its link receivers listen, its bead ports, SAFE pairs and F-port start. -/
def doFDieReady (readyTime : Nat) (ledgerCut : Bool) (s : Node) : Node :=
  if s.f.phase == .starting then
    let row := rowInForce .f s.fLedger.row
    let t := dieReady .f row (rowMap row) readyTime ledgerCut s
    let u := modF (fun f => { f with dev := if f.ret.seals = 0 then .boot else .sealed }) t
    startFPort (syncPairs (startBeads (startPorts u)))
  else s

def execFDieReady (readyTime : Nat) (ledgerCut : Bool) (s : State) : Host.Outcome State Fault Refusal :=
  s.run (doFDieReady readyTime ledgerCut)

/-! Training (R58, R59, R192, R571). -/

/-- Training runs: both dies are ready, send TRAIN, and are locked. -/
def Node.training (s : Node) : Bool :=
  s.nUp && s.fUp && s.n.clasp.link == .training && s.f.clasp.link == .training
    && s.n.clasp.synth == .locked && s.f.clasp.synth == .locked

/-- A Clasp half at the end of training: full rate, the swing of its cap with equalisation 0, and credits, sequences and
counters afresh (R184, R192). Orders that await their answer, and the ids already answered, stay (R571). -/
def freshHalf (cap farCap : Nat) (x : ClaspHalf) : ClaspHalf :=
  { link := .up, synth := x.synth, trained := true, swing := cap, askSwing := farCap, credits := 32
    orders := x.orders, ordersWaiting := x.ordersWaiting, nextOrder := x.nextOrder, answered := x.answered
    rateNumber := x.rateNumber, farMask := x.farMask }

/-- A channel at the end of training: an output waits for its first REFRESH (R61), an input is sent as it is. -/
def Chan.fresh_ (level : Bool) (k : Chan) : Chan :=
  { k with sent := level, waiting := [], backlog := [], shifted := false, replay := 0, refreshed := false, repairs := 0 }

/-- One die's part of a training. -/
def trainDie (d : Die) (s : Node) : Node :=
  let t := modClasp d (freshHalf (s.swingCap d) (s.swingCap (otherDie d))) s
  settlePins d (fun s =>
    forEach eight (fun c s => modChan d c (Chan.fresh_ (t.inputLevel d c)) s) (modCh d (fun x => { x with timer := false }) s)) t

/-- Each die sends FORCE for every origin with its current mask (R182). -/
def offerForces (d : Die) (s : Node) : Node :=
  forEach origins (fun o s => sendCtrl d (.force o (tget 0 (s.die d).ch.own o)) s) s

/-- The F startup report of R79, but for bit 16, which K:0010 holds too. -/
def Node.fStartup (s : Node) : Word :=
  let f := s.f
  BitVec.ofNat 24 (f.cause % 16 * 1048576 + 524288 + 262144 * b2n f.rowRestored + 131072 * b2n f.ledgerRecovered + f.readyTime % 4096)

/-- What the dies tell each other in training (R58, R79, R85, R325). -/
def exchange (first : Bool) (s : Node) : Node :=
  let t := modChain (fun c =>
    { c with configured := s.val 0x0011, candidateStrap := s.n.straps.getLsbD 2, settling := true })
    (modN (fun n => { n with fReport := s.fStartup, sealReported := false, adopted := n.adopted && !first
                             faults := { n.faults with reportsSeen := [] } }) s)
  let u := modFol (fun x => { x with seenTriple := false }) (onlyIf (decide (s.n.trainings = 0))
    (setVal 0x002B 0 (rowWait (rowInForce .f s.fLedger.row))) t)
  syncNumber u

/-- The map and upper group that a die has, or is about to apply. -/
def Node.direction (s : Node) (d : Die) : Nat × Bool := (s.die d).ch.changeDue.getD ((s.die d).ch.map, (s.die d).ch.upper)

/-- An F-die whose map or upper group differs takes the N-die's through an agreement: an adoption at the first training after it
started, where its default row differs (R46, R205). A write whose agreement was cut off before its commit ends with
REMOTE_TIMEOUT; one that was committed waits for the confirmation that follows (R220). -/
def agreeDirection (first : Bool) (s : Node) : Node :=
  let a := s.n.agree
  let want := s.direction .n
  let row := rowInForce .f s.fLedger.row
  let adopt := (first || a.adoption) && (rowMap row, rowUpper row) != want
  let differs := adopt || s.direction .f != want
  let t := modN (fun n =>
    { n with agree := { n.agree with fAnswer := none, fApplied := if first then none else a.fApplied, adoption := false } }) s
  match a.phase with
  | .idle => if differs then startAgreement 0x2002 want.1 want.2 adopt none t else t
  | .proposed => if differs then startAgreement 0x2002 want.1 want.2 adopt none (answerAgreement stRemote (endAgreement 3 t)) else t
  | .committed => if differs then startAgreement a.key want.1 want.2 adopt a.txn t else answerAgreement stOk (endAgreement 1 t)

/-- R58: training completes. What must not be lost is offered again, the device state first on stream 3 (R295, R571). Without
an adoption the node may leave BOOT (R64). -/
def doTrainingComplete (duration : Nat) (s : Node) : Node :=
  if s.training then
    let first := !s.f.chain.settling
    let s1 := setCond .f 8 false 0 (setCond .n 8 false 0 (trainDie .f (trainDie .n s)))
    let s2 := sendData .n 3 (.devState s.n.dev) (offerForces .f (offerForces .n s1))
    let s3 := bump .n blkStartup 4 0 (modN (fun n =>
      { n with trainings := satAdd 255 n.trainings 1, attemptsFrozen := true, trainDuration := min duration 511 }) (exchange first s2))
    let s4 := repeatOrders .f (repeatOrders .n (reportSlots (forwardPending s3)))
    let s5 := agreeDirection first s4
    if s5.n.agree.adoption then s5 else leaveBoot s5
  else s

def execTrainingComplete (duration : Nat) (s : State) : Host.Outcome State Fault Refusal := s.run (doTrainingComplete duration)

/-- R59, R80: 0.3 ms have passed without a training; a new series of failed attempts starts after a training. -/
def doTrainingAttemptTimeout (s : Node) : Node :=
  if s.nUp && s.fUp && !s.trained then
    bump .n blkStartup 5 0 (modN (fun n =>
      { n with failedAttempts := if n.attemptsFrozen then 1 else satAdd 15 n.failedAttempts 1, attemptsFrozen := false }) s)
  else s

def execTrainingAttemptTimeout (s : State) : Host.Outcome State Fault Refusal := s.run doTrainingAttemptTimeout

/-- A training has completed since a die started. -/
def Node.hasTrained (s : Node) : Die → Bool
  | .n => decide (0 < s.n.trainings)
  | .f => s.f.chain.settling

/-- R62: the partner wait expires before training: outputs take their fail-safe choice and source 8 is latched. On the N-die the
node leaves BOOT (R64). -/
def doPartnerWaitExpiry (d : Die) (s : Node) : Node :=
  if s.up d && !s.hasTrained d && !(s.die d).waitExpired then
    let t := settlePins d (fun s =>
      forEach (eight.filter fun c => s.role d c == 2) (fun c s => modChan d c (fun k => { k with waitExpired := true }) s) s)
      (modClasp d (fun x => { x with lossSeen := true }) (modDie d (fun x => { x with waitExpired := true }) s))
    let u := setCond d 8 true 0 (bump d blkStartup 6 0 t)
    match d with
    | .n => leaveBoot u
    | .f => u
  else s

def execPartnerWaitExpiry (d : Die) (s : State) : Host.Outcome State Fault Refusal := s.run (doPartnerWaitExpiry d)

/-! Output pins that show the state of a die (R63, R69, R523). -/

/-- N_READY is high (R69). -/
def Node.readyPin (s : Node) : Bool :=
  let st := s.n.dev
  s.nUp && match s.val 0x0028 with
    | 0 => (st == .setup || st == .run) && s.trained
    | 1 => st == .setup || st == .run || st == .safeHold
    | _ => st == .run && s.trained

/-- N_ERR# or F_ERR# is driven low: held so through startup (R63), or asserted (R467). It is Z in standby (R523). -/
def Node.errLow (s : Node) (d : Die) : Bool :=
  let x := s.die d
  (x.phase == .starting || x.phase == .held) && x.faults.startupLow || s.collects d && x.faults.pin

/-- R65: the pending entry into RUN is made, with cause 6. -/
def doDeferredRunEntry (s : Node) : Node :=
  if s.n.runPending && s.n.dev == .setup && s.runAllowed then setDev .run 6 0 0 s else s

def execDeferredRunEntry (s : State) : Host.Outcome State Fault Refusal := s.run doDeferredRunEntry

end Sys2Proof.Machine
end

