-- ==== Sys2Proof/Machine/Dispatch.lean ====
section
/-! DEFINITION. One arm per command: the direct call of its meaning. -/

namespace Sys2Proof.Machine

def exec (i : Instr) (s : State) : Host.Outcome State Fault Refusal :=
  match i with
  | .nVbatValid => Sys2Proof.Machine.execNVbatValid s
  | .nRstRelease => Sys2Proof.Machine.execNRstRelease s
  | .vddfValid => Sys2Proof.Machine.execVddfValid s
  | .supplyUndervoltage d => Sys2Proof.Machine.execSupplyUndervoltage d s
  | .nDieReady readyTime crystalOk ledgerCut selfTest straps floating => Sys2Proof.Machine.execNDieReady readyTime crystalOk ledgerCut selfTest straps floating s
  | .fDieReady readyTime ledgerCut => Sys2Proof.Machine.execFDieReady readyTime ledgerCut s
  | .trainingComplete duration => Sys2Proof.Machine.execTrainingComplete duration s
  | .trainingAttemptTimeout => Sys2Proof.Machine.execTrainingAttemptTimeout s
  | .partnerWaitExpiry d => Sys2Proof.Machine.execPartnerWaitExpiry d s
  | .deferredRunEntry => Sys2Proof.Machine.execDeferredRunEntry s
  | .read rq key => Sys2Proof.Machine.execRead rq key s
  | .write rq key v => Sys2Proof.Machine.execWrite rq key v s
  | .readBlock rq key offset length => Sys2Proof.Machine.execReadBlock rq key offset length s
  | .writeBlock rq key seg => Sys2Proof.Machine.execWriteBlock rq key seg s
  | .blockWriteTimeout session tag => Sys2Proof.Machine.execBlockWriteTimeout session tag s
  | .selectRead rq pairs key => Sys2Proof.Machine.execSelectRead rq pairs key s
  | .sessionIdleRelease session => Sys2Proof.Machine.execSessionIdleRelease session s
  | .remoteAnswerTimeout session tag => Sys2Proof.Machine.execRemoteAnswerTimeout session tag s
  | .fKeyTransaction session tag => Sys2Proof.Machine.execFKeyTransaction session tag s
  | .fKeyResult session tag => Sys2Proof.Machine.execFKeyResult session tag s
  | .stateRequest rq arg => Sys2Proof.Machine.execStateRequest rq arg s
  | .deviceStateFrame st => Sys2Proof.Machine.execDeviceStateFrame st s
  | .releaseOwnSession rq => Sys2Proof.Machine.execReleaseOwnSession rq s
  | .save rq arg => Sys2Proof.Machine.execSave rq arg s
  | .saveComplete failed => Sys2Proof.Machine.execSaveComplete failed s
  | .restore rq arg => Sys2Proof.Machine.execRestore rq arg s
  | .restoreApplyAck => Sys2Proof.Machine.execRestoreApplyAck s
  | .restoreComplete failed fReported => Sys2Proof.Machine.execRestoreComplete failed fReported s
  | .dieReset rq arg => Sys2Proof.Machine.execDieReset rq arg s
  | .dieResetBegin => Sys2Proof.Machine.execDieResetBegin s
  | .sealQuery rq => Sys2Proof.Machine.execSealQuery rq s
  | .triggerFrame src dest tag length launch list scope => Sys2Proof.Machine.execTriggerFrame src dest tag length launch list scope s
  | .canTimeSync src tag stamp => Sys2Proof.Machine.execCanTimeSync src tag stamp s
  | .canTimeFollowUp src tag time era8 inTime => Sys2Proof.Machine.execCanTimeFollowUp src tag time era8 inTime s
  | .canTimeSend stamp => Sys2Proof.Machine.execCanTimeSend stamp s
  | .chainTunnelFrame src dest service tag words => Sys2Proof.Machine.execChainTunnelFrame src dest service tag words s
  | .tunnelPairTimeout => Sys2Proof.Machine.execTunnelPairTimeout s
  | .protocolException => Sys2Proof.Machine.execProtocolException s
  | .errorPassiveEntry tec rec => Sys2Proof.Machine.execErrorPassiveEntry tec rec s
  | .busOffEntry => Sys2Proof.Machine.execBusOffEntry s
  | .detourConfirmTimeout => Sys2Proof.Machine.execDetourConfirmTimeout s
  | .busOffRecovered => Sys2Proof.Machine.execBusOffRecovered s
  | .recoverNow rq => Sys2Proof.Machine.execRecoverNow rq s
  | .transceiverFault cause => Sys2Proof.Machine.execTransceiverFault cause s
  | .transceiverReenable => Sys2Proof.Machine.execTransceiverReenable s
  | .txWaitTimeout cls => Sys2Proof.Machine.execTxWaitTimeout cls s
  | .dapResponseAcked client tag => Sys2Proof.Machine.execDapResponseAcked client tag s
  | .rateWrite rq data v => Sys2Proof.Machine.execRateWrite rq data v s
  | .rateApply => Sys2Proof.Machine.execRateApply s
  | .canStatusRead rq => Sys2Proof.Machine.execCanStatusRead rq s
  | .canWakeWup => Sys2Proof.Machine.execCanWakeWup s
  | .fetch tag dest form mode3 => Sys2Proof.Machine.execFetch tag dest form mode3 s
  | .repeatResponse tag dest form mode3 => Sys2Proof.Machine.execRepeatResponse tag dest form mode3 s
  | .tunnel tag dest form mode3 body => Sys2Proof.Machine.execTunnel tag dest form mode3 body s
  | .tunnelAdmitAfterWait => Sys2Proof.Machine.execTunnelAdmitAfterWait s
  | .tunnelComplete tag bytes => Sys2Proof.Machine.execTunnelComplete tag bytes s
  | .tunnelTimeout tag => Sys2Proof.Machine.execTunnelTimeout tag s
  | .abortedFrame mode3 => Sys2Proof.Machine.execAbortedFrame mode3 s
  | .responseClockedOut => Sys2Proof.Machine.execResponseClockedOut s
  | .heldResponseDiscard tag => Sys2Proof.Machine.execHeldResponseDiscard tag s
  | .nportModeWrite rq v => Sys2Proof.Machine.execNportModeWrite rq v s
  | .nportModeApply => Sys2Proof.Machine.execNportModeApply s
  | .nportMasterEnd bytes => Sys2Proof.Machine.execNportMasterEnd bytes s
  | .edgeCapture d ch at_ => Sys2Proof.Machine.execEdgeCapture d ch at_ s
  | .edgeWord d check first second => Sys2Proof.Machine.execEdgeWord d check first second s
  | .edgeReplay d ch => Sys2Proof.Machine.execEdgeReplay d ch s
  | .refresh d check count mask levels => Sys2Proof.Machine.execRefresh d check count mask levels s
  | .refreshSend d => Sys2Proof.Machine.execRefreshSend d s
  | .timeTriple time fraction => Sys2Proof.Machine.execTimeTriple time fraction s
  | .timeTripleSend => Sys2Proof.Machine.execTimeTripleSend s
  | .eraPair era => Sys2Proof.Machine.execEraPair era s
  | .forceWord d origin mask => Sys2Proof.Machine.execForceWord d origin mask s
  | .forceRepeat d => Sys2Proof.Machine.execForceRepeat d s
  | .act d id floor list launch complete => Sys2Proof.Machine.execAct d id floor list launch complete s
  | .actRepeat d => Sys2Proof.Machine.execActRepeat d s
  | .actAck d id late outcome => Sys2Proof.Machine.execActAck d id late outcome s
  | .faultReport src cls live event => Sys2Proof.Machine.execFaultReport src cls live event s
  | .faultAcknowledge src event => Sys2Proof.Machine.execFaultAcknowledge src event s
  | .faultReportRepeat => Sys2Proof.Machine.execFaultReportRepeat s
  | .faultEntryFrame src cls detected status => Sys2Proof.Machine.execFaultEntryFrame src cls detected status s
  | .margin d swing equalisation atTarget width height => Sys2Proof.Machine.execMargin d swing equalisation atTarget width height s
  | .marginSend d width height => Sys2Proof.Machine.execMarginSend d width height s
  | .credit d returned nak last => Sys2Proof.Machine.execCredit d returned nak last s
  | .creditSend d => Sys2Proof.Machine.execCreditSend d s
  | .dataFrame d stream seq intact => Sys2Proof.Machine.execDataFrame d stream seq intact s
  | .rateRequestHalf d n => Sys2Proof.Machine.execRateRequestHalf d n s
  | .rateAccept d n => Sys2Proof.Machine.execRateAccept d n s
  | .rateRefuse d n => Sys2Proof.Machine.execRateRefuse d n s
  | .rateRequestFull d n => Sys2Proof.Machine.execRateRequestFull d n s
  | .rateRequestRetry d => Sys2Proof.Machine.execRateRequestRetry d s
  | .rateSwitch => Sys2Proof.Machine.execRateSwitch s
  | .fullRateRequest rq => Sys2Proof.Machine.execFullRateRequest rq s
  | .synthLockLoss d => Sys2Proof.Machine.execSynthLockLoss d s
  | .synthCalibrationDone d => Sys2Proof.Machine.execSynthCalibrationDone d s
  | .synthLockReached d => Sys2Proof.Machine.execSynthLockReached d s
  | .outageDetect d => Sys2Proof.Machine.execOutageDetect d s
  | .outageResume d lasted => Sys2Proof.Machine.execOutageResume d lasted s
  | .outageLost d => Sys2Proof.Machine.execOutageLost d s
  | .lostStep0Received d => Sys2Proof.Machine.execLostStep0Received d s
  | .shiftEnd d ch => Sys2Proof.Machine.execShiftEnd d ch s
  | .overflowForceClear d => Sys2Proof.Machine.execOverflowForceClear d s
  | .directionWrite rq upper v => Sys2Proof.Machine.execDirectionWrite rq upper v s
  | .configPropose n map upper => Sys2Proof.Machine.execConfigPropose n map upper s
  | .configAccept n => Sys2Proof.Machine.execConfigAccept n s
  | .configRefuse n => Sys2Proof.Machine.execConfigRefuse n s
  | .configCommit n => Sys2Proof.Machine.execConfigCommit n s
  | .configConfirm n => Sys2Proof.Machine.execConfigConfirm n s
  | .directionApply d => Sys2Proof.Machine.execDirectionApply d s
  | .configProposeTimeout => Sys2Proof.Machine.execConfigProposeTimeout s
  | .configCommitRepeat => Sys2Proof.Machine.execConfigCommitRepeat s
  | .configConfirmTimeout => Sys2Proof.Machine.execConfigConfirmTimeout s
  | .failsafeTimeout d => Sys2Proof.Machine.execFailsafeTimeout d s
  | .newOutputTimerExpiry d ch => Sys2Proof.Machine.execNewOutputTimerExpiry d ch s
  | .failsafeTimeoutWrite rq v => Sys2Proof.Machine.execFailsafeTimeoutWrite rq v s
  | .clockMonitorTrip d island => Sys2Proof.Machine.execClockMonitorTrip d island s
  | .islandClockRecovered d island => Sys2Proof.Machine.execIslandClockRecovered d island s
  | .islandResetRelease d island => Sys2Proof.Machine.execIslandResetRelease d island s
  | .hubClockFailure d => Sys2Proof.Machine.execHubClockFailure d s
  | .crossingTear crossing entries => Sys2Proof.Machine.execCrossingTear crossing entries s
  | .pairReset rq arg => Sys2Proof.Machine.execPairReset rq arg s
  | .counterSample d => Sys2Proof.Machine.execCounterSample d s
  | .chainTimeFrame port t => Sys2Proof.Machine.execChainTimeFrame port t s
  | .rateSample rho => Sys2Proof.Machine.execRateSample rho s
  | .servoRateUpdate => Sys2Proof.Machine.execServoRateUpdate s
  | .sourceLoss => Sys2Proof.Machine.execSourceLoss s
  | .stepInstant => Sys2Proof.Machine.execStepInstant s
  | .countWrap => Sys2Proof.Machine.execCountWrap s
  | .nSyncEdge at_ => Sys2Proof.Machine.execNSyncEdge at_ s
  | .fSyncEdge at_ => Sys2Proof.Machine.execFSyncEdge at_ s
  | .syncPulseOutput d => Sys2Proof.Machine.execSyncPulseOutput d s
  | .holdoverAlarm d => Sys2Proof.Machine.execHoldoverAlarm d s
  | .rateLimitAlarm => Sys2Proof.Machine.execRateLimitAlarm s
  | .manualTime rq v => Sys2Proof.Machine.execManualTime rq v s
  | .manualEra rq v => Sys2Proof.Machine.execManualEra rq v s
  | .listWrite rq key bytes => Sys2Proof.Machine.execListWrite rq key bytes s
  | .armWrite rq d bytes => Sys2Proof.Machine.execArmWrite rq d bytes s
  | .slotCancel rq d arg => Sys2Proof.Machine.execSlotCancel rq d arg s
  | .timedInputWrite rq d v => Sys2Proof.Machine.execTimedInputWrite rq d v s
  | .slotLaunch d slot => Sys2Proof.Machine.execSlotLaunch d slot s
  | .endStep d r => Sys2Proof.Machine.execEndStep d r s
  | .wait d r => Sys2Proof.Machine.execWait d r s
  | .join d r => Sys2Proof.Machine.execJoin d r s
  | .joinRelease d r => Sys2Proof.Machine.execJoinRelease d r s
  | .loop d r => Sys2Proof.Machine.execLoop d r s
  | .level d r late => Sys2Proof.Machine.execLevel d r late s
  | .forceStep d r late => Sys2Proof.Machine.execForceStep d r late s
  | .open_ d r late => Sys2Proof.Machine.execOpen d r late s
  | .close d r late => Sys2Proof.Machine.execClose d r late s
  | .capture d r late => Sys2Proof.Machine.execCapture d r late s
  | .readkey d r late => Sys2Proof.Machine.execReadkey d r late s
  | .writekey d r late => Sys2Proof.Machine.execWritekey d r late s
  | .armStep d r late => Sys2Proof.Machine.execArmStep d r late s
  | .trig d r late => Sys2Proof.Machine.execTrig d r late s
  | .beadStep r late => Sys2Proof.Machine.execBeadStep r late s
  | .fportStep r late => Sys2Proof.Machine.execFportStep r late s
  | .nportStep r late => Sys2Proof.Machine.execNportStep r late s
  | .resultRead rq d object offset length => Sys2Proof.Machine.execResultRead rq d object offset length s
  | .launchRecordRead rq d offset length => Sys2Proof.Machine.execLaunchRecordRead rq d offset length s
  | .hello p h => Sys2Proof.Machine.execHello p h s
  | .helloSend p => Sys2Proof.Machine.execHelloSend p s
  | .linkSilence p => Sys2Proof.Machine.execLinkSilence p s
  | .helloTimeout p => Sys2Proof.Machine.execHelloTimeout p s
  | .chainFrameRelay p err frame overRate => Sys2Proof.Machine.execChainFrameRelay p err frame overRate s
  | .disableHoldoffExpiry p => Sys2Proof.Machine.execDisableHoldoffExpiry p s
  | .portReenable rq => Sys2Proof.Machine.execPortReenable rq s
  | .chainSettleExpiry => Sys2Proof.Machine.execChainSettleExpiry s
  | .pdelayReq p t2 t3 => Sys2Proof.Machine.execPdelayReq p t2 t3 s
  | .pdelayResp p t2 t3 t4 sample => Sys2Proof.Machine.execPdelayResp p t2 t3 t4 sample s
  | .pdelaySchedule p t1 => Sys2Proof.Machine.execPdelaySchedule p t1 s
  | .discover p d => Sys2Proof.Machine.execDiscover p d s
  | .discoverRelay => Sys2Proof.Machine.execDiscoverRelay s
  | .quietTimeExpiry => Sys2Proof.Machine.execQuietTimeExpiry s
  | .reportFrame r root epoch => Sys2Proof.Machine.execReportFrame r root epoch s
  | .rootCollectEnd => Sys2Proof.Machine.execRootCollectEnd s
  | .assignRepeat => Sys2Proof.Machine.execAssignRepeat s
  | .assign index rows => Sys2Proof.Machine.execAssign index rows s
  | .commit epoch root entries frames => Sys2Proof.Machine.execCommit epoch root entries frames s
  | .noRootTimeout => Sys2Proof.Machine.execNoRootTimeout s
  | .joinFrame serial configured => Sys2Proof.Machine.execJoinFrame serial configured s
  | .rediscover rq arg => Sys2Proof.Machine.execRediscover rq arg s
  | .rediscoverFrame discard => Sys2Proof.Machine.execRediscoverFrame discard s
  | .repairFrame p x epoch => Sys2Proof.Machine.execRepairFrame p x epoch s
  | .candidate c => Sys2Proof.Machine.execCandidate c s
  | .repairChoose => Sys2Proof.Machine.execRepairChoose s
  | .tryFrame p => Sys2Proof.Machine.execTryFrame p s
  | .attach p c m => Sys2Proof.Machine.execAttach p c m s
  | .attachOk p c m => Sys2Proof.Machine.execAttachOk p c m s
  | .attachOkTimeout => Sys2Proof.Machine.execAttachOkTimeout s
  | .flip p => Sys2Proof.Machine.execFlip p s
  | .topo partition rows => Sys2Proof.Machine.execTopo partition rows s
  | .partitionRepairRetry => Sys2Proof.Machine.execPartitionRepairRetry s
  | .partitionWaitExpiry => Sys2Proof.Machine.execPartitionWaitExpiry s
  | .orphanFrameDrop p => Sys2Proof.Machine.execOrphanFrameDrop p s
  | .rootTimeSend => Sys2Proof.Machine.execRootTimeSend s
  | .statusFrame src can time dev root => Sys2Proof.Machine.execStatusFrame src can time dev root s
  | .statusSend => Sys2Proof.Machine.execStatusSend s
  | .statusStale node => Sys2Proof.Machine.execStatusStale node s
  | .chainTrigger src launch list => Sys2Proof.Machine.execChainTrigger src launch list s
  | .alert src a => Sys2Proof.Machine.execAlert src a s
  | .alertAck seq origin refused => Sys2Proof.Machine.execAlertAck seq origin refused s
  | .dapReq rq key op => Sys2Proof.Machine.execDapReq rq key op s
  | .dapResp src tag bytes => Sys2Proof.Machine.execDapResp src tag bytes s
  | .park rq arg => Sys2Proof.Machine.execPark rq arg s
  | .parkEntry => Sys2Proof.Machine.execParkEntry s
  | .beacon b elapsed => Sys2Proof.Machine.execBeacon b elapsed s
  | .rendezvousBeaconSend => Sys2Proof.Machine.execRendezvousBeaconSend s
  | .listenWindowOpen => Sys2Proof.Machine.execListenWindowOpen s
  | .listenWindowMiss => Sys2Proof.Machine.execListenWindowMiss s
  | .listeningTimeout => Sys2Proof.Machine.execListeningTimeout s
  | .adriftWindowMiss => Sys2Proof.Machine.execAdriftWindowMiss s
  | .childAnswerTimeout p => Sys2Proof.Machine.execChildAnswerTimeout p s
  | .holdWindowEnd => Sys2Proof.Machine.execHoldWindowEnd s
  | .wakeAnswer p w => Sys2Proof.Machine.execWakeAnswer p w s
  | .wakeRequest p dest w => Sys2Proof.Machine.execWakeRequest p dest w s
  | .wakeNotice w => Sys2Proof.Machine.execWakeNotice w s
  | .wakeRequestCmd rq arg => Sys2Proof.Machine.execWakeRequestCmd rq arg s
  | .lfCalibration rate => Sys2Proof.Machine.execLfCalibration rate s
  | .fportTransactionEnd bytes => Sys2Proof.Machine.execFportTransactionEnd bytes s
  | .fportNextWork => Sys2Proof.Machine.execFportNextWork s
  | .windowRead rq window offset length => Sys2Proof.Machine.execWindowRead rq window offset length s
  | .programJob rq window bytes => Sys2Proof.Machine.execProgramJob rq window bytes s
  | .statusPoll erase status => Sys2Proof.Machine.execStatusPoll erase status s
  | .programTimeout => Sys2Proof.Machine.execProgramTimeout s
  | .erase rq arg => Sys2Proof.Machine.execErase rq arg s
  | .eraseTimeout => Sys2Proof.Machine.execEraseTimeout s
  | .recoveryPoll target status => Sys2Proof.Machine.execRecoveryPoll target status s
  | .sfdpQuery rq arg => Sys2Proof.Machine.execSfdpQuery rq arg s
  | .adoptProposal rq arg => Sys2Proof.Machine.execAdoptProposal rq arg s
  | .syncNow rq start => Sys2Proof.Machine.execSyncNow rq start s
  | .beadFrame p judgement status data => Sys2Proof.Machine.execBeadFrame p judgement status data s
  | .positionWindowExpiry p => Sys2Proof.Machine.execPositionWindowExpiry p s
  | .trainEnd p => Sys2Proof.Machine.execTrainEnd p s
  | .pullupGrant => Sys2Proof.Machine.execPullupGrant s
  | .pullupWindowEnd p => Sys2Proof.Machine.execPullupWindowEnd p s
  | .overcurrentTrip p within => Sys2Proof.Machine.execOvercurrentTrip p within s
  | .lineOffEnd p => Sys2Proof.Machine.execLineOffEnd p s
  | .poweringEnd p => Sys2Proof.Machine.execPoweringEnd p s
  | .baseWindowFault p base => Sys2Proof.Machine.execBaseWindowFault p base s
  | .openLineFault p => Sys2Proof.Machine.execOpenLineFault p s
  | .pullupLevelFault p => Sys2Proof.Machine.execPullupLevelFault p s
  | .psi5Frame p judgement data at_ => Sys2Proof.Machine.execPsi5Frame p judgement data at_ s
  | .psi5Silence p => Sys2Proof.Machine.execPsi5Silence p s
  | .beadPortReenable rq => Sys2Proof.Machine.execBeadPortReenable rq s
  | .beadModeWrite rq key v => Sys2Proof.Machine.execBeadModeWrite rq key v s
  | .safeTick a0 b0 a1 b1 => Sys2Proof.Machine.execSafeTick a0 b0 a1 b1 s
  | .latchRecordWrite pair => Sys2Proof.Machine.execLatchRecordWrite pair s
  | .releaseForce rq => Sys2Proof.Machine.execReleaseForce rq s
  | .safeSettingWrite rq key v => Sys2Proof.Machine.execSafeSettingWrite rq key v s
  | .faultDetection d src cause => Sys2Proof.Machine.execFaultDetection d src cause s
  | .liveStateSample d => Sys2Proof.Machine.execLiveStateSample d s
  | .mergeWindowClose d src => Sys2Proof.Machine.execMergeWindowClose d src s
  | .errPulseEnd d => Sys2Proof.Machine.execErrPulseEnd d s
  | .dieResetReaction d => Sys2Proof.Machine.execDieResetReaction d s
  | .clearEntry d src => Sys2Proof.Machine.execClearEntry d src s
  | .statusClear rq d v => Sys2Proof.Machine.execStatusClear rq d v s
  | .acknowledge rq d arg => Sys2Proof.Machine.execAcknowledge rq d arg s
  | .errPinRelease rq d => Sys2Proof.Machine.execErrPinRelease rq d s
  | .historyClear rq d => Sys2Proof.Machine.execHistoryClear rq d s
  | .faultStatusRead rq d => Sys2Proof.Machine.execFaultStatusRead rq d s
  | .fSealRelease => Sys2Proof.Machine.execFSealRelease s
  | .fTrapNotice src => Sys2Proof.Machine.execFTrapNotice src s
  | .periodicFlush d => Sys2Proof.Machine.execPeriodicFlush d s
  | .earlyFlush d => Sys2Proof.Machine.execEarlyFlush d s
  | .tokenGain d => Sys2Proof.Machine.execTokenGain d s
  | .flushComplete d verified => Sys2Proof.Machine.execFlushComplete d verified s
  | .flushNow rq => Sys2Proof.Machine.execFlushNow rq s
  | .loupeFImage time => Sys2Proof.Machine.execLoupeFImage time s
  | .fCopyWrite => Sys2Proof.Machine.execFCopyWrite s
  | .startEpoch rq => Sys2Proof.Machine.execStartEpoch rq s
  | .deleteEpoch rq arg => Sys2Proof.Machine.execDeleteEpoch rq arg s
  | .cmTransient peak falling blankedMs => Sys2Proof.Machine.execCmTransient peak falling blankedMs s
  | .pdPulse charge => Sys2Proof.Machine.execPdPulse charge s
  | .pdWindowEnd => Sys2Proof.Machine.execPdWindowEnd s
  | .bulkRequest src mask view offset formOk => Sys2Proof.Machine.execBulkRequest src mask view offset formOk s
  | .bulkAbort src => Sys2Proof.Machine.execBulkAbort src s
  | .bulkSnapshotTimeout => Sys2Proof.Machine.execBulkSnapshotTimeout s
  | .standby rq => Sys2Proof.Machine.execStandby rq s
  | .idleStandbyExpiry => Sys2Proof.Machine.execIdleStandbyExpiry s
  | .standbyCreditTimeout => Sys2Proof.Machine.execStandbyCreditTimeout s
  | .standbyNotice => Sys2Proof.Machine.execStandbyNotice s
  | .wakeTimer => Sys2Proof.Machine.execWakeTimer s
  | .nWakePin => Sys2Proof.Machine.execNWakePin s
  | .chainWake => Sys2Proof.Machine.execChainWake s
  | .monitorSample m settled => Sys2Proof.Machine.execMonitorSample m settled s
  | .preregFoldback => Sys2Proof.Machine.execPreregFoldback s
  | .filigreeUnlock rq arg => Sys2Proof.Machine.execFiligreeUnlock rq arg s
  | .filigreeLock rq => Sys2Proof.Machine.execFiligreeLock rq s
  | .filigreeArm rq bytes => Sys2Proof.Machine.execFiligreeArm rq bytes s
  | .filigreeDisarm rq arg => Sys2Proof.Machine.execFiligreeDisarm rq arg s
  | .filigreeSlotExpiry slot => Sys2Proof.Machine.execFiligreeSlotExpiry slot s
  | .filigreeSlotReport slot armed => Sys2Proof.Machine.execFiligreeSlotReport slot armed s
  | .unlockExpiry => Sys2Proof.Machine.execUnlockExpiry s
  | .unlockLockoutExpiry => Sys2Proof.Machine.execUnlockLockoutExpiry s
  | .nRstAssert => Sys2Proof.Machine.execNRstAssert s
  | .nSelHigh => Sys2Proof.Machine.execNSelHigh s
  | .canFrameSent cls => Sys2Proof.Machine.execCanFrameSent cls s
  | .linkFrameSent p => Sys2Proof.Machine.execLinkFrameSent p s
  | .errorActiveReturn tec rec => Sys2Proof.Machine.execErrorActiveReturn tec rec s
  | .busIntegrationEnd => Sys2Proof.Machine.execBusIntegrationEnd s
  | .eventLiveEnd d src => Sys2Proof.Machine.execEventLiveEnd d src s
  | .filigreeHoldEnd slot => Sys2Proof.Machine.execFiligreeHoldEnd slot s

end Sys2Proof.Machine
end

