-- ==== Sys2Proof/Machine/Idle.lean ====
section
/-! DEFINITION. What an empty queue does in place of idling: one tick of Hallmark time. -/

namespace Sys2Proof.Machine

open Sys2Proof

/-- A count moves on by one tick and stops at its largest value, where the wrap is a command of its own (R250). -/
def tickCount (t : T48) : T48 := if t = BitVec.allOnes 48 then t else t + 1

/-- One tick of 2^-26 s: each running die counts its time, the master counts while the N-die is ready (R251), the follower
while it is aligned or in holdover (R253), the parked time while the node is parked or parks (R360), and the N wake island
keeps time in standby (R271). -/
def idleTick (s : Node) : Node :=
  let s1 := if s.nUp then modN (fun n => { n with ticks := n.ticks + 1, hm := { n.hm with count := tickCount n.hm.count } }) s
    else modPow (fun p => { p with kept := p.kept.map fun k => (k.1, tickCount k.2) }) s
  let s2 := if s1.fUp then modF (fun f => { f with ticks := f.ticks + 1 }) s1 else s1
  let s3 := if s2.fUp && s2.f.fol.state != .unaligned then modFol (fun x => { x with count := tickCount x.count }) s2 else s2
  if s3.f.park.parking || s3.f.park.state != .none then modPark (fun x => { x with time := tickCount x.time }) s3 else s3

end Sys2Proof.Machine
end

