-- ==== Sys2Proof/Safety.lean ====
section
/-! DEFINITION. The terms in which claims are stated: what a command gives, how the dictionary takes a request in and what it has
answered, when a transaction runs to the F-die and back at once, and the invariant of the settings and ledgers. -/

namespace Sys2Proof.Machine

open Sys2Proof

/-- The command completes, leaves the queue as it stands, and brings a node of which P holds. -/
def Gives (c : Instr) (s : State) (P : Node → Prop) : Prop :=
  ∃ t, exec c s = .next t ∧ t.pending = s.pending ∧ P t.node

/-! Settings. -/

/-- Everything a node holds as a setting: working values, working BLOBs, both ledgers with their default rows and areas. -/
def Node.stored (s : Node) : Tab Nat × Tab (List Byte) × Ledger × Ledger := (s.vals, s.blobs, s.nLedger, s.fLedger)

/-- A ledger whose area is in canonical form and whose default row carries its check word (R72, R103). -/
def Ledger.ok (l : Ledger) : Bool := twf l.area.vals && twf l.area.blobs && rowCheck l.row

/-- Working values, working BLOBs and both areas are in canonical form, and both default rows carry their check words. -/
def Node.settingsOk (s : Node) : Bool := twf s.vals && twf s.blobs && s.nLedger.ok && s.fLedger.ok

/-! Requests (R86 to R93). -/

/-- The client, the tag and the node with which a well-formed request comes to the dictionary engine: none where its path takes
no frame, or where the frame breaks a rule of R121, R130, R148 or R159. -/
def Node.wellFormedAt (s : Node) (rq : Rq) (op : DapOp) : Option (Nat × Nat × Node) :=
  if rq.form != .good then none
  else match rq.path with
    | .nport =>
      let t := selectFrame rq.mode3 (opcodeOf op - 1) s
      if s.portOn && t.portError .good true false rq.tag rq.dest == 0 && (rq.dest == 0 || rq.dest == t.n.number) then some (0, rq.tag, t)
      else none
    | .can =>
      let compact := s.val 0x1102 == 1
      let client := if compact then s.val 0x1106 else rq.client
      let tag := if compact then 0 else rq.tag
      let t := canReceived 5 s
      if s.canOn && s.n.number != 0 && s.canAccepts rq.dest && !t.protocolError .can client rq.dest tag .good op then some (client, tag, t)
      else none
    | .chain =>
      if s.hubReceives .n && s.trained && rq.dest == s.n.number && s.n.number != 0
          && !s.protocolError .chain rq.client rq.dest rq.tag .good op then
        some (rq.client, rq.tag, s)
      else none
    | .internal => none

/-- The same for a request that is not the later segment of a block write: it comes to checks 1 and 2 of R91. -/
def Node.arrival (s : Node) (rq : Rq) (op : DapOp) : Option (Nat × Nat × Node) :=
  (s.wellFormedAt rq op).bind fun a =>
    if (a.2.2.collecting rq.path a.1 a.2.1).isSome || a.2.2.straySegment rq.path a.1 a.2.1 op then none else some a

/-- A request is accepted: checks 1 and 2 of R91 put it in flight; the answer is the node then, and the transaction. -/
def Node.accepts (s : Node) (rq : Rq) (key : Nat) (op : DapOp) : Option (Node × Txn) :=
  (s.arrival rq op).bind fun a =>
    match enterFlight rq.path a.1 a.2.1 op key a.2.2 with
    | (u, some t) => if u.txn t.session t.tag = some t then some (u, t) else none
    | (_, none) => none

/-- The row that carries an operation of the dictionary on any path; a command travels in the table's DAP_REQ. -/
def requestRow (rq : Rq) (key : Nat) (op : DapOp) : Instr :=
  match op with
  | .read => .read rq key
  | .write v => .write rq key v
  | .readBlock offset length => .readBlock rq key offset length
  | .writeBlock seg => .writeBlock rq key seg
  | .selectRead pairs => .selectRead rq pairs key
  | .command arg => .dapReq rq key (.command arg)

/-- Checks 3 to 5 of R91 pass a transaction under this row. -/
def Node.passes (s : Node) (t : Txn) : Option KeyRow :=
  match s.keyCheck t.session t.key t.op .good with
  | .ok row => some row
  | .error _ => none

/-- Checks 3 to 5 of R91 refuse a transaction with this status. -/
def Node.refusal (s : Node) (t : Txn) : Option Nat :=
  match s.keyCheck t.session t.key t.op .good with
  | .ok _ => none
  | .error st => some st

/-- The status and the data that a transaction in flight has been answered with; none before its end. -/
def Node.answer (s : Node) (t : Txn) : Option (Nat × List Byte) :=
  (s.txn t.session t.tag).bind fun x => if x.stage == .done then some (x.status, x.data) else none

/-- The dictionary's way to the F-die and back is open: the Clasp is trained and carries words, both crossings are whole, the F-die
runs, nothing is before the transaction, and either die has a credit. -/
def Node.lineOpen (s : Node) : Bool :=
  s.trained && s.linkUp && !s.claspTorn .n && !s.claspTorn .f && s.fUp && s.f.inbox.isEmpty
    && s.n.clasp.waiting.isEmpty && s.f.clasp.waiting.isEmpty && s.n.clasp.delayed.isEmpty && s.f.clasp.delayed.isEmpty
    && decide (0 < s.n.clasp.credits) && decide (0 < s.f.clasp.credits)
    && (s.filFind .n filClaspDelay fun _ => true).isNone && (s.filFind .f filClaspDelay fun _ => true).isNone

/-! Words and frames on the Clasp, and faults. -/

/-- A DATA frame with this message is on its way from a die: it waits, is held back, or has been sent and not yet accepted. -/
def Node.sent (s : Node) (d : Die) (stream : Nat) (m : Msg) : Bool :=
  ((s.die d).clasp.waiting ++ (s.die d).clasp.delayed ++ (s.die d).clasp.unacked).any fun f => f.stream == stream && f.msg == m

/-- CLASP_ERR does not spoil the next word of a class that a die receives (R535): classes 1 EDGE, 2 CTRL and 3 DATA. -/
def Node.readable (s : Node) (d : Die) (cls : Nat) : Bool := (perturbed d cls s).2 != .uncorrectable

/-- A CTRL word is on offer by a die. -/
def Node.offered (s : Node) (d : Die) (w : Ctrl) : Bool := (s.die d).clasp.ctrl.contains w

/-- The Chain frames that wait for a port's line, queued, ahead of the queue, or stalled at a full one. -/
def Node.waitingOn (s : Node) (p : Port) : List ChainFrame :=
  (s.link p).bypass ++ (s.link p).queue ++ (s.f.chain.stalled.filter fun e => e.1 == p).map Prod.snd

/-- Between two nodes a port has been given a frame, whatever sequence it got: it waits for the line, or a free line was taken. -/
def handed (p : Port) (f : ChainFrame) (s t : Node) : Bool :=
  (t.waitingOn p).any (fun x => { x with seq := f.seq } == f) || (!(s.link p).busy && (t.link p).busy)

/-- A source is latched in the status word of a die. -/
def Node.latched (s : Node) (d : Die) (src : Nat) : Bool := (s.die d).faults.status.getLsbD src

/-- A condition source is live on a die. -/
def Node.conditionOn (s : Node) (d : Die) (src : Nat) : Bool := (s.die d).faults.cond.getLsbD src

/-- A condition source has risen or fallen between two nodes: it is live as said, and a rise latches it. -/
abbrev became (d : Die) (src : Nat) (on : Bool) (s t : Node) : Prop :=
  t.conditionOn d src = on ∧ (on = true → s.conditionOn d src = false → t.latched d src = true)
    ∧ (on = false → t.latched d src = s.latched d src)

/-- The slot that a dictionary arm takes; none where it is refused (R290, R291). -/
def armTakes (d : Die) (bs : List Byte) (s : Node) : Option Nat :=
  match armCheck d bs s with
  | .ok i => some i
  | .error _ => none

/-- The refusal of a dictionary arm. -/
def armRefusal (d : Die) (bs : List Byte) (s : Node) : Option Nat :=
  match armCheck d bs s with
  | .ok _ => none
  | .error st => some st

/-- The slot that a Filigree arm takes; none where it is refused (R534). -/
def armFilTakes (bs : List Byte) (s : Node) : Option Nat :=
  match armFilCheck bs s with
  | .ok i => some i
  | .error _ => none

/-- The refusal of a Filigree arm. -/
def armFilRefusal (bs : List Byte) (s : Node) : Option Nat :=
  match armFilCheck bs s with
  | .ok _ => none
  | .error st => some st

/-! Steps of a running list. -/

/-- A runner has moved past a step of this opcode: its schedule one tick on, its list the same (R283). -/
abbrev issued (d : Die) (r : Runner) (op : Nat) (run : Run) (t : Node) : Prop :=
  (t.run d r).map (fun x => (x.list, x.pc, x.sched, x.launch))
    = some (run.list, run.pc + stepLength op, run.sched + 1, run.launch)

/-! What may change a setting. -/

/-- Commands that may change a setting or a ledger: requests to the dictionary and their completions, saves and restores, the two key
steps, direction agreements, adoption, restarts, and the ways into and out of standby. -/
def maySet : Instr → Bool
  | .nVbatValid | .nRstRelease | .vddfValid | .supplyUndervoltage .. | .nDieReady .. | .fDieReady ..
  | .trainingComplete .. | .read .. | .write .. | .readBlock .. | .writeBlock .. | .selectRead ..
  | .fKeyTransaction .. | .stateRequest .. | .releaseOwnSession .. | .save .. | .saveComplete .. | .restore ..
  | .restoreApplyAck | .restoreComplete .. | .dieReset .. | .dieResetBegin | .sealQuery .. | .recoverNow ..
  | .rateWrite .. | .canStatusRead .. | .canWakeWup | .nportModeWrite .. | .fullRateRequest .. | .directionWrite ..
  | .configAccept .. | .directionApply .. | .failsafeTimeoutWrite .. | .hubClockFailure .. | .pairReset ..
  | .manualTime .. | .manualEra .. | .listWrite .. | .armWrite .. | .slotCancel .. | .timedInputWrite .. | .open_ ..
  | .readkey .. | .writekey .. | .resultRead .. | .launchRecordRead .. | .portReenable .. | .rediscover ..
  | .dapReq .. | .park .. | .wakeRequestCmd .. | .windowRead .. | .programJob .. | .erase .. | .sfdpQuery ..
  | .adoptProposal .. | .syncNow .. | .beadPortReenable .. | .beadModeWrite .. | .releaseForce ..
  | .safeSettingWrite .. | .dieResetReaction .. | .statusClear .. | .acknowledge .. | .errPinRelease ..
  | .historyClear .. | .faultStatusRead .. | .flushNow .. | .startEpoch .. | .deleteEpoch .. | .standby ..
  | .idleStandbyExpiry | .standbyCreditTimeout | .standbyNotice | .wakeTimer | .nWakePin | .chainWake
  | .preregFoldback | .filigreeUnlock .. | .filigreeLock .. | .filigreeArm .. | .filigreeDisarm .. | .nRstAssert => true
  | _ => false

end Sys2Proof.Machine
end

