-- ==== Sys2Proof/Certificates/Slice0/Obligations.lean ====
section
/-! DEFINITION. The statements about the model, each a proposition for the provers. -/

open Sys2Proof Sys2Proof.Machine

/-- A step of a state with a command at the front of its queue is that command, run on the state with the queue's rest. -/
def Obligations.StepTakesFrontCommand : Prop :=
  ∀ (c : Instr) (rest : List Instr) (s : State),
    step { s with pending := c :: rest } = exec c { s with pending := rest }

/-- The model's choice for an empty queue (log entry 2): one tick of Hallmark time. -/
def Obligations.EmptyQueueIsOneTick : Prop :=
  ∀ s : State, s.pending = [] → ∃ t, step s = .next t ∧ t.pending = [] ∧
    (s.node.nUp = true → s.node.n.hm.count ≠ BitVec.allOnes 48 → t.node.n.hm.count = s.node.n.hm.count + 1) ∧
    (s.node.nUp = true → s.node.n.hm.count = BitVec.allOnes 48 → t.node.n.hm.count = s.node.n.hm.count) ∧
    (s.node.nUp = false → t.node.n.hm.count = s.node.n.hm.count) ∧
    (s.node.fUp = true → s.node.f.fol.state ≠ .unaligned → s.node.f.fol.count ≠ BitVec.allOnes 48 →
      t.node.f.fol.count = s.node.f.fol.count + 1) ∧
    (s.node.f.fol.state = .unaligned → t.node.f.fol.count = s.node.f.fol.count) ∧
    t.node.stored = s.node.stored ∧ t.node.n.dict = s.node.n.dict ∧ t.node.fil = s.node.fil ∧
    (∀ d, (t.node.die d).faults = (s.node.die d).faults ∧ (t.node.die d).clasp = (s.node.die d).clasp ∧
      (t.node.die d).seq = (s.node.die d).seq ∧ (t.node.die d).ch = (s.node.die d).ch) ∧
    t.node.f.chain = s.node.f.chain ∧ t.node.f.fport = s.node.f.fport ∧ t.node.f.beads = s.node.f.beads ∧
    t.node.f.safe0 = s.node.f.safe0 ∧ t.node.f.safe1 = s.node.f.safe1

/-- No command of the table stops the machine, and none changes the queue. -/
def Obligations.EveryCommandCompletes : Prop :=
  ∀ (c : Instr) (s : State), ∃ t, exec c s = .next t ∧ t.pending = s.pending

/-- R76: the row with which parts leave the factory, in the ledgers of both dies. -/
def Obligations.FactoryRowAtReset : Prop :=
  ∀ d : Die, let row := (State.reset.node.ledger d).row
    rowWord row 0 = 0x000000 ∧ rowWord row 1 = 0x0A0800 ∧
    rowWord row 2 = 0 ∧ rowWord row 3 = 0 ∧ rowWord row 4 = 0 ∧ rowWord row 5 = 0 ∧ rowWord row 6 = 0 ∧
    rowWait row = 10 ∧ rowTimeout row = 4 ∧ rowPolicy row = 0 ∧ rowCrystal row = false ∧ rowUpper row = false ∧ rowMap row = 0 ∧
    (∀ second : Bool, rowTwelve row 2 second = 0 ∧ rowTwelve row 3 second = 0 ∧ rowTwelve row 4 second = 0) ∧
    rowOk d row = true ∧ rowInForce d row = row

/-- The invariant of the settings and ledgers holds of the new part. -/
def Obligations.SettingsCanonicalAtReset : Prop := State.reset.node.settingsOk = true

/-- Every step keeps the settings canonical and the check words of both default rows matching (R72, R103, R105, R46). -/
def Obligations.SettingsStayCanonical : Prop :=
  ∀ s t : State, s.node.settingsOk = true → step s = .next t → t.node.settingsOk = true

/-- R35, R55, R56, R70: the supplies and N_RST#. That the F-die of a parked node enters PARKED in the same step (R357) is the reading of log entry 83; R55 to R57, R61, R63, R72: a die becomes ready. -/
def Obligations.SuppliesAndReadyDies : Prop :=
  (∀ (s : State), Gives .nVbatValid s fun t =>
    t.n.phase = (if s.node.n.pow.rstLow then .held else .starting) ∧
    t.n.cause = (if s.node.n.undervoltage then 2 else 0) ∧
    (s.node.n.undervoltage = false → t.n.ret.seals = 0) ∧
    (s.node.n.undervoltage = true → t.n.ret.seals = s.node.n.ret.seals) ∧
    t.n.dev = .boot ∧ t.n.dict = {} ∧ t.n.faults = {} ∧ t.n.clasp = {} ∧ t.n.seq = {} ∧
    t.nLedger = s.node.nLedger ∧ t.fLedger = s.node.fLedger ∧ t.n.bar.epochs = s.node.n.bar.epochs ∧ t.f.phase = s.node.f.phase) ∧
  (∀ (s : State), Gives .vddfValid s fun t =>
    t.f.phase = .starting ∧ t.f.cause = (if s.node.f.undervoltage then 1 else 0) ∧
    (s.node.f.undervoltage = false → t.f.ret.seals = 0) ∧
    (s.node.f.undervoltage = true → t.f.ret.seals = s.node.f.ret.seals) ∧
    t.f.dev = .boot ∧ t.f.faults = {} ∧ t.f.clasp = {} ∧ t.f.seq = {} ∧ t.f.chain = {} ∧ t.f.linkA = {} ∧
    t.nLedger = s.node.nLedger ∧ t.fLedger = s.node.fLedger ∧ t.n = s.node.n) ∧
  (∀ (s : State), s.node.n.phase ≠ .unpowered → s.node.n.phase ≠ .standby → Gives (.supplyUndervoltage .n) s fun t =>
    t.n.phase = .held ∧ t.n.undervoltage = true ∧ t.n.dev = .boot ∧ t.n.faults = {} ∧ t.nLedger = s.node.nLedger ∧
    (s.node.fUp = false ∨ s.node.portsParked = false → t.f.phase = s.node.f.phase) ∧
    (s.node.fUp = true → s.node.portsParked = true → t.f.phase = .parked ∧ t.f.clasp.link = .off)) ∧
  (∀ (s : State), s.node.f.phase ≠ .unpowered → s.node.f.phase ≠ .standby → Gives (.supplyUndervoltage .f) s fun t =>
    t.f.phase = .held ∧ t.f.undervoltage = true ∧ t.f.faults = {} ∧ t.fLedger = s.node.fLedger ∧ t.n = s.node.n) ∧
  (∀ (s : State), s.node.n.phase ≠ .unpowered → Gives .nRstAssert s fun t =>
    t.n.pow.rstLow = true ∧ t.n.phase = .held ∧ t.n.dev = .boot ∧ t.nLedger = s.node.nLedger ∧ t.f.phase = s.node.f.phase) ∧
  (∀ (s : State), s.node.n.pow.rstLow = true → s.node.n.phase ≠ .unpowered → s.node.n.undervoltage = false → Gives .nRstRelease s fun t =>
    t.n.pow.rstLow = false ∧ t.n.phase = .starting ∧ t.n.cause = 1 ∧ t.n.dev = .boot ∧ t.nLedger = s.node.nLedger ∧
    (s.node.fUp = false ∨ s.node.portsParked = false → t.f.phase = s.node.f.phase) ∧
    (s.node.fUp = true → s.node.portsParked = true → t.f.phase = .parked ∧ t.f.clasp.link = .off)) ∧
  (∀ (s : State) (rt : Nat) (cr lc : Bool) (st : BitVec 2) (straps floating : BitVec 4),
    s.node.n.phase = .starting →
    Gives (.nDieReady rt cr lc st straps floating) s fun t =>
    t.n.phase = .ready ∧ t.n.straps = straps &&& ~~~ floating ∧ t.n.floating = floating ∧
    t.n.ch.map = strapMap (straps &&& ~~~ floating) (rowInForce .n s.node.nLedger.row) ∧
    t.n.ch.upper = rowUpper (rowInForce .n s.node.nLedger.row) ∧ t.n.ch.levels = (rowInForce .n s.node.nLedger.row).getD 0 0 ∧
    t.n.ch.timeout = rowTimeout (rowInForce .n s.node.nLedger.row) ∧ t.n.ch.rowApplied = true ∧
    t.n.rowRestored = !rowOk .n s.node.nLedger.row ∧ t.n.ledgerRecovered = lc ∧ t.n.readyTime = min rt 4095 ∧
    t.n.crystal = (rowCrystal (rowInForce .n s.node.nLedger.row) && cr) ∧
    t.n.crystalFallback = (rowCrystal (rowInForce .n s.node.nLedger.row) && !cr) ∧
    t.n.clasp.link = .training ∧ t.n.clasp.synth = .locked ∧ t.n.can.state = .integrating ∧
    t.nLedger = s.node.nLedger ∧ t.fLedger = s.node.fLedger) ∧
  (∀ (s : State) (rt : Nat) (lc : Bool), s.node.f.phase = .starting → Gives (.fDieReady rt lc) s fun t =>
    t.f.phase = .ready ∧ t.f.dev = (if s.node.f.ret.seals = 0 then .boot else .sealed) ∧
    t.f.ch.map = rowMap (rowInForce .f s.node.fLedger.row) ∧ t.f.ch.upper = rowUpper (rowInForce .f s.node.fLedger.row) ∧
    t.f.ch.levels = (rowInForce .f s.node.fLedger.row).getD 0 0 ∧
    t.f.ch.timeout = rowTimeout (rowInForce .f s.node.fLedger.row) ∧ t.f.ch.rowApplied = true ∧
    t.f.rowRestored = !rowOk .f s.node.fLedger.row ∧ t.f.ledgerRecovered = lc ∧ t.f.readyTime = min rt 4095 ∧
    t.f.clasp.link = .training ∧ t.f.clasp.synth = .locked ∧ t.nLedger = s.node.nLedger ∧ t.fLedger = s.node.fLedger)

/-- R58, R59, R62, R65, R80: training and what may come in its place. -/
def Obligations.TrainingAndPartnerWait : Prop :=
  (∀ (s : State) (dur : Nat), s.node.training = true → Gives (.trainingComplete dur) s fun t =>
    (∀ d : Die, (t.die d).clasp.link = .up ∧ (t.die d).clasp.trained = true ∧ (t.die d).clasp.half = false ∧
      (t.die d).clasp.credits ≤ 32 ∧ (t.die d).clasp.txSeq = 32 - (t.die d).clasp.credits ∧ (t.die d).clasp.rxSeq = 0) ∧
    t.n.trainings = min 255 (s.node.n.trainings + 1) ∧ t.n.trainDuration = min dur 511 ∧
    t.f.chain.configured = s.node.val 0x0011 ∧ t.nLedger = s.node.nLedger ∧ t.fLedger = s.node.fLedger) ∧
  (∀ (s : State), s.node.nUp = true → s.node.fUp = true → s.node.trained = false → Gives .trainingAttemptTimeout s fun t =>
    t.n.failedAttempts = (if s.node.n.attemptsFrozen then 1 else min 15 (s.node.n.failedAttempts + 1)) ∧
    t.n.attemptsFrozen = false ∧ t.stored = s.node.stored ∧ t.n.dict = s.node.n.dict ∧ t.f = s.node.f) ∧
  (∀ (s : State) (d : Die),
    s.node.up d = true → s.node.hasTrained d = false → (s.node.die d).waitExpired = false →
    Gives (.partnerWaitExpiry d) s fun t =>
    (t.die d).waitExpired = true ∧ ((s.node.die d).faults.cond.getLsbD 8 = false → (t.die d).faults.status.getLsbD 8 = true) ∧
    (t.die d).clasp.lossSeen = true ∧ (t.die d).faults.cond.getLsbD 8 = true ∧
    (d = .n → s.node.n.dev = .boot → t.n.dev ≠ .boot) ∧ t.n.dict = s.node.n.dict ∧ t.stored = s.node.stored) ∧
  (∀ (s : State), s.node.n.runPending = true → s.node.n.dev = .setup → s.node.runAllowed = true → Gives .deferredRunEntry s fun t =>
    t.n.dev = .run ∧ t.n.lastTransition = transitionWord .setup 6 0 0 ∧ t.n.runPending = false ∧
    t.n.runCancelled = s.node.n.runCancelled ∧ t.stored = s.node.stored)

/-- R88, R90, R91, R522: refusals at checks 1 and 2, which never enter flight. -/
def Obligations.AdmissionRefusals : Prop :=
  (∀ (s : State) (rq : Rq) (key : Nat) (op : DapOp) (client tag : Nat) (w : Node),
    (rq.path = .chain ∨ opcodeOf op ≠ 5) → s.node.arrival rq op = some (client, tag, w) →
    s.node.n.pow.entering.isSome = true →
    Gives (requestRow rq key op) s fun t =>
    t.n.dict = s.node.n.dict ∧ t.stored = s.node.stored ∧ t.f.faults = s.node.f.faults ∧
    (rq.path = .nport → t.n.port.out = some (0x50, tag, respBody op 0x14 key [])) ∧
    (rq.path = .can → (w.n.can.tx.filter TxFrame.refusal).length < 4 →
      t.n.can.tx = w.n.can.tx ++ [⟨4, client, 0, tag, none, true, respHead op 0x14 key⟩])) ∧
  (∀ (s : State) (rq : Rq) (key : Nat) (op : DapOp) (client tag : Nat) (w : Node),
    (rq.path = .chain ∨ opcodeOf op ≠ 5) → s.node.arrival rq op = some (client, tag, w) →
    s.node.n.pow.entering = none → w.sessionOf rq.path client = none → w.freeSession = none →
    Gives (requestRow rq key op) s fun t =>
    t.n.dict.txns = s.node.n.dict.txns ∧ t.n.dict.sessions = s.node.n.dict.sessions ∧ t.stored = s.node.stored ∧
    t.n.ret.epoch = s.node.n.ret.epoch ∧ t.n.faults.cond.getLsbD 15 = s.node.n.faults.cond.getLsbD 15 ∧
    (s.node.n.faults.status.getLsbD 15 = false → t.n.faults.status.getLsbD 15 = true) ∧
    (rq.path = .nport → t.n.port.out = some (0x50, tag, respBody op 0x15 key [])) ∧
    (rq.path = .can → (w.n.can.tx.filter TxFrame.refusal).length < 4 →
      (⟨4, client, 0, tag, none, true, respHead op 0x15 key⟩ : TxFrame) ∈ t.n.can.tx)) ∧
  (∀ (s : State) (rq : Rq) (key : Nat) (op : DapOp) (client tag i : Nat) (w : Node),
    (rq.path = .chain ∨ opcodeOf op ≠ 5) → s.node.arrival rq op = some (client, tag, w) →
    s.node.n.pow.entering = none → w.sessionOf rq.path client = some i →
    (16 ≤ w.n.dict.txns.length ∨ 4 ≤ (w.flightOf i).length ∨ (w.n.dict.run.isSome = true ∧ DapOp.changes op = true)) →
    Gives (requestRow rq key op) s fun t =>
    t.n.dict.txns = s.node.n.dict.txns ∧ t.stored = s.node.stored ∧ t.n.ret = s.node.n.ret ∧ t.n.faults = s.node.n.faults ∧
    t.n.dict.run = s.node.n.dict.run ∧
    (rq.path = .nport → t.n.port.out = some (0x50, tag, respBody op 0x01 key [])))

/-- R83, R85, R91, R96: word reads and writes, and select reads. -/
def Obligations.WordReadsAndWrites : Prop :=
  (∀ (s : State) (rq : Rq) (key : Nat) (row : KeyRow) (u : Node) (x : Txn),
    s.node.accepts rq key .read = some (u, x) → u.passes x = some row → row.home = .n → sessionValue key = none →
    Gives (.read rq key) s fun t =>
    t.answer x = some (0x00, wordBytes row.type (u.readWord x.session x.sels row key)) ∧ t.stored = s.node.stored ∧ t.f = s.node.f) ∧
  (∀ (s : State) (rq : Rq) (key st : Nat) (u : Node) (x : Txn),
    s.node.accepts rq key .read = some (u, x) → u.refusal x = some st →
    Gives (.read rq key) s fun t =>
    t.answer x = some (st, []) ∧ t.stored = s.node.stored ∧ t.f = s.node.f) ∧
  (∀ (s : State) (rq : Rq) (key : Nat) (row : KeyRow) (u : Node) (x : Txn),
    s.node.accepts rq key .read = some (u, x) → u.passes x = some row → (sessionValue key).isSome = true →
    Gives (.read rq key) s fun t =>
    t.answer x = some (0x00, wordBytes row.type (selOf (u.selectsOf x.session) key)) ∧ t.stored = s.node.stored ∧ t.f = s.node.f) ∧
  (∀ (s : State) (rq : Rq) (key : Nat) (row : KeyRow) (u : Node) (x : Txn),
    s.node.accepts rq key .read = some (u, x) → u.passes x = some row → row.home = .f → sessionValue key = none →
    Gives (.read rq key) s fun t =>
    (s.node.trained = true → t.f.inbox = s.node.f.inbox ++ [(x, true)] ∧ (t.txn x.session x.tag).map Txn.stage = some .toF) ∧
    (s.node.trained = false → t.answer x = some (0x30, []) ∧ t.f.inbox = s.node.f.inbox.map fun e =>
      if e.1.session = x.session ∧ e.1.tag = x.tag then (e.1, false) else e)) ∧
  (∀ (s : State) (rq : Rq) (key st : Nat) (v : Val) (u : Node) (x : Txn),
    s.node.accepts rq key (.write v) = some (u, x) → u.refusal x = some st →
    Gives (.write rq key v) s fun t =>
    t.answer x = some (st, []) ∧ t.stored = s.node.stored ∧ t.f = s.node.f) ∧
  (∀ (s : State) (rq : Rq) (key st : Nat) (v : Val) (row : KeyRow) (u : Node) (x : Txn),
    s.node.accepts rq key (.write v) = some (u, x) → u.passes x = some row → row.home = .n → sessionValue key = none →
    u.wordRefusal x row (valNumber v) = some st →
    Gives (.write rq key v) s fun t =>
    t.answer x = some (st, []) ∧ t.stored = s.node.stored ∧ t.f.ch = s.node.f.ch) ∧
  (∀ (s : State) (rq : Rq) (key n : Nat) (row : KeyRow) (u : Node) (x : Txn),
    s.node.accepts rq key (.write (.word n)) = some (u, x) →
    key = 0x0011 ∨ key = 0x0028 ∨ key = 0x0029 ∨ key = 0x002A ∨ key = 0x002C ∨ key = 0x1004 → keyRow key = some row →
    s.node.n.dev = .setup → within row.lo row.hi (n % 16777216) = true →
    Gives (.write rq key (.word n)) s fun t =>
    t.answer x = some (0x00, []) ∧ t.val key = n % 16777216 ∧ t.blobs = s.node.blobs ∧
    t.nLedger = s.node.nLedger ∧ t.fLedger = s.node.fLedger ∧ t.n.dict.unsaved = s.node.n.dict.unsaved ||| partsOf key ∧ t.f = s.node.f) ∧
  (∀ (s : State) (rq : Rq) (key n : Nat) (u : Node) (x : Txn),
    s.node.accepts rq key (.write (.word n)) = some (u, x) → (sessionValue key).isSome = true → s.node.n.dev ≠ .boot →
    s.node.n.dev ≠ .sealed → selectOk key (n % 16777216) = true →
    Gives (.write rq key (.word n)) s fun t =>
    t.answer x = some (0x00, []) ∧ selOf (t.selectsOf x.session) key = n % 16777216 ∧ t.stored = s.node.stored ∧ t.f = s.node.f) ∧
  (∀ (s : State) (rq : Rq) (pairs : List (Nat × Nat)) (key : Nat) (row : KeyRow) (u : Node) (x : Txn),
    s.node.accepts rq key (.selectRead pairs) = some (u, x) → u.passes x = some row →
    (pairs.all fun p => selectKeys.contains p.1 && selectOk p.1 p.2) = false →
    Gives (.selectRead rq pairs key) s fun t =>
    t.answer x = some (0x13, []) ∧ t.selectsOf x.session = u.selectsOf x.session ∧ t.stored = s.node.stored ∧ t.f = s.node.f) ∧
  (∀ (s : State) (rq : Rq) (a v key : Nat) (row : KeyRow) (u : Node) (x : Txn),
    s.node.accepts rq key (.selectRead [(a, v)]) = some (u, x) → u.passes x = some row → row.home = .n →
    sessionValue key = none → selectKeys.contains a = true → selectOk a v = true →
    Gives (.selectRead rq [(a, v)] key) s fun t =>
    t.answer x = some (0x00, wordBytes row.type (u.readWord x.session (tset ((sessionValue a).getD 0) x.sels a v) row key)) ∧
    selOf (t.selectsOf x.session) a = v ∧ t.stored = s.node.stored ∧ t.f = s.node.f)

/-- R126 to R128: block reads and block writes. -/
def Obligations.BlockReadsAndWrites : Prop :=
  (∀ (s : State) (rq : Rq) (key offset length : Nat) (row : KeyRow) (u : Node) (x : Txn),
    s.node.accepts rq key (.readBlock offset length) = some (u, x) → u.passes x = some row → row.home = .n →
    row.persist = .s →
    Gives (.readBlock rq key offset length) s fun t =>
    t.answer x = some (if length = 0 ∨ 4096 < length ∨ (u.readBlob x.sels key).length < offset then (0x13, [])
      else (0x00, slice (u.readBlob x.sels key) offset length)) ∧ t.stored = s.node.stored ∧ t.f = s.node.f) ∧
  (∀ (s : State) (rq : Rq) (seg : Segment) (u : Node) (x : Txn),
    s.node.accepts rq 0x0019 (.writeBlock seg) = some (u, x) → s.node.n.dev = .setup → seg.number = 0 →
    seg.more = false → seg.total = seg.data.length → seg.total ≤ 32 →
    Gives (.writeBlock rq 0x0019 seg) s fun t =>
    (t.txn x.session x.tag).map (fun y => (y.stage, y.status)) = some (.done, 0x00) ∧ t.blob 0x0019 = seg.data ∧ t.vals = s.node.vals ∧
    t.nLedger = s.node.nLedger ∧ t.fLedger = s.node.fLedger ∧ t.f = s.node.f) ∧
  (∀ (s : State) (rq : Rq) (seg : Segment) (u : Node) (x : Txn),
    s.node.accepts rq 0x0019 (.writeBlock seg) = some (u, x) → s.node.n.dev = .setup → seg.number = 0 →
    seg.more = true → seg.full = true → seg.data.length ≤ seg.total → seg.total ≤ 32 →
    Gives (.writeBlock rq 0x0019 seg) s fun t =>
    (t.txn x.session x.tag).map Txn.stage = some (.collecting seg.total 1 seg.data) ∧ t.stored = s.node.stored ∧ t.f = s.node.f) ∧
  (∀ (s : State) (rq : Rq) (seg : Segment) (u : Node) (x : Txn),
    s.node.accepts rq 0x0019 (.writeBlock seg) = some (u, x) → s.node.n.dev ≠ .boot →
    (seg.number ≠ 0 ∨ (seg.more = true ∧ seg.full = false) ∨ seg.total < seg.data.length ∨ 32 < seg.total) →
    s.node.n.dev = .setup →
    Gives (.writeBlock rq 0x0019 seg) s fun t =>
    t.answer x = some (0x12, []) ∧ t.stored = s.node.stored ∧ t.f = s.node.f) ∧
  (∀ (s : State) (rq : Rq) (seg : Segment) (client tag total next : Nat) (bytes : List Byte) (w : Node) (x : Txn),
    s.node.wellFormedAt rq (.writeBlock seg) = some (client, tag, w) →
    w.collecting rq.path client tag = some (x, total, next, bytes) → w.txn x.session x.tag = some x → x.key = 0x0019 →
    s.node.n.dev = .setup → seg.number = next → seg.more = false → bytes.length + seg.data.length = total →
    Gives (.writeBlock rq 0x0019 seg) s fun t =>
    (t.txn x.session x.tag).map (fun y => (y.stage, y.status)) = some (.done, 0x00) ∧ t.blob 0x0019 = bytes ++ seg.data ∧
    t.vals = s.node.vals ∧ t.nLedger = s.node.nLedger ∧ t.fLedger = s.node.fLedger ∧ t.f = s.node.f) ∧
  (∀ (s : State) (rq : Rq) (key : Nat) (seg : Segment) (client tag total next : Nat) (bytes : List Byte) (w : Node) (x : Txn),
    s.node.wellFormedAt rq (.writeBlock seg) = some (client, tag, w) →
    w.collecting rq.path client tag = some (x, total, next, bytes) → w.txn x.session x.tag = some x →
    (key ≠ x.key ∨ seg.number ≠ next) →
    Gives (.writeBlock rq key seg) s fun t =>
    t.answer x = some (0x12, []) ∧ t.stored = s.node.stored ∧ t.f.ch = s.node.f.ch) ∧
  (∀ (s : State) (session tag total next : Nat) (bytes : List Byte) (x : Txn),
    s.node.nUp = true → s.node.txn session tag = some x → x.stage = .collecting total next bytes → x.path ≠ .chain →
    Gives (.blockWriteTimeout session tag) s fun t =>
    (x.path = .nport ∨ x.path = .can → t.answer x = some (0x12, [])) ∧ t.stored = s.node.stored ∧ t.f.ch = s.node.f.ch)

/-- R86, R89, R93: the later events of a transaction. -/
def Obligations.TransactionEvents : Prop :=
  (∀ (s : State) (i : Nat), s.node.nUp = true → 1 ≤ i → i ≤ 6 → s.node.flightOf i = [] → Gives (.sessionIdleRelease i) s fun t =>
    tget? t.n.dict.sessions i = none ∧ (∀ j, j ≠ i → tget? t.n.dict.sessions j = tget? s.node.n.dict.sessions j) ∧
    t.n.dict.txns = s.node.n.dict.txns ∧ t.n.ret.epoch = s.node.n.ret.epoch ∧ t.stored = s.node.stored ∧ t.f = s.node.f) ∧
  (∀ (s : State) (x : Txn),
    s.node.nUp = true → s.node.txn x.session x.tag = some x → (x.stage = .toF ∨ x.stage = .atF ∨ x.stage = .fromF) →
    s.node.partReturned x.session x.tag = false → x.path ≠ .internal →
    Gives (.remoteAnswerTimeout x.session x.tag) s fun t =>
    (x.path ≠ .chain → t.answer x = some (0x30, [])) ∧ t.f.ch = s.node.f.ch ∧ t.stored = s.node.stored ∧ (∀ e ∈ t.f.inbox, e.1.session = x.session → e.1.tag = x.tag → e.2 = false)) ∧
  (∀ (s : State) (x y : Txn) (rest : List (Txn × Bool)) (row : KeyRow),
    s.node.f.inbox = (x, true) :: rest → s.node.hubReceives .f = true →
    s.node.unsent .n (.request x.session x.tag) = false → s.node.trained = true → x.op = .read →
    keyRow x.key = some row → s.node.txn x.session x.tag = some y →
    Gives (.fKeyTransaction x.session x.tag) s fun t =>
    (t.txn x.session x.tag).map (fun z => (z.stage, z.status, z.data)) =
      some (.fromF, 0x00, wordBytes row.type (s.node.readWord x.session x.sels row x.key)) ∧
    t.f.inbox = rest ∧ t.stored = s.node.stored) ∧
  (∀ (s : State) (x : Txn),
    s.node.hubReceives .n = true → s.node.unsent .f (.result x.session x.tag) = false →
    s.node.txn x.session x.tag = some x → x.stage = .fromF → (x.path = .nport ∨ x.path = .can) →
    Gives (.fKeyResult x.session x.tag) s fun t =>
    t.answer x = some (x.status, x.data) ∧ t.stored = s.node.stored ∧ t.f.ch = s.node.f.ch)

/-- R98 to R101, R110, R295: the device state and the session keys. -/
def Obligations.DeviceStateRequests : Prop :=
  (∀ (s : State) (rq : Rq) (arg : Option Nat) (u : Node) (x : Txn),
    s.node.accepts rq 0x0015 (.command arg) = some (u, x) → (s.node.n.dev = .boot ∨ s.node.n.dev = .sealed) →
    Gives (.stateRequest rq arg) s fun t =>
    t.answer x = some (0x14, []) ∧ t.n.dev = s.node.n.dev ∧ t.n.lastTransition = s.node.n.lastTransition ∧ t.stored = s.node.stored) ∧
  (∀ (s : State) (rq : Rq) (a : Nat) (u : Node) (x : Txn),
    s.node.accepts rq 0x0015 (.command (some a)) = some (u, x) → s.node.n.dev ≠ .boot → s.node.n.dev ≠ .sealed →
    a < 16777216 → (a = 0 ∨ 3 < a) →
    Gives (.stateRequest rq (some a)) s fun t =>
    t.answer x = some (0x13, []) ∧ t.n.dev = s.node.n.dev ∧ t.n.lastTransition = s.node.n.lastTransition ∧ t.stored = s.node.stored) ∧
  (∀ (s : State) (rq : Rq) (a : Nat) (u : Node) (x : Txn),
    s.node.accepts rq 0x0015 (.command (some a)) = some (u, x) → 1 ≤ a → a ≤ 3 → s.node.n.dev = devOfCode a →
    Gives (.stateRequest rq (some a)) s fun t =>
    t.answer x = some (0x00, []) ∧ t.n.dev = s.node.n.dev ∧ t.n.lastTransition = s.node.n.lastTransition ∧ t.stored = s.node.stored) ∧
  (∀ (s : State) (rq : Rq) (u : Node) (x : Txn),
    s.node.accepts rq 0x0015 (.command (some 2)) = some (u, x) →
    (s.node.n.dev = .setup ∧ s.node.runAllowed = false ∨ s.node.n.dev = .safeHold ∧ u.holdBars = true) →
    Gives (.stateRequest rq (some 2)) s fun t =>
    t.answer x = some (0x14, []) ∧ t.n.dev = s.node.n.dev ∧ t.n.lastTransition = s.node.n.lastTransition ∧ t.stored = s.node.stored) ∧
  (∀ (s : State) (rq : Rq) (a : Nat) (u : Node) (x : Txn),
    s.node.accepts rq 0x0015 (.command (some a)) = some (u, x) → s.node.n.dev ≠ .boot → s.node.n.dev ≠ .sealed →
    1 ≤ a → a ≤ 3 → s.node.n.dev ≠ devOfCode a →
    (a = 2 → u.runAllowed = true ∧ (s.node.n.dev = .safeHold → u.holdBars = false)) →
    Gives (.stateRequest rq (some a)) s fun t =>
    t.answer x = some (0x00, []) ∧ t.n.dev = devOfCode a ∧ t.n.lastTransition = transitionWord s.node.n.dev 1 0 x.session ∧
    t.stored = s.node.stored ∧ t.nLedger = s.node.nLedger ∧ t.f = s.node.f) ∧
  (∀ (s : State) (st : DevState), s.node.hubReceives .f = true → Gives (.deviceStateFrame st) s fun t =>
    t.f.dev = st ∧ (st = .safeHold → t.f.ch.hold = true) ∧ (st = .sealed → t.f.ch.sealed = true) ∧
    (s.node.f.dev = .safeHold → st ≠ .safeHold → t.f.ch.hold = false) ∧ t.f.ch.map = s.node.f.ch.map ∧ t.n.dev = s.node.n.dev ∧ t.stored = s.node.stored) ∧
  (∀ (s : State) (rq : Rq) (u : Node) (x : Txn),
    s.node.accepts rq 0x1008 (.command none) = some (u, x) → s.node.n.dev ≠ .boot →
    Gives (.releaseOwnSession rq) s fun t =>
    t.answer x = some (0x00, []) ∧ (1 ≤ x.session → (tget? t.n.dict.sessions x.session).map Session.releasing =
      (tget? u.n.dict.sessions x.session).map fun _ => true) ∧ (x.session = 0 → t.n.dict.sessions = u.n.dict.sessions) ∧
    t.n.dev = s.node.n.dev ∧ t.stored = s.node.stored ∧ t.f = s.node.f) ∧
  (∀ (s : State) (rq : Rq) (u : Node) (x : Txn),
    s.node.accepts rq 0xF003 (.command none) = some (u, x) → s.node.n.dev ≠ .boot →
    Gives (.sealQuery rq) s fun t =>
    t.answer x = some (0x00, leBytes 3 s.node.sealWord) ∧ t.n.dev = s.node.n.dev ∧ t.n.ret.seals = s.node.n.ret.seals ∧
    t.stored = s.node.stored ∧ t.f = s.node.f)

/-- R107: die resets. -/
def Obligations.DieResets : Prop :=
  (∀ (s : State) (rq : Rq) (a : Nat) (u : Node) (x : Txn),
    s.node.accepts rq 0xF002 (.command (some a)) = some (u, x) → s.node.n.dev ≠ .boot → a ≤ 2 →
    Gives (.dieReset rq (some a)) s fun t =>
    t.answer x = some (0x00, []) ∧ t.n.dict.resetOrder = some a ∧ t.n.phase = s.node.n.phase ∧ t.f = s.node.f ∧ t.stored = s.node.stored) ∧
  (∀ (s : State) (rq : Rq) (a : Nat) (u : Node) (x : Txn),
    s.node.accepts rq 0xF002 (.command (some a)) = some (u, x) → s.node.n.dev ≠ .boot → 2 < a → a < 16777216 →
    Gives (.dieReset rq (some a)) s fun t =>
    t.answer x = some (0x13, []) ∧ t.n.dict.resetOrder = s.node.n.dict.resetOrder ∧ t.f = s.node.f ∧ t.stored = s.node.stored) ∧
  (∀ (s : State) (a : Nat),
    s.node.n.dict.resetOrder = some a → s.node.nUp = true → s.node.n.dict.resetDue = true →
    Gives .dieResetBegin s fun t =>
    (a ≠ 1 → t.n.phase = .starting ∧ t.n.cause = 3 ∧ t.n.dict = {} ∧ t.n.faults = {} ∧ t.n.clasp = {} ∧ t.n.dev = .boot) ∧
    (a ≠ 0 → t.f.phase = .starting ∧ t.f.cause = 2 ∧ t.f.faults = {} ∧ t.f.clasp = {} ∧ t.f.chain = {}) ∧
    (a = 0 → t.f.phase = s.node.f.phase) ∧ (a = 1 → t.n.phase = .ready ∧ t.n.dev = s.node.n.dev ∧ t.n.dict.resetOrder = none ∧
      t.n.dict.sessions = s.node.n.dict.sessions ∧ t.n.faults = s.node.n.faults) ∧
    t.nLedger = s.node.nLedger ∧ t.fLedger = s.node.fLedger)

/-- R103, R104: saves. -/
def Obligations.SaveCommitsParts : Prop :=
  (∀ (s : State) (rq : Rq) (a : Nat) (u : Node) (x : Txn),
    s.node.accepts rq 0xF000 (.command (some a)) = some (u, x) → s.node.n.dev = .setup → a ≤ 15 →
    (namesF (saveMask a) = true → s.node.trained = true) →
    Gives (.save rq (some a)) s fun t =>
    t.n.dict.run = some (.saving (if a = 0 then 15 else a) s.node.vals s.node.blobs) ∧
    (t.txn x.session x.tag).map Txn.stage = some .running ∧ t.stored = s.node.stored ∧ t.f = s.node.f) ∧
  (∀ (s : State) (rq : Rq) (a : Nat) (u : Node) (x : Txn),
    s.node.accepts rq 0xF000 (.command (some a)) = some (u, x) → (s.node.n.dev = .run ∨ s.node.n.dev = .safeHold) →
    Gives (.save rq (some a)) s fun t =>
    t.answer x = some (0x14, []) ∧ t.n.dict.run = none ∧ t.stored = s.node.stored ∧ t.f = s.node.f) ∧
  (∀ (s : State) (rq : Rq) (a : Nat) (u : Node) (x : Txn),
    s.node.accepts rq 0xF000 (.command (some a)) = some (u, x) → s.node.n.dev = .setup → a < 16777216 →
    (15 < a ∨ namesF (saveMask a) = true ∧ s.node.trained = false) →
    Gives (.save rq (some a)) s fun t =>
    t.answer x = some (if 15 < a then 0x13 else 0x30, []) ∧ t.n.dict.run = none ∧ t.stored = s.node.stored) ∧
  (∀ (s : State) (failed : BitVec 4) (mask : Nat) (vals : Tab Nat) (blobs : Tab (List Byte)),
    s.node.nUp = true → s.node.n.dict.run = some (.saving mask vals blobs) → mask ≤ 15 →
    Gives (.saveComplete failed) s fun t =>
    t.n.dict.run = none ∧ t.vals = s.node.vals ∧ t.blobs = s.node.blobs ∧
    t.nLedger.area = (if bit mask 0 && !failed.getLsbD 0 then { valid := true, vals := savable .n vals, blobs := savable .n blobs } else s.node.nLedger.area) ∧
    t.fLedger.area = (if bit mask 1 && !failed.getLsbD 1 then { valid := true, vals := savable .f vals, blobs := savable .f blobs } else s.node.fLedger.area) ∧
    t.nLedger.row = (if bit mask 2 && !failed.getLsbD 2 then nRowOf { s.node with vals := vals, blobs := blobs } else s.node.nLedger.row) ∧
    t.fLedger.row = (if bit mask 3 && !failed.getLsbD 3 then fRowOf { s.node with vals := vals, blobs := blobs } else s.node.fLedger.row))

/-- R105: restores. -/
def Obligations.RestoreStages : Prop :=
  (∀ (s : State) (rq : Rq) (a : Nat) (u : Node) (x : Txn),
    s.node.accepts rq 0xF001 (.command (some a)) = some (u, x) → s.node.n.dev = .setup → a ≤ 1 →
    s.node.trained = true →
    Gives (.restore rq (some a)) s fun t =>
    t.n.dict.run = some (.gather a) ∧ (t.txn x.session x.tag).map Txn.stage = some .running ∧ t.stored = s.node.stored ∧ t.f = s.node.f) ∧
  (∀ (s : State) (rq : Rq) (a : Nat) (u : Node) (x : Txn),
    s.node.accepts rq 0xF001 (.command (some a)) = some (u, x) →
    (s.node.n.dev = .run ∨ s.node.n.dev = .safeHold ∨ s.node.n.dev = .setup ∧ a < 16777216 ∧ (1 < a ∨ s.node.trained = false)) →
    Gives (.restore rq (some a)) s fun t =>
    t.answer x = some (if s.node.n.dev ≠ .setup then 0x14 else if 1 < a then 0x13 else 0x30, []) ∧
    t.n.dict.run = none ∧ t.stored = s.node.stored) ∧
  (∀ (s : State) (arg : Nat), s.node.n.dict.run = some (.gather arg) → s.node.hubReceives .n = true → Gives .restoreApplyAck s fun t =>
    (t.n.dict.run = some (.apply arg true) ∨ t.n.dict.run = some (.apply arg false)) ∧
    t.nLedger = s.node.nLedger ∧ t.fLedger = s.node.fLedger ∧
    (s.node.vals = (restored arg s.node).vals → s.node.blobs = (restored arg s.node).blobs →
      t.vals = s.node.vals ∧ t.blobs = s.node.blobs ∧ t.n.dict.run = some (.apply arg false))) ∧
  (∀ (s : State) (failed : BitVec 4) (reported left : Bool) (arg : Nat),
    s.node.nUp = true → s.node.n.dict.run = some (.apply arg left) →
    Gives (.restoreComplete failed reported) s fun t =>
    t.n.dict.run = none ∧ t.vals = s.node.vals ∧ t.blobs = s.node.blobs ∧
    (arg ≠ 1 → t.nLedger = s.node.nLedger ∧ t.fLedger = s.node.fLedger) ∧
    (arg = 1 → t.nLedger.area = (if failed.getLsbD 0 then s.node.nLedger.area else {}) ∧
      t.fLedger.area = (if failed.getLsbD 1 then s.node.fLedger.area else {}) ∧
      t.nLedger.row = (if failed.getLsbD 2 then s.node.nLedger.row else factoryRow) ∧
      t.fLedger.row = (if failed.getLsbD 3 then s.node.fLedger.row else factoryRow)))

/-- R105: restored values of plain saved keys. -/
def Obligations.RestoreBringsStoredValues : Prop :=
  ∀ (s : State) (arg key : Nat) (row : KeyRow),
    s.node.n.dict.run = some (.gather arg) → s.node.hubReceives .n = true → s.node.settingsOk = true →
    (key = 0x0028 ∨ key = 0x1004 ∨ key = 0x0011) → keyRow key = some row →
    within row.lo row.hi ((restored arg s.node).val key) = true →
    Gives .restoreApplyAck s fun t =>
    t.val key = (restored arg s.node).val key ∧ t.nLedger = s.node.nLedger ∧ t.fLedger = s.node.fLedger

/-- R114, R119, R134 to R136: states of the CAN port. -/
def Obligations.CanErrorStates : Prop :=
  (∀ (s : State), s.node.canOn = true → Gives .protocolException s fun t =>
    t.n.can.state = .integrating ∧ t.n.can.exception = true ∧ t.n.can.tx = s.node.n.can.tx ∧ t.latched .n 15 = true ∧ t.stored = s.node.stored ∧ t.n.dict = s.node.n.dict) ∧
  (∀ (s : State) (tec rc : Nat), s.node.nUp = true → s.node.n.can.state = .active → Gives (.errorPassiveEntry tec rc) s fun t =>
    t.n.can.state = .passive ∧ t.n.can.tecCount = tec ∧ t.n.can.recCount = rc ∧ t.n.can.tx = s.node.n.can.tx ∧
    became .n 12 true s.node t ∧ t.stored = s.node.stored ∧ t.n.dict = s.node.n.dict) ∧
  (∀ (s : State) (tec rc : Nat), s.node.nUp = true → s.node.n.can.state = .passive → Gives (.errorActiveReturn tec rc) s fun t =>
    t.n.can.state = .active ∧ t.n.can.tecCount = tec ∧ t.n.can.recCount = rc ∧ t.n.can.tx = s.node.n.can.tx ∧
    became .n 12 false s.node t ∧ t.f = s.node.f ∧ t.stored = s.node.stored ∧ t.n.dict = s.node.n.dict) ∧
  (∀ (s : State), s.node.nUp = true → s.node.n.can.state ≠ .busOff → s.node.n.can.state ≠ .stopped → Gives .busOffEntry s fun t =>
    t.n.can.state = .busOff ∧ t.n.can.tecCount = 255 ∧ t.n.can.tx = [] ∧ t.n.can.recovering = (s.node.val 0x1104 == 0) ∧
    t.n.can.tunnelFirst = [] ∧ became .n 13 true s.node t ∧ t.conditionOn .n 12 = false ∧ t.stored = s.node.stored) ∧
  (∀ (s : State), s.node.nUp = true → s.node.n.can.state = .busOff → s.node.n.can.recovering = true → Gives .busOffRecovered s fun t =>
    t.n.can.state = .active ∧ t.n.can.tecCount = 0 ∧ t.n.can.recCount = 0 ∧ t.n.can.recovering = false ∧ t.n.can.detour = none ∧
    became .n 13 false s.node t ∧ t.n.can.alerts.map (fun q => q.alert) = s.node.n.can.alerts.map (fun q => Alert.withFlags q.alert 1) ∧
    (s.node.n.bar.bulk = none → t.n.can.tx = s.node.n.can.tx) ∧ t.f = s.node.f ∧ t.stored = s.node.stored ∧ t.n.dict = s.node.n.dict) ∧
  (∀ (s : State), s.node.nUp = true → s.node.n.can.state = .integrating → Gives .busIntegrationEnd s fun t =>
    t.n.can.state = (if s.node.conditionOn .n 12 then .passive else .active) ∧ t.n.can.tx = s.node.n.can.tx ∧ t.f = s.node.f ∧ t.n.faults = s.node.n.faults ∧ t.stored = s.node.stored ∧ t.n.dict = s.node.n.dict)

/-- R116 to R119, R135, R143, R523: transceiver, rates, recovery and wake-up. -/
def Obligations.CanTransceiverAndRates : Prop :=
  (∀ (s : State) (cause : TransceiverCause), s.node.nUp = true → Gives (.transceiverFault cause) s fun t =>
    t.n.can.driver = false ∧ t.n.can.txvr = s.node.n.can.txvr ||| BitVec.ofNat 3 (2 ^ TransceiverCause.code cause) ∧
    became .n 14 true s.node t ∧ t.n.can.state = s.node.n.can.state ∧ t.n.can.tx = s.node.n.can.tx ∧ t.stored = s.node.stored ∧ t.n.dict = s.node.n.dict) ∧
  (∀ (s : State), s.node.nUp = true → Gives .transceiverReenable s fun t =>
    t.n.can.driver = true ∧ t.n.can.txvr = 0 ∧ became .n 14 false s.node t ∧ t.n.can.state = s.node.n.can.state ∧ t.f = s.node.f ∧ t.stored = s.node.stored ∧ t.n.dict = s.node.n.dict) ∧
  (∀ (s : State) (rq : Rq) (data : Bool) (n : Nat) (row : KeyRow) (u : Node) (x : Txn),
    s.node.accepts rq (if data then 0x1101 else 0x1100) (.write (.word n)) = some (u, x) → s.node.n.dev = .setup →
    keyRow (if data then 0x1101 else 0x1100) = some row → u.wordRefusal x row (n % 16777216) = none →
    Gives (.rateWrite rq data (.word n)) s fun t =>
    t.answer x = some (0x00, []) ∧ t.val (if data then 0x1101 else 0x1100) = n % 16777216 ∧ t.n.can.rateDue = true ∧
    t.n.can.nominal = s.node.n.can.nominal ∧ t.n.can.dataRate = s.node.n.can.dataRate ∧ t.n.can.state = s.node.n.can.state ∧
    t.blobs = s.node.blobs ∧ t.nLedger = s.node.nLedger ∧ t.fLedger = s.node.fLedger ∧ t.f = s.node.f) ∧
  (∀ (s : State),
    s.node.nUp = true → s.node.n.can.rateDue = true → s.node.keyInFlight 0x1100 = false →
    s.node.keyInFlight 0x1101 = false → s.node.keyInFlight 0xF001 = false →
    Gives .rateApply s fun t =>
    t.n.can.rateDue = false ∧ t.n.can.nominal = s.node.nominalCode ∧ t.n.can.dataRate = (if 3 ≤ s.node.dataCode ∧ s.node.n.crystal = false then 2 else s.node.dataCode) ∧
    t.n.can.reduced = (decide (3 ≤ s.node.dataCode) && !s.node.n.crystal) ∧
    t.n.can.state = (if s.node.n.can.state = .busOff then .busOff else .integrating) ∧ t.n.can.tx = s.node.n.can.tx ∧
    t.f = s.node.f ∧ t.n.faults = s.node.n.faults ∧ t.stored = s.node.stored ∧ t.n.dict = s.node.n.dict) ∧
  (∀ (s : State) (rq : Rq) (u : Node) (x : Txn),
    s.node.accepts rq 0x1105 (.command none) = some (u, x) → s.node.n.dev ≠ .boot →
    Gives (.recoverNow rq) s fun t =>
    t.answer x = some (0x00, []) ∧ t.n.can.recovering = (if s.node.n.can.state = .busOff then true else s.node.n.can.recovering) ∧
    t.n.can.state = s.node.n.can.state ∧ t.n.dev = s.node.n.dev ∧ t.stored = s.node.stored ∧ t.f = s.node.f) ∧
  (∀ (s : State) (rq : Rq) (u : Node) (x : Txn), s.node.accepts rq 0x1110 .read = some (u, x) → Gives (.canStatusRead rq) s fun t =>
    t.answer x = some (0x00, leBytes 3 s.node.canStatus) ∧ t.n.can.exception = false ∧ t.n.can.state = s.node.n.can.state ∧
    t.stored = s.node.stored ∧ t.f = s.node.f) ∧
  (∀ (s : State), s.node.n.phase = .standby → s.node.n.pow.wakes.getLsbD 2 = true → Gives .canWakeWup s fun t =>
    t.n.phase ≠ .standby ∧ t.nLedger = s.node.nLedger ∧ t.fLedger = s.node.fLedger) ∧
  (∀ (s : State), s.node.n.phase = .standby → s.node.n.pow.wakes.getLsbD 2 = false → Gives .canWakeWup s fun t =>
    t = s.node)

/-- R124, R131, R343: transmit buffers. -/
def Obligations.CanTransmitBuffers : Prop :=
  (∀ (s : State) (cls : Nat) (f : TxFrame),
    s.node.nUp = true → cls ≠ 0 → s.node.n.can.tx.find? (fun g => g.cls == cls) = some f →
    Gives (.txWaitTimeout cls) s fun t =>
    t.n.can.tx = dropFirst (fun g => g.cls == cls) s.node.n.can.tx ∧ t.n.can.alerts = s.node.n.can.alerts ∧
    (f.txn = none → t.n.dict = s.node.n.dict) ∧ t.stored = s.node.stored ∧ t.f = s.node.f ∧ t.n.faults = s.node.n.faults) ∧
  (∀ (s : State) (client tag : Nat) (f : TxFrame) (x : Txn),
    s.node.canSends = true → s.node.n.can.tx.find? (fun g => g.cls == 4 && g.dest == client && g.tag == tag) = some f →
    f.txn = some (x.session, x.tag) → s.node.txn x.session x.tag = some x →
    Gives (.dapResponseAcked client tag) s fun t =>
    t.n.can.tx = dropFirst (fun g => g.cls == 4 && g.dest == client && g.tag == tag) s.node.n.can.tx ∧
    t.n.dict.txns = (if t.n.can.tx.any fun g => g.txn == some (x.session, x.tag) then s.node.n.dict.txns else s.node.n.dict.txns.erase x) ∧
    t.stored = s.node.stored ∧ t.f = s.node.f ∧ t.n.faults = s.node.n.faults) ∧
  (∀ (s : State) (cls : Nat) (f : TxFrame),
    s.node.canSends = true → cls ≠ 0 → cls ≠ 4 → s.node.n.can.tx.find? (fun g => g.cls == cls) = some f →
    Gives (.canFrameSent cls) s fun t =>
    t.n.can.tx = s.node.n.can.tx.erase f ∧ t.n.can.alerts = s.node.n.can.alerts ∧ t.stored = s.node.stored ∧ t.f = s.node.f ∧
    t.n.dict = s.node.n.dict ∧ t.n.faults = s.node.n.faults) ∧
  (∀ (s : State) (q : QueuedAlert), s.node.canSends = true → firstAlert s.node.n.can.alerts = some q → Gives (.canFrameSent 0) s fun t =>
    t.n.can.alerts = s.node.n.can.alerts.erase q ∧ t.n.can.tx = s.node.n.can.tx ∧
    (∀ node, q.relayFor = some node → s.node.trained = true →
      t.sent .n 2 (.chain (chainFrame s.node.n.number node 20 true 0 (leBytes 3 (q.alert.seq % 256 * 65536 + q.alert.origin % 128 * 256)))) = true) ∧
    t.stored = s.node.stored ∧ t.n.dict = s.node.n.dict ∧ t.n.faults = s.node.n.faults)

/-- R138, R140, R343: triggers, tunnelled frames and alerts. -/
def Obligations.CanTriggersTunnelsAndAlerts : Prop :=
  (∀ (s : State) (src dest tag length : Nat) (launch : T48) (list i : Nat),
    s.node.canOn = true → s.node.canAccepts dest = true → src ≠ s.node.n.number → tag < 128 → 8 ≤ length → list < 128 →
    listDie list = .n → s.node.n.dev ≠ .boot → s.node.n.dev ≠ .sealed → before launch (s.node.time .n) = false →
    s.node.listDefined .n list = true → s.node.alreadyArmed .n list launch = false → s.node.freeSlot .n 0 = some i →
    s.node.seqTorn .n = false →
    Gives (.triggerFrame src dest tag length launch list 0) s fun t =>
    (t.slot .n i).list = list ∧ (t.slot .n i).launch = launch ∧ (t.slot .n i).state = .armed ∧ (t.slot .n i).origin = 1 ∧
    (∀ d, (t.die d).ch = (s.node.die d).ch) ∧ t.n.can.tx = s.node.n.can.tx ∧ t.stored = s.node.stored ∧ t.n.dict = s.node.n.dict) ∧
  (∀ (s : State) (src dest tag length : Nat) (launch : T48) (list scope : Nat),
    s.node.canOn = true → s.node.canAccepts dest = true → length < 8 →
    Gives (.triggerFrame src dest tag length launch list scope) s fun t =>
    t.n.seq = s.node.n.seq ∧ t.n.can.tx = s.node.n.can.tx ∧ t.f = s.node.f ∧ t.stored = s.node.stored ∧ t.n.dict = s.node.n.dict) ∧
  (∀ (s : State) (src dest tag : Nat) (words : List Nat),
    s.node.canOn = true → s.node.n.number ≠ 0 → s.node.canAccepts dest = true → s.node.val 0x1102 = 0 →
    s.node.trained = true → words.length = 2 + bits (words.getD 1 0) 23 18 →
    Gives (.chainTunnelFrame src dest 0 tag words) s fun t =>
    t.sent .n 2 (.chain (frameOfWords words)) = true ∧ t.n.can.tunnelFirst = s.node.n.can.tunnelFirst ∧ t.f = s.node.f ∧ t.stored = s.node.stored ∧ t.n.dict = s.node.n.dict) ∧
  (∀ (s : State) (src dest tag : Nat) (words : List Nat),
    s.node.canOn = true → s.node.n.number ≠ 0 → s.node.canAccepts dest = true → s.node.val 0x1102 = 0 →
    Gives (.chainTunnelFrame src dest 1 tag words) s fun t =>
    t.n.can.tunnelFirst = s.node.n.can.tunnelFirst.filter (fun e => !firstOf src dest tag e) ++ [(src, dest, tag, words)] ∧ t.f = s.node.f ∧ t.stored = s.node.stored ∧ t.n.dict = s.node.n.dict) ∧
  (∀ (s : State) (src dest tag : Nat) (first words : List Nat),
    s.node.canOn = true → s.node.n.number ≠ 0 → s.node.canAccepts dest = true → s.node.val 0x1102 = 0 →
    s.node.trained = true → s.node.n.can.tunnelFirst.find? (firstOf src dest tag) = some (src, dest, tag, first) →
    (first ++ words).length = 2 + bits ((first ++ words).getD 1 0) 23 18 →
    Gives (.chainTunnelFrame src dest 2 tag words) s fun t =>
    t.sent .n 2 (.chain (frameOfWords (first ++ words))) = true ∧ t.n.can.tunnelFirst = s.node.n.can.tunnelFirst.filter (fun e => !firstOf src dest tag e) ∧ t.f = s.node.f ∧ t.stored = s.node.stored ∧ t.n.dict = s.node.n.dict) ∧
  (∀ (s : State), s.node.nUp = true → Gives .tunnelPairTimeout s fun t =>
    t.n.can.tunnelFirst = s.node.n.can.tunnelFirst.drop 1 ∧ t.n.can.tx = s.node.n.can.tx ∧ t.f = s.node.f ∧ t.stored = s.node.stored ∧ t.n.dict = s.node.n.dict) ∧
  (∀ (s : State) (src : Nat) (a : Alert),
    s.node.nUp = true → s.node.trained = true → s.node.n.can.alerts.length < 8 →
    Gives (.alert src a) s fun t =>
    t.n.can.alerts.map (fun q => (q.alert, q.relayFor)) = s.node.n.can.alerts.map (fun q => (q.alert, q.relayFor)) ++ [(Alert.withFlags a 2, some src)] ∧
    t.n.can.tx = s.node.n.can.tx ∧ t.f = s.node.f ∧ t.stored = s.node.stored ∧ t.n.dict = s.node.n.dict) ∧
  (∀ (s : State) (src : Nat) (a : Alert),
    s.node.nUp = true → s.node.trained = true → 8 ≤ s.node.n.can.alerts.length →
    Gives (.alert src a) s fun t =>
    t.n.can.alerts = s.node.n.can.alerts ∧ t.f = s.node.f ∧
    t.sent .n 2 (.chain (chainFrame s.node.n.number src 20 true 0 (leBytes 3 (a.seq % 256 * 65536 + a.origin % 128 * 256 + 1)))) = true ∧ t.stored = s.node.stored ∧ t.n.dict = s.node.n.dict) ∧
  (∀ (s : State) (seq origin k : Nat) (refused : Bool),
    s.node.n.can.detour = some (seq, k) → s.node.nUp = true → origin = s.node.n.number → s.node.n.can.state ≠ .busOff →
    Gives (.alertAck seq origin refused) s fun t =>
    t.n.can.detour = none ∧ t.n.can.alerts = (s.node.n.can.alerts.map fun y => if y.alert.seq = seq ∧ refused = false then { y with exhausted := true } else y) ∧
    t.f = s.node.f ∧ t.stored = s.node.stored ∧ t.n.dict = s.node.n.dict) ∧
  (∀ (s : State) (d : Nat × Nat), s.node.nUp = true → s.node.n.can.detour = some d → Gives .detourConfirmTimeout s fun t =>
    (s.node.n.can.state ≠ .busOff ∨ s.node.val 0x1122 = 0 → t.n.can.detour = none ∧ t.n.can.alerts = s.node.n.can.alerts) ∧
    t.n.can.alerts.length = s.node.n.can.alerts.length ∧ t.n.can.tx = s.node.n.can.tx ∧ t.f = s.node.f ∧ t.stored = s.node.stored ∧ t.n.dict = s.node.n.dict) ∧
  (∀ (s : State) (d : Nat × Nat) (q : QueuedAlert) (k : Nat),
    s.node.nUp = true → s.node.n.can.detour = some d → s.node.n.can.state = .busOff → s.node.val 0x1122 = 1 →
    s.node.n.number ≠ 0 → s.node.f.chain.state = .up →
    firstAlert (s.node.n.can.alerts.filter fun q => q.open_ && (s.node.detourFor q).isSome) = some q →
    s.node.detourFor q = some k →
    Gives .detourConfirmTimeout s fun t =>
    t.n.can.detour = some (q.alert.seq, k) ∧
    (s.node.trained = true → t.sent .n 2 (.chain (chainFrame s.node.n.number k 19 true 0 (alertBytes q.alert))) = true))

/-- R151 to R159: responses and frame errors of the N-port. -/
def Obligations.PortFetchRepeatAndErrors : Prop :=
  (∀ (s : State) (tag dest : Nat) (mode3 : Bool) (h : Held),
    s.node.portOn = true → s.node.n.port.selLow = false →
    (selectFrame mode3 6 s.node).portError .good false true tag dest = 0 →
    s.node.n.port.held.find? (fun g => g.tag == tag) = some h →
    Gives (.fetch tag dest .good mode3) s fun t =>
    t.n.port.out = (if h.complete then some (h.header, tag, h.body) else
      some (if h.tunnel then 0x51 else 0x50, tag, s.node.deferredBody h)) ∧
    t.n.port.held = s.node.n.port.held ∧ t.n.dict = s.node.n.dict ∧ t.stored = s.node.stored ∧ t.f = s.node.f) ∧
  (∀ (s : State) (tag dest : Nat) (mode3 : Bool),
    s.node.portOn = true → s.node.n.port.selLow = false →
    (selectFrame mode3 6 s.node).portError .good false true tag dest = 0 →
    s.node.n.port.held.find? (fun g => g.tag == tag) = none →
    Gives (.fetch tag dest .good mode3) s fun t =>
    t.n.port.out = some (0x5C, tag, []) ∧ t.n.port.held = s.node.n.port.held ∧ t.n.dict = s.node.n.dict ∧ t.stored = s.node.stored ∧ t.f = s.node.f) ∧
  (∀ (s : State) (tag dest code : Nat) (form : Form) (mode3 : Bool),
    s.node.portOn = true → (selectFrame mode3 6 s.node).portError form false true tag dest = code → code ≠ 0 →
    Gives (.fetch tag dest form mode3) s fun t =>
    t.n.port.out = some (0x5E, tag, leBytes 1 code) ∧ t.n.port.lastError = code ∧ t.latched .n 16 = true ∧ t.n.dict = s.node.n.dict ∧ t.stored = s.node.stored) ∧
  (∀ (s : State) (tag dest : Nat) (mode3 : Bool),
    s.node.portOn = true → dest ≠ 127 → (dest = 0 ∨ dest = s.node.n.number) →
    Gives (.repeatResponse tag dest .good mode3) s fun t =>
    t.n.port.out = some (match s.node.n.port.last with
      | some (h, k, body) => (h + 8, k, body)
      | none => (0x5C, tag, [])) ∧ t.n.port.last = s.node.n.port.last ∧ t.n.dict = s.node.n.dict ∧ t.stored = s.node.stored ∧ t.f = s.node.f) ∧
  (∀ (s : State) (mode3 : Bool), s.node.portOn = true → Gives (.abortedFrame mode3) s fun t =>
    t.n.port.lastError = 5 ∧ t.n.port.spi3 = mode3 ∧ t.latched .n 16 = true ∧ t.n.dict = s.node.n.dict ∧ t.stored = s.node.stored) ∧
  (∀ (s : State), s.node.nUp = true → s.node.n.port.mode = 1 → Gives .nSelHigh s fun t =>
    t.n.port.out = none ∧ t.n.port.selLow = false ∧ t.n.port.busy = none ∧ (∀ h ∈ s.node.n.port.held, h ∈ t.n.port.held) ∧
    (∀ h tag body, s.node.n.port.out = some (h, tag, body) → isFinal h body = true → ∃ g ∈ t.n.port.held, g.tag = tag) ∧
    t.n.dict = s.node.n.dict ∧ t.n.faults = s.node.n.faults ∧ t.stored = s.node.stored ∧ t.f = s.node.f) ∧
  (∀ (s : State) (h tag : Nat) (body : List Byte),
    s.node.portOn = true → s.node.n.port.out = some (h, tag, body) →
    Gives .responseClockedOut s fun t =>
    t.n.port.out = none ∧ (isFinal h body = false → t.n.port.held = s.node.n.port.held ∧ t.n.dict = s.node.n.dict) ∧
    (isFinal h body = true → (t.n.port.held.any fun g => g.tag == tag) = false ∧
      (h = 0x51 → (t.n.port.tunnels.any fun k => k.tag == tag) = false ∧ t.n.dict = s.node.n.dict) ∧
      (h ≠ 0x51 → (s.node.txn 0 tag).isSome = true → t.n.port.last = some (h, tag, body) ∧
        t.n.dict.txns.length + 1 = s.node.n.dict.txns.length)) ∧ t.stored = s.node.stored ∧ t.f = s.node.f) ∧
  (∀ (s : State) (tag : Nat) (h : Held),
    s.node.nUp = true → s.node.n.port.held.find? (fun g => g.tag == tag) = some h → h.complete = true →
    Gives (.heldResponseDiscard tag) s fun t =>
    (t.n.port.held.any fun g => g.tag == tag) = false ∧ t.latched .n 16 = true ∧
    (h.tunnel = true → (t.n.port.tunnels.any fun k => k.tag == tag) = false ∧ t.n.dict = s.node.n.dict) ∧
    (h.tunnel = false → (s.node.txn 0 tag).isSome = true → t.n.dict.txns.length + 1 = s.node.n.dict.txns.length) ∧ t.stored = s.node.stored)

/-- R162 to R165: tunnel frames. -/
def Obligations.PortTunnels : Prop :=
  (∀ (s : State) (tag dest : Nat) (mode3 : Bool) (body : TunnelBody),
    s.node.portOn = true → body.lengthOk = true → s.node.n.port.selLow = false →
    (selectFrame mode3 8 s.node).portError .good true true tag dest = 0 → s.node.n.port.tunnels.length < 2 →
    (s.node.val 0x1208 = 0 ∨ s.node.n.dev = .boot ∨ s.node.n.dev = .sealed ∨ tunnelFieldsOk body = false) →
    Gives (.tunnel tag dest .good mode3 body) s fun t =>
    t.n.port.out = some (0x51, tag, leBytes 1 (if s.node.val 0x1208 = 0 then 0x11
      else if s.node.n.dev = .boot ∨ s.node.n.dev = .sealed then 0x14 else 0x13)) ∧
    t.n.port.tunnels = s.node.n.port.tunnels ∧ t.n.dict = s.node.n.dict ∧ t.n.faults = s.node.n.faults ∧ t.stored = s.node.stored ∧ t.f = s.node.f) ∧
  (∀ (s : State) (tag dest : Nat) (mode3 : Bool) (body : TunnelBody),
    s.node.portOn = true → body.lengthOk = true → s.node.n.port.selLow = false →
    (selectFrame mode3 8 s.node).portError .good true true tag dest = 0 → s.node.n.port.tunnels.length < 2 →
    s.node.val 0x1208 ≠ 0 → s.node.n.dev ≠ .boot → s.node.n.dev ≠ .sealed → tunnelFieldsOk body = true →
    s.node.valAt 0x7010 (if body.target = 0 then selOf (s.node.selectsOf 0) 0x7000 else body.target) ≠ 0 →
    s.node.trained = true →
    Gives (.tunnel tag dest .good mode3 body) s fun t =>
    t.n.port.out = some (0x51, tag, [2]) ∧ t.sent .n 1 (.tunnel tag) = true ∧
    t.n.port.tunnels = s.node.n.port.tunnels ++ [⟨tag, if body.target = 0 then selOf (s.node.selectsOf 0) 0x7000 else body.target, body, false⟩] ∧
    t.tunnelOpen tag = true ∧ t.n.dict = s.node.n.dict ∧ t.n.faults = s.node.n.faults ∧ t.stored = s.node.stored ∧ t.f = s.node.f) ∧
  (∀ (s : State) (tag dest : Nat) (mode3 : Bool) (body : TunnelBody),
    s.node.portOn = true → body.lengthOk = true → (selectFrame mode3 8 s.node).portError .good true true tag dest = 0 →
    2 ≤ s.node.n.port.tunnels.length →
    Gives (.tunnel tag dest .good mode3 body) s fun t =>
    t.n.port.busy = some (tag, body) ∧ t.n.port.tunnels = s.node.n.port.tunnels ∧ t.n.dict = s.node.n.dict ∧ t.stored = s.node.stored ∧ t.f = s.node.f) ∧
  (∀ (s : State) (tag : Nat) (body : TunnelBody),
    s.node.portOn = true → s.node.n.port.busy = some (tag, body) → s.node.n.port.tunnels.length < 2 →
    s.node.val 0x1208 ≠ 0 → s.node.n.dev ≠ .boot → s.node.n.dev ≠ .sealed → tunnelFieldsOk body = true →
    s.node.valAt 0x7010 (if body.target = 0 then selOf (s.node.selectsOf 0) 0x7000 else body.target) ≠ 0 →
    s.node.trained = true →
    Gives .tunnelAdmitAfterWait s fun t =>
    t.n.port.busy = none ∧ t.n.port.out = some (0x51, tag, [2]) ∧ t.sent .n 1 (.tunnel tag) = true ∧
    t.n.port.tunnels = s.node.n.port.tunnels ++ [⟨tag, if body.target = 0 then selOf (s.node.selectsOf 0) 0x7000 else body.target, body, false⟩] ∧
    t.n.dict = s.node.n.dict ∧ t.stored = s.node.stored ∧ t.f = s.node.f) ∧
  (∀ (s : State) (tag : Nat) (bytes : List Byte), s.node.nUp = true → s.node.tunnelOpen tag = true → Gives (.tunnelComplete tag bytes) s fun t =>
    (t.n.port.held.any fun h => h.tag == tag && h.complete && h.body == leBytes 1 0 ++ bytes.take (s.node.tunnelRead tag)) = true ∧
    t.tunnelOpen tag = false ∧ t.n.port.tunnels = s.node.n.port.tunnels ∧ t.n.dict = s.node.n.dict ∧ t.stored = s.node.stored ∧ t.f = s.node.f) ∧
  (∀ (s : State) (tag : Nat), s.node.nUp = true → s.node.tunnelOpen tag = true → Gives (.tunnelTimeout tag) s fun t =>
    (t.n.port.held.any fun h => h.tag == tag && h.complete && h.body == [0x30]) = true ∧
    t.tunnelOpen tag = false ∧ t.n.port.tunnels = s.node.n.port.tunnels ∧ t.n.dict = s.node.n.dict ∧ t.stored = s.node.stored ∧ t.f = s.node.f)

/-- R146, R161, R167: N-port modes and the end of a master transaction. -/
def Obligations.PortModesAndMaster : Prop :=
  (∀ (s : State) (rq : Rq) (n : Nat) (u : Node) (x : Txn),
    s.node.accepts rq 0x1200 (.write (.word n)) = some (u, x) → s.node.n.dev = .setup → n ≤ 2 →
    Gives (.nportModeWrite rq (.word n)) s fun t =>
    t.answer x = some (0x00, []) ∧ t.val 0x1200 = n ∧ t.n.port.modeDue = some n ∧ t.n.port.mode = s.node.n.port.mode ∧
    t.blobs = s.node.blobs ∧ t.nLedger = s.node.nLedger ∧ t.fLedger = s.node.fLedger ∧ t.f = s.node.f) ∧
  (∀ (s : State) (mode : Nat),
    s.node.nUp = true → s.node.n.port.modeDue = some mode → s.node.keyInFlight 0x1200 = false →
    s.node.keyInFlight 0xF001 = false → mode ≠ s.node.n.port.mode →
    Gives .nportModeApply s fun t =>
    t.n.port.mode = mode ∧ t.n.port.modeDue = none ∧ t.n.port.held = [] ∧ t.n.port.tunnels = [] ∧ t.n.port.out = none ∧
    (mode = 1 → t.n.ret.epoch = (s.node.n.ret.epoch + 1) % 256 ∧
      tget? t.n.dict.sessions 0 = some { path := .nport, client := 0, epoch := (s.node.n.ret.epoch + 1) % 256 }) ∧
    (mode ≠ 1 → t.n.ret.epoch = s.node.n.ret.epoch) ∧
    (s.node.n.port.mode = 1 → t.n.dict.txns = s.node.n.dict.txns.filter fun y => y.session != 0) ∧
    (s.node.n.port.mode = 1 → mode ≠ 1 → tget? t.n.dict.sessions 0 = none) ∧ t.stored = s.node.stored ∧
    (s.node.n.port.master = none ∨ s.node.n.port.mode = 1 → t.n.faults = s.node.n.faults)) ∧
  (∀ (s : State) (bytes : List Byte),
    s.node.nUp = true → s.node.n.port.master.isSome = true → s.node.n.port.starts = [] →
    Gives (.nportMasterEnd bytes) s fun t =>
    t.n.port.master = none ∧ t.n.port.mode = s.node.n.port.mode ∧ t.n.dict = s.node.n.dict ∧ t.stored = s.node.stored)

/-- R178 to R180, R189 to R191, R203: edges. -/
def Obligations.EdgesOnChannels : Prop :=
  (∀ (s : State) (d : Die) (c : Fin 8) (at_ : Nat),
    s.node.up d = true → s.node.role d c = 1 → (s.node.die d).ch.timed.getLsbD c = false →
    (s.node.die d).clasp.link = .up →
    Gives (.edgeCapture d c at_) s fun t =>
    (t.chan d c).pinIn = !(s.node.chan d c).pinIn ∧
    ((s.node.chan d c).waiting.length < 8 → (t.chan d c).waiting = (s.node.chan d c).waiting ++ [at_] ∧ (t.die d).faults = (s.node.die d).faults) ∧
    (8 ≤ (s.node.chan d c).waiting.length → (t.chan d c).waiting = [] ∧ (t.chan d c).sent = !(s.node.chan d c).pinIn ∧ t.latched d 11 = true) ∧
    (∀ e ∈ eight, e ≠ c.val → (t.chan d e).waiting = (s.node.chan d e).waiting ∧ (t.chan d e).pinIn = (s.node.chan d e).pinIn) ∧ t.stored = s.node.stored) ∧
  (∀ (s : State) (d : Die) (c : Fin 8) (at_ : Nat),
    s.node.up d = true → s.node.role d c = 1 → (s.node.die d).ch.timed.getLsbD c = false →
    (s.node.die d).clasp.link = .outage → (s.node.chan d c).overflowed = false →
    Gives (.edgeCapture d c at_) s fun t =>
    (t.chan d c).pinIn = !(s.node.chan d c).pinIn ∧ (t.chan d c).waiting = (s.node.chan d c).waiting ∧
    ((s.node.chan d c).backlog.length < 8 → (t.chan d c).backlog = (s.node.chan d c).backlog ++ [at_]) ∧
    (8 ≤ (s.node.chan d c).backlog.length → (t.chan d c).backlog = [] ∧ (t.chan d c).overflowed = true ∧ t.latched d 11 = true) ∧
    t.stored = s.node.stored) ∧
  (∀ (s : State) (d : Die) (check : WordCheck) (e : EdgeEvent),
    s.node.receives d = true → check ≠ .uncorrectable → s.node.readable d 1 = true →
    Gives (.edgeWord d check e none) s fun t =>
    (s.node.agrees d e.channel = true → t.chan d e.channel = { s.node.chan d e.channel with
        scheduled := !(s.node.chan d e.channel).scheduled, replay := (s.node.chan d e.channel).replay + 1 }) ∧
    (s.node.agrees d e.channel = false → (t.die d).ch = (s.node.die d).ch) ∧
    (t.chan (otherDie d) e.channel).waiting = (s.node.chan (otherDie d) e.channel).waiting.tail ∧
    (∀ c ∈ eight, c ≠ e.channel.val → t.chan d c = s.node.chan d c) ∧ (t.die d).faults = (s.node.die d).faults ∧ t.stored = s.node.stored) ∧
  (∀ (s : State) (d : Die) (e : EdgeEvent) (e2 : Option EdgeEvent), s.node.receives d = true → Gives (.edgeWord d .uncorrectable e e2) s fun t =>
    (t.die d).ch = (s.node.die d).ch ∧ (t.die d).clasp.uncorrectable = satAdd 4095 (s.node.die d).clasp.uncorrectable 1 ∧ t.stored = s.node.stored) ∧
  (∀ (s : State) (d : Die) (c : Fin 8), 0 < (s.node.chan d c).replay → Gives (.edgeReplay d c) s fun t =>
    t.chan d c = { s.node.chan d c with shadow := !(s.node.chan d c).shadow, replay := (s.node.chan d c).replay - 1 } ∧
    (∀ e ∈ eight, e ≠ c.val → t.chan d e = s.node.chan d e) ∧ t.die (otherDie d) = s.node.die (otherDie d) ∧
    (t.die d).faults = (s.node.die d).faults ∧ t.stored = s.node.stored) ∧
  (∀ (s : State) (d : Die) (c : Fin 8), (s.node.chan d c).shifted = true → (s.node.chan d c).waiting = [] → Gives (.shiftEnd d c) s fun t =>
    t.chan d c = { s.node.chan d c with shifted := false } ∧ (∀ e ∈ eight, e ≠ c.val → t.chan d e = s.node.chan d e) ∧
    (t.die d).faults = (s.node.die d).faults ∧ t.stored = s.node.stored)

/-- R182, R206, R210 to R213, R219: refresh and fail-safe. -/
def Obligations.RefreshAndFailSafe : Prop :=
  (∀ (s : State) (d : Die) (check : WordCheck) (count : Nat) (mask levels : Mask),
    s.node.receives d = true → check ≠ .uncorrectable → s.node.readable d 2 = true →
    Gives (.refresh d check count mask levels) s fun t =>
    (t.die d).ch.timer = true ∧ (t.die d).ch.timedOut = false ∧ t.conditionOn d 10 = false ∧
    (t.die d).clasp.farMask = mask ∧ (t.die d).clasp.farCount = some count ∧
    (∀ c ∈ eight, s.node.role d c = 2 → mask.getLsbD c = true →
      (t.chan d c).scheduled = levels.getLsbD c ∧ (t.chan d c).refreshed = true ∧
      ((s.node.chan d c).refreshed = false → (t.chan d c).shadow = levels.getLsbD c ∧ (t.chan d c).replay = 0) ∧
      ((s.node.chan d c).refreshed = true → (s.node.chan d c).scheduled = levels.getLsbD c → (t.chan d c).shadow = (s.node.chan d c).shadow) ∧
      ((s.node.chan d c).refreshed = true → (s.node.chan d c).scheduled ≠ levels.getLsbD c → (t.chan d c).shadow = !(s.node.chan d c).shadow)) ∧
    (∀ c ∈ eight, (s.node.role d c ≠ 2 ∨ mask.getLsbD c = false) → (t.chan d c).shadow = (s.node.chan d c).shadow ∧
      (t.chan d c).scheduled = (s.node.chan d c).scheduled) ∧ t.stored = s.node.stored) ∧
  (∀ (s : State) (d : Die) (count : Nat) (mask levels : Mask), s.node.receives d = true → Gives (.refresh d .uncorrectable count mask levels) s fun t =>
    (t.die d).ch = (s.node.die d).ch ∧ (t.die d).faults = (s.node.die d).faults ∧ t.stored = s.node.stored) ∧
  (∀ (s : State) (d : Die), s.node.receives d = true → s.node.trained = true → Gives (.refreshSend d) s fun t =>
    t.offered d (.refresh (s.node.die d).clasp.refreshCount (s.node.inputs d) (s.node.inputs d &&& maskOf fun c => (s.node.chan d c).sent)) = true ∧
    (t.die d).clasp.refreshCount = ((s.node.die d).clasp.refreshCount + 1) % 8 ∧ (t.die d).ch = (s.node.die d).ch ∧
    t.die (otherDie d) = s.node.die (otherDie d) ∧ t.stored = s.node.stored) ∧
  (∀ (s : State) (d : Die),
    s.node.up d = true → (s.node.die d).ch.timer = true → (s.node.die d).ch.timedOut = false →
    Gives (.failsafeTimeout d) s fun t =>
    (t.die d).ch.timedOut = true ∧ became d 10 true s.node t ∧
    (∀ c ∈ eight, s.node.role d c = 2 → 1 ≤ t.pinRow d c ∧ t.pinRow d c ≤ 4) ∧ t.stored = s.node.stored) ∧
  (∀ (s : State) (d : Die) (c : Fin 8),
    s.node.up d = true → s.node.role d c = 2 → (s.node.chan d c).fresh = true →
    (s.node.chan d c).freshExpired = false →
    Gives (.newOutputTimerExpiry d c) s fun t =>
    (t.chan d c).freshExpired = true ∧ t.latched d 10 = true ∧ 1 ≤ t.pinRow d c ∧ t.pinRow d c ≤ 4 ∧ t.stored = s.node.stored) ∧
  (∀ (s : State) (rq : Rq) (n : Nat) (u : Node) (x : Txn),
    s.node.accepts rq 0x2004 (.write (.word n)) = some (u, x) → s.node.lineOpen = true → s.node.n.dev = .setup →
    2 ≤ n → n ≤ 64 →
    Gives (.failsafeTimeoutWrite rq (.word n)) s fun t =>
    t.answer x = some (0x00, []) ∧ t.val 0x2004 = n ∧ t.n.ch.timeout = n ∧ t.f.ch.timeout = n ∧
    t.blobs = s.node.blobs ∧ t.nLedger = s.node.nLedger ∧ t.fLedger = s.node.fLedger ∧ t.n.dict.unsaved = s.node.n.dict.unsaved ||| 12)

/-- R182, R214, R215: forced states. -/
def Obligations.ForcedStates : Prop :=
  (∀ (s : State) (d : Die) (o : Nat) (mask : Mask),
    s.node.receives d = true → s.node.readable d 2 = true → o ≤ 5 →
    Gives (.forceWord d o mask) s fun t =>
    tget 0 (t.die d).ch.far o = mask ∧ (∀ p ∈ origins, p ≠ o → tget 0 (t.die d).ch.far p = tget 0 (s.node.die d).ch.far p) ∧
    (t.die d).ch.own = (s.node.die d).ch.own ∧ (d = .f → o = 3 → mask ≠ 0 → t.f.ch.hold = true) ∧
    (d = .n ∨ o ≠ 3 ∨ mask = 0 → (t.die d).ch.hold = (s.node.die d).ch.hold) ∧
    (t.die d).faults = (s.node.die d).faults ∧ (t.die d).ch.map = (s.node.die d).ch.map ∧ t.stored = s.node.stored) ∧
  (∀ (s : State) (d : Die), s.node.receives d = true → s.node.trained = true → Gives (.forceRepeat d) s fun t =>
    (∀ o ∈ origins, tget 0 (s.node.die d).ch.own o ≠ 0 → t.offered d (.force o (tget 0 (s.node.die d).ch.own o)) = true) ∧
    (t.die d).ch.own = (s.node.die d).ch.own ∧ (t.die d).ch.chans = (s.node.die d).ch.chans ∧ (t.die d).faults = (s.node.die d).faults ∧ t.stored = s.node.stored) ∧
  (∀ (s : State) (d : Die), s.node.up d = true → Gives (.overflowForceClear d) s fun t =>
    tget 0 (t.die d).ch.own 5 = 0 ∧ (∀ p ∈ origins, p ≠ 5 → tget 0 (t.die d).ch.own p = tget 0 (s.node.die d).ch.own p) ∧
    (t.die d).ch.far = (s.node.die d).ch.far ∧ (t.die d).faults = (s.node.die d).faults ∧ t.stored = s.node.stored)

/-- R204 to R206: the agreement on directions and the upper group. -/
def Obligations.DirectionAgreements : Prop :=
  (∀ (s : State) (rq : Rq) (upper : Bool) (v : Nat) (row : KeyRow) (u : Node) (x : Txn),
    s.node.accepts rq (if upper then 0x2008 else 0x2002) (.write (.word v)) = some (u, x) → s.node.n.dev = .setup →
    s.node.trained = true → keyRow (if upper then 0x2008 else 0x2002) = some row →
    u.wordRefusal x row (v % 16777216) = none →
    Gives (.directionWrite rq upper (.word v)) s fun t =>
    t.n.agree.phase = .proposed ∧ t.n.agree.number = (s.node.n.agree.number + 1) % 256 ∧ t.n.agree.txn = some (x.session, x.tag) ∧
    t.n.agree.map = (if upper then s.node.n.ch.map else v % 16777216) ∧ t.n.agree.upper = (if upper then v % 16777216 == 1 else s.node.n.ch.upper) ∧
    t.n.agree.proposes = 1 ∧ (s.node.claspTorn .n = false →
      t.offered .n (.config 0 t.n.agree.map t.n.agree.upper t.n.agree.number) = true) ∧
    t.n.ch = s.node.n.ch ∧ t.f = s.node.f ∧ t.stored = s.node.stored) ∧
  (∀ (s : State) (n map : Nat) (upper : Bool),
    s.node.hubReceives .f = true → s.node.trained = true → s.node.readable .f 2 = true →
    Gives (.configPropose n map upper) s fun t =>
    t.n.agree.fAnswer = some (n, match s.node.n.agree.fAnswer with
      | some (m, a) => if m = n then a else !s.node.rateInProgress && !s.node.dqInUse
      | none => !s.node.rateInProgress && !s.node.dqInUse) ∧
    t.offered .f (.config (if t.n.agree.fAnswer = some (n, true) then 1 else 3) map upper n) = true ∧
    t.f.ch = s.node.f.ch ∧ t.n.ch = s.node.n.ch ∧ t.n.agree.phase = s.node.n.agree.phase ∧ t.stored = s.node.stored) ∧
  (∀ (s : State) (n : Nat),
    s.node.hubReceives .n = true → s.node.readable .n 2 = true → s.node.n.agree.phase = .proposed →
    s.node.n.agree.number = n →
    Gives (.configAccept n) s fun t =>
    t.n.agree.phase = .committed ∧ t.n.ch.changeDue = some (s.node.n.agree.map, s.node.n.agree.upper) ∧ t.n.ch.map = s.node.n.ch.map ∧
    (s.node.n.agree.txn.isSome = true → s.node.n.agree.key = 0x2002 → t.val 0x2002 = s.node.n.agree.map) ∧
    (s.node.n.agree.txn.isSome = true → s.node.n.agree.key = 0x2008 → t.val 0x2008 = b2n s.node.n.agree.upper) ∧
    (s.node.n.agree.txn = none → t.stored = s.node.stored) ∧ (s.node.trained = true → t.offered .n (.config 2 s.node.n.agree.map s.node.n.agree.upper n) = true) ∧ t.nLedger = s.node.nLedger ∧ t.fLedger = s.node.fLedger) ∧
  (∀ (s : State) (n : Nat),
    s.node.hubReceives .n = true → s.node.readable .n 2 = true → s.node.n.agree.phase = .proposed →
    s.node.n.agree.number = n → s.node.n.agree.adoption = false →
    Gives (.configRefuse n) s fun t =>
    t.n.agree.phase = .idle ∧ t.n.agree.outcome = 2 ∧ t.n.agree.txn = none ∧ t.n.ch = s.node.n.ch ∧ t.stored = s.node.stored) ∧
  (∀ (s : State) (n : Nat),
    s.node.hubReceives .f = true → s.node.readable .f 2 = true → s.node.n.agree.phase = .committed →
    s.node.n.agree.number = n → s.node.trained = true →
    Gives (.configCommit n) s fun t =>
    (s.node.n.agree.fApplied ≠ some n → t.f.ch.changeDue = some (s.node.n.agree.map, s.node.n.agree.upper)) ∧
    (s.node.n.agree.fApplied = some n → t.f.ch = s.node.f.ch ∧ t.offered .f (.config 2 s.node.n.agree.map s.node.n.agree.upper n) = true) ∧
    t.f.ch.map = s.node.f.ch.map ∧ t.stored = s.node.stored) ∧
  (∀ (s : State) (n : Nat),
    s.node.hubReceives .n = true → s.node.readable .n 2 = true → s.node.n.agree.phase = .committed →
    s.node.n.agree.number = n → s.node.n.agree.adoption = false →
    Gives (.configConfirm n) s fun t =>
    t.n.agree.phase = .idle ∧ t.n.agree.outcome = 1 ∧ t.n.agree.txn = none ∧ t.n.ch = s.node.n.ch ∧ t.stored = s.node.stored) ∧
  (∀ (s : State) (d : Die) (map : Nat) (upper : Bool), (s.node.die d).ch.changeDue = some (map, upper) → Gives (.directionApply d) s fun t =>
    (t.die d).ch.map = map ∧ (t.die d).ch.upper = upper ∧ (t.die d).ch.changeDue = none ∧
    (d = .f → t.n.agree.fApplied = some s.node.n.agree.number) ∧ (d = .n → t.n.agree = s.node.n.agree) ∧
    (s.node.n.agree.adoption = false ∨ d = .n → t.fLedger = s.node.fLedger) ∧ t.vals = s.node.vals ∧ t.nLedger = s.node.nLedger ∧
    (∀ c ∈ eight, roleUnder map upper d c = s.node.role d c → (t.chan d c).shadow = (s.node.chan d c).shadow ∧ (t.chan d c).waiting = (s.node.chan d c).waiting) ∧
    (∀ c ∈ eight, roleUnder map upper d c = 2 → s.node.role d c ≠ 2 → (t.chan d c).fresh = true ∧ (t.chan d c).refreshed = false)) ∧
  (∀ (s : State), s.node.nUp = true → s.node.n.agree.phase = .proposed → s.node.n.agree.adoption = false → Gives .configProposeTimeout s fun t =>
    (s.node.n.agree.proposes < 3 → t.n.agree.phase = .proposed ∧ t.n.agree.proposes = s.node.n.agree.proposes + 1 ∧ t.n.agree.number = s.node.n.agree.number) ∧
    (3 ≤ s.node.n.agree.proposes → t.n.agree.phase = .idle ∧ t.n.agree.outcome = 3 ∧ t.n.agree.txn = none) ∧ t.n.ch = s.node.n.ch ∧ t.stored = s.node.stored) ∧
  (∀ (s : State), s.node.hubReceives .n = true → s.node.n.agree.phase = .committed → s.node.trained = true → Gives .configCommitRepeat s fun t =>
    t.offered .n (.config 2 s.node.n.agree.map s.node.n.agree.upper s.node.n.agree.number) = true ∧ t.n.agree = s.node.n.agree ∧ t.n.ch = s.node.n.ch ∧
    t.f = s.node.f ∧ t.stored = s.node.stored) ∧
  (∀ (s : State), s.node.nUp = true → s.node.n.agree.phase = .committed → s.node.n.agree.txn.isSome = true → Gives .configConfirmTimeout s fun t =>
    t.n.agree.phase = .committed ∧ t.n.agree.outcome = 3 ∧ t.n.agree.txn = none ∧ t.n.agree.number = s.node.n.agree.number ∧
    t.n.ch = s.node.n.ch ∧ t.stored = s.node.stored)

/-- R187 to R191, R571: outages and loss. -/
def Obligations.SynthesisersOutagesAndLoss : Prop :=
  (∀ (s : State) (d : Die), s.node.up d = true → (s.node.die d).clasp.synth = .locked → Gives (.synthLockLoss d) s fun t =>
    (t.die d).clasp.synth = .calibrating ∧ ((s.node.die d).clasp.link = .up → (t.die d).clasp.link = .outage) ∧
    ((s.node.die d).clasp.link ≠ .up → (t.die d).clasp.link = (s.node.die d).clasp.link) ∧
    (t.die d).clasp.trained = (s.node.die d).clasp.trained ∧ t.latched d 9 = true ∧ t.stored = s.node.stored) ∧
  (∀ (s : State) (d : Die), (s.node.die d).clasp.synth = .calibrating → Gives (.synthCalibrationDone d) s fun t =>
    (t.die d).clasp = { (s.node.die d).clasp with synth := .settling } ∧ (t.die d).ch = (s.node.die d).ch ∧ (t.die d).faults = (s.node.die d).faults ∧
    t.die (otherDie d) = s.node.die (otherDie d) ∧ t.stored = s.node.stored) ∧
  (∀ (s : State) (d : Die), (s.node.die d).clasp.synth = .settling → Gives (.synthLockReached d) s fun t =>
    (t.die d).clasp = { (s.node.die d).clasp with synth := .locked } ∧ (t.die d).ch = (s.node.die d).ch ∧ (t.die d).faults = (s.node.die d).faults ∧
    t.die (otherDie d) = s.node.die (otherDie d) ∧ t.stored = s.node.stored) ∧
  (∀ (s : State) (d : Die), s.node.up d = true → (s.node.die d).clasp.link = .up → Gives (.outageDetect d) s fun t =>
    (t.die d).clasp.link = .outage ∧ (t.die d).clasp.trained = (s.node.die d).clasp.trained ∧ (t.die d).clasp.rateAgreement = none ∧
    (t.die d).clasp.ctrl = (s.node.die d).clasp.ctrl ∧ (t.die d).clasp.waiting = (s.node.die d).clasp.waiting ∧
    (d = .f → s.node.f.fol.state = .aligned → t.f.fol.state = .holdover) ∧ (t.die d).ch = (s.node.die d).ch ∧
    (t.die d).faults = (s.node.die d).faults ∧ t.die (otherDie d) = s.node.die (otherDie d) ∧ t.stored = s.node.stored) ∧
  (∀ (s : State) (d : Die) (lasted : Nat),
    (s.node.die d).clasp.link = .outage → (s.node.die d).clasp.synth = .locked →
    Gives (.outageResume d lasted) s fun t =>
    (t.die d).clasp.link = .up ∧ (∀ c ∈ eight, (t.chan d c).backlog = [] ∧ (t.chan d c).overflowed = false ∧
      (t.chan d c).shifted = ((s.node.chan d c).shifted && (s.node.chan d c).overflowed || (s.node.chan d c).backlog != [] && !(s.node.chan d c).overflowed)) ∧
    ((∀ c ∈ eight, (s.node.chan d c).overflowed = false) → (t.die d).ch.own = (s.node.die d).ch.own) ∧
    (t.die d).faults = (s.node.die d).faults ∧ t.stored = s.node.stored) ∧
  (∀ (s : State) (d : Die), s.node.up d = true → (s.node.die d).clasp.link = .outage → Gives (.outageLost d) s fun t =>
    (t.die d).clasp.link = .training ∧ (t.die d).clasp.trained = false ∧ (t.die d).clasp.ctrl = [] ∧ (t.die d).clasp.waiting = [] ∧
    (t.die d).clasp.unacked = [] ∧ (t.die d).clasp.credits = 0 ∧ t.f.inbox = [] ∧
    (s.node.n.pow.notified = false → t.conditionOn d 8 = true ∧ (s.node.conditionOn d 8 = false → t.latched d 8 = true)) ∧
    (∀ c ∈ eight, (t.chan d c).waiting = [] ∧ (t.chan d c).backlog = []) ∧ t.stored = s.node.stored) ∧
  (∀ (s : State) (d : Die),
    s.node.up d = true → ((s.node.die d).clasp.link = .up ∨ (s.node.die d).clasp.link = .outage) →
    Gives (.lostStep0Received d) s fun t =>
    (t.die d).clasp.link = .training ∧ (t.die d).clasp.trained = false ∧ (t.die d).clasp.ctrl = [] ∧ (t.die d).clasp.waiting = [] ∧
    (t.die d).clasp.unacked = [] ∧ (t.die d).clasp.credits = 0 ∧ t.f.inbox = [] ∧
    (s.node.n.pow.notified = false → t.conditionOn d 8 = true ∧ (s.node.conditionOn d 8 = false → t.latched d 8 = true)) ∧
    (∀ c ∈ eight, (t.chan d c).waiting = [] ∧ (t.chan d c).backlog = []) ∧ t.stored = s.node.stored)

/-- R183 to R185: DATA frames and credits. -/
def Obligations.CreditsAndDataFrames : Prop :=
  (∀ (s : State) (d : Die) (returned last : Nat),
    s.node.receives d = true → s.node.readable d 2 = true → (s.node.die d).clasp.waiting = [] →
    Gives (.credit d returned false last) s fun t =>
    (t.die d).clasp.credits = min 32 ((s.node.die d).clasp.credits + returned) ∧
    (t.die d).clasp.unacked = afterAccepted last (s.node.die d).clasp.unacked ∧ (t.die d).clasp.waiting = [] ∧
    (t.die d).clasp.repeats = (s.node.die d).clasp.repeats ∧ (t.die d).ch = (s.node.die d).ch ∧ (t.die d).faults = (s.node.die d).faults ∧ t.stored = s.node.stored) ∧
  (∀ (s : State) (d : Die),
    s.node.receives d = true → s.node.trained = true → 0 < (s.node.die d).clasp.owed →
    (s.node.die d).clasp.nakOwed = false →
    Gives (.creditSend d) s fun t =>
    t.offered d (.credit (min 32 (s.node.die d).clasp.owed) false (((s.node.die d).clasp.rxSeq + 255) % 256)) = true ∧
    (t.die d).clasp.owed = 0 ∧ (t.die d).clasp.ackOwed = false ∧ (t.die d).clasp.link = .up ∧ (t.die d).clasp.naks = (s.node.die d).clasp.naks ∧
    (t.die d).faults = (s.node.die d).faults ∧ t.die (otherDie d) = s.node.die (otherDie d) ∧ t.stored = s.node.stored) ∧
  (∀ (s : State) (d : Die), s.node.receives d = true → (s.node.die d).clasp.nakOwed = true → Gives (.creditSend d) s fun t =>
    (t.die d).clasp.naks = satAdd 4095 (s.node.die d).clasp.naks 1 ∧ (t.die d).clasp.nakOwed = false ∧
    ((s.node.die d).clasp.nakRun < 3 → (t.die d).clasp.link = .up ∧ (t.die d).clasp.nakRun = (s.node.die d).clasp.nakRun + 1) ∧
    (3 ≤ (s.node.die d).clasp.nakRun → (t.die d).clasp.link = .training ∧ (t.die d).clasp.trained = false ∧ t.latched d 7 = true) ∧ t.stored = s.node.stored) ∧
  (∀ (s : State) (d : Die) (stream seq : Nat),
    s.node.receives d = true → s.node.readable d 3 = true → (s.node.die (otherDie d)).clasp.unacked = [] → stream ≤ 5 →
    seq = (s.node.die d).clasp.rxSeq → s.node.claspTorn d = false →
    Gives (.dataFrame d stream seq true) s fun t =>
    (t.die d).clasp.rxSeq = (seq + 1) % 256 ∧ (t.die d).clasp.ackOwed = true ∧ (t.die d).clasp.nakOwed = false ∧ (t.die d).faults = (s.node.die d).faults ∧ t.stored = s.node.stored) ∧
  (∀ (s : State) (d : Die) (stream seq : Nat), s.node.receives d = true → Gives (.dataFrame d stream seq false) s fun t =>
    (t.die d).clasp.rxSeq = (s.node.die d).clasp.rxSeq ∧ (t.die d).clasp.link = .up ∧ (t.die d).faults = (s.node.die d).faults ∧ t.stored = s.node.stored)

/-- R193 to R196: margin loop and rate. -/
def Obligations.MarginAndRate : Prop :=
  (∀ (s : State) (d : Die) (swing eq : Nat) (at_ : Bool) (width height : Nat),
    s.node.receives d = true → s.node.readable d 2 = true →
    Gives (.margin d swing eq at_ width height) s fun t =>
    (t.die d).clasp.wantedSwing = swing ∧ (t.die d).clasp.wantedEq = eq ∧
    (s.node.val 0x2106 = 0 → (t.die d).clasp.swing = min swing (s.node.swingCap d) ∧ (t.die d).clasp.eq = eq) ∧
    (s.node.val 0x2106 = 1 → (t.die d).clasp.swing = (s.node.die d).clasp.swing ∧ (t.die d).clasp.eq = (s.node.die d).clasp.eq) ∧
    (t.die d).faults = (s.node.die d).faults ∧ (t.die d).clasp.link = (s.node.die d).clasp.link ∧ (t.die d).ch = (s.node.die d).ch ∧ t.stored = s.node.stored) ∧
  (∀ (s : State) (d : Die) (width height : Nat), s.node.receives d = true → s.node.trained = true → Gives (.marginSend d width height) s fun t =>
    (t.die d).clasp.width = width ∧ (t.die d).clasp.height = height ∧ (t.die d).clasp.below = decide (width < s.node.val 0x2105) ∧
    ((t.die d).clasp.askSwing, (t.die d).clasp.askEq) = wantedNext (s.node.val 0x2105) width (s.node.die d).clasp.askSwing (s.node.die d).clasp.askEq ∧
    (t.die d).clasp.swing = (s.node.die d).clasp.swing ∧ (s.node.val 0x2105 ≤ width → t.conditionOn d 7 = false) ∧
    t.offered d (.margin (t.die d).clasp.askSwing (t.die d).clasp.askEq (decide (s.node.val 0x2105 ≤ width)) width height) = true ∧ t.stored = s.node.stored) ∧
  (∀ (s : State) (d : Die) (n : Nat),
    s.node.hubReceives d = true → s.node.trained = true → s.node.readable d 2 = true →
    Gives (.rateRequestHalf d n) s fun t =>
    t.offered d (.rate (if s.node.agreeing then 3 else 1) n) = true ∧
    (t.die d).clasp.rateSwitchDue = (if s.node.agreeing then (s.node.die d).clasp.rateSwitchDue else some true) ∧ (t.die d).clasp.link = (s.node.die d).clasp.link ∧ (t.die d).ch = (s.node.die d).ch ∧ t.stored = s.node.stored) ∧
  (∀ (s : State) (d : Die) (n : Nat),
    s.node.hubReceives d = true → s.node.trained = true → s.node.readable d 2 = true →
    Gives (.rateRequestFull d n) s fun t =>
    t.offered d (.rate (if s.node.agreeing then 3 else 1) n) = true ∧
    (t.die d).clasp.rateSwitchDue = (if s.node.agreeing then (s.node.die d).clasp.rateSwitchDue else some false) ∧ (t.die d).clasp.link = (s.node.die d).clasp.link ∧ (t.die d).ch = (s.node.die d).ch ∧ t.stored = s.node.stored) ∧
  (∀ (s : State) (d : Die) (n : Nat) (toHalf : Bool),
    s.node.hubReceives d = true → s.node.readable d 2 = true → (s.node.die d).clasp.rateAgreement = some (n, toHalf) →
    Gives (.rateAccept d n) s fun t =>
    (t.die d).clasp.rateSwitchDue = some toHalf ∧ (t.die d).clasp.rateAgreement = none ∧ (t.die d).clasp.half = (s.node.die d).clasp.half ∧ (t.die d).clasp.link = (s.node.die d).clasp.link ∧ (t.die d).ch = (s.node.die d).ch ∧ t.stored = s.node.stored) ∧
  (∀ (s : State) (d : Die) (n : Nat) (toHalf : Bool),
    s.node.hubReceives d = true → s.node.readable d 2 = true → (s.node.die d).clasp.rateAgreement = some (n, toHalf) →
    Gives (.rateRefuse d n) s fun t =>
    (t.die d).clasp.rateRetry = some toHalf ∧ (t.die d).clasp.rateAgreement = none ∧ (t.die d).clasp.rateSwitchDue = (s.node.die d).clasp.rateSwitchDue ∧ (t.die d).clasp.link = (s.node.die d).clasp.link ∧ (t.die d).ch = (s.node.die d).ch ∧ t.stored = s.node.stored) ∧
  (∀ (s : State) (d : Die) (toHalf : Bool),
    s.node.receives d = true → (s.node.die d).clasp.rateRetry = some toHalf →
    Gives (.rateRequestRetry d) s fun t =>
    (t.die d).clasp.rateRetry = none ∧ (t.die d).clasp.rateNumber = ((s.node.die d).clasp.rateNumber + 1) % 256 ∧
    (t.die d).clasp.rateAgreement = some ((t.die d).clasp.rateNumber, toHalf) ∧
    (s.node.trained = true → s.node.claspTorn d = false → t.offered d (.rate (if toHalf then 0 else 2) (t.die d).clasp.rateNumber) = true) ∧ (t.die d).clasp.link = (s.node.die d).clasp.link ∧ (t.die d).ch = (s.node.die d).ch ∧ t.stored = s.node.stored) ∧
  (∀ (s : State) (toHalf : Bool),
    s.node.n.clasp.rateSwitchDue = some toHalf → s.node.f.clasp.rateSwitchDue = some toHalf → s.node.linkUp = true →
    Gives .rateSwitch s fun t =>
    (∀ d : Die, (t.die d).clasp.half = toHalf ∧ (t.die d).clasp.synth = .settling ∧ (t.die d).clasp.link = .outage ∧ (t.die d).clasp.rateSwitchDue = none ∧
    (t.die d).clasp.trained = (s.node.die d).clasp.trained ∧ (t.die d).ch = (s.node.die d).ch ∧ (t.die d).faults = (s.node.die d).faults) ∧ t.stored = s.node.stored) ∧
  (∀ (s : State) (rq : Rq) (u : Node) (x : Txn),
    s.node.accepts rq 0x2107 (.command none) = some (u, x) → s.node.n.dev ≠ .boot → s.node.n.dev ≠ .sealed →
    Gives (.fullRateRequest rq) s fun t =>
    t.answer x = some (0x00, []) ∧ (s.node.n.clasp.half = false → t.n.clasp.rateAgreement = s.node.n.clasp.rateAgreement) ∧
    (s.node.n.clasp.half = true → t.n.clasp.rateAgreement = some ((s.node.n.clasp.rateNumber + 1) % 256, false)) ∧
    t.n.clasp.half = s.node.n.clasp.half ∧ t.f = s.node.f ∧ t.stored = s.node.stored)

/-- R182, R296, R297, R469 to R471: orders and fault reports. -/
def Obligations.OrdersAndReports : Prop :=
  (∀ (s : State) (d : Die) (id floor list i : Nat) (launch : T48),
    s.node.hubReceives d = true → s.node.readable d 2 = true →
    (s.node.die d).clasp.answered.find? (fun a => a.1 == id) = none → orderOutcome d floor list s.node = (0, i) →
    before launch (s.node.time d) = false →
    Gives (.act d id floor list launch true) s fun t =>
    (t.slot d i).list = list ∧ (t.slot d i).launch = launch ∧ (t.slot d i).state = .armed ∧ (t.slot d i).origin = 3 ∧
    ((t.die d).clasp.answered.any fun a => a.1 == id && a.2.2 == 0) = true ∧
    (s.node.trained = true → (t.offered d (.actAck id true 0) || t.offered d (.actAck id false 0)) = true) ∧ t.stored = s.node.stored) ∧
  (∀ (s : State) (d : Die) (id floor list : Nat) (launch : T48) (late : Bool) (o : Nat),
    s.node.hubReceives d = true → s.node.readable d 2 = true → s.node.trained = true →
    (s.node.die d).clasp.answered.find? (fun a => a.1 == id) = some (id, late, o) →
    Gives (.act d id floor list launch true) s fun t =>
    t.offered d (.actAck id late o) = true ∧ (t.die d).seq = (s.node.die d).seq ∧ t.stored = s.node.stored) ∧
  (∀ (s : State) (d : Die) (id floor list : Nat) (launch : T48), Gives (.act d id floor list launch false) s fun t =>
    (t.die d).seq = (s.node.die d).seq ∧ (t.die d).clasp.ctrl = (s.node.die d).clasp.ctrl ∧ t.stored = s.node.stored) ∧
  (∀ (s : State) (d : Die), s.node.up d = true → s.node.trained = true → s.node.claspTorn d = false → Gives (.actRepeat d) s fun t =>
    (∀ o ∈ (s.node.die d).clasp.orders, t.offered d (.act o.id o.floor o.list o.launch) = true) ∧ (t.die d).clasp.orders = (s.node.die d).clasp.orders ∧
    (t.die d).seq = (s.node.die d).seq ∧ t.die (otherDie d) = s.node.die (otherDie d) ∧ t.stored = s.node.stored) ∧
  (∀ (s : State) (d : Die) (id outcome : Nat) (late : Bool) (o : Order),
    s.node.hubReceives d = true → s.node.readable d 2 = true →
    (s.node.die d).clasp.orders.find? (fun o => o.id == id) = some o → o.fromStep = none →
    (s.node.die d).clasp.ordersWaiting = [] →
    Gives (.actAck d id late outcome) s fun t =>
    (t.die d).clasp.orders = (s.node.die d).clasp.orders.erase o ∧ (t.die d).seq = (s.node.die d).seq ∧ (t.die d).faults = (s.node.die d).faults ∧ t.stored = s.node.stored) ∧
  (∀ (s : State) (src : Fin 24) (cls : Fin 4) (live : Bool) (event : Nat),
    s.node.hubReceives .n = true → s.node.readable .n 2 = true → s.node.trained = true →
    Gives (.faultReport src cls live event) s fun t =>
    t.offered .n (.faultAck src event) = true ∧
    (s.node.n.faults.reportsSeen.contains event = false → t.latched .n 22 = true ∧ t.n.faults.reportsSeen.contains event = true) ∧
    (s.node.n.faults.reportsSeen.contains event = true → t.n.faults.status = s.node.n.faults.status) ∧
    (cls = 3 → t.n.fSeals.getLsbD src = true ∧ t.n.dev = .sealed) ∧ (cls ≠ 3 → t.n.fSeals = s.node.n.fSeals) ∧
    t.f.faults = s.node.f.faults ∧ t.stored = s.node.stored) ∧
  (∀ (s : State) (src : Fin 24) (event : Nat), s.node.hubReceives .f = true → s.node.readable .f 2 = true → Gives (.faultAcknowledge src event) s fun t =>
    (∀ e ∈ t.f.faults.history, e.event = event → e.source = src.val → e.clear = false → e.pending = false) ∧
    t.f.faults.history.length = s.node.f.faults.history.length ∧ t.f.faults.status = s.node.f.faults.status ∧
    (∀ cls live, t.offered .f (.faultReport src cls live event) = false) ∧ t.stored = s.node.stored) ∧
  (∀ (s : State), s.node.hubReceives .f = true → s.node.trained = true → Gives .faultReportRepeat s fun t =>
    (∀ e ∈ s.node.pendingEntries, t.offered .f (.faultReport e.source e.cls ((s.node.live .f).getLsbD e.source) e.event) = true) ∧
    t.f.faults = s.node.f.faults ∧ t.n = s.node.n ∧ t.stored = s.node.stored) ∧
  (∀ (s : State) (src : Fin 24) (cls : Fin 4) (detected : T48) (status : Word),
    s.node.hubReceives .n = true → s.node.f.faults.history = [] → s.node.val 0x1120 ≤ cls →
    s.node.n.can.alerts.length < 8 →
    Gives (.faultEntryFrame src cls detected status) s fun t =>
    t.n.can.alerts.length = s.node.n.can.alerts.length + 1 ∧ t.n.faults = s.node.n.faults ∧ t.f = s.node.f ∧ t.stored = s.node.stored)

/-- R182, R253, R254: time across the Clasp; R258 to R260: CAN time frames. -/
def Obligations.TimeFramesOfClaspAndCan : Prop :=
  (∀ (s : State), s.node.nUp = true → s.node.linkUp = true → s.node.trained = true → s.node.n.hm.set = none → Gives .timeTripleSend s fun t =>
    t.offered .n (.time s.node.n.hm.count) = true ∧ (15 ≤ s.node.n.clasp.triples → t.offered .n (.era s.node.n.hm.era) = true) ∧
    t.n.clasp.triples = (if 15 ≤ s.node.n.clasp.triples then 0 else s.node.n.clasp.triples + 1) ∧ t.n.hm = s.node.n.hm ∧ t.f = s.node.f ∧ t.stored = s.node.stored ∧ t.n.dict = s.node.n.dict) ∧
  (∀ (s : State) (k : Int) (era : Option Word),
    s.node.nUp = true → s.node.linkUp = true → s.node.n.hm.set = some (k, era) →
    Gives .timeTripleSend s fun t =>
    t.n.hm.count = addTicks s.node.n.hm.count k ∧ t.n.hm.set = none ∧ t.n.hm.acquired = true ∧ t.n.hm.era = era.getD s.node.n.hm.era ∧ t.n.hm.state = s.node.n.hm.state ∧ t.stored = s.node.stored) ∧
  (∀ (s : State) (time : T48) (fraction : Nat), s.node.receives .f = true → s.node.readable .f 2 = true → Gives (.timeTriple time fraction) s fun t =>
    t.f.fol.count = s.node.tripleTime time fraction ∧ t.f.fol.state = .aligned ∧ t.f.fol.alarm = false ∧ t.f.fol.seenTriple = true ∧
    t.conditionOn .f 23 = false ∧
    (s.node.f.fol.state ≠ .unaligned → s.node.f.fol.seenTriple = true → 8 < (ticksAhead (s.node.tripleTime time fraction) s.node.f.fol.count).natAbs →
      t.f.fol.sets = satAdd 255 s.node.f.fol.sets 1 ∧ t.latched .f 23 = true) ∧
    (s.node.f.fol.state = .unaligned → t.f.fol.sets = s.node.f.fol.sets) ∧ t.n.hm = s.node.n.hm ∧ t.stored = s.node.stored) ∧
  (∀ (s : State) (era : Word), s.node.receives .f = true → s.node.readable .f 2 = true → Gives (.eraPair era) s fun t =>
    t.f.fol.era = era ∧ t.f.fol.eraKnown = true ∧ t.f.fol.count = s.node.f.fol.count ∧
    (s.node.f.fol.eraKnown = true → s.node.f.fol.era ≠ era → t.latched .f 23 = true) ∧
    (s.node.f.fol.eraKnown = false ∨ s.node.f.fol.era = era → t.f.faults = s.node.f.faults) ∧ t.n.hm = s.node.n.hm ∧ t.stored = s.node.stored) ∧
  (∀ (s : State) (src tag : Nat) (stamp : T48), s.node.canOn = true → src ≠ 0 → Gives (.canTimeSync src tag stamp) s fun t =>
    (src = s.node.val 0x3005 → t.n.can.syncSeen = some (src, tag, stamp) ∧ t.n.can.timeDiscards = s.node.n.can.timeDiscards) ∧
    (src ≠ s.node.val 0x3005 → t.n.can.syncSeen = s.node.n.can.syncSeen ∧
      t.n.can.timeDiscards = (if s.node.n.can.timeDiscards = 2 then 0 else s.node.n.can.timeDiscards + 1)) ∧ t.n.hm.count = s.node.n.hm.count ∧ t.stored = s.node.stored ∧ t.n.dict = s.node.n.dict) ∧
  (∀ (s : State) (src tag : Nat) (time stamp : T48) (era8 : Nat),
    s.node.canOn = true → s.node.n.can.syncSeen = some (src, tag, stamp) →
    Gives (.canTimeFollowUp src tag time era8 true) s fun t =>
    t.n.can.syncSeen = none ∧ t.n.can.timeDiscards = 0 ∧
    (s.node.n.hm.state = .tracking → s.node.n.hm.set = none → s.node.n.hm.source = 2 → s.node.sourceUsable 2 = true →
      t.n.hm.offset = clampInt 8388607 (offsetOfTicks (ticksAhead time stamp) - s.node.val 0x3007 * 8)) ∧ t.stored = s.node.stored ∧ t.n.dict = s.node.n.dict) ∧
  (∀ (s : State) (src tag : Nat) (time : T48) (era8 : Nat), s.node.canOn = true → Gives (.canTimeFollowUp src tag time era8 false) s fun t =>
    t.n.can.syncSeen = s.node.n.can.syncSeen ∧ t.n.can.timeDiscards = (if s.node.n.can.timeDiscards = 2 then 0 else s.node.n.can.timeDiscards + 1) ∧
    t.n.hm.count = s.node.n.hm.count ∧ t.stored = s.node.stored ∧ t.n.dict = s.node.n.dict) ∧
  (∀ (s : State) (stamp : T48), s.node.canOn = true → s.node.val 0x3004 = 1 → s.node.n.number ≠ 0 → Gives (.canTimeSend stamp) s fun t =>
    t.n.can.tx = (s.node.n.can.tx.filter fun f => f.cls != 1) ++
      [⟨1, 127, 0, s.node.n.can.syncTag, none, false, []⟩, ⟨1, 127, 1, s.node.n.can.syncTag, none, false,
        followUpBytes stamp s.node.n.hm.era (s.node.n.hm.state == .tracking) s.node.n.can.stepped⟩] ∧
    t.n.can.syncTag = (s.node.n.can.syncTag + 1) % 128 ∧ t.n.hm = s.node.n.hm ∧ t.f = s.node.f ∧ t.n.faults = s.node.n.faults ∧ t.stored = s.node.stored ∧ t.n.dict = s.node.n.dict)

/-- R256, R257, R263, R269: the servo and holdover. -/
def Obligations.ServoAndHoldover : Prop :=
  (∀ (s : State) (port : Port) (f : TimeFrame),
    s.node.portUp port = true → (s.node.link port).role = .parent → s.node.f.chain.root = false →
    s.node.trained = true → s.node.nUp = true → s.node.f.fol.state ≠ .unaligned → s.node.n.hm.state = .tracking →
    s.node.n.hm.set = none → s.node.n.hm.source = 1 → s.node.sourceUsable 1 = true →
    Gives (.chainTimeFrame port f) s fun t =>
    t.n.hm.offset = clampInt 8388607 (offsetOfTicks (ticksAhead f.origin f.arrival) + ((f.correction + linkDelay (s.node.link port)) / 32 : Nat)) ∧
    t.f.fol = s.node.f.fol ∧ t.stored = s.node.stored ∧ t.n.dict = s.node.n.dict) ∧
  (∀ (s : State) (port : Port) (f : TimeFrame), (s.node.link port).role ≠ .parent → Gives (.chainTimeFrame port f) s fun t =>
    t = s.node) ∧
  (∀ (s : State) (rho : Int),
    s.node.nUp = true → s.node.fUp = true → s.node.trained = true → s.node.n.hm.source = 1 →
    s.node.n.hm.state = .tracking → s.node.servoFrozen = false →
    Gives (.rateSample rho) s fun t =>
    t.n.hm = { s.node.n.hm with rRate := s.node.n.hm.rRate + rho / 8 } ∧ t.f.fol = s.node.f.fol ∧ t.n.faults = s.node.n.faults ∧ t.stored = s.node.stored ∧ t.n.dict = s.node.n.dict) ∧
  (∀ (s : State), s.node.nUp = true → s.node.servoFrozen = false → s.node.n.hm.slew = 0 → Gives .servoRateUpdate s fun t =>
    t.n.hm = { s.node.n.hm with r := s.node.n.hm.r + clampInt 50000000 (s.node.n.hm.rTarget - s.node.n.hm.r) } ∧ t.f = s.node.f ∧
    t.n.faults = s.node.n.faults ∧ t.stored = s.node.stored ∧ t.n.dict = s.node.n.dict) ∧
  (∀ (s : State), s.node.nUp = true → s.node.servoFrozen = false → s.node.n.hm.slew ≠ 0 → Gives .servoRateUpdate s fun t =>
    t.n.hm.slew = s.node.n.hm.slew - slewPart s.node.n.hm.slew ∧
    t.n.hm.rTarget = clampInt 2000000000000 (s.node.n.hm.rRate + slewPart s.node.n.hm.slew * 1000000000 / 8192) ∧
    t.n.hm.r = s.node.n.hm.r + clampInt 50000000 (t.n.hm.rTarget - s.node.n.hm.r) ∧ t.n.hm.count = s.node.n.hm.count ∧ t.f = s.node.f ∧ t.stored = s.node.stored ∧ t.n.dict = s.node.n.dict) ∧
  (∀ (s : State), s.node.servoFrozen = true → Gives .servoRateUpdate s fun t =>
    t = s.node) ∧
  (∀ (s : State),
    s.node.nUp = true → s.node.n.hm.state = .tracking → 1 ≤ s.node.n.hm.source → s.node.n.hm.source ≤ 3 →
    Gives .sourceLoss s fun t =>
    t.n.hm.state = .holdover ∧ t.n.hm.source = 0 ∧ t.n.hm.r = s.node.n.hm.r ∧ t.n.hm.rTarget = s.node.n.hm.r ∧ t.n.hm.slew = 0 ∧
    t.n.hm.lastCause = 1 ∧ t.latched .n 19 = true ∧ t.conditionOn .n 19 = true ∧ t.n.hm.count = s.node.n.hm.count ∧ t.stored = s.node.stored ∧ t.n.dict = s.node.n.dict) ∧
  (∀ (s : State), s.node.nUp = true → s.node.n.hm.state = .holdover → Gives (.holdoverAlarm .n) s fun t =>
    t.n.hm.lastCause = 2 ∧ t.latched .n 19 = true ∧ t.conditionOn .n 19 = true ∧ t.n.hm.state = .holdover ∧ t.n.hm.count = s.node.n.hm.count ∧ t.stored = s.node.stored ∧ t.n.dict = s.node.n.dict) ∧
  (∀ (s : State), s.node.fUp = true → s.node.f.fol.state = .holdover → Gives (.holdoverAlarm .f) s fun t =>
    t.f.fol.lastCause = 2 ∧ t.f.fol.alarm = true ∧ t.latched .f 23 = true ∧ t.conditionOn .f 23 = true ∧ t.f.fol.count = s.node.f.fol.count ∧ t.n.hm = s.node.n.hm ∧ t.stored = s.node.stored) ∧
  (∀ (s : State), s.node.nUp = true → s.node.n.hm.rTarget.natAbs = 2000000000000 → Gives .rateLimitAlarm s fun t =>
    t.n.hm.lastCause = 4 ∧ t.latched .n 19 = true ∧ t.conditionOn .n 19 = true ∧ t.n.hm.rTarget = s.node.n.hm.rTarget ∧ t.stored = s.node.stored ∧ t.n.dict = s.node.n.dict)

/-- R250, R261, R262, R265, R268: steps, the wrap, sync pins and manual time. -/
def Obligations.StepsWrapsAndSyncPins : Prop :=
  (∀ (s : State) (x : TimeStep), s.node.nUp = true → s.node.n.hm.step = some x → s.node.f.fol.step = none → Gives .stepInstant s fun t =>
    t.n.hm.count = x.instant + x.amount ∧ t.n.hm.step = none ∧ t.n.hm.steps = satAdd 255 s.node.n.hm.steps 1 ∧ t.n.can.stepped = true ∧
    t.n.hm.era = eraStepped s.node.n.hm.era x.instant (x.instant + x.amount) x.amount.toInt ∧ t.n.hm.r = s.node.n.hm.r ∧ t.f.fol = s.node.f.fol ∧ t.stored = s.node.stored) ∧
  (∀ (s : State) (x : TimeStep),
    s.node.fUp = true → s.node.f.fol.state ≠ .unaligned → s.node.f.fol.step = some x → s.node.n.hm.step = none →
    Gives .stepInstant s fun t =>
    t.f.fol.count = x.instant + x.amount ∧ t.f.fol.step = none ∧ t.f.fol.state = s.node.f.fol.state ∧
    t.f.fol.era = eraStepped s.node.f.fol.era x.instant (x.instant + x.amount) x.amount.toInt ∧ t.n.hm = s.node.n.hm ∧ t.stored = s.node.stored) ∧
  (∀ (s : State), s.node.nUp = true → s.node.n.hm.count = BitVec.allOnes 48 → Gives .countWrap s fun t =>
    t.n.hm = { s.node.n.hm with count := 0, era := s.node.n.hm.era + 1 } ∧ t.n.faults = s.node.n.faults ∧ t.n.seq = s.node.n.seq ∧ t.stored = s.node.stored ∧ t.n.dict = s.node.n.dict) ∧
  (∀ (s : State),
    s.node.fUp = true → s.node.f.fol.state ≠ .unaligned → s.node.f.fol.count = BitVec.allOnes 48 →
    Gives .countWrap s fun t =>
    t.f.fol = { s.node.f.fol with count := 0, era := s.node.f.fol.era + 1 } ∧ t.f.faults = s.node.f.faults ∧ t.f.seq = s.node.f.seq ∧ t.stored = s.node.stored ∧ t.n.dict = s.node.n.dict) ∧
  (∀ (s : State) (at_ : T48), s.node.nUp = true → s.node.val 0x3018 = 2 → Gives (.nSyncEdge at_) s fun t =>
    t.n.syncCapture = at_ ∧ t.n.hm = s.node.n.hm ∧ t.f = s.node.f ∧ t.n.faults = s.node.n.faults ∧ t.stored = s.node.stored ∧ t.n.dict = s.node.n.dict) ∧
  (∀ (s : State) (at_ : T48),
    s.node.nUp = true → s.node.val 0x3018 = 1 → s.node.n.hm.state = .tracking → s.node.n.hm.set = none →
    s.node.n.hm.source = 3 → s.node.sourceUsable 3 = true →
    Gives (.nSyncEdge at_) s fun t =>
    t.n.hm.offset = clampInt 8388607 (offsetOfTicks (ticksAhead (nearestMultiple (s.node.val 0x301A) at_) at_)) ∧ t.n.syncCapture = s.node.n.syncCapture ∧ t.stored = s.node.stored ∧ t.n.dict = s.node.n.dict) ∧
  (∀ (s : State) (at_ : T48), s.node.fUp = true → s.node.val 0x3019 = 2 → Gives (.fSyncEdge at_) s fun t =>
    t.f.syncCapture = (if s.node.f.fol.state = .unaligned then s.node.f.syncCapture else at_) ∧ t.f.fol = s.node.f.fol ∧ t.n = s.node.n ∧
    t.f.faults = s.node.f.faults ∧ t.stored = s.node.stored) ∧
  (∀ (s : State) (d : Die), s.node.up d = true → s.node.syncMode d = 3 → Gives (.syncPulseOutput d) s fun t =>
    (t.die d).syncPulseAt = some (s.node.time d) ∧ (t.die d).syncCapture = (s.node.die d).syncCapture ∧ (t.die d).faults = (s.node.die d).faults ∧
    t.n.hm = s.node.n.hm ∧ t.f.fol = s.node.f.fol ∧ t.stored = s.node.stored ∧ t.n.dict = s.node.n.dict) ∧
  (∀ (s : State) (rq : Rq) (v : Nat) (u : Node) (x : Txn),
    s.node.accepts rq 0x300B (.write (.pair v)) = some (u, x) → s.node.n.dev ≠ .boot → s.node.n.dev ≠ .sealed →
    v < 281474976710656 → s.node.n.hm.state = .free →
    Gives (.manualTime rq (.pair v)) s fun t =>
    t.answer x = some (0x00, []) ∧ t.n.hm.count = BitVec.ofNat 48 v ∧ t.n.hm.state = .tracking ∧ t.n.hm.source = 4 ∧ t.n.hm.acquired = true ∧
    t.f.fol = s.node.f.fol ∧ t.stored = s.node.stored) ∧
  (∀ (s : State) (rq : Rq) (v : Nat) (u : Node) (x : Txn),
    s.node.accepts rq 0x300B (.write (.pair v)) = some (u, x) → s.node.n.dev ≠ .boot → s.node.n.dev ≠ .sealed →
    s.node.manualAllowed = false →
    Gives (.manualTime rq (.pair v)) s fun t =>
    t.answer x = some (0x14, []) ∧ t.n.hm = s.node.n.hm ∧ t.f = s.node.f ∧ t.stored = s.node.stored) ∧
  (∀ (s : State) (rq : Rq) (v : Nat) (u : Node) (x : Txn),
    s.node.accepts rq 0x300C (.write (.word v)) = some (u, x) → s.node.n.dev ≠ .boot → s.node.n.dev ≠ .sealed →
    s.node.manualAllowed = true →
    Gives (.manualEra rq (.word v)) s fun t =>
    t.answer x = some (0x00, []) ∧ t.n.hm = { s.node.n.hm with era := BitVec.ofNat 24 v, eraKnown := true } ∧ t.f = s.node.f ∧ t.stored = s.node.stored)

/-- R280 to R293: launches and flow. -/
def Obligations.FlowOfLists : Prop :=
  (∀ (s : State) (d : Die) (i : Fin 32),
    s.node.up d = true → s.node.devOf d = .run → (s.node.slot d i).state = .armed →
    listLocation (s.node.blob (listKey (s.node.slot d i).list)) = 0 →
    Gives (.slotLaunch d i) s fun t =>
    t.run d (.slot i) = some { list := (s.node.slot d i).list, sched := (s.node.slot d i).launch, launch := (s.node.slot d i).launch } ∧
    (t.slot d i).state = (if periodTicks (s.node.slot d i).period = 0 ∨ (s.node.slot d i).launches = 1 then .running else .rearmed) ∧
    (∀ j, j ≠ i.val → t.slot d j = s.node.slot d j) ∧ (t.die d).seq.objects = (s.node.die d).seq.objects ∧ (t.die d).ch = (s.node.die d).ch ∧
    (t.die d).faults = (s.node.die d).faults ∧ t.die (otherDie d) = s.node.die (otherDie d) ∧ t.stored = s.node.stored) ∧
  (∀ (s : State) (d : Die) (i : Fin 32),
    s.node.up d = true → s.node.devOf d ≠ .run → (s.node.slot d i).state = .armed →
    periodTicks (s.node.slot d i).period = 0 →
    Gives (.slotLaunch d i) s fun t =>
    (t.slot d i).state = .free ∧ t.run d (.slot i) = none ∧ (t.die d).ch = (s.node.die d).ch ∧ t.die (otherDie d) = s.node.die (otherDie d) ∧ t.stored = s.node.stored) ∧
  (∀ (s : State) (d : Die) (r : Runner) (run : Run) (w a b : Nat),
    s.node.stepNow d r 0x00 = some (run, w, a, b) → run.outstanding = 0 →
    Gives (.endStep d r) s fun t =>
    t.run d r = none ∧ (t.die d).ch = (s.node.die d).ch ∧ (t.die d).faults = (s.node.die d).faults ∧
    (t.die d).seq.objects = (s.node.die d).seq.objects ∧ t.die (otherDie d) = s.node.die (otherDie d) ∧ t.stored = s.node.stored) ∧
  (∀ (s : State) (d : Die) (r : Runner) (run : Run) (w a b : Nat),
    s.node.stepNow d r 0x00 = some (run, w, a, b) → run.outstanding ≠ 0 →
    Gives (.endStep d r) s fun t =>
    t.run d r = some { run with ending := true } ∧ (t.die d).ch = (s.node.die d).ch ∧ t.die (otherDie d) = s.node.die (otherDie d) ∧ t.stored = s.node.stored) ∧
  (∀ (s : State) (d : Die) (r : Runner) (run : Run) (w a b : Nat),
    s.node.stepNow d r 0x01 = some (run, w, a, b) → listLocation (s.node.blob (listKey run.list)) = 0 →
    Gives (.wait d r) s fun t =>
    t.run d r = some { run with pc := run.pc + 1, sched := addTicks run.sched (waitTicks w) } ∧ (t.die d).ch = (s.node.die d).ch ∧
    (t.die d).faults = (s.node.die d).faults ∧ t.die (otherDie d) = s.node.die (otherDie d) ∧ t.stored = s.node.stored) ∧
  (∀ (s : State) (d : Die) (r : Runner) (run : Run) (w a b : Nat),
    s.node.stepNow d r 0x02 = some (run, w, a, b) → listLocation (s.node.blob (listKey run.list)) = 0 →
    Gives (.join d r) s fun t =>
    t.run d r = some (if run.outstanding = 0 then { run with pc := run.pc + 1, sched := run.sched + 1 } else { run with joining := true }) ∧
    (t.die d).ch = (s.node.die d).ch ∧ (t.die d).faults = (s.node.die d).faults ∧ t.die (otherDie d) = s.node.die (otherDie d) ∧ t.stored = s.node.stored) ∧
  (∀ (s : State) (d : Die) (r : Runner) (run : Run),
    s.node.run d r = some run → s.node.up d = true → run.joining = true → run.outstanding = 0 →
    listLocation (s.node.blob (listKey run.list)) = 0 →
    Gives (.joinRelease d r) s fun t =>
    t.run d r = some { run with joining := false, pc := run.pc + 1, sched := s.node.time d } ∧ (t.die d).ch = (s.node.die d).ch ∧
    (t.die d).faults = (s.node.die d).faults ∧ t.die (otherDie d) = s.node.die (otherDie d) ∧ t.stored = s.node.stored) ∧
  (∀ (s : State) (d : Die) (r : Runner) (run : Run) (w a b : Nat),
    s.node.stepNow d r 0x03 = some (run, w, a, b) → listLocation (s.node.blob (listKey run.list)) = 0 →
    Gives (.loop d r) s fun t =>
    t.run d r = some (loopRun w run) ∧ (t.die d).ch = (s.node.die d).ch ∧ (t.die d).faults = (s.node.die d).faults ∧ t.die (otherDie d) = s.node.die (otherDie d) ∧ t.stored = s.node.stored)

/-- R281, R288, R302, R307: outputs and objects. -/
def Obligations.OutputAndObjectSteps : Prop :=
  (∀ (s : State) (d : Die) (r : Runner) (late : Nat) (run : Run) (w a b : Nat),
    s.node.stepNow d r 0x08 = some (run, w, a, b) → BitVec.ofNat 8 (bits w 15 8) &&& ~~~ (s.node.die d).ch.timed = 0 →
    s.node.strobeLost d (claspIsland d) = false →
    Gives (.level d r late) s fun t =>
    issued d r 0x08 run t ∧ (∀ c ∈ eight, bit w (c + 8) = true → (t.chan d c).timedLevel = bit w c) ∧
    (∀ c ∈ eight, bit w (c + 8) = false → t.chan d c = s.node.chan d c) ∧ (t.die d).seq.objects = (s.node.die d).seq.objects ∧ t.stored = s.node.stored) ∧
  (∀ (s : State) (d : Die) (r : Runner) (late : Nat) (run : Run) (w a b : Nat),
    s.node.stepNow d r 0x08 = some (run, w, a, b) →
    (BitVec.ofNat 8 (bits w 15 8) &&& ~~~ (s.node.die d).ch.timed ≠ 0 ∨ s.node.strobeLost d (claspIsland d) = true) →
    Gives (.level d r late) s fun t =>
    t.latched d (seqSource d) = true ∧ (∀ c ∈ eight, (t.chan d c).timedLevel = (s.node.chan d c).timedLevel) ∧ t.stored = s.node.stored) ∧
  (∀ (s : State) (d : Die) (r : Runner) (late : Nat) (run : Run) (w a b : Nat),
    s.node.stepNow d r 0x09 = some (run, w, a, b) →
    Gives (.forceStep d r late) s fun t =>
    issued d r 0x09 run t ∧ (t.die d).ch.far = (s.node.die d).ch.far ∧
    tget 0 (t.die d).ch.own 2 = (if bit w 16 then tget 0 (s.node.die d).ch.own 2 ||| (BitVec.ofNat 8 (bits w 7 0) &&& s.node.outputs d)
      else tget 0 (s.node.die d).ch.own 2 &&& ~~~ (BitVec.ofNat 8 (bits w 7 0) &&& s.node.outputs d)) ∧
    (∀ o ∈ origins, o ≠ 2 → tget 0 (t.die d).ch.own o = tget 0 (s.node.die d).ch.own o) ∧ (t.die d).seq.objects = (s.node.die d).seq.objects ∧ t.stored = s.node.stored) ∧
  (∀ (s : State) (d : Die) (r : Runner) (late : Nat) (run : Run) (w a b : Nat),
    s.node.stepNow d r 0x10 = some (run, w, a, b) → (s.node.object d (bits w 2 0)).isOpen = false →
    Gives (.open_ d r late) s fun t =>
    issued d r 0x10 run t ∧ (t.object d (bits w 2 0)).isOpen = true ∧ (t.object d (bits w 2 0)).work = [] ∧
    (t.object d (bits w 2 0)).workTime = run.launch ∧ (t.object d (bits w 2 0)).data = (s.node.object d (bits w 2 0)).data ∧
    (t.run d r).map Run.opened = some (run.opened ++ [bits w 2 0]) ∧ (t.die d).ch = (s.node.die d).ch ∧ t.stored = s.node.stored) ∧
  (∀ (s : State) (d : Die) (r : Runner) (late : Nat) (run : Run) (w a b : Nat),
    s.node.stepNow d r 0x10 = some (run, w, a, b) → (s.node.object d (bits w 2 0)).isOpen = true →
    Gives (.open_ d r late) s fun t =>
    t.latched d (seqSource d) = true ∧ t.object d (bits w 2 0) = s.node.object d (bits w 2 0) ∧ t.stored = s.node.stored) ∧
  (∀ (s : State) (d : Die) (r : Runner) (late : Nat) (run : Run) (w a b : Nat),
    s.node.stepNow d r 0x11 = some (run, w, a, b) → (s.node.object d (bits w 2 0)).isOpen = true →
    Gives (.close d r late) s fun t =>
    issued d r 0x11 run t ∧ (t.object d (bits w 2 0)).isOpen = false ∧ (t.object d (bits w 2 0)).data = (s.node.object d (bits w 2 0)).work ∧
    (t.object d (bits w 2 0)).time = (s.node.object d (bits w 2 0)).workTime ∧
    (t.object d (bits w 2 0)).tag = nextTag (s.node.object d (bits w 2 0)).tag ∧ (t.die d).ch = (s.node.die d).ch ∧
    (bit w 8 = false → t.n.can.tx = s.node.n.can.tx) ∧ t.stored = s.node.stored) ∧
  (∀ (s : State) (d : Die) (r : Runner) (late : Nat) (run : Run) (w a b : Nat),
    s.node.stepNow d r 0x12 = some (run, w, a, b) → (s.node.object d (bits a 23 21)).isOpen = true →
    bits a 19 11 + (s.node.captured d (bits w 1 0)).length ≤ 512 →
    Gives (.capture d r late) s fun t =>
    issued d r 0x12 run t ∧
    (t.object d (bits a 23 21)).work = writeAt (s.node.object d (bits a 23 21)).work (bits a 19 11) (s.node.captured d (bits w 1 0)) ∧
    (t.object d (bits a 23 21)).isOpen = true ∧ (t.die d).ch = (s.node.die d).ch ∧ t.stored = s.node.stored)

/-- R97, R292, R299, R300: steps that use other units. -/
def Obligations.StepsThatReachOut : Prop :=
  (∀ (s : State) (d : Die) (r : Runner) (late : Nat) (row : KeyRow) (run : Run) (w a b : Nat),
    s.node.stepNow d r 0x13 = some (run, w, a, b) → keyRow (bits w 15 0) = some row → row.home = .n →
    row.persist = .s → row.type.isBlob = false → row.sel = .none → s.node.engineReached d = true →
    s.node.n.dict.txns.length < 16 → (s.node.flightOf 7).length < 4 → (s.node.object d (bits a 23 21)).isOpen = true →
    bits a 19 11 + 6 ≤ 512 → run.outstanding = 0 →
    Gives (.readkey d r late) s fun t =>
    issued d r 0x13 run t ∧ (t.object d (bits a 23 21)).work =
      writeAt (s.node.object d (bits a 23 21)).work (bits a 19 11) (wordBytes row.type (s.node.val (bits w 15 0))) ∧
    t.n.dict.txns = s.node.n.dict.txns ∧ (t.run d r).map Run.outstanding = some 0 ∧ t.stored = s.node.stored) ∧
  (∀ (s : State) (d : Die) (r : Runner) (late : Nat) (run : Run) (w a b : Nat),
    s.node.stepNow d r 0x14 = some (run, w, a, b) → bits w 15 0 = 0x1004 → 10 ≤ a → a ≤ 2000 →
    s.node.engineReached d = true → s.node.n.dev = .run → s.node.n.dict.run = none → s.node.n.dict.txns.length < 16 →
    (s.node.flightOf 7).length < 4 → run.outstanding = 0 →
    Gives (.writekey d r late) s fun t =>
    issued d r 0x14 run t ∧ t.val 0x1004 = a ∧ t.n.dict.txns = s.node.n.dict.txns ∧ t.blobs = s.node.blobs ∧ t.nLedger = s.node.nLedger ∧
    t.fLedger = s.node.fLedger) ∧
  (∀ (s : State) (d : Die) (r : Runner) (late i : Nat) (run : Run) (w a b : Nat),
    s.node.stepNow d r 0x18 = some (run, w, a, b) → bits w 7 0 < 128 → listDie (bits w 7 0) = d →
    s.node.armsNow d = true → s.node.listDefined d (bits w 7 0) = true →
    before (addTicks run.sched a) (s.node.time d) = false → s.node.freeSlot d (bits w 12 8) = some i →
    Gives (.armStep d r late) s fun t =>
    issued d r 0x18 run t ∧ (t.slot d i).list = bits w 7 0 ∧ (t.slot d i).launch = addTicks run.sched a ∧ (t.slot d i).state = .armed ∧
    (t.slot d i).origin = 4 ∧ (t.die d).ch = (s.node.die d).ch ∧ t.stored = s.node.stored) ∧
  (∀ (s : State) (d : Die) (r : Runner) (late : Nat) (run : Run) (w a b : Nat),
    s.node.stepNow d r 0x18 = some (run, w, a, b) → bits w 7 0 < 128 → listDie (bits w 7 0) ≠ d →
    s.node.seqTorn d = false → (s.node.die d).clasp.orders.length < 8 →
    Gives (.armStep d r late) s fun t =>
    issued d r 0x18 run t ∧ (t.run d r).map Run.outstanding = some (run.outstanding + 1) ∧
    ((t.die d).clasp.orders.any fun o => o.list == bits w 7 0 && o.launch == addTicks run.sched a && o.floor == bits w 12 8) = true ∧ t.stored = s.node.stored) ∧
  (∀ (s : State) (r : Runner) (late : Nat) (run : Run) (w a b : Nat),
    s.node.stepNow .n r 0x19 = some (run, w, a, b) → (s.node.n.can.tx.filter fun f => f.cls == 2).length < 2 →
    s.node.strobeLost .n 2 = false →
    Gives (.trig .n r late) s fun t =>
    issued .n r 0x19 run t ∧ t.n.can.tx = s.node.n.can.tx ++ [⟨2, bits w 17 11, 0, s.node.n.seq.trigCount % 128, none, false,
      triggerPayload (addTicks run.sched a) (bits w 7 0) (bits w 8 8)⟩] ∧ t.n.seq.trigCount = s.node.n.seq.trigCount + 1 ∧ t.n.ch = s.node.n.ch ∧ t.stored = s.node.stored) ∧
  (∀ (s : State) (r : Runner) (late : Nat) (run : Run) (w a b : Nat),
    s.node.stepNow .f r 0x19 = some (run, w, a, b) →
    Gives (.trig .f r late) s fun t =>
    issued .f r 0x19 run t ∧ t.f.seq.trigCount = s.node.f.seq.trigCount + 1 ∧ t.f.ch = s.node.f.ch ∧ t.n = s.node.n ∧ t.stored = s.node.stored) ∧
  (∀ (s : State) (r : Runner) (late : Nat) (run : Run) (w a b : Nat),
    s.node.stepNow .f r 0x20 = some (run, w, a, b) → bit w 0 = true → s.node.strobeLost .f (6 + bits w 17 16) = false →
    s.node.torn .f (3 + bits w 17 16) = false → (s.node.bead (bits w 17 16)).state = .idle →
    s.node.beadMode (bits w 17 16) ≠ 3 → bits w 15 12 + bits w 11 8 + 1 ≤ s.node.beadPositions (bits w 17 16) →
    Gives (.beadStep r late) s fun t =>
    issued .f r 0x20 run t ∧ (t.run .f r).map Run.outstanding = some (run.outstanding + 1) ∧ (t.bead (bits w 17 16)).state = .train ∧
    (t.bead (bits w 17 16)).sync = s.node.time .f ∧ (∀ q ∈ beadPorts, q ≠ bits w 17 16 → t.bead q = s.node.bead q) ∧ t.f.ch = s.node.f.ch ∧ t.n = s.node.n ∧ t.stored = s.node.stored) ∧
  (∀ (s : State) (r : Runner) (late : Nat) (run : Run) (w a b : Nat),
    s.node.stepNow .f r 0x21 = some (run, w, a, b) → s.node.strobeLost .f 5 = false → s.node.f.fport.queue.length < 4 →
    s.node.torn .f 2 = false →
    Gives (.fportStep r late) s fun t =>
    issued .f r 0x21 run t ∧ (t.run .f r).map Run.outstanding = some (run.outstanding + 1) ∧
    t.f.fport.queue = s.node.f.fport.queue ++ [.stored (refOf r run) (bits w 3 0) a] ∧ t.f.ch = s.node.f.ch ∧ t.n = s.node.n ∧ t.stored = s.node.stored) ∧
  (∀ (s : State) (r : Runner) (late : Nat) (run : Run) (w a b : Nat),
    s.node.stepNow .n r 0x22 = some (run, w, a, b) → s.node.strobeLost .n 3 = false → s.node.n.port.mode = 2 →
    s.node.n.port.master = none → s.node.blob (0x1210 + bits w 2 0) ≠ [] →
    Gives (.nportStep r late) s fun t =>
    issued .n r 0x22 run t ∧ (t.run .n r).map Run.outstanding = some (run.outstanding + 1) ∧
    t.n.port.master = some ⟨bits w 2 0, s.node.blob (0x1210 + bits w 2 0), refOf r run, a⟩ ∧ t.n.ch = s.node.n.ch ∧ t.f = s.node.f ∧ t.stored = s.node.stored)

/-- R238 to R248: islands and crossings. -/
def Obligations.IslandsAndCrossings : Prop :=
  (∀ (s : State) (d : Die) (i : Nat),
    s.node.up d = true → isIsland d i = true → (d = .n → i = 3 → s.node.n.port.mode ≠ 1) →
    Gives (.clockMonitorTrip d i) s fun t =>
    (tget? (t.die d).isl.inReset i).isSome = true ∧ t.latched d 3 = true ∧
    (∀ k ∈ List.range 10, islandCrossing d i = some k → t.torn d k = true) ∧ t.stored = s.node.stored ∧ t.n.dict = s.node.n.dict) ∧
  (∀ (s : State), s.node.n.port.mode = 1 → Gives (.clockMonitorTrip .n 3) s fun t =>
    t = s.node) ∧
  (∀ (s : State) (d : Die) (i : Nat), tget? (s.node.die d).isl.inReset i = some 1 → Gives (.islandClockRecovered d i) s fun t =>
    tget? (t.die d).isl.inReset i = none ∧ (t.die d).isl.torn = (s.node.die d).isl.torn ∧ (t.die d).isl.resets = (s.node.die d).isl.resets ∧
    (t.die d).faults = (s.node.die d).faults ∧ t.die (otherDie d) = s.node.die (otherDie d) ∧ t.stored = s.node.stored) ∧
  (∀ (s : State) (d : Die) (i cause : Nat), tget? (s.node.die d).isl.inReset i = some cause → cause ≠ 1 → Gives (.islandResetRelease d i) s fun t =>
    tget? (t.die d).isl.inReset i = none ∧ (t.die d).isl.torn = (s.node.die d).isl.torn ∧ (t.die d).isl.resets = (s.node.die d).isl.resets ∧
    (t.die d).faults = (s.node.die d).faults ∧ t.die (otherDie d) = s.node.die (otherDie d) ∧ t.stored = s.node.stored) ∧
  (∀ (s : State) (d : Die), s.node.collects d = true → Gives (.hubClockFailure d) s fun t =>
    (t.die d).phase = .starting ∧ (t.die d).cause = (if d = .n then 4 else 3) ∧ (t.die d).faults = {} ∧ (t.die d).clasp = {} ∧ (t.die d).seq = {} ∧
    (t.die (otherDie d)).phase = (s.node.die (otherDie d)).phase ∧ t.nLedger = s.node.nLedger ∧ t.fLedger = s.node.fLedger) ∧
  (∀ (s : State) (c entries i : Nat) (d : Die),
    crossingOf c = some (d, i) → s.node.up d = true → s.node.torn d i = false →
    Gives (.crossingTear c entries) s fun t =>
    t.torn d i = true ∧ t.latched d (if d = .n then 17 else 22) = true ∧ t.conditionOn d (if d = .n then 17 else 22) = true ∧
    t.stored = s.node.stored ∧ t.n.dict = s.node.n.dict) ∧
  (∀ (s : State) (c entries i : Nat) (d : Die), crossingOf c = some (d, i) → s.node.torn d i = true → Gives (.crossingTear c entries) s fun t =>
    t = s.node) ∧
  (∀ (s : State) (rq : Rq) (a : Nat) (u : Node) (x : Txn),
    s.node.accepts rq 0xF004 (.command (some a)) = some (u, x) → s.node.n.dev ≠ .boot → 1 ≤ a → a ≤ 5 → a ≠ 3 →
    Gives (.pairReset rq (some a)) s fun t =>
    t.answer x = some (0x00, []) ∧ t.torn .n (a - 1) = false ∧ tget? t.n.isl.inReset (crossingIsland .n (a - 1)) = none ∧
    t.n.isl.lastCause ≤ 2 ∧ (a = 1 → s.node.n.can.state ≠ .stopped → t.n.can.state = .integrating) ∧
    (a = 4 → ∀ i : Fin 32, t.run .n (.slot i) = none) ∧ t.f = s.node.f ∧ t.stored = s.node.stored) ∧
  (∀ (s : State) (rq : Rq) (a : Nat) (u : Node) (x : Txn),
    s.node.accepts rq 0xF004 (.command (some a)) = some (u, x) → s.node.lineOpen = true → s.node.n.dev ≠ .boot →
    0x14 ≤ a → a ≤ 0x17 →
    Gives (.pairReset rq (some a)) s fun t =>
    t.answer x = some (0x00, []) ∧ t.torn .f (a - 0x11) = false ∧ tget? t.f.isl.inReset (crossingIsland .f (a - 0x11)) = none ∧
    (t.bead (a - 0x14)).state = (if s.node.beadMode (a - 0x14) = 0 then .off else .powering) ∧ t.stored = s.node.stored) ∧
  (∀ (s : State) (rq : Rq) (a : Nat) (u : Node) (x : Txn),
    s.node.accepts rq 0xF004 (.command (some a)) = some (u, x) → s.node.n.dev ≠ .boot → a < 16777216 →
    crossingOf a = none →
    Gives (.pairReset rq (some a)) s fun t =>
    t.answer x = some (0x13, []) ∧ t.n.isl.torn = s.node.n.isl.torn ∧ t.f = s.node.f ∧ t.stored = s.node.stored) ∧
  (∀ (s : State) (d : Die), s.node.collects d = true → Gives (.counterSample d) s fun t =>
    (t.die d).isl.unsampled = [] ∧ (t.die d).isl.torn = (s.node.die d).isl.torn ∧ (t.die d).faults = (s.node.die d).faults ∧
    t.die (otherDie d) = s.node.die (otherDie d) ∧ t.stored = s.node.stored)

/-- R280, R288, R290, R294, R304, R306: action keys. -/
def Obligations.ListsArmsAndResults : Prop :=
  (∀ (s : State) (rq : Rq) (l : Nat) (bytes : List Byte) (u : Node) (x : Txn),
    s.node.accepts rq (0x3200 + l) (wholeBlob bytes) = some (u, x) → l < 128 → s.node.seqTorn (listDie l) = false →
    (l < 64 → s.node.lineOpen = true) → s.node.n.dev = .setup → s.node.f.dev = .setup → bytes.length ≤ 9219 →
    Gives (.listWrite rq (0x3200 + l) bytes) s fun t =>
    t.answer x = some (if s.node.listInUse (listDie l) l then 0x14 else if s.node.listOk (listDie l) l bytes then 0x00 else 0x13, []) ∧
    t.blob (0x3200 + l) = (if s.node.listInUse (listDie l) l = false ∧ s.node.listOk (listDie l) l bytes = true then bytes else s.node.blob (0x3200 + l)) ∧
    t.vals = s.node.vals ∧ t.nLedger = s.node.nLedger ∧ t.fLedger = s.node.fLedger ∧ (∀ d : Die, (t.die d).seq = (s.node.die d).seq)) ∧
  (∀ (s : State) (rq : Rq) (d : Die) (bytes : List Byte) (i : Nat) (u : Node) (x : Txn),
    s.node.accepts rq (0x3048 + 16 * dieCode d) (wholeBlob bytes) = some (u, x) → (d = .f → s.node.lineOpen = true) →
    s.node.n.dev = .setup → s.node.f.dev = .setup → bytes.length ≤ 16 → s.node.seqTorn d = false →
    armTakes d bytes s.node = some i → before (slotOfBlob bytes).launch (s.node.time d) = false →
    Gives (.armWrite rq d bytes) s fun t =>
    t.answer x = some (0x00, []) ∧ t.slot d i = { slotOfBlob bytes with state := .armed } ∧ (t.die d).ch = (s.node.die d).ch ∧ t.stored = s.node.stored) ∧
  (∀ (s : State) (rq : Rq) (d : Die) (bytes : List Byte) (st : Nat) (u : Node) (x : Txn),
    s.node.accepts rq (0x3048 + 16 * dieCode d) (wholeBlob bytes) = some (u, x) → (d = .f → s.node.lineOpen = true) →
    s.node.n.dev = .setup → s.node.f.dev = .setup → bytes.length ≤ 16 → armRefusal d bytes s.node = some st →
    Gives (.armWrite rq d bytes) s fun t =>
    t.answer x = some (st, []) ∧ (t.die d).seq = (s.node.die d).seq ∧ t.stored = s.node.stored) ∧
  (∀ (s : State) (rq : Rq) (d : Die) (a : Nat) (u : Node) (x : Txn),
    s.node.accepts rq (0x3049 + 16 * dieCode d) (.command (some a)) = some (u, x) → (d = .f → s.node.lineOpen = true) →
    s.node.devOf d ≠ .boot → s.node.devOf d ≠ .sealed → s.node.seqTorn d = false → a < 16777216 →
    Gives (.slotCancel rq d (some a)) s fun t =>
    t.answer x = some (if a < 32 then 0x00 else 0x13, []) ∧ (a < 32 → (t.slot d a).state = .free ∧ t.run d (.slot (Fin.ofNat 32 a)) = none) ∧
    (∀ j ∈ List.range 32, j ≠ a → t.slot d j = s.node.slot d j) ∧ (t.die d).ch = (s.node.die d).ch ∧ t.stored = s.node.stored) ∧
  (∀ (s : State) (rq : Rq) (d : Die) (v : Nat) (u : Node) (x : Txn),
    s.node.accepts rq (0x3044 + 16 * dieCode d) (.write (.word v)) = some (u, x) → (d = .f → s.node.lineOpen = true) →
    s.node.n.dev = .setup → s.node.f.dev = .setup → v < 256 → s.node.timedRefused d v = false →
    s.node.claspTorn d = false →
    Gives (.timedInputWrite rq d (.word v)) s fun t =>
    t.answer x = some (0x00, []) ∧ t.val (0x3044 + 16 * dieCode d) = v ∧ (t.die d).ch.timed = BitVec.ofNat 8 v ∧ (t.die d).ch.map = (s.node.die d).ch.map ∧
    t.blobs = s.node.blobs ∧ t.nLedger = s.node.nLedger ∧ t.fLedger = s.node.fLedger) ∧
  (∀ (s : State) (rq : Rq) (d : Die) (o : Fin 8) (offset length : Nat) (u : Node) (x : Txn),
    s.node.accepts rq (0x3C00 + 16 * dieCode d + o.val) (.readBlock offset length) = some (u, x) →
    (d = .f → s.node.lineOpen = true) → s.node.seqTorn d = false → 1 ≤ length → length ≤ 4096 →
    Gives (.resultRead rq d o offset length) s fun t =>
    t.answer x = some (if (objectImage (if (s.node.object d o).tag = 0 then {} else s.node.object d o)).length < offset then (0x13, [])
      else (if (s.node.object d o).isOpen ∨ (s.node.object d o).tag = 0 then 0x20
          else if (s.node.object d o).tag = ((tget? u.n.dict.sessions x.session).map fun q => tget 0 q.tags (8 * dieCode d + o)).getD 0 then 0x21 else 0x00,
        slice (objectImage (if (s.node.object d o).tag = 0 then {} else s.node.object d o)) offset length)) ∧
    (t.die d).seq = (s.node.die d).seq ∧ t.stored = s.node.stored) ∧
  (∀ (s : State) (rq : Rq) (d : Die) (length : Nat) (u : Node) (x : Txn),
    s.node.accepts rq (0x3D00 + 16 * dieCode d) (.readBlock 0 length) = some (u, x) →
    (d = .f → s.node.lineOpen = true) → s.node.seqTorn d = false → 12 ≤ length → length ≤ 4096 →
    Gives (.launchRecordRead rq d 0 length) s fun t =>
    t.answer x = some (((s.node.die d).seq.records.head?.map fun r => (0x00, recordImage r)).getD (0x22, [])) ∧
    (t.die d).seq.records = (s.node.die d).seq.records.tail ∧ (t.die d).seq.slots = (s.node.die d).seq.slots ∧ t.stored = s.node.stored)

/-- R321 to R324, R339: link ports and their neighbours. -/
def Obligations.ChainPortsAndNeighbours : Prop :=
  (∀ (s : State) (p : Port),
    s.node.linkOn p = true → (s.node.link p).state = .bringup ∨ (s.node.link p).state = .up →
    Gives (.helloSend p) s fun t =>
    handed p (s.node.helloFrame p) s.node t = true ∧ (t.link p).state = (s.node.link p).state ∧ t.f.chain = s.node.f.chain ∧ t.n = s.node.n ∧ (∀ q : Port, q ≠ p → t.link q = s.node.link q) ∧ t.stored = s.node.stored) ∧
  (∀ (s : State) (p : Port) (h : Hello),
    s.node.linkOn p = true → (s.node.link p).state = .bringup → (s.node.link p).role = .none →
    (s.node.link p).serial = h.serial → 2 ≤ (s.node.link p).hellos → h.heard = true → s.node.f.chain.number ≠ 0 →
    Gives (.hello p h) s fun t =>
    (t.link p).state = .up ∧ (t.link p).role = (if h.parent then .child else .standby) ∧ (t.link p).serial = h.serial ∧ (t.link p).neighbour = h.number ∧
    (t.link p).letter = h.letter ∧ (t.link p).crcErrors = 0 ∧ (t.link p).violations = 0 ∧ t.f.faults = s.node.f.faults ∧ t.stored = s.node.stored ∧ t.n.dict = s.node.n.dict) ∧
  (∀ (s : State) (p : Port) (h : Hello),
    s.node.linkOn p = true → (s.node.link p).state = .bringup →
    (s.node.link p).serial ≠ h.serial ∨ (s.node.link p).hellos < 2 ∨ h.heard = false →
    Gives (.hello p h) s fun t =>
    (t.link p).state = .bringup ∧ (t.link p).heard = true ∧ (t.link p).serial = h.serial ∧
    (t.link p).hellos = (if !h.heard then 0 else if (s.node.link p).serial = h.serial then (s.node.link p).hellos + 1 else 1) ∧ (∀ q : Port, q ≠ p → t.link q = s.node.link q) ∧ t.f.chain = s.node.f.chain ∧ t.stored = s.node.stored ∧ t.n.dict = s.node.n.dict) ∧
  (∀ (s : State) (p : Port) (h : Hello),
    s.node.portUp p = true → s.node.f.park.state = .none → h.heard = false →
    Gives (.hello p h) s fun t =>
    (t.link p).state = .bringup ∧ (t.link p).role = .none ∧ (t.link p).cause = 3 ∧ (t.link p).queue = (s.node.link p).queue ∧
    t.latched .f (linkSource p) = true ∧ (s.node.lostParent p = true → t.f.chain.state = .repairing) ∧
    (s.node.lostParent p = false → t.f.chain = s.node.f.chain) ∧ (∀ q : Port, q ≠ p → (t.link q).state = (s.node.link q).state ∧ (t.link q).role = (s.node.link q).role) ∧ t.stored = s.node.stored ∧ t.n.dict = s.node.n.dict) ∧
  (∀ (s : State) (p : Port) (h : Hello),
    s.node.portUp p = true → s.node.f.park.state = .none → h.heard = true → h.serial ≠ (s.node.link p).serial →
    Gives (.hello p h) s fun t =>
    (t.link p).state = .bringup ∧ (t.link p).role = .none ∧ (t.link p).cause = 4 ∧ (t.link p).queue = (s.node.link p).queue ∧
    t.latched .f (linkSource p) = true ∧ (s.node.lostParent p = true → t.f.chain.state = .repairing) ∧
    (s.node.lostParent p = false → t.f.chain = s.node.f.chain) ∧ (∀ q : Port, q ≠ p → (t.link q).state = (s.node.link q).state ∧ (t.link q).role = (s.node.link q).role) ∧ t.stored = s.node.stored ∧ t.n.dict = s.node.n.dict) ∧
  (∀ (s : State) (p : Port) (h : Hello),
    s.node.portUp p = true → s.node.f.park.state = .none → h.heard = true → h.serial = (s.node.link p).serial →
    s.node.f.chain.number ≠ 0 →
    Gives (.hello p h) s fun t =>
    (t.link p).state = .up ∧ (t.link p).neighbour = h.number ∧ (t.link p).letter = h.letter ∧
    (t.link p).role = (if (s.node.link p).role = .parent then .parent else if h.parent then .child else .standby) ∧ (∀ q : Port, q ≠ p → t.link q = s.node.link q) ∧ t.f.chain = s.node.f.chain ∧ t.f.faults = s.node.f.faults ∧ t.stored = s.node.stored ∧ t.n.dict = s.node.n.dict) ∧
  (∀ (s : State) (p : Port), s.node.portUp p = true → Gives (.linkSilence p) s fun t =>
    (t.link p).state = .bringup ∧ (t.link p).role = .none ∧ (t.link p).cause = 1 ∧ (t.link p).queue = (s.node.link p).queue ∧
    t.latched .f (linkSource p) = true ∧ (s.node.lostParent p = true → t.f.chain.state = .repairing) ∧
    (s.node.lostParent p = false → t.f.chain = s.node.f.chain) ∧ (∀ q : Port, q ≠ p → (t.link q).state = (s.node.link q).state ∧ (t.link q).role = (s.node.link q).role) ∧ t.stored = s.node.stored ∧ t.n.dict = s.node.n.dict) ∧
  (∀ (s : State) (p : Port), s.node.portUp p = true → Gives (.helloTimeout p) s fun t =>
    (t.link p).state = .bringup ∧ (t.link p).role = .none ∧ (t.link p).cause = 2 ∧ (t.link p).queue = (s.node.link p).queue ∧
    t.latched .f (linkSource p) = true ∧ (s.node.lostParent p = true → t.f.chain.state = .repairing) ∧
    (s.node.lostParent p = false → t.f.chain = s.node.f.chain) ∧ (∀ q : Port, q ≠ p → (t.link q).state = (s.node.link q).state ∧ (t.link q).role = (s.node.link q).role) ∧ t.stored = s.node.stored ∧ t.n.dict = s.node.n.dict) ∧
  (∀ (s : State) (p : Port), s.node.fUp = true → (s.node.link p).state = .disabled → Gives (.disableHoldoffExpiry p) s fun t =>
    t.link p = { s.node.link p with state := .bringup } ∧ (∀ q : Port, q ≠ p → t.link q = s.node.link q) ∧ t.f.chain = s.node.f.chain ∧ t.f.faults = s.node.f.faults ∧ t.n = s.node.n ∧ t.stored = s.node.stored) ∧
  (∀ (s : State) (rq : Rq) (p : Port) (u : Node) (x : Txn),
    s.node.accepts rq 0x4012 (.command none) = some (u, x) → s.node.lineOpen = true → s.node.f.dev ≠ .boot →
    s.node.f.dev ≠ .sealed → portOf (selOf x.sels 0x4000) = p →
    (s.node.link p).state = .disabled ∨ (s.node.link p).state = .held →
    Gives (.portReenable rq) s fun t =>
    t.answer x = some (0x00, []) ∧ t.link p = { s.node.link p with state := .bringup } ∧ (∀ q : Port, q ≠ p → t.link q = s.node.link q) ∧ t.f.chain = s.node.f.chain ∧ t.stored = s.node.stored) ∧
  (∀ (s : State) (p : Port),
    (s.node.link p).busy = true → s.node.f.chain.stalled = [] → (s.node.link p).state = .up →
    s.node.portsParked = false →
    Gives (.linkFrameSent p) s fun t =>
    (t.link p).busy = !((s.node.link p).bypass.isEmpty && (s.node.link p).queue.isEmpty) ∧ (t.link p).bypass = (s.node.link p).bypass.tail ∧
    ((s.node.link p).bypass = [] → (t.link p).queue = (s.node.link p).queue.tail) ∧ ((s.node.link p).bypass ≠ [] → (t.link p).queue = (s.node.link p).queue) ∧ (∀ q : Port, q ≠ p → t.link q = s.node.link q) ∧ t.f.chain = s.node.f.chain ∧ t.stored = s.node.stored) ∧
  (∀ (s : State) (p : Port),
    s.node.fUp = true → (s.node.link p).orphaned = true → (s.node.link p).state ≠ .up →
    Gives (.orphanFrameDrop p) s fun t =>
    t.link p = { s.node.link p with queue := [], orphaned := false } ∧ (∀ q : Port, q ≠ p → t.link q = s.node.link q) ∧ t.f.chain = s.node.f.chain ∧ t.f.faults = s.node.f.faults ∧ t.stored = s.node.stored ∧ t.n.dict = s.node.n.dict)

/-- R317, R334, R336, R345: relaying and link delay. -/
def Obligations.FramesAlongTheChain : Prop :=
  (∀ (s : State) (p : Port) (err : FrameError) (frame : ChainFrame) (cause : Nat) (fast : Bool),
    s.node.linkOn p = true → (s.node.link p).state = .bringup ∨ (s.node.link p).state = .up →
    discardCause (s.node.link p) err frame = some cause → fast = false ∨ 2 ≤ cause →
    Gives (.chainFrameRelay p err frame fast) s fun t =>
    t.link p = { s.node.link p with crcErrors := if cause = 0 then satAdd 4095 (s.node.link p).crcErrors 1 else (s.node.link p).crcErrors, violations := if cause = 1 then satAdd 4095 (s.node.link p).violations 1 else (s.node.link p).violations, disables := if cause ≤ 1 then s.node.disablesNow p else (s.node.link p).disables, cleanFrom := if cause ≤ 1 then s.node.f.ticks else (s.node.link p).cleanFrom } ∧
    (∀ q : Port, q ≠ p → t.link q = s.node.link q) ∧ t.f.chain = s.node.f.chain ∧ t.f.faults = s.node.f.faults ∧ t.stored = s.node.stored ∧ t.n.dict = s.node.n.dict) ∧
  (∀ (s : State) (p : Port) (err : FrameError) (frame : ChainFrame) (cause : Nat),
    s.node.portUp p = true → discardCause (s.node.link p) err frame = some cause → cause ≤ 1 →
    Gives (.chainFrameRelay p err frame true) s fun t =>
    (t.link p).state = (if 3 ≤ s.node.disablesNow p then .held else .disabled) ∧ (t.link p).cause = (if 3 ≤ s.node.disablesNow p then 6 else 5) ∧
    (t.link p).disables = min 4 (s.node.disablesNow p + 1) ∧ (t.link p).role = .none ∧ t.latched .f (linkSource p) = true ∧
    (s.node.lostParent p = true → t.f.chain.state = .repairing) ∧ (∀ q : Port, q ≠ p → (t.link q).state = (s.node.link q).state ∧ (t.link q).role = (s.node.link q).role) ∧ t.stored = s.node.stored ∧ t.n.dict = s.node.n.dict) ∧
  (∀ (s : State) (p q : Port) (frame : ChainFrame) (fast : Bool),
    s.node.portUp p = true → discardCause (s.node.link p) .none frame = none → 4 ≤ frame.type →
    [9, 12, 13, 14, 16, 23, 24].contains frame.type = false → s.node.routes = true → s.node.cutOff frame.dst = false →
    0 < frame.dst → frame.dst < 127 → frame.dst ≠ s.node.f.chain.number → (s.node.tableRow frame.dst).isSome = true →
    s.node.route frame.dst = .port q → 1 < frame.hop → s.node.queueFull q = false →
    Gives (.chainFrameRelay p .none frame fast) s fun t =>
    handed q { frame with hop := frame.hop - 1 } s.node t = true ∧ (∀ r : Port, r ≠ q → t.link r = s.node.link r) ∧ t.f.chain = s.node.f.chain ∧ t.f.faults = s.node.f.faults ∧ t.stored = s.node.stored ∧ t.n.dict = s.node.n.dict) ∧
  (∀ (s : State) (p : Port) (frame : ChainFrame) (fast : Bool),
    s.node.portUp p = true → discardCause (s.node.link p) .none frame = none → 4 ≤ frame.type →
    (frame.dst = s.node.f.chain.number ∧ frame.dst ≠ 0) ∨ (frame.dst = 0 ∧ s.node.f.chain.root = true) ∨ frame.hop ≤ 1 →
    Gives (.chainFrameRelay p .none frame fast) s fun t =>
    (∀ r : Port, t.link r = s.node.link r) ∧ t.f.chain = s.node.f.chain ∧ t.f.faults = s.node.f.faults ∧ t.stored = s.node.stored ∧ t.n.dict = s.node.n.dict) ∧
  (∀ (s : State) (p : Port) (t1 : T48), s.node.portUp p = true → Gives (.pdelaySchedule p t1) s fun t =>
    (t.link p).t1 = some t1 ∧ handed p (wordFrame s.node.f.chain.number 127 1 31 0 []) s.node t = true ∧ (t.link p).delays = (s.node.link p).delays ∧ (∀ q : Port, q ≠ p → t.link q = s.node.link q) ∧ t.f.chain = s.node.f.chain ∧ t.stored = s.node.stored ∧ t.n.dict = s.node.n.dict) ∧
  (∀ (s : State) (p : Port) (t2 t3 : T48), s.node.portUp p = true → Gives (.pdelayReq p t2 t3) s fun t =>
    handed p (wordFrame s.node.f.chain.number 127 2 31 0 (twoWords t2.toNat ++ twoWords t3.toNat)) s.node t = true ∧ (t.link p).delays = (s.node.link p).delays ∧
    (t.link p).queue = (s.node.link p).queue ∧ (∀ q : Port, q ≠ p → t.link q = s.node.link q) ∧ t.f.chain = s.node.f.chain ∧ t.stored = s.node.stored ∧ t.n.dict = s.node.n.dict) ∧
  (∀ (s : State) (p : Port) (t2 t3 t4 : T48) (sample : Nat),
    s.node.portUp p = true → (s.node.link p).t1.isSome = true →
    Gives (.pdelayResp p t2 t3 t4 sample) s fun t =>
    (t.link p).t1 = none ∧
    (((s.node.link p).delays = [] ∨ (sample ≤ linkDelay (s.node.link p) + 1280 ∧ linkDelay (s.node.link p) ≤ sample + 1280)) →
      (t.link p).delays = (sample :: (s.node.link p).delays).take 8 ∧ (t.link p).rejections = 0) ∧
    ((s.node.link p).delays ≠ [] → (linkDelay (s.node.link p) + 1280 < sample ∨ sample + 1280 < linkDelay (s.node.link p)) →
      (t.link p).delays = (if 3 ≤ (s.node.link p).rejections then [] else (s.node.link p).delays) ∧ (t.link p).rejections = (if 3 ≤ (s.node.link p).rejections then 0 else (s.node.link p).rejections + 1)) ∧
    (∀ q : Port, q ≠ p → t.link q = s.node.link q) ∧ t.f.chain = s.node.f.chain ∧ t.stored = s.node.stored ∧ t.n.dict = s.node.n.dict)

/-- R325 to R327, R330, R332: discovery. -/
def Obligations.DiscoveryOfTheRoot : Prop :=
  (∀ (s : State),
    s.node.fUp = true → s.node.f.chain.settling = true → s.node.f.chain.settled = false →
    s.node.f.park.around = false →
    Gives .chainSettleExpiry s fun t =>
    t.f.chain.settled = true ∧ t.f.chain.state = .discovering ∧ t.f.chain.root = false ∧
    t.f.chain.best = (if s.node.f.chain.candidateStrap then some ⟨s.node.val 0x4004, ownSerial, 1⟩ else none) ∧
    (∀ p : Port, (t.link p).state = (if (s.node.link p).state = .listen then .bringup else (s.node.link p).state)) ∧ t.f.chain.table = s.node.f.chain.table ∧ t.f.faults = s.node.f.faults ∧ t.stored = s.node.stored ∧ t.n.dict = s.node.n.dict) ∧
  (∀ (s : State),
    s.node.fUp = true → s.node.f.chain.settling = true → s.node.f.chain.settled = false → s.node.f.park.around = true →
    Gives .chainSettleExpiry s fun t =>
    t.f.chain = { s.node.f.chain with settled := true } ∧ (∀ p : Port, t.link p = s.node.link p) ∧ t.f.faults = s.node.f.faults ∧ t.stored = s.node.stored ∧ t.n.dict = s.node.n.dict) ∧
  (∀ (s : State) (p : Port) (d : Discover),
    s.node.portUp p = true →
    (s.node.f.chain.best.all fun b => s.node.adopts ⟨d.priority, d.rootSerial, d.epoch⟩ b) = true →
    Gives (.discover p d) s fun t =>
    t.f.chain.best = some ⟨d.priority, d.rootSerial, d.epoch⟩ ∧ t.f.chain.epoch = d.epoch ∧ t.f.chain.depth = 32 - d.hop ∧ t.f.chain.parentPort = some p ∧
    t.f.chain.relayDue = some p ∧ t.f.chain.state = .discovering ∧ t.f.chain.root = false ∧ t.f.chain.heardAny = true ∧
    (∀ q : Port, (t.link q).role = (if q = p then .parent else if (s.node.link q).role = .parent then .standby else (s.node.link q).role)) ∧
    t.f.chain.number = s.node.f.chain.number ∧ t.f.chain.table = s.node.f.chain.table ∧ t.f.faults = s.node.f.faults ∧ t.stored = s.node.stored ∧ t.n.dict = s.node.n.dict) ∧
  (∀ (s : State) (p : Port) (d : Discover) (b : Best),
    s.node.portUp p = true → s.node.f.chain.best = some b →
    s.node.adopts ⟨d.priority, d.rootSerial, d.epoch⟩ b = false → s.node.f.chain.depth < 31 →
    Gives (.discover p d) s fun t =>
    t.f.chain.best = some b ∧ t.f.chain.parentPort = s.node.f.chain.parentPort ∧ t.f.chain.state = s.node.f.chain.state ∧ t.f.chain.heardAny = true ∧
    (better b ⟨d.priority, d.rootSerial, d.epoch⟩ = true → (s.node.link p).answered = false → (t.link p).answered = true ∧ handed p (s.node.discoverFrame b) s.node t = true) ∧
    ((better b ⟨d.priority, d.rootSerial, d.epoch⟩ = false ∨ (s.node.link p).answered = true) → t.link p = s.node.link p) ∧ (∀ q : Port, q ≠ p → t.link q = s.node.link q) ∧ t.stored = s.node.stored ∧ t.n.dict = s.node.n.dict) ∧
  (∀ (s : State) (p : Port) (b : Best),
    s.node.fUp = true → s.node.f.chain.relayDue = some p → s.node.f.chain.best = some b → s.node.f.chain.depth < 31 →
    Gives .discoverRelay s fun t =>
    t.f.chain.relayDue = none ∧ (∀ q : Port, q ≠ p → s.node.portUp q = true → handed q (s.node.discoverFrame b) s.node t = true) ∧ t.link p = s.node.link p ∧
    t.f.chain.best = some b ∧ t.f.chain.state = s.node.f.chain.state ∧ t.f.faults = s.node.f.faults ∧ t.stored = s.node.stored ∧ t.n.dict = s.node.n.dict) ∧
  (∀ (s : State) (b : Best),
    s.node.fUp = true → s.node.f.chain.state = .discovering → s.node.f.chain.best = some b → b.serial = ownSerial →
    Gives .quietTimeExpiry s fun t =>
    t.f.chain.root = true ∧ t.f.chain.collecting = true ∧ t.f.chain.reports = [t.ownReport] ∧ t.f.chain.parentPort = none ∧ t.f.chain.best = some b ∧
    t.f.chain.state = .discovering ∧ (∀ q : Port, t.link q = { s.node.link q with role := if (s.node.link q).role = .parent then .standby else (s.node.link q).role }) ∧ t.n = s.node.n ∧ t.stored = s.node.stored) ∧
  (∀ (s : State) (b : Best) (p : Port),
    s.node.fUp = true → s.node.f.chain.state = .discovering → s.node.f.chain.best = some b → b.serial ≠ ownSerial →
    s.node.f.chain.parentPort = some p → s.node.f.chain.root = false →
    Gives .quietTimeExpiry s fun t =>
    (s.node.queueFull p = false → handed p (wordFrame s.node.f.chain.number 0 tyReport 31 0 (reportWords s.node.ownReport)) s.node t = true) ∧ t.f.chain.root = false ∧
    t.f.chain.state = .discovering ∧ t.f.chain.seq = (s.node.f.chain.seq + 1) % 256 ∧ (∀ q : Port, q ≠ p → t.link q = s.node.link q) ∧ t.n = s.node.n ∧ t.stored = s.node.stored) ∧
  (∀ (s : State), s.node.fUp = true → s.node.f.chain.state = .discovering → s.node.f.chain.heardAny = false → Gives .noRootTimeout s fun t =>
    t.f.chain.state = .noRoot ∧ t.routes = false ∧ t.f.chain.number = s.node.f.chain.number ∧ (∀ q : Port, t.link q = s.node.link q) ∧ t.n = s.node.n ∧ t.stored = s.node.stored) ∧
  (∀ (s : State) (discard : Bool),
    s.node.fUp = true → s.node.f.chain.root = true → s.node.f.chain.candidateStrap = true →
    Gives (.rediscoverFrame discard) s fun t =>
    t.f.chain.state = .discovering ∧ t.f.chain.epoch = (s.node.f.chain.epoch + 1) % 256 ∧ t.f.chain.keep = !discard ∧ t.f.chain.root = false ∧ t.f.chain.collecting = false ∧
    t.f.chain.best = some ⟨s.node.val 0x4004, ownSerial, (s.node.f.chain.epoch + 1) % 256⟩ ∧ t.f.chain.table = s.node.f.chain.table ∧ t.f.chain.number = s.node.f.chain.number ∧ t.f.faults = s.node.f.faults ∧ t.stored = s.node.stored ∧ t.n.dict = s.node.n.dict) ∧
  (∀ (s : State) (discard : Bool), s.node.f.chain.root = false → Gives (.rediscoverFrame discard) s fun t =>
    t = s.node) ∧
  (∀ (s : State) (rq : Rq) (a : Nat) (u : Node) (x : Txn),
    s.node.accepts rq 0x4007 (.command (some a)) = some (u, x) → s.node.lineOpen = true → s.node.f.dev ≠ .boot →
    s.node.f.dev ≠ .sealed → a = 0 ∨ (a = 1 ∧ s.node.f.dev = .setup) → s.node.f.chain.root = true →
    s.node.f.chain.candidateStrap = true →
    Gives (.rediscover rq (some a)) s fun t =>
    t.answer x = some (0x00, []) ∧ t.f.chain.state = .discovering ∧ t.f.chain.epoch = (s.node.f.chain.epoch + 1) % 256 ∧ t.f.chain.keep = decide (a = 0) ∧ t.stored = s.node.stored) ∧
  (∀ (s : State) (rq : Rq) (a : Nat) (p : Port) (u : Node) (x : Txn),
    s.node.accepts rq 0x4007 (.command (some a)) = some (u, x) → s.node.lineOpen = true → s.node.f.dev ≠ .boot →
    s.node.f.dev ≠ .sealed → a = 0 ∨ (a = 1 ∧ s.node.f.dev = .setup) → s.node.f.chain.root = false →
    s.node.routes = true → s.node.cutOff 0 = false → s.node.f.chain.number ≠ 0 → s.node.f.chain.parentPort = some p →
    s.node.queueFull p = false →
    Gives (.rediscover rq (some a)) s fun t =>
    t.answer x = some (0x00, []) ∧ handed p (wordFrame s.node.f.chain.number 0 tyRediscover 31 0 [a]) s.node t = true ∧ t.f.chain.state = s.node.f.chain.state ∧ t.f.chain.epoch = s.node.f.chain.epoch ∧ t.stored = s.node.stored) ∧
  (∀ (s : State) (rq : Rq) (u : Node) (x : Txn),
    s.node.accepts rq 0x4007 (.command (some 1)) = some (u, x) → s.node.lineOpen = true → s.node.f.dev ≠ .setup →
    Gives (.rediscover rq (some 1)) s fun t =>
    t.answer x = some (0x14, []) ∧ t.f.chain = s.node.f.chain ∧ t.stored = s.node.stored)

/-- R327 to R331: numbering. -/
def Obligations.NumbersOfTheNodes : Prop :=
  (∀ (s : State) (r : Report),
    s.node.fUp = true → s.node.f.chain.root = true → s.node.f.chain.collecting = true →
    Gives (.reportFrame r ownSerial s.node.f.chain.epoch) s fun t =>
    t.f.chain.reports = s.node.f.chain.reports.filter (fun q => q.serial != r.serial) ++ [r] ∧ t.f.chain.table = s.node.f.chain.table ∧ t.f.chain.sets = s.node.f.chain.sets ∧
    (∀ q : Port, t.link q = s.node.link q) ∧ t.n = s.node.n ∧ t.stored = s.node.stored) ∧
  (∀ (s : State) (r : Report) (root epoch : Nat),
    s.node.f.chain.root = false ∨ root ≠ ownSerial ∨ epoch ≠ s.node.f.chain.epoch →
    Gives (.reportFrame r root epoch) s fun t =>
    t = s.node) ∧
  (∀ (s : State), s.node.fUp = true → s.node.f.chain.root = true → s.node.f.chain.collecting = true → Gives .rootCollectEnd s fun t =>
    t.f.chain.state = .up ∧ t.f.chain.collecting = false ∧ t.f.chain.keep = false ∧ t.f.chain.root = true ∧
    t.f.chain.sets = [(numberSet (s.node.f.chain.reports.map s.node.keptConfigured) ownSerial, 2)] ∧
    (s.node.f.chain.state ≠ .up → t.f.chain.table = (numberSet (s.node.f.chain.reports.map s.node.keptConfigured) ownSerial).filter fun r => r.number != 0) ∧ t.stored = s.node.stored ∧ t.n.dict = s.node.n.dict) ∧
  (∀ (s : State), s.node.fUp = true → s.node.f.chain.root = true → Gives .assignRepeat s fun t =>
    t.f.chain.sets = (s.node.f.chain.sets.filter fun e => e.2 - 1 != 0).map (fun e => (e.1, e.2 - 1)) ∧ t.f.chain.table = s.node.f.chain.table ∧ t.f.chain.state = s.node.f.chain.state ∧ t.stored = s.node.stored ∧ t.n.dict = s.node.n.dict) ∧
  (∀ (s : State) (index : Nat) (rows : List NodeRow), s.node.fUp = true → s.node.f.chain.state ≠ .off → Gives (.assign index rows) s fun t =>
    t.f.chain.set.frames = tput s.node.f.chain.set.frames index rows ∧ t.f.chain.table = s.node.f.chain.table ∧ t.f.chain.number = s.node.f.chain.number ∧
    (∀ q : Port, t.link q = s.node.link q) ∧ t.n = s.node.n ∧ t.stored = s.node.stored) ∧
  (∀ (s : State) (rows : List NodeRow) (root : Nat) (b : Best) (r : NodeRow),
    s.node.fUp = true → s.node.f.chain.state ≠ .off → s.node.f.chain.root = false →
    s.node.f.chain.set.frames.flatMap Prod.snd = rows → s.node.f.chain.best = some b →
    (rows.find? fun q => q.number == root) = some r → r.serial = b.serial →
    Gives (.commit s.node.f.chain.epoch root rows.length s.node.f.chain.set.frames.length) s fun t =>
    t.f.chain.state = .up ∧ t.f.chain.rootNumber = root ∧ t.f.chain.set = {} ∧
    t.f.chain.table = (if s.node.f.chain.state = .up then mergeRows s.node.f.chain.table rows else rows.filter fun q => q.number != 0) ∧
    t.f.chain.number = (((rows.find? fun q => q.serial == ownSerial).map NodeRow.number).getD (if s.node.f.chain.state ≠ .up ∨ s.node.f.chain.number = 0 then 0 else s.node.f.chain.number)) ∧ t.stored = s.node.stored ∧ t.n.dict = s.node.n.dict) ∧
  (∀ (s : State) (epoch root entries frames : Nat),
    s.node.fUp = true → s.node.f.chain.state ≠ .off → s.node.f.chain.root = false →
    epoch ≠ s.node.f.chain.epoch ∨ entries ≠ (s.node.f.chain.set.frames.flatMap Prod.snd).length ∨ frames ≠ s.node.f.chain.set.frames.length →
    Gives (.commit epoch root entries frames) s fun t =>
    t.f.chain = { s.node.f.chain with set := {} } ∧ (∀ q : Port, t.link q = s.node.link q) ∧ t.n = s.node.n ∧ t.stored = s.node.stored) ∧
  (∀ (s : State) (serial configured : Nat) (r : NodeRow),
    s.node.fUp = true → s.node.f.chain.root = true → s.node.f.chain.collecting = false → s.node.f.chain.state = .up →
    (s.node.f.chain.table.find? fun q => q.serial == serial) = some r →
    Gives (.joinFrame serial configured) s fun t =>
    t.f.chain.table = mergeRows s.node.f.chain.table [r] ∧ t.f.chain.sets = s.node.f.chain.sets ++ [([r], 2)] ∧ t.f.chain.number = s.node.f.chain.number ∧ t.f.chain.epoch = s.node.f.chain.epoch ∧ t.f.faults = s.node.f.faults ∧ t.stored = s.node.stored ∧ t.n.dict = s.node.n.dict) ∧
  (∀ (s : State) (serial configured : Nat),
    s.node.fUp = true → s.node.f.chain.root = true → s.node.f.chain.collecting = false → s.node.f.chain.state = .up →
    (s.node.f.chain.table.find? fun q => q.serial == serial) = none → configured < 127 →
    Gives (.joinFrame serial configured) s fun t =>
    (t.f.chain.table.find? fun q => q.serial == serial).map NodeRow.number = (if lowestFree (s.node.f.chain.table.map NodeRow.number) = 0 ∧ (configured = 0 ∨ (s.node.f.chain.table.map NodeRow.number).contains configured) then none
      else some (if configured ≠ 0 ∧ !(s.node.f.chain.table.map NodeRow.number).contains configured then configured else lowestFree (s.node.f.chain.table.map NodeRow.number))) ∧
    t.f.chain.number = s.node.f.chain.number ∧ t.f.chain.epoch = s.node.f.chain.epoch ∧ t.f.faults = s.node.f.faults ∧ t.stored = s.node.stored ∧ t.n.dict = s.node.n.dict)

/-- R338, R340: repair and partitions. -/
def Obligations.RepairOfATree : Prop :=
  (∀ (s : State) (p q : Port) (y : Nat),
    s.node.portUp p = true → (s.node.link p).role = .parent → s.node.f.chain.number ≠ 0 → s.node.portUp q = true →
    (s.node.link q).role = .child →
    Gives (.repairFrame p y s.node.f.chain.epoch) s fun t =>
    handed q (wordFrame y 127 tyRepair 31 0 [y * 131072 + s.node.f.chain.epoch * 256]) s.node t = true ∧ (∀ q : Port, (t.link q).state = (s.node.link q).state ∧ (t.link q).role = (s.node.link q).role) ∧ t.f.chain.table = s.node.f.chain.table ∧ t.f.chain.state = s.node.f.chain.state ∧ t.stored = s.node.stored ∧ t.n.dict = s.node.n.dict) ∧
  (∀ (s : State) (p : Port) (y epoch : Nat), (s.node.link p).role ≠ .parent ∨ epoch ≠ s.node.f.chain.epoch → Gives (.repairFrame p y epoch) s fun t =>
    t = s.node) ∧
  (∀ (s : State) (c : Candidate) (r : Repair), s.node.fUp = true → s.node.f.chain.repair = some r → Gives (.candidate c) s fun t =>
    t.f.chain.repair = some { r with found := r.found.filter (fun e => e.number != c.number) ++ [c] } ∧ t.f.chain.state = s.node.f.chain.state ∧ (∀ q : Port, (t.link q).state = (s.node.link q).state ∧ (t.link q).role = (s.node.link q).role) ∧ t.n = s.node.n ∧ t.stored = s.node.stored) ∧
  (∀ (s : State) (c : Candidate) (r : Repair),
    s.node.fUp = true → s.node.f.chain.repair = some r → s.node.bestCandidate s.node.f.chain.number r = some c →
    c.number = s.node.f.chain.number →
    Gives .repairChoose s fun t =>
    t.f.chain.repair = some { r with trying := some c } ∧ handed c.port (wordFrame s.node.f.chain.number 0 tyAttach 31 0 [s.node.f.chain.number * 131072]) s.node t = true ∧ t.f.chain.state = s.node.f.chain.state ∧ (∀ q : Port, (t.link q).state = (s.node.link q).state ∧ (t.link q).role = (s.node.link q).role) ∧ t.stored = s.node.stored ∧ t.n.dict = s.node.n.dict) ∧
  (∀ (s : State) (c : Candidate) (r : Repair) (q : Port),
    s.node.fUp = true → s.node.f.chain.number ≠ 0 → s.node.f.chain.repair = some r →
    s.node.bestCandidate s.node.f.chain.number r = some c → c.number ≠ s.node.f.chain.number → 0 < c.number →
    c.number < 127 → s.node.routes = true → s.node.cutOff c.number = false → (s.node.tableRow c.number).isSome = true →
    s.node.route c.number = .port q → s.node.queueFull q = false →
    Gives .repairChoose s fun t =>
    t.f.chain.repair = some { r with trying := some c } ∧ handed q (wordFrame s.node.f.chain.number c.number tyTry 31 0 [portCode c.port * 32768]) s.node t = true ∧ t.f.chain.state = s.node.f.chain.state ∧ (∀ q : Port, (t.link q).state = (s.node.link q).state ∧ (t.link q).role = (s.node.link q).role) ∧ t.stored = s.node.stored ∧ t.n.dict = s.node.n.dict) ∧
  (∀ (s : State) (r : Repair),
    s.node.fUp = true → s.node.f.chain.repair = some r → s.node.bestCandidate s.node.f.chain.number r = none →
    s.node.f.chain.state ≠ .partitioned →
    Gives .repairChoose s fun t =>
    t.f.chain.state = .partitioned ∧ t.f.chain.head = true ∧ t.f.chain.repair = none ∧ t.f.chain.nodeCause = 4 ∧ t.latched .f 18 = true ∧ (∀ q : Port, (t.link q).state = (s.node.link q).state ∧ (t.link q).role = (s.node.link q).role) ∧ t.stored = s.node.stored ∧ t.n.dict = s.node.n.dict) ∧
  (∀ (s : State) (c : Candidate) (r : Repair),
    s.node.fUp = true → s.node.f.chain.repair = some r → r.trying = some c →
    s.node.bestCandidate s.node.f.chain.number { r with trying := none, refused := c.number :: r.refused } = none →
    Gives .attachOkTimeout s fun t =>
    t.f.chain.state = .partitioned ∧ t.f.chain.head = true ∧ t.f.chain.repair = none ∧ (∀ q : Port, (t.link q).state = (s.node.link q).state ∧ (t.link q).role = (s.node.link q).role) ∧ t.stored = s.node.stored ∧ t.n.dict = s.node.n.dict) ∧
  (∀ (s : State) (c d : Candidate) (r : Repair),
    s.node.fUp = true → s.node.f.chain.repair = some r → r.trying = some c →
    s.node.bestCandidate s.node.f.chain.number { r with trying := none, refused := c.number :: r.refused } = some d →
    Gives .attachOkTimeout s fun t =>
    t.f.chain.repair = some { r with trying := some d, refused := c.number :: r.refused } ∧ d.number ≠ c.number ∧ t.f.chain.state = s.node.f.chain.state ∧ (∀ q : Port, (t.link q).state = (s.node.link q).state ∧ (t.link q).role = (s.node.link q).role) ∧ t.stored = s.node.stored ∧ t.n.dict = s.node.n.dict) ∧
  (∀ (s : State) (p : Port),
    s.node.portUp p = true → (s.node.link p).role = .standby → s.node.queueFull p = false →
    Gives (.tryFrame p) s fun t =>
    handed p (wordFrame s.node.f.chain.number 0 tyAttach 31 0 [s.node.f.chain.number * 131072]) s.node t = true ∧ (∀ q : Port, (t.link q).state = (s.node.link q).state ∧ (t.link q).role = (s.node.link q).role) ∧ t.f.chain.repair = s.node.f.chain.repair ∧ t.stored = s.node.stored ∧ t.n.dict = s.node.n.dict) ∧
  (∀ (s : State) (p q : Port) (c m : Nat),
    s.node.portUp p = true → s.node.f.chain.number ≠ 0 → s.node.f.chain.root = false → s.node.routes = true →
    s.node.cutOff 0 = false → s.node.f.chain.parentPort = some q → s.node.queueFull q = false →
    Gives (.attach p c m) s fun t =>
    handed q (wordFrame c 0 tyAttach 31 0 [c * 131072 + (if m = 0 then s.node.f.chain.number else m) * 256]) s.node t = true ∧ t.f.chain.attach = (if m = 0 then some (c, p) else s.node.f.chain.attach) ∧ (∀ q : Port, (t.link q).state = (s.node.link q).state ∧ (t.link q).role = (s.node.link q).role) ∧ t.stored = s.node.stored ∧ t.n.dict = s.node.n.dict) ∧
  (∀ (s : State) (p : Port) (c : Nat),
    s.node.portUp p = true → s.node.f.chain.number ≠ 0 → s.node.f.chain.root = true →
    Gives (.attach p c 0) s fun t =>
    handed p (wordFrame s.node.f.chain.number c tyAttachOk 31 0 [c * 131072 + s.node.f.chain.number * 256]) s.node t = true ∧ (∀ q : Port, (t.link q).state = (s.node.link q).state ∧ (t.link q).role = (s.node.link q).role) ∧ t.stored = s.node.stored ∧ t.n.dict = s.node.n.dict) ∧
  (∀ (s : State) (p : Port) (m : Nat) (c : Candidate) (r : Repair),
    s.node.portUp p = true → s.node.f.chain.repair = some r → r.trying = some c →
    Gives (.attachOk p s.node.f.chain.number m) s fun t =>
    t.f.chain.state = .up ∧ t.f.chain.head = false ∧ t.f.chain.repair = none ∧ t.f.chain.parentPort = some p ∧ (t.link p).role = .parent ∧
    (∀ q : Port, q ≠ p → (t.link q).role = (if (s.node.link q).role = .parent then .child else (s.node.link q).role)) ∧ t.f.chain.number = s.node.f.chain.number ∧ t.f.faults = s.node.f.faults ∧ t.stored = s.node.stored ∧ t.n.dict = s.node.n.dict) ∧
  (∀ (s : State) (p : Port) (m : Nat), s.node.portUp p = true → s.node.f.chain.repair = none → Gives (.attachOk p s.node.f.chain.number m) s fun t =>
    t.f.chain.parentPort = some p ∧ (t.link p).role = .parent ∧ (∀ q : Port, q ≠ p → (t.link q).role = (if (s.node.link q).role = .parent then .child else (s.node.link q).role)) ∧
    (∀ q : Port, s.node.f.chain.parentPort = some q → s.node.queueFull q = false → (s.node.link q).orphaned = false → handed q (wordFrame s.node.f.chain.number 127 tyFlip 31 0 [s.node.f.chain.number * 131072]) s.node t = true) ∧ t.f.chain.number = s.node.f.chain.number ∧ t.stored = s.node.stored ∧ t.n.dict = s.node.n.dict) ∧
  (∀ (s : State) (p : Port), s.node.portUp p = true → s.node.f.chain.repair = none → Gives (.flip p) s fun t =>
    t.f.chain.parentPort = some p ∧ (t.link p).role = .parent ∧ (∀ q : Port, q ≠ p → (t.link q).role = (if (s.node.link q).role = .parent then .child else (s.node.link q).role)) ∧
    t.f.chain.state = s.node.f.chain.state ∧ t.f.chain.number = s.node.f.chain.number ∧ t.stored = s.node.stored ∧ t.n.dict = s.node.n.dict) ∧
  (∀ (s : State) (rows : List NodeRow), s.node.fUp = true → s.node.f.chain.state ≠ .off → Gives (.topo false rows) s fun t =>
    t.f.chain.table.map NodeRow.number = s.node.f.chain.table.map NodeRow.number ∧
    (∀ r ∈ s.node.f.chain.table, (rows.find? fun n => n.number == r.number) = none → r ∈ t.f.chain.table) ∧
    t.f.chain.state = (if s.node.f.chain.state = .partitioned ∧ s.node.f.chain.head = false then .up else s.node.f.chain.state) ∧ t.f.chain.number = s.node.f.chain.number ∧ t.f.faults = s.node.f.faults ∧ t.stored = s.node.stored ∧ t.n.dict = s.node.n.dict) ∧
  (∀ (s : State) (rows : List NodeRow),
    s.node.fUp = true → s.node.f.chain.state ≠ .off → s.node.f.chain.state ≠ .partitioned →
    Gives (.topo true rows) s fun t =>
    t.f.chain.state = .partitioned ∧ t.f.chain.nodeCause = 4 ∧ t.latched .f 18 = true ∧ t.f.chain.table = s.node.f.chain.table ∧ (∀ q : Port, (t.link q).state = (s.node.link q).state ∧ (t.link q).role = (s.node.link q).role) ∧ t.stored = s.node.stored ∧ t.n.dict = s.node.n.dict) ∧
  (∀ (s : State) (q : Port),
    s.node.fUp = true → s.node.f.chain.state = .partitioned → s.node.f.chain.head = true → s.node.portUp q = true →
    (s.node.link q).role = .child →
    Gives .partitionRepairRetry s fun t =>
    handed q (wordFrame s.node.f.chain.number 127 tyRepair 31 0 [s.node.f.chain.number * 131072 + s.node.f.chain.epoch * 256]) s.node t = true ∧ t.f.chain.repair = some { found := [s.node.ownCandidate s.node.f.chain.number] } ∧ t.f.chain.state = .partitioned ∧ (∀ q : Port, (t.link q).state = (s.node.link q).state ∧ (t.link q).role = (s.node.link q).role) ∧ t.stored = s.node.stored ∧ t.n.dict = s.node.n.dict) ∧
  (∀ (s : State),
    s.node.fUp = true → s.node.f.chain.state = .partitioned → s.node.f.chain.candidateStrap = true →
    Gives .partitionWaitExpiry s fun t =>
    t.f.chain.state = .discovering ∧ t.f.chain.epoch = (s.node.f.chain.epoch + 1) % 256 ∧ t.f.chain.keep = true ∧ t.f.chain.best = some ⟨s.node.val 0x4004, ownSerial, (s.node.f.chain.epoch + 1) % 256⟩ ∧
    t.f.chain.number = s.node.f.chain.number ∧ t.f.chain.table = s.node.f.chain.table ∧ t.stored = s.node.stored ∧ t.n.dict = s.node.n.dict)

/-- R298, R341, R342, R344, R346: services of the Chain. -/
def Obligations.ChainServices : Prop :=
  (∀ (s : State) (src can time dev : Nat) (root : Bool), s.node.fUp = true → 1 ≤ src → src ≤ 126 → Gives (.statusFrame src can time dev root) s fun t =>
    tget? t.f.chain.nodes src = some ⟨can % 4, time % 4, dev % 8, root, false⟩ ∧ t.f.chain.table = s.node.f.chain.table ∧ t.f.chain.number = s.node.f.chain.number ∧ t.f.faults = s.node.f.faults ∧
    (∀ q : Port, t.link q = s.node.link q) ∧ t.n = s.node.n ∧ t.stored = s.node.stored) ∧
  (∀ (s : State) (q : Port),
    s.node.fUp = true → s.node.f.chain.number ≠ 0 → s.node.routes = true → q ∈ s.node.treePorts none →
    s.node.queueFull q = false →
    Gives .statusSend s fun t =>
    handed q (wordFrame s.node.f.chain.number 127 tyStatus 31 0 [CanState.code s.node.n.can.state * 4194304 + TimeState.code s.node.n.hm.state * 1048576 + DevState.code s.node.f.dev * 131072 + b2n s.node.f.chain.root * 65536]) s.node t = true ∧
    tget? t.f.chain.nodes s.node.f.chain.number = some ⟨CanState.code s.node.n.can.state, TimeState.code s.node.n.hm.state, DevState.code s.node.f.dev, s.node.f.chain.root, false⟩ ∧
    t.f.chain.seq = (s.node.f.chain.seq + 1) % 256 ∧ t.f.chain.table = s.node.f.chain.table ∧ t.n.hm = s.node.n.hm ∧ t.stored = s.node.stored ∧ t.n.dict = s.node.n.dict) ∧
  (∀ (s : State) (node : Nat) (e : NodeStatus), s.node.fUp = true → tget? s.node.f.chain.nodes node = some e → Gives (.statusStale node) s fun t =>
    tget? t.f.chain.nodes node = some { e with stale := true } ∧ t.f.chain.table = s.node.f.chain.table ∧ (∀ q : Port, t.link q = s.node.link q) ∧ t.n = s.node.n ∧ t.stored = s.node.stored) ∧
  (∀ (s : State) (q : Port),
    s.node.fUp = true → s.node.f.chain.root = true → s.node.routes = true → s.node.f.fol.state ≠ .unaligned →
    q ∈ s.node.rolePorts .child → s.node.queueFull q = false →
    Gives .rootTimeSend s fun t =>
    handed q (wordFrame s.node.f.chain.number 127 tyTime 31 0 (timeWords s.node.f.fol.count s.node.f.fol.era 0 (s.node.n.hm.state == .tracking) s.node.f.fol.step)) s.node t = true ∧
    t.f.fol = s.node.f.fol ∧ t.n = s.node.n ∧ t.f.chain.seq = (s.node.f.chain.seq + 1) % 256 ∧ t.stored = s.node.stored) ∧
  (∀ (s : State) (src list i : Nat) (launch : T48),
    s.node.fUp = true → src ≠ s.node.f.chain.number → list < 64 → s.node.listDefined .f list = true →
    s.node.tooLate .f launch = false → s.node.devOf .f ≠ .boot → s.node.devOf .f ≠ .sealed →
    s.node.alreadyArmed .f list launch = false → s.node.freeSlot .f 0 = some i → s.node.seqTorn .f = false →
    before launch (s.node.time .f) = false →
    Gives (.chainTrigger src launch list) s fun t =>
    (t.slot .f i).state = .armed ∧ (t.slot .f i).list = list ∧ (t.slot .f i).launch = launch ∧ (t.slot .f i).origin = 2 ∧ (∀ j ∈ List.range 32, j ≠ i → t.slot .f j = s.node.slot .f j) ∧ t.f.chain = s.node.f.chain ∧ t.stored = s.node.stored ∧ t.n.dict = s.node.n.dict) ∧
  (∀ (s : State) (src list : Nat) (launch : T48), src = s.node.f.chain.number ∨ 128 ≤ list → Gives (.chainTrigger src launch list) s fun t =>
    (t.die .f).seq = (s.node.die .f).seq ∧ (t.die .f).clasp = (s.node.die .f).clasp ∧ t.f.chain = s.node.f.chain ∧ t.stored = s.node.stored ∧ t.n.dict = s.node.n.dict) ∧
  (∀ (s : State) (rq : Rq) (key : Nat) (row : KeyRow) (u : Node) (x : Txn),
    s.node.accepts rq key .read = some (u, x) → rq.path = .chain → u.passes x = some row → row.home = .n →
    sessionValue key = none →
    Gives (.dapReq rq key .read) s fun t =>
    t.answer x = some (0x00, wordBytes row.type (u.readWord x.session x.sels row key)) ∧ t.stored = s.node.stored) ∧
  (∀ (s : State) (rq : Rq) (key st : Nat) (op : DapOp) (u : Node) (x : Txn),
    s.node.accepts rq key op = some (u, x) → rq.path = .chain → u.refusal x = some st → opcodeOf op ≠ 4 →
    Gives (.dapReq rq key op) s fun t =>
    t.answer x = some (st, []) ∧ t.stored = s.node.stored) ∧
  (∀ (s : State) (rq : Rq) (key : Nat) (row : KeyRow) (op : DapOp) (u : Node) (x : Txn),
    s.node.accepts rq key op = some (u, x) → rq.path = .chain → u.passes x = some row → row.home = .f →
    sessionValue key = none → op = .read ∨ op = .command none →
    Gives (.dapReq rq key op) s fun t =>
    t.f.inbox = s.node.f.inbox ++ [(x, true)] ∧ (t.txn x.session x.tag).map Txn.stage = some .toF ∧ t.stored = s.node.stored) ∧
  (∀ (s : State) (src tag status : Nat) (data : List Byte) (t0 : Txn),
   
    (s.node.n.dict.txns.find? fun y => (match y.stage with | .remote node g _ => node == src && g == tag | _ => false)) = some t0 →
    s.node.hubReceives .n = true → s.node.txn t0.session t0.tag = some t0 → t0.op = .read → status < 256 →
    Gives (.dapResp src tag ([0x50, BitVec.ofNat 8 status, 0, 0] ++ data)) s fun t =>
    t.answer t0 = some (status, data) ∧ t.stored = s.node.stored ∧ t.f.chain = s.node.f.chain) ∧
  (∀ (s : State) (src tag : Nat) (bytes : List Byte),
   
    (s.node.n.dict.txns.any fun y => (match y.stage with | .remote node g _ => node == src && g == tag | _ => false)) = false →
    Gives (.dapResp src tag bytes) s fun t =>
    t = s.node)

/-- R356 to R366: parking and rendezvous. -/
def Obligations.ParkingAndRendezvous : Prop :=
  (∀ (s : State) (rq : Rq) (a : Nat) (q : Port) (u : Node) (x : Txn),
    s.node.accepts rq 0x4041 (.command (some a)) = some (u, x) → s.node.lineOpen = true → s.node.f.dev ≠ .boot →
    s.node.f.dev ≠ .sealed → parkRefusal a s.node = none → (s.node.link q).role = .child →
    (s.node.link q).state = .up →
    Gives (.park rq (some a)) s fun t =>
    t.answer x = some (0x00, []) ∧ t.f.park.parking = true ∧ t.f.park.interval = (if a = 0 then s.node.val 0x4040 else a) ∧ t.f.park.hold = s.node.val 0x4042 ∧ t.f.park.rendezvous = 0 ∧
    t.f.park.window = true ∧ t.f.park.state = s.node.f.park.state ∧ (t.link q).busy = true ∧ t.stored = s.node.stored) ∧
  (∀ (s : State) (rq : Rq) (a st : Nat) (u : Node) (x : Txn),
    s.node.accepts rq 0x4041 (.command (some a)) = some (u, x) → s.node.lineOpen = true → s.node.f.dev ≠ .boot →
    s.node.f.dev ≠ .sealed → a < 16777216 → parkRefusal a s.node = some st →
    Gives (.park rq (some a)) s fun t =>
    t.answer x = some (st, []) ∧ t.f.park = s.node.f.park ∧ t.f.chain = s.node.f.chain ∧ t.stored = s.node.stored) ∧
  (∀ (s : State), s.node.fUp = true → s.node.f.park.parking = true → Gives .parkEntry s fun t =>
    t.f.park.state = .parked ∧ t.f.park.parking = false ∧ t.f.park.window = false ∧ t.portsParked = true ∧
    (∀ q : Port, (t.link q).role = (if (s.node.link q).role = .parent ∨ (s.node.link q).role = .child then (s.node.link q).role else .none)) ∧
    (∀ q : Port, (s.node.link q).role ≠ .parent → (s.node.link q).role ≠ .child → (t.link q).state = (if (s.node.link q).state = .disabled ∨ (s.node.link q).state = .held then (s.node.link q).state else .off)) ∧
    t.f.phase = (if s.node.n.phase = .standby ∨ s.node.n.phase = .unpowered ∨ s.node.n.phase = .held then .parked else .ready) ∧
    t.f.chain = s.node.f.chain ∧ t.stored = s.node.stored) ∧
  (∀ (s : State) (b : Beacon) (elapsed : Nat) (p : Port),
    (s.node.filFind .f filMissRdv fun _ => true) = none → s.node.fUp = true → s.node.f.chain.root = false →
    s.node.f.chain.state = .up → s.node.treeRole .parent = [p] → s.node.f.park.state = .none →
    s.node.f.park.parking = false → b.rendezvous = 0 →
    Gives (.beacon b elapsed) s fun t =>
    t.f.park.parking = true ∧ t.f.park.state = .none ∧ t.f.park.time = b.origin + BitVec.ofNat 48 (delayTicks (linkDelay (s.node.link p))) ∧ t.f.park.origin = b.origin - BitVec.ofNat 48 (depthTicks b.depth) ∧
    t.f.park.interval = b.interval ∧ t.f.park.hold = b.hold ∧ t.f.park.acquired = true ∧ t.f.park.window = true ∧ (t.link p).busy = true ∧ (∀ q : Port, (t.link q).state = (s.node.link q).state ∧ (t.link q).role = (s.node.link q).role) ∧ t.stored = s.node.stored ∧ t.n.dict = s.node.n.dict) ∧
  (∀ (s : State) (b : Beacon) (elapsed : Nat) (p : Port),
    (s.node.filFind .f filMissRdv fun _ => true) = none → s.node.attends = true → s.node.f.chain.root = false →
    s.node.treeRole .parent = [p] →
    s.node.f.park.state = .listening ∨ (s.node.f.park.window = true ∧ (s.node.f.park.state = .adrift ∨ (s.node.f.park.state = .parked ∧ s.node.f.park.acquired = false))) →
    Gives (.beacon b elapsed) s fun t =>
    t.f.park.state = .parked ∧ t.f.park.time = b.origin + BitVec.ofNat 48 (delayTicks (linkDelay (s.node.link p))) ∧ t.f.park.origin = s.node.f.park.origin ∧ t.f.park.rendezvous = b.rendezvous ∧
    t.f.park.interval = b.interval ∧ t.f.park.hold = b.hold ∧ t.f.park.acquired = true ∧ t.f.park.missed = false ∧ (t.link p).busy = true ∧ (∀ q : Port, (t.link q).state = (s.node.link q).state ∧ (t.link q).role = (s.node.link q).role) ∧ t.stored = s.node.stored ∧ t.n.dict = s.node.n.dict) ∧
  (∀ (s : State) (b : Beacon) (elapsed : Nat),
    (s.node.filFind .f filMissRdv fun _ => true) = none →
    s.node.fUp = false ∨ s.node.treeRole .parent ≠ [] ∨ s.node.f.chain.root = true ∨ (ports.all fun q => (s.node.link q).state != .listen) = true →
    s.node.attends = false ∨ s.node.f.chain.root = true ∨ (s.node.f.park.state = .none ∧ (b.rendezvous ≠ 0 ∨ s.node.f.park.parking = true)) ∨ (s.node.f.park.state = .parked ∧ s.node.f.park.window = false) →
    Gives (.beacon b elapsed) s fun t =>
    t = s.node) ∧
  (∀ (s : State) (b : Beacon) (elapsed : Nat) (q : Port),
    (s.node.filFind .f filMissRdv fun _ => true) = none → s.node.fUp = true → s.node.f.chain.root = false →
    s.node.treeRole .parent = [] → s.node.f.park.state = .none → (s.node.link q).state = .listen →
    Gives (.beacon b elapsed) s fun t =>
    t.f.park = { s.node.f.park with around := true } ∧ (∀ q : Port, t.link q = s.node.link q) ∧ t.f.chain = s.node.f.chain ∧ t.f.faults = s.node.f.faults ∧ t.stored = s.node.stored ∧ t.n.dict = s.node.n.dict) ∧
  (∀ (s : State) (q : Port),
    s.node.attends = true → s.node.f.chain.root = false → s.node.f.park.window = true → s.node.f.park.acquired = true →
    (s.node.link q).role = .child → (s.node.link q).state = .up → s.node.f.park.givenUp.getLsbD (portCode q) = false →
    Gives .rendezvousBeaconSend s fun t =>
    (t.link q).busy = true ∧ t.f.park = s.node.f.park ∧ (∀ q : Port, (t.link q).state = (s.node.link q).state ∧ (t.link q).role = (s.node.link q).role) ∧ { t.f.chain with seq := 0 } = { s.node.f.chain with seq := 0 } ∧ t.stored = s.node.stored ∧ t.n.dict = s.node.n.dict) ∧
  (∀ (s : State), s.node.scheduled = true → s.node.f.chain.root = true → Gives .rendezvousBeaconSend s fun t =>
    t.f.park.rendezvous = (s.node.f.park.rendezvous + 1) % 65536 ∧ t.f.park.window = true ∧ t.f.park.acquired = true ∧ t.f.park.requests = [] ∧ t.f.park.notice = false ∧
    t.f.park.time = s.node.f.park.rendezvousAt s.node.f.park.time ∧ t.f.park.state = s.node.f.park.state ∧ (∀ q : Port, (t.link q).state = (s.node.link q).state ∧ (t.link q).role = (s.node.link q).role) ∧ t.stored = s.node.stored ∧ t.n.dict = s.node.n.dict) ∧
  (∀ (s : State), s.node.scheduled = true → s.node.f.chain.root = false → s.node.f.park.state ≠ .listening → Gives .listenWindowOpen s fun t =>
    t.f.park.window = true ∧ t.f.park.acquired = false ∧ t.f.park.rendezvous = (s.node.f.park.rendezvous + 1) % 65536 ∧ t.f.park.requests = [] ∧ t.f.park.notice = false ∧ t.f.park.state = s.node.f.park.state ∧ (∀ q : Port, (t.link q).state = (s.node.link q).state ∧ (t.link q).role = (s.node.link q).role) ∧ t.stored = s.node.stored ∧ t.n.dict = s.node.n.dict) ∧
  (∀ (s : State),
    s.node.attends = true → s.node.f.chain.root = false → s.node.f.park.state = .parked → s.node.f.park.window = true →
    s.node.f.park.acquired = false →
    Gives .listenWindowMiss s fun t =>
    t.f.park = { s.node.f.park with state := .listening, missed := true } ∧ (∀ q : Port, t.link q = s.node.link q) ∧ t.f.chain = s.node.f.chain ∧ t.f.faults = s.node.f.faults ∧ t.stored = s.node.stored ∧ t.n.dict = s.node.n.dict) ∧
  (∀ (s : State), s.node.attends = true → s.node.f.park.state = .listening → Gives .listeningTimeout s fun t =>
    t.f.park = { s.node.f.park with state := .adrift, widen := 1, misses := 0, window := false } ∧ (∀ q : Port, t.link q = s.node.link q) ∧ t.f.chain = s.node.f.chain ∧ t.f.faults = s.node.f.faults ∧ t.stored = s.node.stored ∧ t.n.dict = s.node.n.dict) ∧
  (∀ (s : State),
    s.node.scheduled = true → s.node.f.park.window = true →
    s.node.f.park.state = .parked ∨ s.node.f.park.state = .adrift →
    Gives .holdWindowEnd s fun t =>
    t.f.park = { s.node.f.park with window := false } ∧ (∀ q : Port, t.link q = s.node.link q) ∧ t.f.chain = s.node.f.chain ∧ t.f.faults = s.node.f.faults ∧ t.stored = s.node.stored ∧ t.n.dict = s.node.n.dict) ∧
  (∀ (s : State) (rate : Int), s.node.fUp = true → s.node.f.fol.state = .aligned → Gives (.lfCalibration rate) s fun t =>
    t.f.park = { s.node.f.park with calibrated := true, rate := clampInt 8388607 rate } ∧ (∀ q : Port, t.link q = s.node.link q) ∧ t.f.chain = s.node.f.chain ∧ t.f.faults = s.node.f.faults ∧ t.stored = s.node.stored ∧ t.n.dict = s.node.n.dict)

/-- R358, R366 to R373: waking. -/
def Obligations.AdriftChildrenAndWaking : Prop :=
  (∀ (s : State),
    s.node.attends = true → s.node.f.park.state = .adrift → s.node.f.park.window = true →
    s.node.f.park.acquired = false → s.node.f.park.misses < 63 →
    Gives .adriftWindowMiss s fun t =>
    t.f.park = { s.node.f.park with misses := s.node.f.park.misses + 1, widen := s.node.f.park.widen + 1, window := false } ∧ (∀ q : Port, t.link q = s.node.link q) ∧ t.f.chain = s.node.f.chain ∧ t.f.faults = s.node.f.faults ∧ t.stored = s.node.stored ∧ t.n.dict = s.node.n.dict) ∧
  (∀ (s : State),
    s.node.attends = true → s.node.f.park.state = .adrift → s.node.f.park.window = true →
    s.node.f.park.acquired = false → 63 ≤ s.node.f.park.misses →
    Gives .adriftWindowMiss s fun t =>
    t.f.park.state = .fallback ∧ t.f.park.window = false ∧ (∀ q : Port, (t.link q).state = .off ∧ (t.link q).role = (s.node.link q).role) ∧
    (∀ q : Port, (s.node.link q).role = .parent → t.latched .f (linkSource q) = true ∧ (t.link q).cause = 7) ∧ t.f.chain = s.node.f.chain ∧ t.stored = s.node.stored ∧ t.n.dict = s.node.n.dict) ∧
  (∀ (s : State) (p : Port),
    s.node.scheduled = true → (s.node.link p).role = .child → s.node.f.park.givenUp.getLsbD (portCode p) = false →
    Gives (.childAnswerTimeout p) s fun t =>
    t.f.park.adrift.getLsbD (portCode p) = true ∧ tget 0 t.f.park.silent (portCode p) = tget 0 s.node.f.park.silent (portCode p) + 1 ∧
    t.f.park.givenUp.getLsbD (portCode p) = decide (66 ≤ tget 0 s.node.f.park.silent (portCode p)) ∧
    (66 ≤ tget 0 s.node.f.park.silent (portCode p) → (t.link p).cause = 7 ∧ t.latched .f (linkSource p) = true) ∧
    (tget 0 s.node.f.park.silent (portCode p) < 66 → t.link p = s.node.link p ∧ t.f.faults = s.node.f.faults) ∧ t.f.park.state = s.node.f.park.state ∧ t.f.chain = s.node.f.chain ∧ t.stored = s.node.stored ∧ t.n.dict = s.node.n.dict) ∧
  (∀ (s : State) (p : Port) (w : WakeWord),
    s.node.scheduled = true → (s.node.link p).role = .child → w.cause = 0 →
    Gives (.wakeAnswer p w) s fun t =>
    t.f.park.adrift.getLsbD (portCode p) = false ∧ tget 0 t.f.park.silent (portCode p) = 0 ∧ t.f.park.state = s.node.f.park.state ∧
    (∀ q : Port, q ≠ p → t.f.park.adrift.getLsbD (portCode q) = s.node.f.park.adrift.getLsbD (portCode q)) ∧ (∀ q : Port, t.link q = s.node.link q) ∧ t.f.chain = s.node.f.chain ∧ t.f.faults = s.node.f.faults ∧ t.stored = s.node.stored ∧ t.n.dict = s.node.n.dict) ∧
  (∀ (s : State) (p : Port) (h : Hello),
    s.node.portsParked = true → s.node.attends = true →
    s.node.f.park.window = true ∨ s.node.f.park.state = .listening →
    (s.node.link p).role = .parent ∨ (s.node.link p).role = .child → s.node.torn .f (linkCrossing p) = false →
    Gives (.hello p h) s fun t =>
    t.f.park.state = .unparking ∧ t.f.park.cause = 2 ∧ t.f.phase = .ready ∧ (∀ q : Port, (t.link q).role = (s.node.link q).role) ∧
    (∀ q : Port, ((s.node.link q).role = .parent ∨ (s.node.link q).role = .child) → (t.link q).state = .bringup) ∧ t.f.chain = s.node.f.chain ∧ t.stored = s.node.stored ∧ t.n.dict = s.node.n.dict) ∧
  (∀ (s : State) (p : Port) (w : WakeWord),
    s.node.portsParked = true → s.node.attends = true →
    s.node.f.park.window = true ∨ s.node.f.park.state = .listening → s.node.f.chain.number ≠ 0 →
    Gives (.wakeRequest p s.node.f.chain.number w) s fun t =>
    t.f.park.state = .unparking ∧ t.f.park.cause = 1 ∧ t.f.phase = .ready ∧ (∀ q : Port, (t.link q).role = (s.node.link q).role) ∧
    (∀ q : Port, ((s.node.link q).role = .parent ∨ (s.node.link q).role = .child) → (t.link q).state = .bringup) ∧ t.f.chain = s.node.f.chain ∧ t.stored = s.node.stored ∧ t.n.dict = s.node.n.dict) ∧
  (∀ (s : State) (p q : Port) (dest : Nat) (w : WakeWord),
    s.node.attends = true → s.node.f.park.window = true ∨ s.node.f.park.state = .listening → 0 < dest → dest < 127 →
    dest ≠ s.node.f.chain.number → s.node.route dest = .port q → (s.node.link q).state = .up →
    Gives (.wakeRequest p dest w) s fun t =>
    handed q (wakeFrame w.sender dest 1 w) s.node t = true ∧ t.f.park = s.node.f.park ∧ (∀ q : Port, (t.link q).state = (s.node.link q).state ∧ (t.link q).role = (s.node.link q).role) ∧ t.f.chain = s.node.f.chain ∧ t.stored = s.node.stored ∧ t.n.dict = s.node.n.dict) ∧
  (∀ (s : State) (w : WakeWord), s.node.attends = true → s.node.f.chain.root = true → Gives (.wakeNotice w) s fun t =>
    t.f.park = { s.node.f.park with notices := tput s.node.f.park.notices (w.sender % 128) (wakeBits w) } ∧ (∀ q : Port, t.link q = s.node.link q) ∧ t.f.chain = s.node.f.chain ∧ t.f.faults = s.node.f.faults ∧ t.stored = s.node.stored ∧ t.n.dict = s.node.n.dict) ∧
  (∀ (s : State) (w : WakeWord) (q : Port),
    s.node.attends = true → s.node.f.chain.root = false → (s.node.link q).role = .parent →
    (s.node.link q).state = .up →
    Gives (.wakeNotice w) s fun t =>
    handed q (wakeFrame w.sender 0 2 w) s.node t = true ∧ t.f.park = s.node.f.park ∧ (∀ q : Port, (t.link q).state = (s.node.link q).state ∧ (t.link q).role = (s.node.link q).role) ∧ t.f.chain = s.node.f.chain ∧ t.stored = s.node.stored ∧ t.n.dict = s.node.n.dict) ∧
  (∀ (s : State) (rq : Rq) (a : Nat) (u : Node) (x : Txn),
    s.node.accepts rq 0x4047 (.command (some a)) = some (u, x) → s.node.lineOpen = true → s.node.f.dev ≠ .boot →
    s.node.f.dev ≠ .sealed → 1 ≤ a → a ≤ 127 → s.node.portsParked = true → s.node.f.park.state ≠ .fallback →
    Gives (.wakeRequestCmd rq (some a)) s fun t =>
    t.answer x = some (0x00, []) ∧ t.f.park.state = .unparking ∧ t.f.park.cause = 5 ∧
    t.f.park.requests = (if s.node.f.park.window = true then [] else s.node.f.park.requests ++ [(a, 0)]) ∧ (∀ q : Port, ((s.node.link q).role = .parent ∨ (s.node.link q).role = .child) → (t.link q).state = .bringup) ∧ t.stored = s.node.stored) ∧
  (∀ (s : State) (rq : Rq) (a : Nat) (u : Node) (x : Txn),
    s.node.accepts rq 0x4047 (.command (some a)) = some (u, x) → s.node.lineOpen = true → s.node.f.dev ≠ .boot →
    s.node.f.dev ≠ .sealed → a < 16777216 → a = 0 ∨ 127 < a →
    Gives (.wakeRequestCmd rq (some a)) s fun t =>
    t.answer x = some (0x13, []) ∧ t.f.park = s.node.f.park ∧ t.f.chain = s.node.f.chain ∧ t.stored = s.node.stored) ∧
  (∀ (s : State) (q : Port),
    s.node.attends = true → s.node.fUp = true → s.node.f.park.state = .unparking → s.node.f.park.window = true →
    2 ≤ s.node.f.park.unparked → (s.node.link q).role = .parent ∨ (s.node.link q).role = .child →
    (s.node.link q).state ≠ .up →
    Gives .holdWindowEnd s fun t =>
    t.f.park.state = .none ∧ t.f.park.window = false ∧ (t.link q).state = .bringup ∧ (t.link q).role = .none ∧ (t.link q).cause = 2 ∧ t.latched .f (linkSource q) = true ∧ t.stored = s.node.stored ∧ t.n.dict = s.node.n.dict)

/-- R386 to R399: the F-port. -/
def Obligations.FlashWindowsAndJobs : Prop :=
  (∀ (s : State) (rq : Rq) (w : Fin 2) (offset length : Nat) (u : Node) (x : Txn),
    s.node.accepts rq (windowKey w.val 0x710E) (.readBlock offset length) = some (u, x) → s.node.lineOpen = true →
    1 ≤ length → length ≤ 4096 → s.node.windowReadCheck w.val = 0x00 →
    offset < s.node.windowLength w.val (selOf x.sels (windowKey w.val 0x710D)) →
    Gives (.windowRead rq w offset length) s fun t =>
    t.f.fport.queue = s.node.f.fport.queue ++ [.windowRead x.session x.tag w.val (selOf x.sels (windowKey w.val 0x710D) + offset) (min length (s.node.windowLength w.val (selOf x.sels (windowKey w.val 0x710D)) - offset)) []] ∧
    (t.txn x.session x.tag).map Txn.stage = some .atF ∧ t.f.fport.current = s.node.f.fport.current ∧ t.stored = s.node.stored) ∧
  (∀ (s : State) (rq : Rq) (w : Fin 2) (offset length : Nat) (u : Node) (x : Txn),
    s.node.accepts rq (windowKey w.val 0x710E) (.readBlock offset length) = some (u, x) → s.node.lineOpen = true →
    1 ≤ length → length ≤ 4096 → offset ≤ s.node.windowLength w.val (selOf x.sels (windowKey w.val 0x710D)) →
    s.node.windowReadCheck w.val ≠ 0x00 →
    Gives (.windowRead rq w offset length) s fun t =>
    t.answer x = some (s.node.windowReadCheck w.val, []) ∧ t.f.fport = s.node.f.fport ∧ t.stored = s.node.stored) ∧
  (∀ (s : State) (rq : Rq) (w : Fin 2) (bytes : List Byte) (u : Node) (x : Txn),
    s.node.accepts rq (windowKey w.val 0x710E) (wholeBlob bytes) = some (u, x) → s.node.lineOpen = true →
    s.node.n.dev = .setup → s.node.f.dev = .setup → bytes.length ≤ 4096 →
    s.node.windowLocked (windowKey w.val 0x710E) 0 = false →
    Gives (.programJob rq w bytes) s fun t =>
    t.answer x = some (s.node.programCheck w.val (selOf x.sels (windowKey w.val 0x710D)) bytes.length, []) ∧
    t.f.fport.job = (if s.node.programCheck w.val (selOf x.sels (windowKey w.val 0x710D)) bytes.length = 0x00 then some ⟨w.val, s.node.windowTarget w.val, selOf x.sels (windowKey w.val 0x710D), bytes, false, false⟩ else s.node.f.fport.job) ∧
    t.f.fport.queue = s.node.f.fport.queue ∧ t.stored = s.node.stored) ∧
  (∀ (s : State) (rq : Rq) (a : Nat) (u : Node) (x : Txn),
    s.node.accepts rq 0x7140 (.command (some a)) = some (u, x) → s.node.lineOpen = true → s.node.n.dev = .setup →
    s.node.f.dev = .setup → a < 16777216 → s.node.windowLocked 0x7140 a = false →
    Gives (.erase rq (some a)) s fun t =>
    (s.node.eraseCheck a = 0x00 → (t.txn x.session x.tag).map Txn.stage = some .atF ∧
      t.f.fport.erase = some ⟨bits a 20 20, s.node.windowTarget (bits a 20 20), bits a 11 0 * 4096, bit a 22, false, false, some (x.session, x.tag)⟩) ∧
    (s.node.eraseCheck a ≠ 0x00 → t.answer x = some (s.node.eraseCheck a, []) ∧ t.f.fport.erase = s.node.f.fport.erase) ∧ t.f.fport.job = s.node.f.fport.job ∧ t.stored = s.node.stored) ∧
  (∀ (s : State) (r : RunRef) (index dest : Nat) (rest : List FWork),
    s.node.fportOn = true → s.node.f.fport.current = none → s.node.f.fport.queue = .stored r index dest :: rest →
    s.node.blob (0x7300 + index) ≠ [] → s.node.targetOn (blobTarget (s.node.blob (0x7300 + index))) = true →
    Gives .fportNextWork s fun t =>
    t.f.fport.current = some ⟨.stored r index dest, blobTarget (s.node.blob (0x7300 + index)), blobRead (s.node.blob (0x7300 + index))⟩ ∧ t.f.fport.queue = rest ∧ t.f.seq = s.node.f.seq ∧ t.stored = s.node.stored ∧ t.n.dict = s.node.n.dict) ∧
  (∀ (s : State) (q tag w addr left target : Nat) (sofar bytes : List Byte),
    s.node.fportOn = true → s.node.trained = true →
    s.node.f.fport.current = some ⟨.windowRead q tag w addr left sofar, target, min 256 left⟩ →
    s.node.servedByF q tag = true → bytes.length = min 256 left → 256 < left →
    Gives (.fportTransactionEnd bytes) s fun t =>
    t.f.fport.current = none ∧ t.f.fport.queue = .windowRead q tag w (addr + 256) (left - 256) (sofar ++ bytes) :: s.node.f.fport.queue ∧ t.f.seq = s.node.f.seq ∧ t.stored = s.node.stored ∧ t.n.dict = s.node.n.dict) ∧
  (∀ (s : State) (w target read : Nat) (bytes : List Byte),
    s.node.fportOn = true → s.node.f.fport.current = some ⟨.sfdp w, target, read⟩ →
    Gives (.fportTransactionEnd bytes) s fun t =>
    t.f.fport.current = none ∧ t.proposal w = sfdpProposal (bytes.take read) ∧ t.f.fport.queue = s.node.f.fport.queue ∧ t.f.seq = s.node.f.seq ∧ t.stored = s.node.stored ∧ t.n.dict = s.node.n.dict) ∧
  (∀ (s : State) (j : Job) (target read : Nat) (bytes : List Byte),
    s.node.fportOn = true → s.node.f.fport.job = some j → s.node.f.fport.current = some ⟨.page true, target, read⟩ →
    Gives (.fportTransactionEnd bytes) s fun t =>
    t.f.fport.current = none ∧ t.f.fport.job = some { j with polling := true } ∧ t.f.fport.erase = s.node.f.fport.erase ∧ t.f.seq = s.node.f.seq ∧ t.stored = s.node.stored ∧ t.n.dict = s.node.n.dict) ∧
  (∀ (s : State) (status : Byte) (j : Job),
    s.node.fportOn = true → s.node.f.fport.current = none → s.node.f.fport.job = some j → j.polling = true →
    Gives (.statusPoll false status) s fun t =>
    (s.node.flashBusy j.window status = true → t.f.fport = s.node.f.fport) ∧
    (s.node.flashBusy j.window status = false → j.bytes.length ≤ s.node.pageBytes j → t.f.fport.job = none ∧ t.f.fport.jobOutcome = 1) ∧
    (s.node.flashBusy j.window status = false → s.node.pageBytes j < j.bytes.length → t.f.fport.job = some { j with addr := j.addr + s.node.pageBytes j, bytes := j.bytes.drop (s.node.pageBytes j), enabled := false, polling := false }) ∧
    t.f.fport.recovering = s.node.f.fport.recovering ∧ t.f.faults = s.node.f.faults ∧ t.stored = s.node.stored ∧ t.n.dict = s.node.n.dict) ∧
  (∀ (s : State) (j : Job),
    s.node.fportOn = true → s.node.f.fport.job = some j → j.polling = true → j.target < 8 →
    Gives .programTimeout s fun t =>
    t.f.fport.job = none ∧ t.f.fport.jobOutcome = 2 ∧ t.recovers j.target = true ∧ t.latched .f 21 = true ∧ t.f.fport.erase = s.node.f.fport.erase ∧ t.stored = s.node.stored ∧ t.n.dict = s.node.n.dict) ∧
  (∀ (s : State) (e : EraseJob),
    s.node.fportOn = true → s.node.f.fport.erase = some e → e.polling = true → e.target < 8 →
    Gives .eraseTimeout s fun t =>
    t.f.fport.erase = none ∧ t.f.fport.eraseOutcome = 2 ∧ t.recovers e.target = true ∧ t.latched .f 21 = true ∧ t.f.fport.job = s.node.f.fport.job ∧ t.stored = s.node.stored ∧ t.n.dict = s.node.n.dict) ∧
  (∀ (s : State) (target : Nat) (status : Byte),
    s.node.fportOn = true → s.node.f.fport.current = none → s.node.recovers target = true → target ≤ 7 →
    Gives (.recoveryPoll target status) s fun t =>
    t.recovers target = s.node.flashBusy (s.node.windowOf target) status ∧ (∀ i ∈ List.range 8, i ≠ target → t.recovers i = s.node.recovers i) ∧ t.f.fport.job = s.node.f.fport.job ∧ t.f.fport.erase = s.node.f.fport.erase ∧ t.stored = s.node.stored ∧ t.n.dict = s.node.n.dict) ∧
  (∀ (s : State) (rq : Rq) (a : Nat) (u : Node) (x : Txn),
    s.node.accepts rq 0x7141 (.command (some a)) = some (u, x) → s.node.lineOpen = true → s.node.f.dev ≠ .boot →
    s.node.f.dev ≠ .sealed → a < 16777216 →
    Gives (.sfdpQuery rq (some a)) s fun t =>
    t.answer x = some (if 1 < a then 0x13 else if s.node.windowHeld a then 0x01 else 0x00, []) ∧
    t.f.fport.sfdp = (if a ≤ 1 ∧ s.node.windowHeld a = false then s.node.f.fport.sfdp ++ [a] else s.node.f.fport.sfdp) ∧ t.stored = s.node.stored) ∧
  (∀ (s : State) (rq : Rq) (a : Nat) (u : Node) (x : Txn),
    s.node.accepts rq 0x7142 (.command (some a)) = some (u, x) → s.node.lineOpen = true → s.node.n.dev = .setup →
    s.node.f.dev = .setup → a < 16777216 →
    Gives (.adoptProposal rq (some a)) s fun t =>
    t.answer x = some (if 1 < a ∨ s.node.hasProposal a = false then 0x13 else 0x00, []) ∧
    (a ≤ 1 → s.node.hasProposal a = true → t.val (windowKey a 0x7103) = (if fromLe (slice (s.node.proposal a) 10 2) = 0 then s.node.val (windowKey a 0x7103) else fromLe (slice (s.node.proposal a) 10 2)) ∧ t.n.dict.unsaved.getLsbD 1 = true) ∧
    ((1 < a ∨ s.node.hasProposal a = false) → t.stored = s.node.stored) ∧ t.blobs = s.node.blobs ∧ t.nLedger = s.node.nLedger ∧ t.fLedger = s.node.fLedger)

/-- R409, R417 to R425, R430, R432: trains on the bead ports. -/
def Obligations.BeadTrainsAndRecords : Prop :=
  (∀ (s : State) (rq : Rq) (start : T48) (p : Fin 4) (u : Node) (x : Txn),
    s.node.accepts rq 0x5021 (.command none) = some (u, x) → s.node.lineOpen = true → s.node.f.dev ≠ .boot →
    s.node.f.dev ≠ .sealed → selOf x.sels 0x5000 = p.val →
    Gives (.syncNow rq start) s fun t =>
    t.answer x = some (if s.node.beadMode p.val = 3 ∨ (s.node.bead p.val).state = .off ∨ (s.node.bead p.val).state = .powering ∨ (s.node.bead p.val).state = .faultOff then 0x14
      else if (s.node.bead p.val).state ≠ .idle then 0x01 else if s.node.torn .f (3 + p.val) = true then 0x01 else 0x00, []) ∧
    (s.node.beadMode p.val ≠ 3 → (s.node.bead p.val).state = .idle → s.node.torn .f (3 + p.val) = false → (t.bead p.val).state = .train ∧ (t.bead p.val).position = 1 ∧ (t.bead p.val).sync = start ∧ (t.bead p.val).pos = (s.node.bead p.val).pos) ∧
    ((s.node.bead p.val).state ≠ .idle → t.bead p.val = s.node.bead p.val) ∧ (∀ q ∈ List.range 4, q ≠ p.val → t.bead q = s.node.bead q) ∧ t.stored = s.node.stored) ∧
  (∀ (s : State) (p : Fin 4) (j : BeadJudgement) (status : BitVec 4) (data : Word) (o : Nat),
    s.node.judging p.val = true →
    (s.node.filFind .f filBeadErr fun a => a == p.val * 16 + ((s.node.bead p.val).position - 1)) = none →
    (s.node.bead p.val).step = none → s.node.frameOutcome p.val j status.toNat = o →
    Gives (.beadFrame p j status data) s fun t =>
    (t.bead p.val).position = (s.node.bead p.val).position + 1 ∧ ((t.bead p.val).at_ (s.node.bead p.val).position).byte3 = recordByte o status.toNat ∧
    (o = 0 ∨ o = 5 → ((t.bead p.val).at_ (s.node.bead p.val).position).value = data.toNat ∧ ((t.bead p.val).at_ (s.node.bead p.val).position).time = (s.node.bead p.val).sync ∧ (t.bead p.val).answering = (s.node.bead p.val).answering ||| BitVec.ofNat 16 (2 ^ ((s.node.bead p.val).position - 1))) ∧
    (o ≠ 0 → o ≠ 5 → ((t.bead p.val).at_ (s.node.bead p.val).position).value = ((s.node.bead p.val).at_ (s.node.bead p.val).position).value ∧ ((t.bead p.val).at_ (s.node.bead p.val).position).time = ((s.node.bead p.val).at_ (s.node.bead p.val).position).time ∧ (t.bead p.val).answering = (s.node.bead p.val).answering) ∧
    ((t.bead p.val).at_ (s.node.bead p.val).position).since = (if o = 0 then 0 else satAdd 255 ((s.node.bead p.val).at_ (s.node.bead p.val).position).since 1) ∧ (t.bead p.val).state = .train ∧ (∀ q ∈ List.range 4, q ≠ p.val → t.bead q = s.node.bead q) ∧ t.stored = s.node.stored ∧ t.n.dict = s.node.n.dict) ∧
  (∀ (s : State) (p : Fin 4),
    s.node.judging p.val = true →
    (s.node.filFind .f filBeadErr fun a => a == p.val * 16 + ((s.node.bead p.val).position - 1)) = none →
    (s.node.bead p.val).step = none →
    Gives (.positionWindowExpiry p) s fun t =>
    (t.bead p.val).position = (s.node.bead p.val).position + 1 ∧ ((t.bead p.val).at_ (s.node.bead p.val).position).byte3 = 32 ∧ ((t.bead p.val).at_ (s.node.bead p.val).position).value = ((s.node.bead p.val).at_ (s.node.bead p.val).position).value ∧ ((t.bead p.val).at_ (s.node.bead p.val).position).since = satAdd 255 ((s.node.bead p.val).at_ (s.node.bead p.val).position).since 1 ∧ ((t.bead p.val).at_ (s.node.bead p.val).position).failures = ((s.node.bead p.val).at_ (s.node.bead p.val).position).failures + 1 ∧ (t.bead p.val).state = .train ∧ (∀ q ∈ List.range 4, q ≠ p.val → t.bead q = s.node.bead q) ∧ t.stored = s.node.stored ∧ t.n.dict = s.node.n.dict) ∧
  (∀ (s : State) (p : Fin 4),
    s.node.beadOn p.val = true → (s.node.bead p.val).state = .train →
    s.node.beadPositions p.val < (s.node.bead p.val).position →
    s.node.beadMode p.val ≠ 2 ∨ (s.node.bead p.val).request = false ∨ (s.node.bead p.val).waiting = true →
    Gives (.trainEnd p) s fun t =>
    t.bead p.val = { s.node.bead p.val with state := .idle, answers := (s.node.bead p.val).answering, records := [] } ∧ t.f.pullQueue = s.node.f.pullQueue ∧ (∀ q ∈ List.range 4, q ≠ p.val → t.bead q = s.node.bead q) ∧ t.f.faults = s.node.f.faults ∧ t.stored = s.node.stored ∧ t.n.dict = s.node.n.dict) ∧
  (∀ (s : State) (p : Fin 4),
    s.node.beadOn p.val = true → (s.node.bead p.val).state = .train →
    s.node.beadPositions p.val < (s.node.bead p.val).position → s.node.beadMode p.val = 2 →
    (s.node.bead p.val).request = true → (s.node.bead p.val).waiting = false → p.val ∉ s.node.f.pullQueue →
    Gives (.trainEnd p) s fun t =>
    (t.bead p.val).state = (if s.node.f.pullQueue = [] ∧ s.node.pullFits p.val = true then .pullup else .idle) ∧ (t.bead p.val).waiting = !(s.node.f.pullQueue == [] && s.node.pullFits p.val) ∧
    t.f.pullQueue = (if s.node.f.pullQueue = [] ∧ s.node.pullFits p.val = true then [] else s.node.f.pullQueue ++ [p.val]) ∧ (t.bead p.val).answers = (s.node.bead p.val).answering ∧ (∀ q ∈ List.range 4, q ≠ p.val → t.bead q = s.node.bead q) ∧ t.f.faults = s.node.f.faults ∧ t.stored = s.node.stored ∧ t.n.dict = s.node.n.dict) ∧
  (∀ (s : State) (p : Fin 4) (rest : List Nat),
    s.node.beadOn p.val = true → s.node.f.pullQueue = p.val :: rest → (s.node.bead p.val).state = .idle →
    s.node.pullFits p.val = true →
    Gives .pullupGrant s fun t =>
    t.bead p.val = { s.node.bead p.val with state := .pullup, waiting := false } ∧ t.f.pullQueue = rest ∧ (∀ q ∈ List.range 4, q ≠ p.val → t.bead q = s.node.bead q) ∧ t.f.faults = s.node.f.faults ∧ t.stored = s.node.stored ∧ t.n.dict = s.node.n.dict) ∧
  (∀ (s : State) (p : Fin 4) (rest : List Nat),
    s.node.f.pullQueue = p.val :: rest → (s.node.bead p.val).state ≠ .idle ∨ s.node.pullFits p.val = false →
    Gives .pullupGrant s fun t =>
    t = s.node) ∧
  (∀ (s : State) (p : Fin 4), s.node.beadOn p.val = true → (s.node.bead p.val).state = .pullup → Gives (.pullupWindowEnd p) s fun t =>
    (t.bead p.val).state = .idle ∧ (t.bead p.val).episode.getLsbD 6 = false ∧ (t.bead p.val).pos = (s.node.bead p.val).pos ∧ t.f.pullQueue = s.node.f.pullQueue ∧ (∀ q ∈ List.range 4, q ≠ p.val → t.bead q = s.node.bead q) ∧ t.stored = s.node.stored ∧ t.n.dict = s.node.n.dict) ∧
  (∀ (s : State) (p : Fin 4), s.node.beadOn p.val = true → (s.node.bead p.val).state = .powering → Gives (.poweringEnd p) s fun t =>
    t.bead p.val = { s.node.bead p.val with state := .idle } ∧ (∀ q ∈ List.range 4, q ≠ p.val → t.bead q = s.node.bead q) ∧ t.f.faults = s.node.f.faults ∧ t.stored = s.node.stored ∧ t.n.dict = s.node.n.dict) ∧
  (∀ (s : State) (rq : Rq) (key v : Nat) (p : Fin 4) (u : Node) (x : Txn),
    s.node.accepts rq key (.write (.word v)) = some (u, x) → s.node.lineOpen = true → s.node.n.dev = .setup →
    s.node.f.dev = .setup → key = 0x5010 ∨ key = 0x5011 → selOf x.sels 0x5000 = p.val →
    v ≤ (if key = 0x5010 then 3 else 1) → key = 0x5010 → v = 3 → s.node.beadPositions p.val = 1 →
    (s.node.bead p.val).state ≠ .train → (s.node.bead p.val).episode = 0 →
    Gives (.beadModeWrite rq key (.word v)) s fun t =>
    t.answer x = some (0x00, []) ∧ t.valAt key p.val = v ∧ (t.bead p.val).state = (if t.beadMode p.val = 0 then .off else .powering) ∧ (t.bead p.val).waiting = false ∧ (t.bead p.val).pos = (s.node.bead p.val).pos ∧ (∀ q ∈ List.range 4, q ≠ p.val → t.bead q = s.node.bead q) ∧ t.blobs = s.node.blobs ∧ t.nLedger = s.node.nLedger ∧ t.fLedger = s.node.fLedger) ∧
  (∀ (s : State) (rq : Rq) (v : Nat) (p : Fin 4) (u : Node) (x : Txn),
    s.node.accepts rq 0x5010 (.write (.word v)) = some (u, x) → s.node.lineOpen = true → s.node.n.dev = .setup →
    s.node.f.dev = .setup → selOf x.sels 0x5000 = p.val → v < 16777216 →
    3 < v ∨ (v = 3 ∧ s.node.beadPositions p.val ≠ 1) →
    Gives (.beadModeWrite rq 0x5010 (.word v)) s fun t =>
    (t.answer x).map (fun a => a.1 == 0x13 || a.1 == 0x14) = some true ∧ t.bead p.val = s.node.bead p.val ∧ t.stored = s.node.stored) ∧
  (∀ (s : State) (rq : Rq) (p : Fin 4) (u : Node) (x : Txn),
    s.node.accepts rq 0x5032 (.command none) = some (u, x) → s.node.lineOpen = true → s.node.f.dev ≠ .boot →
    s.node.f.dev ≠ .sealed → selOf x.sels 0x5000 = p.val →
    Gives (.beadPortReenable rq) s fun t =>
    t.answer x = some (0x00, []) ∧
    ((s.node.bead p.val).state = .faultOff → (t.bead p.val).state = (if s.node.beadMode p.val = 0 then .off else .powering) ∧ (t.bead p.val).trips = 0 ∧ (t.bead p.val).episode.getLsbD 1 = false) ∧ ((s.node.bead p.val).state ≠ .faultOff → t.bead p.val = s.node.bead p.val) ∧ (∀ q ∈ List.range 4, q ≠ p.val → t.bead q = s.node.bead q) ∧ t.stored = s.node.stored)

/-- R424, R428 to R430: faults of a bead port, and PSI5. -/
def Obligations.BeadLineFaults : Prop :=
  (∀ (s : State) (p : Fin 4) (within : Nat),
    s.node.beadOn p.val = true → (s.node.bead p.val).state = .powering ∨ (s.node.bead p.val).state = .idle →
    s.node.beadMode p.val = 1 ∨ s.node.beadMode p.val = 3 → (s.node.bead p.val).episode = 0 →
    Gives (.overcurrentTrip p within) s fun t =>
    (t.bead p.val).trips = min 3 (min within (s.node.bead p.val).trips + 1) ∧ (t.bead p.val).state = (if 3 ≤ min within (s.node.bead p.val).trips + 1 then .faultOff else .off) ∧ (t.bead p.val).tripped = decide (min within (s.node.bead p.val).trips + 1 < 3) ∧ (t.bead p.val).cause = 1 ∧ (t.bead p.val).episode.getLsbD 1 = true ∧ t.latched .f (12 + p.val) = true ∧ t.conditionOn .f (12 + p.val) = true ∧ (t.bead p.val).pos = (s.node.bead p.val).pos ∧ (∀ q ∈ List.range 4, q ≠ p.val → t.bead q = s.node.bead q) ∧ t.stored = s.node.stored ∧ t.n.dict = s.node.n.dict) ∧
  (∀ (s : State) (p : Fin 4), s.node.beadOn p.val = true → (s.node.bead p.val).tripped = true → Gives (.lineOffEnd p) s fun t =>
    (t.bead p.val).state = (if s.node.beadMode p.val = 0 then .off else .powering) ∧ (t.bead p.val).tripped = false ∧ (t.bead p.val).episode.getLsbD 1 = false ∧ (t.bead p.val).trips = (s.node.bead p.val).trips ∧ (∀ q ∈ List.range 4, q ≠ p.val → t.bead q = s.node.bead q) ∧ t.stored = s.node.stored ∧ t.n.dict = s.node.n.dict) ∧
  (∀ (s : State) (p : Fin 4) (base : Nat),
    s.node.beadLine p.val = true → s.node.beadMode p.val ≠ 2 → base < 65536 →
    base < s.node.valAt 0x5016 p.val % 256 ∨ s.node.valAt 0x5016 p.val / 256 < base → (s.node.bead p.val).episode = 0 →
    s.node.valAt 0x5014 p.val = 0 →
    Gives (.baseWindowFault p base) s fun t =>
    (t.bead p.val).base = base ∧ (t.bead p.val).cause = 2 ∧ (t.bead p.val).episode.getLsbD 2 = true ∧ t.latched .f (12 + p.val) = true ∧ t.conditionOn .f (12 + p.val) = true ∧ (t.bead p.val).state = (s.node.bead p.val).state ∧ (∀ q ∈ List.range 4, q ≠ p.val → t.bead q = s.node.bead q) ∧ t.stored = s.node.stored ∧ t.n.dict = s.node.n.dict) ∧
  (∀ (s : State) (p : Fin 4) (base : Nat),
    s.node.beadLine p.val = true → s.node.beadMode p.val ≠ 2 → base < 65536 → s.node.valAt 0x5016 p.val % 256 ≤ base →
    base ≤ s.node.valAt 0x5016 p.val / 256 → s.node.valAt 0x5014 p.val = 1 →
    20 < baseApart base (s.node.valAt 0x5015 p.val) → (s.node.bead p.val).episode = 0 →
    Gives (.baseWindowFault p base) s fun t =>
    (t.bead p.val).base = base ∧ (t.bead p.val).cause = 7 ∧ (t.bead p.val).episode.getLsbD 7 = true ∧ t.latched .f (12 + p.val) = true ∧ t.conditionOn .f (12 + p.val) = true ∧ (t.bead p.val).state = (s.node.bead p.val).state ∧ (∀ q ∈ List.range 4, q ≠ p.val → t.bead q = s.node.bead q) ∧ t.stored = s.node.stored ∧ t.n.dict = s.node.n.dict) ∧
  (∀ (s : State) (p : Fin 4) (base : Nat),
    s.node.beadLine p.val = true → s.node.beadMode p.val ≠ 2 → base < 65536 → s.node.valAt 0x5016 p.val % 256 ≤ base →
    base ≤ s.node.valAt 0x5016 p.val / 256 →
    s.node.valAt 0x5014 p.val = 0 ∨ baseApart base (s.node.valAt 0x5015 p.val) ≤ 10 →
    Gives (.baseWindowFault p base) s fun t =>
    (t.bead p.val).base = base ∧ (t.bead p.val).episode.getLsbD 2 = false ∧ (t.bead p.val).episode.getLsbD 7 = false ∧ (t.bead p.val).cause = (s.node.bead p.val).cause ∧ (∀ q ∈ List.range 4, q ≠ p.val → t.bead q = s.node.bead q) ∧ t.stored = s.node.stored ∧ t.n.dict = s.node.n.dict) ∧
  (∀ (s : State) (p : Fin 4), s.node.beadLine p.val = true → (s.node.bead p.val).episode.getLsbD 3 = false → Gives (.openLineFault p) s fun t =>
    (t.bead p.val).cause = 3 ∧ (t.bead p.val).episode.getLsbD 3 = true ∧ t.latched .f (12 + p.val) = true ∧ t.conditionOn .f (12 + p.val) = true ∧ (t.bead p.val).state = (s.node.bead p.val).state ∧ (∀ q ∈ List.range 4, q ≠ p.val → t.bead q = s.node.bead q) ∧ t.stored = s.node.stored ∧ t.n.dict = s.node.n.dict) ∧
  (∀ (s : State) (p : Fin 4), (s.node.bead p.val).episode.getLsbD 3 = true → Gives (.openLineFault p) s fun t =>
    t = s.node) ∧
  (∀ (s : State) (p : Fin 4),
    s.node.beadOn p.val = true → (s.node.bead p.val).state = .pullup → (s.node.bead p.val).episode.getLsbD 6 = false →
    Gives (.pullupLevelFault p) s fun t =>
    (t.bead p.val).cause = 6 ∧ (t.bead p.val).episode.getLsbD 6 = true ∧ t.latched .f (12 + p.val) = true ∧ t.conditionOn .f (12 + p.val) = true ∧ (t.bead p.val).state = .pullup ∧ (∀ q ∈ List.range 4, q ≠ p.val → t.bead q = s.node.bead q) ∧ t.stored = s.node.stored ∧ t.n.dict = s.node.n.dict) ∧
  (∀ (s : State) (p : Fin 4) (data : Word) (at_ : T48), s.node.psi5On p.val = true → Gives (.psi5Frame p .valid data at_) s fun t =>
    ((t.bead p.val).at_ 1).value = data.toNat % 2 ^ (s.node.valAt 0x5013 p.val % 32) ∧ ((t.bead p.val).at_ 1).time = at_ ∧ ((t.bead p.val).at_ 1).byte3 = 0 ∧ (t.bead p.val).badFrames = 0 ∧ (t.bead p.val).episode.getLsbD 3 = false ∧ (t.bead p.val).episode.getLsbD 4 = false ∧ (∀ q ∈ List.range 4, q ≠ p.val → t.bead q = s.node.bead q) ∧ t.stored = s.node.stored ∧ t.n.dict = s.node.n.dict) ∧
  (∀ (s : State) (p : Fin 4) (j : BeadJudgement) (data : Word) (at_ : T48),
    s.node.psi5On p.val = true → j ≠ .valid → (s.node.bead p.val).episode.getLsbD 4 = false →
    Gives (.psi5Frame p j data at_) s fun t =>
    ((t.bead p.val).at_ 1).value = ((s.node.bead p.val).at_ 1).value ∧ ((t.bead p.val).at_ 1).byte3 = (if j = .badCrc then 48 else 64) ∧ (t.bead p.val).badFrames = (s.node.bead p.val).badFrames + 1 ∧ (t.bead p.val).episode.getLsbD 4 = decide (s.node.valAt 0x5019 p.val ≤ (s.node.bead p.val).badFrames + 1) ∧ (s.node.valAt 0x5019 p.val ≤ (s.node.bead p.val).badFrames + 1 → t.latched .f (12 + p.val) = true) ∧ (∀ q ∈ List.range 4, q ≠ p.val → t.bead q = s.node.bead q) ∧ t.stored = s.node.stored ∧ t.n.dict = s.node.n.dict) ∧
  (∀ (s : State) (p : Fin 4), s.node.psi5On p.val = true → (s.node.bead p.val).episode.getLsbD 4 = false → Gives (.psi5Silence p) s fun t =>
    (t.bead p.val).cause = 4 ∧ (t.bead p.val).episode.getLsbD 4 = true ∧ t.latched .f (12 + p.val) = true ∧ t.conditionOn .f (12 + p.val) = true ∧ (t.bead p.val).state = .idle ∧ (∀ q ∈ List.range 4, q ≠ p.val → t.bead q = s.node.bead q) ∧ t.stored = s.node.stored ∧ t.n.dict = s.node.n.dict)

/-- R439 to R449: SAFE pairs. That T = 1 declares at the first tick is the reading of log entry 86. -/
def Obligations.SafePairs : Prop :=
  (∀ (s : State) (p : Fin 2) (a b c d : Bool),
    s.node.fUp = true → s.node.portsParked = false → pairSample (s.node.valAt 0x6010 p.val) a b = .bothSafe →
    (s.node.pair p.val).state ≠ .off → (s.node.pair p.val).state ≠ .discrepancy →
    Gives (if p = 0 then .safeTick a b c d else .safeTick c d a b) s fun t =>
    (t.pair p.val).state = .safe ∧ (t.pair p.val).forcing = true ∧ (t.pair p.val).count = 0 ∧ (t.pair p.val).clear = 0 ∧ (t.pair p.val).permit = false ∧ (t.pair p.val).chA = a ∧ (t.pair p.val).chB = b ∧ (t.pair p.val).record = (s.node.pair p.val).record ∧ t.f.chain = s.node.f.chain ∧ t.f.park = s.node.f.park ∧ t.stored = s.node.stored ∧ t.n.dict = s.node.n.dict) ∧
  (∀ (s : State) (p : Fin 2) (a b c d : Bool),
    s.node.fUp = true → s.node.portsParked = false → pairSample (s.node.valAt 0x6010 p.val) a b = .bothActive →
    (s.node.pair p.val).state = .safe ∨ ((s.node.pair p.val).state = .transition ∧ (s.node.pair p.val).permit = true) ∨ ((s.node.pair p.val).state = .starting ∧ s.node.valAt 0x6013 p.val = 0) →
    Gives (if p = 0 then .safeTick a b c d else .safeTick c d a b) s fun t =>
    (t.pair p.val).state = .active ∧ (t.pair p.val).permit = false ∧ (s.node.valAt 0x6016 p.val = 0 → (t.pair p.val).forcing = false) ∧ (s.node.valAt 0x6016 p.val ≠ 0 → (t.pair p.val).forcing = (s.node.pair p.val).forcing ∧ (t.pair p.val).releasePending = (s.node.pair p.val).forcing) ∧ t.f.chain = s.node.f.chain ∧ t.f.park = s.node.f.park ∧ t.stored = s.node.stored ∧ t.n.dict = s.node.n.dict) ∧
  (∀ (s : State) (p : Fin 2) (a b c d : Bool),
    s.node.fUp = true → s.node.portsParked = false → pairSample (s.node.valAt 0x6010 p.val) a b = .bothActive →
    ((s.node.pair p.val).state = .transition ∧ (s.node.pair p.val).permit = false) ∨ ((s.node.pair p.val).state = .starting ∧ s.node.valAt 0x6013 p.val ≠ 0) →
    Gives (if p = 0 then .safeTick a b c d else .safeTick c d a b) s fun t =>
    (t.pair p.val).state = .blocked ∧ (t.pair p.val).forcing = true ∧ t.f.chain = s.node.f.chain ∧ t.f.park = s.node.f.park ∧ t.stored = s.node.stored ∧ t.n.dict = s.node.n.dict) ∧
  (∀ (s : State) (p : Fin 2) (a b c d : Bool),
    s.node.fUp = true → s.node.portsParked = false → pairSample (s.node.valAt 0x6010 p.val) a b = .disagree →
    (s.node.pair p.val).state = .safe ∨ (s.node.pair p.val).state = .active ∨ (s.node.pair p.val).state = .blocked →
    Gives (if p = 0 then .safeTick a b c d else .safeTick c d a b) s fun t =>
    (t.pair p.val).count = 1 ∧ (t.pair p.val).forcing = true ∧ (2 ≤ s.node.valAt 0x6014 p.val → (t.pair p.val).state = .transition ∧ (t.pair p.val).permit = ((s.node.pair p.val).state == .safe)) ∧ (s.node.valAt 0x6014 p.val ≤ 1 → (t.pair p.val).state = .discrepancy ∧ (t.pair p.val).recordDue = true ∧ (t.pair p.val).leadB = (t.pair p.val).firstB ∧ t.conditionOn .f (16 + p.val) = true) ∧ (t.pair p.val).firstB = (a == (s.node.pair p.val).chA && b != (s.node.pair p.val).chB) ∧ t.f.chain = s.node.f.chain ∧ t.f.park = s.node.f.park ∧ t.stored = s.node.stored ∧ t.n.dict = s.node.n.dict) ∧
  (∀ (s : State) (p : Fin 2) (a b c d : Bool),
    s.node.fUp = true → s.node.portsParked = false → pairSample (s.node.valAt 0x6010 p.val) a b = .disagree →
    (s.node.pair p.val).state = .transition →
    Gives (if p = 0 then .safeTick a b c d else .safeTick c d a b) s fun t =>
    (t.pair p.val).count = (s.node.pair p.val).count + 1 ∧ ((s.node.pair p.val).count + 1 < s.node.valAt 0x6014 p.val → (t.pair p.val).state = .transition) ∧ (s.node.valAt 0x6014 p.val ≤ (s.node.pair p.val).count + 1 → (t.pair p.val).state = .discrepancy ∧ (t.pair p.val).recordDue = true ∧ (t.pair p.val).leadB = (s.node.pair p.val).firstB ∧ t.conditionOn .f (16 + p.val) = true) ∧ (t.pair p.val).forcing = (s.node.pair p.val).forcing ∧ t.f.chain = s.node.f.chain ∧ t.f.park = s.node.f.park ∧ t.stored = s.node.stored ∧ t.n.dict = s.node.n.dict) ∧
  (∀ (s : State) (p : Fin 2) (a b c d : Bool),
    s.node.fUp = true → s.node.portsParked = false → (s.node.pair p.val).state = .discrepancy →
    Gives (if p = 0 then .safeTick a b c d else .safeTick c d a b) s fun t =>
    (pairSample (s.node.valAt 0x6010 p.val) a b = .bothSafe → 3 ≤ (s.node.pair p.val).clear → (t.pair p.val).state = .safe ∧ (t.pair p.val).record = false ∧ (t.pair p.val).forcing = true ∧ t.conditionOn .f (16 + p.val) = false) ∧ (pairSample (s.node.valAt 0x6010 p.val) a b = .bothSafe → (s.node.pair p.val).clear < 3 → (t.pair p.val).state = .discrepancy ∧ (t.pair p.val).clear = (s.node.pair p.val).clear + 1) ∧ (pairSample (s.node.valAt 0x6010 p.val) a b ≠ .bothSafe → (t.pair p.val).state = .discrepancy ∧ (t.pair p.val).clear = 0) ∧ t.f.chain = s.node.f.chain ∧ t.f.park = s.node.f.park ∧ t.stored = s.node.stored ∧ t.n.dict = s.node.n.dict) ∧
  (∀ (s : State) (p : Fin 2) (a b c d : Bool),
    s.node.fUp = true → s.node.portsParked = false → (s.node.pair p.val).state = .off →
    Gives (if p = 0 then .safeTick a b c d else .safeTick c d a b) s fun t =>
    t.pair p.val = s.node.pair p.val ∧ t.f.chain = s.node.f.chain ∧ t.f.park = s.node.f.park ∧ t.stored = s.node.stored ∧ t.n.dict = s.node.n.dict) ∧
  (∀ (s : State) (p : Fin 2), s.node.safeTicks = true → (s.node.pair p.val).recordDue = true → Gives (.latchRecordWrite p) s fun t =>
    t.pair p.val = { s.node.pair p.val with record := true, recordDue := false } ∧ t.f.faults = s.node.f.faults ∧ t.f.chain = s.node.f.chain ∧ t.f.park = s.node.f.park ∧ t.stored = s.node.stored ∧ t.n.dict = s.node.n.dict) ∧
  (∀ (s : State) (rq : Rq) (p : Fin 2) (u : Node) (x : Txn),
    s.node.accepts rq 0x6017 (.command none) = some (u, x) → s.node.lineOpen = true → s.node.f.dev ≠ .boot →
    s.node.f.dev ≠ .sealed → selOf x.sels 0x6000 = p.val →
    Gives (.releaseForce rq) s fun t =>
    t.answer x = some (if (s.node.pair p.val).releasePending then 0x00 else 0x14, []) ∧ ((s.node.pair p.val).releasePending = true → (t.pair p.val).forcing = false ∧ (t.pair p.val).releasePending = false) ∧ (t.pair p.val).state = (s.node.pair p.val).state ∧ ((s.node.pair p.val).releasePending = false → t.pair p.val = s.node.pair p.val) ∧ t.stored = s.node.stored) ∧
  (∀ (s : State) (rq : Rq) (p : Fin 2) (key v : Nat) (row : KeyRow) (u : Node) (x : Txn),
    s.node.accepts rq key (.write (.word v)) = some (u, x) → s.node.lineOpen = true → s.node.n.dev = .setup →
    s.node.f.dev = .setup → selOf x.sels 0x6000 = p.val → key = 0x6010 ∨ key = 0x6012 ∨ key = 0x6013 ∨ key = 0x6015 →
    keyRow key = some row → within row.lo row.hi (v % 16777216) = true → key = 0x6010 → v % 16777216 ≠ 0 →
    s.node.valAt 0x6010 p.val ≠ 0 → s.node.portsParked = false →
    Gives (.safeSettingWrite rq key (.word v)) s fun t =>
    t.answer x = some (0x00, []) ∧ t.valAt key p.val = v % 16777216 ∧ (t.pair p.val).state = .starting ∧ (t.pair p.val).forcing = true ∧ (t.pair p.val).count = 0 ∧ (t.pair p.val).clear = 0 ∧ t.blobs = s.node.blobs ∧ t.nLedger = s.node.nLedger ∧ t.fLedger = s.node.fLedger)

/-- R456 to R471, R477: the collectors. -/
def Obligations.DetectionsAndReactions : Prop :=
  (∀ (s : State) (d : Die) (src : Fin 24) (cause : Nat),
    s.node.collects d = true → (tget {} (s.node.die d).faults.latest src).openWin = true → src.val ≠ 22 ∨ d = .f →
    Gives (.faultDetection d src cause) s fun t =>
    t.latched d src.val = true ∧ (t.die d).faults.nextEvent = (s.node.die d).faults.nextEvent ∧ (t.die d).faults.latest = (s.node.die d).faults.latest ∧ (t.die d).faults.history = (s.node.die d).faults.history.map (fun e => if e.event == (tget {} (s.node.die d).faults.latest src).event && !e.clear then { e with merged := satAdd 255 e.merged 1 } else e) ∧ (t.die d).faults.cond = (s.node.die d).faults.cond ∧ (d = .f → t.n = s.node.n) ∧ t.stored = s.node.stored) ∧
  (∀ (s : State) (d : Die) (src : Fin 24) (cause : Nat),
    s.node.collects d = true → (tget {} (s.node.die d).faults.latest src).openWin = false →
    (s.node.die d).faults.history.length < 15 →
    Gives (.faultDetection d src cause) s fun t =>
    t.latched d src.val = true ∧ (tget {} (t.die d).faults.latest src.val) = { event := (s.node.die d).faults.nextEvent, cls := (s.node.inForce d src.val none).1, mask := (s.node.inForce d src.val none).2, openWin := true } ∧ ((t.die d).faults.history.any fun e => e.event == (s.node.die d).faults.nextEvent && e.source == src.val && e.cls == (s.node.inForce d src.val none).1 && e.detail == cause && e.time == s.node.stamp d && !e.clear) = true ∧ (bit (s.node.inForce d src.val none).2 4 = true → (t.die d).faults.pin = true) ∧ (bit (s.node.inForce d src.val none).2 0 = true → (t.die d).faults.unack.getLsbD src.val = true) ∧ (bit (s.node.inForce d src.val none).2 3 = true → (t.die d).faults.resetWaiting.isSome = true) ∧ ((s.node.inForce d src.val none).1 = 3 → ¬(d = .n ∧ src.val = 22) → (t.die d).ret.seals.getLsbD src.val = true ∧ t.devOf d = .sealed) ∧ t.stored = s.node.stored) ∧
  (∀ (s : State) (d : Die) (src : Fin 24) (cause island : Nat),
    s.node.collects d = true → (tget {} (s.node.die d).faults.latest src).openWin = false →
    sourceIsland d src.val = some island → bit (s.node.inForce d src.val none).2 2 = true →
    Gives (.faultDetection d src cause) s fun t =>
    tget? (t.die d).isl.inReset island = some 0 ∧ (t.die d).isl.lastIsland = island ∧ (islandCrossing d island).all (t.torn d) = true ∧ t.stored = s.node.stored) ∧
  (∀ (s : State) (d : Die),
    s.node.collects d = true →
    (∀ i ∈ List.range 24, (s.node.die d).faults.cond.getLsbD i = true → (tget {} (s.node.die d).faults.latest i).openWin = true ∨ sourceIsland d i = none) →
    Gives (.liveStateSample d) s fun t =>
    (∀ i ∈ List.range 24, (s.node.die d).faults.cond.getLsbD i = true → (tget {} (s.node.die d).faults.latest i).openWin = false → t.latched d i = true ∧ (tget {} (t.die d).faults.latest i).openWin = true) ∧ (∀ i ∈ List.range 24, (s.node.die d).faults.cond.getLsbD i = false → tget {} (t.die d).faults.latest i = tget {} (s.node.die d).faults.latest i) ∧ t.stored = s.node.stored) ∧
  (∀ (s : State) (d : Die), (s.node.die d).faults.cond = 0 → Gives (.liveStateSample d) s fun t =>
    t = s.node) ∧
  (∀ (s : State) (d : Die) (src : Fin 24),
    (tget {} (s.node.die d).faults.latest src).openWin = true →
    bit (tget {} (s.node.die d).faults.latest src).mask 0 = false → s.node.reactionsDone d src.val = true →
    Gives (.mergeWindowClose d src) s fun t =>
    (tget {} (t.die d).faults.latest src.val) = { (tget {} (s.node.die d).faults.latest src) with openWin := false } ∧ (t.die d).faults.history = (s.node.die d).faults.history ∧ (t.die d).faults.status = (s.node.die d).faults.status ∧ t.die (otherDie d) = s.node.die (otherDie d) ∧ t.stored = s.node.stored) ∧
  (∀ (s : State) (d : Die) (src : Fin 24),
   
    (tget {} (s.node.die d).faults.latest src).openWin = false ∨ bit (tget {} (s.node.die d).faults.latest src).mask 0 = true ∨ s.node.reactionsDone d src.val = false →
    Gives (.mergeWindowClose d src) s fun t =>
    t = s.node) ∧
  (∀ (s : State) (d : Die), (s.node.die d).faults.pulseRunning = true → Gives (.errPulseEnd d) s fun t =>
    (t.die d).faults = { (s.node.die d).faults with pulseRunning := false, pin := (s.node.die d).faults.pin && !(s.node.die d).faults.releasePending, releasePending := false } ∧ t.die (otherDie d) = s.node.die (otherDie d) ∧ t.stored = s.node.stored) ∧
  (∀ (s : State) (d : Die) (src : Fin 24), (s.node.die d).faults.pulse.getLsbD src.val = true → Gives (.eventLiveEnd d src) s fun t =>
    (t.live d).getLsbD src.val = (s.node.die d).faults.cond.getLsbD src.val ∧ (t.die d).faults.cond = (s.node.die d).faults.cond ∧ (t.die d).faults.status = (s.node.die d).faults.status ∧ (∀ i ∈ List.range 24, i ≠ src.val → (t.live d).getLsbD i = (s.node.live d).getLsbD i) ∧ t.die (otherDie d) = s.node.die (otherDie d) ∧ t.stored = s.node.stored) ∧
  (∀ (s : State) (d : Die) (src : Nat), (s.node.die d).faults.resetWaiting = some src → Gives (.dieResetReaction d) s fun t =>
    (t.die d).phase = .starting ∧ (t.die d).cause = (if d = .n then 4 else 3) ∧ (t.die d).ret.byReaction = true ∧ (t.die d).ret.resetSource = some src ∧ (t.die d).ret.seals = (s.node.die d).ret.seals ∧ (t.die d).faults.resetWaiting = none ∧ (t.die (otherDie d)).phase = (s.node.die (otherDie d)).phase ∧ t.nLedger = s.node.nLedger ∧ t.fLedger = s.node.fLedger) ∧
  (∀ (s : State) (d : Die), (s.node.die d).faults.resetWaiting = none → Gives (.dieResetReaction d) s fun t =>
    t = s.node) ∧
  (∀ (s : State) (src : Fin 24), s.node.hubReceives .n = true → s.node.n.dev = .setup ∨ s.node.n.dev = .run → Gives (.fTrapNotice src) s fun t =>
    t.n.dev = .safeHold ∧ t.n.lastTransition = transitionWord s.node.n.dev 3 src.val 0 ∧ t.n.runPending = false ∧ t.f.faults = s.node.f.faults ∧ t.stored = s.node.stored) ∧
  (∀ (s : State) (src : Fin 24), s.node.n.dev ≠ .setup → s.node.n.dev ≠ .run → Gives (.fTrapNotice src) s fun t =>
    t = s.node) ∧
  (∀ (s : State),
    s.node.nUp = true → s.node.n.dev = .sealed → s.node.n.ret.seals = 0 → s.node.trained = true →
    s.node.n.sealReported = false →
    Gives .fSealRelease s fun t =>
    t.n.dev = .setup ∧ t.n.fSeals = 0 ∧ t.n.lastTransition = transitionWord .sealed 5 (lowestSrc s.node.n.fSeals) 0 ∧ t.n.faults = s.node.n.faults ∧ t.stored = s.node.stored) ∧
  (∀ (s : State), s.node.n.dev ≠ .sealed ∨ s.node.n.ret.seals ≠ 0 ∨ s.node.n.sealReported = true → Gives .fSealRelease s fun t =>
    t = s.node)

/-- R467, R473 to R476: clearing faults. -/
def Obligations.ClearingFaults : Prop :=
  (∀ (s : State) (rq : Rq) (d : Die) (m : Nat) (u : Node) (x : Txn),
    s.node.accepts rq (faultKey d 0x8002) (.write (.word m)) = some (u, x) → (d = .f → s.node.lineOpen = true) →
    s.node.devOf d ≠ .boot → m < 16777216 →
    Gives (.statusClear rq d (.word m)) s fun t =>
    t.answer x = some (0x00, []) ∧ (∀ i ∈ List.range 24, t.latched d i = (s.node.latched d i && !((BitVec.ofNat 24 m).getLsbD i && !((isCondition d i && (s.node.live d).getLsbD i) || (s.node.die d).ret.seals.getLsbD i)))) ∧ (t.die d).faults.history = (s.node.die d).faults.history ∧ (t.die d).faults.cond = (s.node.die d).faults.cond ∧ t.stored = s.node.stored) ∧
  (∀ (s : State) (rq : Rq) (d : Die) (m : Nat) (u : Node) (x : Txn),
    s.node.accepts rq (faultKey d 0x8003) (.command (some m)) = some (u, x) → (d = .f → s.node.lineOpen = true) →
    s.node.devOf d ≠ .boot → m < 16777216 →
    Gives (.acknowledge rq d (some m)) s fun t =>
    t.answer x = some (0x00, []) ∧ (∀ i ∈ List.range 24, (tget {} (t.die d).faults.latest i).openWin = ((tget {} (s.node.die d).faults.latest i).openWin && !((BitVec.ofNat 24 m).getLsbD i && bit (tget {} (s.node.die d).faults.latest i).mask 0))) ∧ (∀ i ∈ List.range 24, (BitVec.ofNat 24 m).getLsbD i = false → (t.die d).faults.unack.getLsbD i = (s.node.die d).faults.unack.getLsbD i) ∧ (t.die d).faults.status = (s.node.die d).faults.status ∧ (t.die d).faults.history.length = (s.node.die d).faults.history.length ∧ t.stored = s.node.stored) ∧
  (∀ (s : State) (rq : Rq) (d : Die) (u : Node) (x : Txn),
    s.node.accepts rq (faultKey d 0x8004) (.command none) = some (u, x) → (d = .f → s.node.lineOpen = true) →
    s.node.devOf d ≠ .boot →
    Gives (.errPinRelease rq d) s fun t =>
    t.answer x = some (0x00, []) ∧ (t.die d).faults.pin = ((s.node.die d).faults.pin && (s.node.die d).faults.pulseRunning) ∧ (t.die d).faults.releasePending = ((s.node.die d).faults.releasePending || ((s.node.die d).faults.pin && (s.node.die d).faults.pulseRunning)) ∧ (t.die d).faults.status = (s.node.die d).faults.status ∧ (t.die d).faults.history = (s.node.die d).faults.history ∧ t.stored = s.node.stored) ∧
  (∀ (s : State) (rq : Rq) (d : Die) (u : Node) (x : Txn),
    s.node.accepts rq (faultKey d 0x800A) (.command none) = some (u, x) → (d = .f → s.node.lineOpen = true) →
    s.node.devOf d ≠ .boot →
    Gives (.historyClear rq d) s fun t =>
    t.answer x = some (0x00, []) ∧ (t.die d).faults.history = (s.node.die d).faults.history.filter (fun e => e.cls == 3) ∧ (t.die d).faults.status = (s.node.die d).faults.status ∧ (t.die d).faults.latest = (s.node.die d).faults.latest ∧ t.stored = s.node.stored) ∧
  (∀ (s : State) (rq : Rq) (d : Die) (u : Node) (x : Txn),
    s.node.accepts rq (faultKey d 0x8000) .read = some (u, x) → (d = .f → s.node.lineOpen = true) →
    Gives (.faultStatusRead rq d) s fun t =>
    t.answer x = some (0x00, leBytes 3 (s.node.die d).faults.status.toNat) ∧ (t.die d).faults.latest = (s.node.die d).faults.latest.map (fun e => (e.1, { e.2 with seen := true })) ∧ (t.die d).faults.status = (s.node.die d).faults.status ∧ (t.die d).faults.history = (s.node.die d).faults.history ∧ t.stored = s.node.stored) ∧
  (∀ (s : State) (d : Die) (src : Fin 24) (o : OpenEvent),
    tget? (s.node.die d).faults.latest src.val = some o → s.node.collects d = true → isCondition d src.val = true →
    s.node.val (clearRecording d) = 1 → o.cleared = false → (s.node.live d).getLsbD src.val = false →
    (s.node.die d).faults.history.length < 16 →
    Gives (.clearEntry d src) s fun t =>
    (t.die d).faults.history = { event := o.event, source := src.val, cls := o.cls, clear := true, time := s.node.stamp d } :: (s.node.die d).faults.history ∧ tget? (t.die d).faults.latest src.val = some { o with cleared := true } ∧ (t.die d).faults.status = (s.node.die d).faults.status ∧ (d = .f → t.offered .f (.faultReport src.val o.cls false o.event) = true) ∧ t.stored = s.node.stored) ∧
  (∀ (s : State) (d : Die) (src : Fin 24),
    isCondition d src.val = false ∨ s.node.val (clearRecording d) = 0 ∨ (s.node.live d).getLsbD src.val = true →
    Gives (.clearEntry d src) s fun t =>
    t = s.node)

/-- R489 to R494, R503, R512: flushes and epochs. -/
def Obligations.FlushesImagesAndEpochs : Prop :=
  (∀ (s : State) (d : Die),
    (s.node.die d).loupe.writing = none → s.node.n.dict.run = none → s.node.collects d = true →
    0 < (s.node.die d).loupe.tokens →
    Gives (.periodicFlush d) s fun t =>
    (t.die d).loupe.tokens = (s.node.die d).loupe.tokens - 1 ∧ (t.die d).loupe.due = false ∧ (t.die d).loupe.writing.isSome = true ∧ (t.die d).loupe.writing.map Prod.snd = some (s.node.stamp d) ∧ (t.die d).loupe.writing.map Prod.fst = some (t.die d).loupe.cells ∧ (t.die d).loupe.cells = (addTotal (cellOf blkEnv 12 0) 1 (s.node.die d).loupe).cells ∧ (t.die d).loupe.stored = (s.node.die d).loupe.stored ∧ t.die (otherDie d) = s.node.die (otherDie d) ∧ t.stored = s.node.stored ∧ t.n.dict = s.node.n.dict) ∧
  (∀ (s : State) (d : Die),
    s.node.collects d = true →
    (s.node.die d).loupe.tokens = 0 ∨ (s.node.die d).loupe.writing.isSome = true ∨ s.node.n.dict.run.isSome = true →
    Gives (.periodicFlush d) s fun t =>
    (t.die d).loupe = { (s.node.die d).loupe with due := true } ∧ t.die (otherDie d) = s.node.die (otherDie d) ∧ t.stored = s.node.stored ∧ t.n.dict = s.node.n.dict) ∧
  (∀ (s : State) (d : Die),
    (s.node.die d).loupe.writing = none → s.node.n.dict.run = none → s.node.collects d = true →
    0 < (s.node.die d).loupe.tokens → (s.node.die d).loupe.due = true →
    Gives (.earlyFlush d) s fun t =>
    (t.die d).loupe.tokens = (s.node.die d).loupe.tokens - 1 ∧ (t.die d).loupe.due = false ∧ (t.die d).loupe.writing = some ((addTotal (cellOf blkEnv 12 0) 1 (s.node.die d).loupe).cells, s.node.stamp d) ∧ t.die (otherDie d) = s.node.die (otherDie d) ∧ t.stored = s.node.stored ∧ t.n.dict = s.node.n.dict) ∧
  (∀ (s : State) (d : Die), (s.node.die d).loupe.due = false ∨ (s.node.die d).loupe.tokens = 0 → Gives (.earlyFlush d) s fun t =>
    t = s.node) ∧
  (∀ (s : State) (d : Die), s.node.collects d = true → (s.node.die d).loupe.due = false → Gives (.tokenGain d) s fun t =>
    (t.die d).loupe = { (s.node.die d).loupe with tokens := min (if d = .n then 63 else 16) ((s.node.die d).loupe.tokens + 1) } ∧ t.die (otherDie d) = s.node.die (otherDie d) ∧ t.stored = s.node.stored ∧ t.n.dict = s.node.n.dict) ∧
  (∀ (s : State) (d : Die) (image : Tab Nat) (time : T48),
    s.node.collects d = true → (s.node.die d).loupe.writing = some (image, time) → (s.node.die d).loupe.due = false →
    s.node.n.bar.flushWaits = [] →
    Gives (.flushComplete d true) s fun t =>
    (t.die d).loupe.writing = none ∧ (t.die d).loupe.stored = image ∧ (t.die d).loupe.storedTime = time ∧ (t.die d).loupe.tokens = (s.node.die d).loupe.tokens ∧ (t.die d).loupe.slots = (s.node.die d).loupe.slots ∧ (t.die d).loupe.seq = ((s.node.die d).loupe.seq + 1) % 16777216 ∧ (d = .f → s.node.trained = true → s.node.f.clasp.delayed = [] → t.sent .f 4 .loupeImage = true ∨ t.f.clasp.delayed ≠ []) ∧ t.stored = s.node.stored ∧ t.n.dict = s.node.n.dict) ∧
  (∀ (s : State) (d : Die) (image : Tab Nat) (time : T48),
    s.node.collects d = true → (s.node.die d).loupe.writing = some (image, time) → (s.node.die d).loupe.tokens = 0 →
    Gives (.flushComplete d false) s fun t =>
    (t.die d).loupe.writing = none ∧ (t.die d).loupe.due = true ∧ (t.die d).loupe.slots = (s.node.die d).loupe.slots - 1 ∧ (t.die d).loupe.stored = (s.node.die d).loupe.stored ∧ t.latched d 6 = true ∧ t.stored = s.node.stored) ∧
  (∀ (s : State) (rq : Rq) (u : Node) (x : Txn),
    s.node.accepts rq 0xA010 (.command none) = some (u, x) → s.node.n.dev ≠ .boot → flushRefusal s.node = none →
    s.node.n.dict.run = none → s.node.n.loupe.writing = none → s.node.f.loupe.writing = none →
    s.node.collects .n = true → s.node.collects .f = true →
    Gives (.flushNow rq) s fun t =>
    (t.txn x.session x.tag).map Txn.stage = some .running ∧ t.n.bar.flushWaits = s.node.n.bar.flushWaits ++ [(x.session, x.tag, false)] ∧ t.n.loupe.writing.isSome = true ∧ t.f.loupe.writing.isSome = true ∧ t.n.loupe.tokens = s.node.n.loupe.tokens - 1 ∧ t.f.loupe.tokens = s.node.f.loupe.tokens - 1 ∧ t.stored = s.node.stored) ∧
  (∀ (s : State) (rq : Rq) (st : Nat) (u : Node) (x : Txn),
    s.node.accepts rq 0xA010 (.command none) = some (u, x) → s.node.n.dev ≠ .boot → flushRefusal s.node = some st →
    Gives (.flushNow rq) s fun t =>
    t.answer x = some (st, []) ∧ t.n.loupe.writing = s.node.n.loupe.writing ∧ t.n.loupe.tokens = s.node.n.loupe.tokens ∧ t.f.loupe.writing = s.node.f.loupe.writing ∧ t.stored = s.node.stored) ∧
  (∀ (s : State) (rq : Rq) (u : Node) (x : Txn),
    s.node.accepts rq 0xA020 (.command none) = some (u, x) → epochRefusal s.node = none → s.node.n.dict.run = none →
    Gives (.startEpoch rq) s fun t =>
    (t.txn x.session x.tag).map Txn.stage = some .running ∧ t.n.bar.flushWaits = s.node.n.bar.flushWaits ++ [(x.session, x.tag, true)] ∧ t.n.bar.epochs = s.node.n.bar.epochs ∧ t.stored = s.node.stored) ∧
  (∀ (s : State) (rq : Rq) (st : Nat) (u : Node) (x : Txn),
    s.node.accepts rq 0xA020 (.command none) = some (u, x) → s.node.n.dev ≠ .boot → s.node.n.dev ≠ .sealed →
    epochRefusal s.node = some st →
    Gives (.startEpoch rq) s fun t =>
    t.answer x = some (st, []) ∧ t.n.bar = s.node.n.bar ∧ t.n.loupe.writing = s.node.n.loupe.writing ∧ t.n.loupe.tokens = s.node.n.loupe.tokens ∧ t.stored = s.node.stored) ∧
  (∀ (s : State) (image : Tab Nat) (time : T48),
    s.node.collects .f = true → s.node.f.loupe.writing = some (image, time) → s.node.f.loupe.due = false →
    s.node.n.loupe.due = false → s.node.n.loupe.writing = none → s.node.n.bar.flushWaits = [(0, 5, true)] →
    s.node.n.bar.epochs.length < 8 →
    Gives (.flushComplete .f true) s fun t =>
    t.n.bar.started = s.node.n.bar.started + 1 ∧ t.n.bar.flushWaits = [] ∧ t.n.bar.epochs.length = s.node.n.bar.epochs.length + 1 ∧ (t.n.bar.epochs.getLast?.map fun e => (e.number, e.start, e.nBase, e.fBase)) = some (s.node.n.bar.started + 1, s.node.stamp .n, s.node.n.loupe.stored, image) ∧ t.stored = s.node.stored) ∧
  (∀ (s : State) (rq : Rq) (a : Nat) (u : Node) (x : Txn),
    s.node.accepts rq 0xA022 (.command (some a)) = some (u, x) → s.node.n.dev ≠ .boot → s.node.n.dev ≠ .sealed →
    a < 16777216 →
    Gives (.deleteEpoch rq (some a)) s fun t =>
    t.answer x = some (if s.node.n.dev ≠ .setup then 0x14 else if s.node.n.bar.epochs.any (fun e => e.number == a) then 0x00 else 0x13, []) ∧ t.n.bar.epochs = (if s.node.n.dev = .setup then s.node.n.bar.epochs.filter (fun e => e.number != a) else s.node.n.bar.epochs) ∧ t.n.bar.started = s.node.n.bar.started ∧ t.stored = s.node.stored) ∧
  (∀ (s : State) (time : T48), s.node.nUp = true → s.node.trained = true → Gives (.loupeFImage time) s fun t =>
    t.n.bar = { s.node.n.bar with fImage := some (s.node.f.loupe.stored, time), fImageNew := true, fTokens := s.node.f.loupe.tokens, fSlots := s.node.f.loupe.slots } ∧ t.f = s.node.f ∧ t.n.loupe = s.node.n.loupe ∧ t.stored = s.node.stored ∧ t.n.dict = s.node.n.dict) ∧
  (∀ (s : State), s.node.nUp = true → s.node.n.bar.fImageNew = true → Gives .fCopyWrite s fun t =>
    t.n.bar = { s.node.n.bar with fCopy := s.node.n.bar.fImage, fImageNew := false } ∧ t.f = s.node.f ∧ t.n.loupe = s.node.n.loupe ∧ t.stored = s.node.stored ∧ t.n.dict = s.node.n.dict)

/-- R496 to R499, R510: the barrier monitor and the bulk readout. -/
def Obligations.BarrierAndBulkReadout : Prop :=
  (∀ (s : State) (peak blanked : Nat) (falling : Bool),
    s.node.nUp = true → s.node.monitorTorn = false → 2500 ≤ peak →
    Gives (.cmTransient peak falling blanked) s fun t =>
    t.n.bar.log = (⟨1, b2n falling, peak, s.node.stamp .n⟩ :: s.node.n.bar.log).take 341 ∧ t.latched .n 20 = true ∧ t.n.bar.window = s.node.n.bar.window ∧ t.stored = s.node.stored) ∧
  (∀ (s : State) (peak blanked : Nat) (falling : Bool), peak < 2500 → Gives (.cmTransient peak falling blanked) s fun t =>
    t.n.bar.log = s.node.n.bar.log ∧ t.n.faults = s.node.n.faults ∧ t.n.bar.window = s.node.n.bar.window ∧ t.f = s.node.f ∧ t.stored = s.node.stored ∧ t.n.dict = s.node.n.dict) ∧
  (∀ (s : State) (peak blanked : Nat) (falling : Bool),
    s.node.monitors = true → s.node.monitorTorn = true → 50 ≤ peak →
    Gives (.cmTransient peak falling blanked) s fun t =>
    t.n.bar = { s.node.n.bar with lost := s.node.n.bar.lost + 1 } ∧ t.n.faults = s.node.n.faults ∧ t.f = s.node.f ∧ t.stored = s.node.stored ∧ t.n.dict = s.node.n.dict) ∧
  (∀ (s : State) (charge : Nat), s.node.monitors = true → s.node.monitorTorn = false → 5 ≤ charge → Gives (.pdPulse charge) s fun t =>
    t.n.bar = { s.node.n.bar with window := s.node.n.bar.window + (if s.node.n.bar.charge ≤ charge then 1 else 0) } ∧ t.n.faults = s.node.n.faults ∧ t.f = s.node.f ∧ t.stored = s.node.stored ∧ t.n.dict = s.node.n.dict) ∧
  (∀ (s : State), s.node.nUp = true → s.node.monitorTorn = false → Gives .pdWindowEnd s fun t =>
    t.n.bar.window = 0 ∧ t.n.bar.latest = min s.node.n.bar.window 65535 ∧ t.n.bar.charge = s.node.val 0xA031 ∧ t.n.bar.limit = s.node.val 0xA032 ∧
    t.n.bar.alarm = (if s.node.n.bar.alarm then decide (s.node.val 0xA032 ≤ 2 * s.node.n.bar.window) else decide (s.node.val 0xA032 ≤ s.node.n.bar.window)) ∧
    (s.node.n.bar.alarm = false → s.node.val 0xA032 ≤ s.node.n.bar.window → t.n.bar.log = (⟨2, 0, s.node.n.bar.window, s.node.stamp .n⟩ :: s.node.n.bar.log).take 341 ∧ t.conditionOn .n 21 = true) ∧
    (s.node.n.bar.alarm = true → 2 * s.node.n.bar.window < s.node.val 0xA032 → t.n.bar.log = (⟨3, 0, s.node.n.bar.window, s.node.stamp .n⟩ :: s.node.n.bar.log).take 341 ∧ t.conditionOn .n 21 = false) ∧ t.stored = s.node.stored) ∧
  (∀ (s : State) (src mask view offset : Nat),
    s.node.canOn = true → s.node.val 0x1102 = 0 → s.node.n.number ≠ 0 → 1 ≤ mask → mask ≤ 31 →
    (s.node.n.bar.bulk.all fun b => b.client == src) = true → s.node.viewOk view = true →
    offset ≤ (s.node.transferImage mask view).length →
    Gives (.bulkRequest src mask view offset true) s fun t =>
    t.n.bar.bulk = some ⟨src, mask, view, offset, offset, (s.node.transferImage mask view), s.node.stamp .n, false⟩ ∧ (t.n.can.tx.filter fun f => f.cls != 7) = s.node.n.can.tx.filter (fun f => f.cls != 7) ∧ t.f = s.node.f ∧ t.n.faults = s.node.n.faults ∧ t.stored = s.node.stored ∧ t.n.dict = s.node.n.dict) ∧
  (∀ (s : State) (src mask view offset : Nat) (ok : Bool),
    s.node.canOn = true → s.node.val 0x1102 = 0 → s.node.n.number ≠ 0 →
    ok = false ∨ mask = 0 ∨ 32 ≤ mask ∨ (s.node.n.bar.bulk.any fun b => b.client != src) = true ∨ s.node.viewOk view = false →
    Gives (.bulkRequest src mask view offset ok) s fun t =>
    t.n.can.tx = s.node.n.can.tx ++ [bulkEnd src [] (if ok = false ∨ mask = 0 ∨ 32 ≤ mask then 3 else if (s.node.n.bar.bulk.any fun b => b.client != src) = true then 1 else 4)] ∧ t.n.bar = s.node.n.bar ∧ t.f = s.node.f ∧ t.n.faults = s.node.n.faults ∧ t.stored = s.node.stored ∧ t.n.dict = s.node.n.dict) ∧
  (∀ (s : State) (b : Bulk),
    s.node.canOn = true → s.node.n.bar.bulk = some b → b.dropped = false → s.node.n.can.state ≠ .busOff →
    Gives (.bulkAbort b.client) s fun t =>
    t.n.bar = { s.node.n.bar with bulk := some { b with dropped := true } } ∧ t.n.can.tx = (s.node.n.can.tx.filter fun f => f.cls != 7) ++ [bulkEnd b.client b.image 2] ∧ t.f = s.node.f ∧ t.stored = s.node.stored ∧ t.n.dict = s.node.n.dict) ∧
  (∀ (s : State) (b : Bulk),
    s.node.nUp = true → s.node.n.bar.bulk = some b → b.dropped = false → s.node.n.can.state ≠ .busOff →
    Gives .bulkSnapshotTimeout s fun t =>
    t.n.bar = { s.node.n.bar with bulk := some { b with dropped := true } } ∧ t.n.can.tx = (s.node.n.can.tx.filter fun f => f.cls != 7) ++ [bulkEnd b.client b.image 2] ∧ t.f = s.node.f ∧ t.stored = s.node.stored ∧ t.n.dict = s.node.n.dict)

/-- R517 to R526: standby, wakes and monitors. -/
def Obligations.StandbyAndMonitors : Prop :=
  (∀ (s : State) (rq : Rq) (u : Node) (x : Txn),
    s.node.accepts rq 0x9010 (.command none) = some (u, x) → s.node.n.dev ≠ .boot → s.node.trained = true →
    Gives (.standby rq) s fun t =>
    t.n.pow.entering = some 1 ∧ t.n.pow.notified = true ∧ t.n.pow.latched = none ∧ t.n.dict.sessions = [] ∧ t.n.dict.txns = [] ∧ t.n.can.state = .stopped ∧ t.n.phase = .ready ∧ (s.node.filFind .n filClaspDelay (fun _ => true) = none → s.node.n.clasp.delayed = [] → t.sent .n 3 .standby = true) ∧ t.stored = s.node.stored) ∧
  (∀ (s : State) (rq : Rq) (u : Node) (x : Txn),
    s.node.accepts rq 0x9010 (.command none) = some (u, x) → s.node.n.dev = .boot →
    Gives (.standby rq) s fun t =>
    t.answer x = some (0x14, []) ∧ t.n.pow = s.node.n.pow ∧ t.stored = s.node.stored) ∧
  (∀ (s : State),
    s.node.nUp = true → s.node.val 0x9011 ≠ 0 → (s.node.n.seq.slots.any fun e => e.2.state == .armed) = false →
    s.node.n.dict.run = none → standbyRefusal s.node = none → s.node.trained = true →
    Gives .idleStandbyExpiry s fun t =>
    t.n.pow.entering = some 2 ∧ t.n.pow.notified = true ∧ t.n.dict.sessions = [] ∧ t.n.can.state = .stopped ∧ t.stored = s.node.stored) ∧
  (∀ (s : State),
   
    s.node.val 0x9011 = 0 ∨ (s.node.n.seq.slots.any fun e => e.2.state == .armed) = true ∨ (standbyRefusal s.node).isSome = true →
    Gives .idleStandbyExpiry s fun t =>
    t = s.node) ∧
  (∀ (s : State), s.node.nUp = true → s.node.n.pow.entering.isSome = true → s.node.n.pow.latched = none → Gives .standbyCreditTimeout s fun t =>
    t.n.phase = .standby ∧ t.n.pow.entering = none ∧ t.n.pow.inh = decide (s.node.val 0x9012 = 1) ∧ t.n.pow.wakes = s.node.wakeSources ∧ t.n.pow.kept = some (s.node.n.hm.count, s.node.n.hm.count) ∧ t.n.pow.keptEra = s.node.n.hm.era ∧ t.n.pow.standbyCause = (s.node.n.pow.entering.getD s.node.n.pow.standbyCause) ∧ t.n.pow.notified = false ∧ t.f.phase = s.node.f.phase ∧ t.nLedger = s.node.nLedger ∧ t.fLedger = s.node.fLedger) ∧
  (∀ (s : State),
    s.node.hubReceives .f = true → s.node.n.pow.entering.isSome = true → s.node.n.pow.notified = true →
    s.node.n.pow.latched = none → s.node.f.chain.state = .off ∨ s.node.f.chain.state = .noRoot →
    s.node.portsParked = false →
    Gives .standbyNotice s fun t =>
    t.n.phase = .standby ∧ t.n.pow.entering = none ∧ t.n.pow.inh = decide (s.node.val 0x9012 = 1) ∧ t.n.pow.wakes = s.node.wakeSources ∧ t.n.pow.kept = some (s.node.n.hm.count, s.node.n.hm.count) ∧ t.n.pow.keptEra = s.node.n.hm.era ∧ t.n.pow.standbyCause = (s.node.n.pow.entering.getD s.node.n.pow.standbyCause) ∧ t.n.pow.notified = true ∧ t.f.phase = .dormant ∧ (∀ p : Port, (t.link p).state = .off) ∧ t.f.clasp.link = .off ∧ t.nLedger = s.node.nLedger ∧ t.fLedger = s.node.fLedger) ∧
  (∀ (s : State),
    s.node.hubReceives .f = true → s.node.n.pow.entering.isSome = true → s.node.n.pow.notified = true →
    s.node.n.pow.latched = none → s.node.f.chain.state = .up → s.node.portsParked = false →
    Gives .standbyNotice s fun t =>
    t.n.phase = .standby ∧ t.f.phase = .ready ∧ t.f.clasp.link = .off ∧ t.f.ch.timedOut = true ∧ (∀ p : Port, (t.link p).state = (s.node.link p).state) ∧ t.nLedger = s.node.nLedger ∧ t.fLedger = s.node.fLedger) ∧
  (∀ (s : State), s.node.n.phase = .standby → s.node.n.pow.wakes.getLsbD 0 = true → Gives .wakeTimer s fun t =>
    t.n.phase = (if s.node.n.pow.rstLow then .held else .starting) ∧ t.n.cause = 5 ∧ t.n.pow.inh = true ∧ t.n.pow.kept = s.node.n.pow.kept ∧ t.n.pow.keptEra = s.node.n.pow.keptEra ∧ t.n.pow.standbyCause = s.node.n.pow.standbyCause ∧ t.n.pow.standbyLength = min 4194303 (((s.node.n.pow.kept.map fun k => (k.2 - k.1).toNat).getD 0) / ticksPerSecond) ∧ t.f.phase = s.node.f.phase ∧ t.nLedger = s.node.nLedger ∧ t.fLedger = s.node.fLedger) ∧
  (∀ (s : State),
    s.node.nUp = true → s.node.n.pow.entering.isSome = true → s.node.wakeSources.getLsbD 0 = true →
    Gives .wakeTimer s fun t =>
    t.n.pow = { s.node.n.pow with latched := some (min 5 (s.node.n.pow.latched.getD 5)) } ∧ t.n.phase = .ready ∧ t.f = s.node.f ∧ t.stored = s.node.stored ∧ t.n.dict = s.node.n.dict) ∧
  (∀ (s : State),
   
    (s.node.n.phase = .standby ∧ s.node.n.pow.wakes.getLsbD 0 = false) ∨ (s.node.n.phase = .ready ∧ s.node.n.pow.entering = none) →
    Gives .wakeTimer s fun t =>
    t = s.node) ∧
  (∀ (s : State), s.node.n.phase = .standby → s.node.n.pow.wakes.getLsbD 1 = true → Gives .nWakePin s fun t =>
    t.n.phase = (if s.node.n.pow.rstLow then .held else .starting) ∧ t.n.cause = 6 ∧ t.n.pow.inh = true ∧ t.n.pow.kept = s.node.n.pow.kept ∧ t.n.pow.keptEra = s.node.n.pow.keptEra ∧ t.n.pow.standbyCause = s.node.n.pow.standbyCause ∧ t.n.pow.standbyLength = min 4194303 (((s.node.n.pow.kept.map fun k => (k.2 - k.1).toNat).getD 0) / ticksPerSecond) ∧ t.f.phase = s.node.f.phase ∧ t.nLedger = s.node.nLedger ∧ t.fLedger = s.node.fLedger) ∧
  (∀ (s : State),
    s.node.nUp = true → s.node.n.pow.entering.isSome = true → s.node.wakeSources.getLsbD 1 = true →
    Gives .nWakePin s fun t =>
    t.n.pow = { s.node.n.pow with latched := some (min 6 (s.node.n.pow.latched.getD 6)) } ∧ t.n.phase = .ready ∧ t.f = s.node.f ∧ t.stored = s.node.stored ∧ t.n.dict = s.node.n.dict) ∧
  (∀ (s : State),
   
    (s.node.n.phase = .standby ∧ s.node.n.pow.wakes.getLsbD 1 = false) ∨ (s.node.n.phase = .ready ∧ s.node.n.pow.entering = none) →
    Gives .nWakePin s fun t =>
    t = s.node) ∧
  (∀ (s : State),
    s.node.n.phase = .standby → s.node.n.pow.wakes.getLsbD 3 = true → s.node.f.park.wakeN = true →
    Gives .chainWake s fun t =>
    t.n.phase = (if s.node.n.pow.rstLow then .held else .starting) ∧ t.n.cause = 8 ∧ t.n.pow.inh = true ∧ t.n.pow.kept = s.node.n.pow.kept ∧ t.n.pow.keptEra = s.node.n.pow.keptEra ∧ t.n.pow.standbyCause = s.node.n.pow.standbyCause ∧ t.n.pow.standbyLength = min 4194303 (((s.node.n.pow.kept.map fun k => (k.2 - k.1).toNat).getD 0) / ticksPerSecond) ∧ t.f.phase = s.node.f.phase ∧ t.nLedger = s.node.nLedger ∧ t.fLedger = s.node.fLedger) ∧
  (∀ (s : State),
    s.node.nUp = true → s.node.n.pow.entering.isSome = true → s.node.wakeSources.getLsbD 3 = true →
    s.node.f.park.wakeN = true →
    Gives .chainWake s fun t =>
    t.n.pow = { s.node.n.pow with latched := some (min 8 (s.node.n.pow.latched.getD 8)) } ∧ t.n.phase = .ready ∧ t.f = s.node.f ∧ t.stored = s.node.stored ∧ t.n.dict = s.node.n.dict) ∧
  (∀ (s : State),
   
    (s.node.n.phase = .standby ∧ s.node.n.pow.wakes.getLsbD 3 = false) ∨ (s.node.n.phase = .ready ∧ s.node.n.pow.entering = none) →
    Gives .chainWake s fun t =>
    t = s.node) ∧
  (∀ (s : State), s.node.f.park.wakeN = false → Gives .chainWake s fun t =>
    t = s.node) ∧
  (∀ (s : State) (m : Measures) (settled : Bool),
    s.node.nUp = true → s.node.val 0x9006 + 4 ≤ s.node.val 0x9007 → (s.node.inForce .n 1 none).2 = 0 →
    (s.node.inForce .n 2 none).2 = 0 → (s.node.inForce .n 1 none).1 ≠ 3 → (s.node.inForce .n 2 none).1 ≠ 3 →
    Gives (.monitorSample m settled) s fun t =>
    t.n.pow.vbat = m.vbat ∧ t.n.pow.nTemp = m.nTemp ∧ t.conditionOn .n 1 = (if m.vbat < s.node.val 0x9006 * 100 ∨ s.node.val 0x9007 * 100 < m.vbat then true
      else if settled = true ∧ s.node.val 0x9006 * 100 + 200 ≤ m.vbat ∧ m.vbat + 200 ≤ s.node.val 0x9007 * 100 then false else s.node.conditionOn .n 1) ∧
    t.conditionOn .n 2 = (if (10 * s.node.val 0x9009 : Int) ≤ m.nTemp then true else if m.nTemp ≤ (10 * s.node.val 0x9009 : Int) - 100 then false else s.node.conditionOn .n 2) ∧
    (t.conditionOn .n 2 = true → s.node.conditionOn .n 2 = false → t.latched .n 2 = true) ∧ t.stored = s.node.stored) ∧
  (∀ (s : State) (m : Measures) (settled : Bool),
    s.node.nUp = false → s.node.fUp = true → (s.node.inForce .f 1 none).2 = 0 → (s.node.inForce .f 2 none).2 = 0 →
    (s.node.inForce .f 1 none).1 ≠ 3 → (s.node.inForce .f 2 none).1 ≠ 3 →
    Gives (.monitorSample m settled) s fun t =>
    t.f.vddf = m.vddf ∧ t.f.vbead = m.vbead ∧ t.f.fTemp = m.fTemp ∧ t.conditionOn .f 2 = (if (10 * s.node.val 0x900A : Int) ≤ m.fTemp then true else if m.fTemp ≤ (10 * s.node.val 0x900A : Int) - 100 then false else s.node.conditionOn .f 2) ∧
    (19500 < m.vbead → t.conditionOn .f 1 = true) ∧ (4500 ≤ m.vbead → m.vbead ≤ 18500 → t.conditionOn .f 1 = false) ∧ (18500 < m.vbead → m.vbead ≤ 19500 → t.conditionOn .f 1 = s.node.conditionOn .f 1) ∧ t.n = s.node.n ∧ t.stored = s.node.stored) ∧
  (∀ (s : State), s.node.n.phase = .ready ∨ s.node.n.phase = .starting → Gives .preregFoldback s fun t =>
    t.n.phase = .starting ∧ t.n.cause = 2 ∧ t.n.faults = {} ∧ t.f.phase = s.node.f.phase ∧ t.nLedger = s.node.nLedger ∧ t.fLedger = s.node.fLedger)

/-- R533 to R537: Filigree. -/
def Obligations.FiligreeSlots : Prop :=
  (∀ (s : State) (rq : Rq) (u : Node) (x : Txn),
    s.node.accepts rq 0xE000 (.command (some unlockCode)) = some (u, x) → s.node.n.dev = .setup →
    s.node.fil.lockout = false →
    Gives (.filigreeUnlock rq (some unlockCode)) s fun t =>
    t.answer x = some (0x00, []) ∧ t.fil = { s.node.fil with unlocked := true, wrong := 0, since := s.node.n.ticks } ∧ t.f = s.node.f ∧ t.stored = s.node.stored) ∧
  (∀ (s : State) (rq : Rq) (a : Nat) (u : Node) (x : Txn),
    s.node.accepts rq 0xE000 (.command (some a)) = some (u, x) → s.node.n.dev = .setup → a < 16777216 →
    s.node.fil.lockout = false → a ≠ unlockCode →
    Gives (.filigreeUnlock rq (some a)) s fun t =>
    t.answer x = some (0x11, []) ∧ t.fil = { s.node.fil with wrong := min 3 (s.node.fil.wrong + 1), lockout := decide (3 ≤ s.node.fil.wrong + 1) } ∧ t.f = s.node.f ∧ t.stored = s.node.stored) ∧
  (∀ (s : State) (rq : Rq) (a : Nat) (u : Node) (x : Txn),
    s.node.accepts rq 0xE000 (.command (some a)) = some (u, x) →
    s.node.n.dev = .run ∨ s.node.n.dev = .safeHold ∨ (s.node.n.dev = .setup ∧ s.node.fil.lockout = true) →
    Gives (.filigreeUnlock rq (some a)) s fun t =>
    t.answer x = some (if s.node.n.dev = .setup then 0x11 else 0x14, []) ∧ t.fil = s.node.fil ∧ t.f = s.node.f ∧ t.stored = s.node.stored) ∧
  (∀ (s : State) (rq : Rq) (u : Node) (x : Txn),
    s.node.accepts rq 0xE001 (.command none) = some (u, x) → s.node.n.dev ≠ .boot →
    Gives (.filigreeLock rq) s fun t =>
    t.answer x = some (0x00, []) ∧ t.fil = { s.node.fil with unlocked := false } ∧ t.f = s.node.f ∧ t.stored = s.node.stored) ∧
  (∀ (s : State), s.node.nUp = true → Gives .unlockExpiry s fun t =>
    t.fil = { s.node.fil with unlocked := false } ∧ t.n = s.node.n ∧ t.f = s.node.f ∧ t.stored = s.node.stored) ∧
  (∀ (s : State), s.node.nUp = true → s.node.fil.lockout = true → Gives .unlockLockoutExpiry s fun t =>
    t.fil = { s.node.fil with lockout := false, wrong := 0 } ∧ t.n = s.node.n ∧ t.f = s.node.f ∧ t.stored = s.node.stored) ∧
  (∀ (s : State) (rq : Rq) (bytes : List Byte) (i : Nat) (u : Node) (x : Txn),
    s.node.accepts rq 0xE010 (wholeBlob bytes) = some (u, x) → bytes.length ≤ 12 → s.node.fil.unlocked = true →
    armFilTakes bytes s.node = some i → (filOfBlob bytes).die = .n → (filOfBlob bytes).code ≠ filRecal →
    (filOfBlob bytes).code ≠ filServoFreeze →
    Gives (.filigreeArm rq bytes) s fun t =>
    t.answer x = some (0x00, leBytes 1 i) ∧ t.filSlot i = { filOfBlob bytes with onDie := true, since := s.node.n.ticks } ∧ (∀ j ∈ List.range 8, j ≠ i → t.filSlot j = s.node.filSlot j) ∧ t.conditionOn .n 23 = true ∧ (∀ d : Die, (t.die d).ch = (s.node.die d).ch) ∧ t.stored = s.node.stored) ∧
  (∀ (s : State) (rq : Rq) (bytes : List Byte) (i : Nat) (u : Node) (x : Txn),
    s.node.accepts rq 0xE010 (wholeBlob bytes) = some (u, x) → bytes.length ≤ 12 → s.node.fil.unlocked = true →
    armFilTakes bytes s.node = some i → (filOfBlob bytes).die = .f →
    Gives (.filigreeArm rq bytes) s fun t =>
    (t.txn x.session x.tag).map Txn.stage = some .running ∧ t.filSlot i = filOfBlob bytes ∧ tget? t.fil.waits i = some (x.session, x.tag) ∧ (∀ j ∈ List.range 8, j ≠ i → t.filSlot j = s.node.filSlot j) ∧ t.conditionOn .n 23 = true ∧ t.stored = s.node.stored) ∧
  (∀ (s : State) (rq : Rq) (bytes : List Byte) (st : Nat) (u : Node) (x : Txn),
    s.node.accepts rq 0xE010 (wholeBlob bytes) = some (u, x) → bytes.length ≤ 12 → s.node.fil.unlocked = true →
    armFilRefusal bytes s.node = some st → s.node.n.dev = .setup →
    Gives (.filigreeArm rq bytes) s fun t =>
    t.answer x = some (st, []) ∧ t.fil = s.node.fil ∧ t.stored = s.node.stored) ∧
  (∀ (s : State) (rq : Rq) (bytes : List Byte) (u : Node) (x : Txn),
    s.node.accepts rq 0xE010 (wholeBlob bytes) = some (u, x) → bytes.length ≤ 12 → s.node.fil.unlocked = false →
    Gives (.filigreeArm rq bytes) s fun t =>
    t.answer x = some (0x11, []) ∧ t.fil = s.node.fil ∧ t.stored = s.node.stored) ∧
  (∀ (s : State) (rq : Rq) (i : Nat) (u : Node) (x : Txn),
    s.node.accepts rq 0xE011 (.command (some i)) = some (u, x) → s.node.n.dev ≠ .boot → i < 8 →
    (s.node.filSlot i).armed = true → (s.node.filSlot i).onDie = true → (s.node.filSlot i).die = .n →
    (s.node.filSlot i).code ≠ filClaspDelay →
    Gives (.filigreeDisarm rq (some i)) s fun t =>
    t.answer x = some (0x00, []) ∧ (t.filSlot i).armed = false ∧ (t.filSlot i).onDie = false ∧ (t.filSlot i).effects = (s.node.filSlot i).effects ∧ (∀ j ∈ List.range 8, j ≠ i → t.filSlot j = s.node.filSlot j) ∧ t.conditionOn .n 23 = (List.range 8).any (fun j => j != i && (s.node.filSlot j).armed) ∧ t.stored = s.node.stored) ∧
  (∀ (s : State) (rq : Rq) (a : Nat) (u : Node) (x : Txn),
    s.node.accepts rq 0xE011 (.command (some a)) = some (u, x) → s.node.n.dev ≠ .boot → 8 ≤ a → a < 16777216 →
    a ≠ 255 →
    Gives (.filigreeDisarm rq (some a)) s fun t =>
    t.answer x = some (0x13, []) ∧ t.fil = s.node.fil ∧ t.stored = s.node.stored) ∧
  (∀ (s : State) (slot : Fin 8),
    (s.node.filSlot slot).onDie = true → s.node.collects (s.node.filSlot slot).die = true →
    (s.node.filSlot slot).code ≠ filClaspDelay →
    Gives (.filigreeSlotExpiry slot) s fun t =>
    (t.filSlot slot).onDie = false ∧ (t.filSlot slot).armed = ((s.node.filSlot slot).armed && (s.node.filSlot slot).die == .f) ∧ (t.filSlot slot).effects = (s.node.filSlot slot).effects ∧ (∀ j : Fin 8, j ≠ slot → t.filSlot j = s.node.filSlot j) ∧ t.stored = s.node.stored ∧ t.n.dict = s.node.n.dict) ∧
  (∀ (s : State) (slot : Fin 8), (s.node.filSlot slot).onDie = false → Gives (.filigreeSlotExpiry slot) s fun t =>
    t = s.node) ∧
  (∀ (s : State) (slot : Fin 8) (armed : Bool),
    s.node.nUp = true → s.node.trained = true → (s.node.filSlot slot).die = .f → tget? s.node.fil.waits slot = none →
    Gives (.filigreeSlotReport slot armed) s fun t =>
    t.filSlot slot = { s.node.filSlot slot with armed := armed } ∧ t.conditionOn .n 23 = t.fil.slots.any (fun e => e.2.armed) ∧ (∀ j : Fin 8, j ≠ slot → t.filSlot j = s.node.filSlot j) ∧ t.stored = s.node.stored ∧ t.n.dict = s.node.n.dict) ∧
  (∀ (s : State) (slot : Fin 8) (q tag : Nat) (x : Txn),
    s.node.nUp = true → s.node.trained = true → (s.node.filSlot slot).die = .f →
    tget? s.node.fil.waits slot = some (q, tag) → s.node.txn q tag = some x → x.session = q → x.tag = tag →
    x.path = .nport →
    Gives (.filigreeSlotReport slot true) s fun t =>
    t.answer x = some (0x00, leBytes 1 slot) ∧ tget? t.fil.waits slot = none ∧ (t.filSlot slot).armed = true ∧ t.stored = s.node.stored) ∧
  (∀ (s : State) (slot : Fin 8),
    (s.node.filSlot slot).code = filCreditHold → 0 < (s.node.die (s.node.filSlot slot).die).clasp.heldCredits →
    Gives (.filigreeHoldEnd slot) s fun t =>
    (t.die (s.node.filSlot slot).die).clasp = { (s.node.die (s.node.filSlot slot).die).clasp with heldCredits := (s.node.die (s.node.filSlot slot).die).clasp.heldCredits - 1, owed := (s.node.die (s.node.filSlot slot).die).clasp.owed + 1 } ∧ t.die (otherDie (s.node.filSlot slot).die) = s.node.die (otherDie (s.node.filSlot slot).die) ∧ t.fil = s.node.fil ∧ t.stored = s.node.stored ∧ t.n.dict = s.node.n.dict) ∧
  (∀ (s : State) (slot : Fin 8) (g : DataFrame) (rest : List DataFrame),
    (s.node.filSlot slot).code = filClaspDelay → (s.node.die (s.node.filSlot slot).die).clasp.delayed = g :: rest →
    Gives (.filigreeHoldEnd slot) s fun t =>
    (t.die (s.node.filSlot slot).die).clasp.delayed = rest ∧ ((t.die (s.node.filSlot slot).die).clasp.waiting ++ (t.die (s.node.filSlot slot).die).clasp.unacked).any (fun y => y.stream == g.stream && y.msg == g.msg) = true ∧ t.stored = s.node.stored ∧ t.n.dict = s.node.n.dict) ∧
  (∀ (s : State) (slot : Fin 8),
    (s.node.filSlot slot).code ≠ filClaspDelay → (s.node.filSlot slot).code ≠ filCreditHold →
    Gives (.filigreeHoldEnd slot) s fun t =>
    t = s.node)

/-- R433, R453: the status words of a bead port and of a SAFE pair, field by field. -/
def Obligations.BeadAndPairStatusLayouts : Prop :=
  (∀ (s : Node) (session : Nat) (sels : Tab Nat) (row : KeyRow), keyRow 0x5030 = some row →
    let p := selOf sels 0x5000
    let b := s.bead p
    let w := s.readWord session sels row 0x5030
    w < 2 ^ 24 ∧ (b.state = .off → bits w 23 21 = 0) ∧ (b.state = .powering → bits w 23 21 = 1) ∧ (b.state = .idle → bits w 23 21 = 2) ∧
    (b.state = .train → bits w 23 21 = 3) ∧ (b.state = .pullup → bits w 23 21 = 4) ∧ (b.state = .faultOff → bits w 23 21 = 5) ∧
    bit w 20 = b.waiting ∧ bits w 19 19 = s.valAt 0x5014 p % 2 ∧ bits w 18 16 = b.cause % 8 ∧ bits w 15 14 = b.trips % 4 ∧
    bits w 13 0 = 0) ∧
  (∀ (s : Node) (session : Nat) (sels : Tab Nat) (row : KeyRow), keyRow 0x6020 = some row →
    let x := s.pair (selOf sels 0x6000)
    let w := s.readWord session sels row 0x6020
    w < 2 ^ 24 ∧ (x.state = .off → bits w 23 21 = 0) ∧ (x.state = .starting → bits w 23 21 = 1) ∧ (x.state = .safe → bits w 23 21 = 2) ∧
    (x.state = .active → bits w 23 21 = 3) ∧ (x.state = .transition → bits w 23 21 = 4) ∧ (x.state = .blocked → bits w 23 21 = 5) ∧ (x.state = .discrepancy → bits w 23 21 = 6) ∧
    bit w 20 = x.chA ∧ bit w 19 = x.chB ∧ bit w 18 = x.forcing ∧ bit w 17 = x.releasePending ∧ bit w 16 = x.leadB ∧
    bits w 15 13 = x.clear % 8 ∧ bit w 12 = x.permit ∧ bit w 11 = false ∧ bits w 10 0 = min x.count 2047)

/-- No command but those that `maySet` names changes a setting or a ledger. -/
def Obligations.SettingsChangeOnlyWhereNamed : Prop :=
  ∀ (c : Instr) (s : State), maySet c = false → Gives c s fun t => t.stored = s.node.stored
end

