-- ==== Sys2Proof/Laws/State.lean ====
section
/-! SUPPORT. What an update of one part of a node leaves alone: one lemma per field, each true by unfolding. The updates of the
other parts are spelled by these three. -/

namespace Sys2Proof.Machine

open Sys2Proof

/-! What both dies have, on one die. -/

@[simp] theorem modDie_free (d : Die) (g : DieState → DieState) (s : Node) : (modDie d g s).free = s.free := by cases d <;> rfl
@[simp] theorem modDie_vals (d : Die) (g : DieState → DieState) (s : Node) : (modDie d g s).vals = s.vals := by cases d <;> rfl
@[simp] theorem modDie_blobs (d : Die) (g : DieState → DieState) (s : Node) : (modDie d g s).blobs = s.blobs := by cases d <;> rfl
@[simp] theorem modDie_nLedger (d : Die) (g : DieState → DieState) (s : Node) : (modDie d g s).nLedger = s.nLedger := by cases d <;> rfl
@[simp] theorem modDie_fLedger (d : Die) (g : DieState → DieState) (s : Node) : (modDie d g s).fLedger = s.fLedger := by cases d <;> rfl
@[simp] theorem modDie_fil (d : Die) (g : DieState → DieState) (s : Node) : (modDie d g s).fil = s.fil := by cases d <;> rfl
@[simp] theorem modDie_n_straps (d : Die) (g : DieState → DieState) (s : Node) : (modDie d g s).n.straps = s.n.straps := by cases d <;> rfl
@[simp] theorem modDie_n_floating (d : Die) (g : DieState → DieState) (s : Node) : (modDie d g s).n.floating = s.n.floating := by cases d <;> rfl
@[simp] theorem modDie_n_adopted (d : Die) (g : DieState → DieState) (s : Node) : (modDie d g s).n.adopted = s.n.adopted := by cases d <;> rfl
@[simp] theorem modDie_n_crystalFallback (d : Die) (g : DieState → DieState) (s : Node) :
    (modDie d g s).n.crystalFallback = s.n.crystalFallback := by cases d <;> rfl
@[simp] theorem modDie_n_crystal (d : Die) (g : DieState → DieState) (s : Node) : (modDie d g s).n.crystal = s.n.crystal := by cases d <;> rfl
@[simp] theorem modDie_n_fAbsent (d : Die) (g : DieState → DieState) (s : Node) : (modDie d g s).n.fAbsent = s.n.fAbsent := by cases d <;> rfl
@[simp] theorem modDie_n_runDeferred (d : Die) (g : DieState → DieState) (s : Node) :
    (modDie d g s).n.runDeferred = s.n.runDeferred := by cases d <;> rfl
@[simp] theorem modDie_n_runCancelled (d : Die) (g : DieState → DieState) (s : Node) :
    (modDie d g s).n.runCancelled = s.n.runCancelled := by cases d <;> rfl
@[simp] theorem modDie_n_runPending (d : Die) (g : DieState → DieState) (s : Node) :
    (modDie d g s).n.runPending = s.n.runPending := by cases d <;> rfl
@[simp] theorem modDie_n_dev (d : Die) (g : DieState → DieState) (s : Node) : (modDie d g s).n.dev = s.n.dev := by cases d <;> rfl
@[simp] theorem modDie_n_lastTransition (d : Die) (g : DieState → DieState) (s : Node) :
    (modDie d g s).n.lastTransition = s.n.lastTransition := by cases d <;> rfl
@[simp] theorem modDie_n_fReport (d : Die) (g : DieState → DieState) (s : Node) : (modDie d g s).n.fReport = s.n.fReport := by cases d <;> rfl
@[simp] theorem modDie_n_trainings (d : Die) (g : DieState → DieState) (s : Node) : (modDie d g s).n.trainings = s.n.trainings := by cases d <;> rfl
@[simp] theorem modDie_n_failedAttempts (d : Die) (g : DieState → DieState) (s : Node) :
    (modDie d g s).n.failedAttempts = s.n.failedAttempts := by cases d <;> rfl
@[simp] theorem modDie_n_attemptsFrozen (d : Die) (g : DieState → DieState) (s : Node) :
    (modDie d g s).n.attemptsFrozen = s.n.attemptsFrozen := by cases d <;> rfl
@[simp] theorem modDie_n_trainDuration (d : Die) (g : DieState → DieState) (s : Node) :
    (modDie d g s).n.trainDuration = s.n.trainDuration := by cases d <;> rfl
@[simp] theorem modDie_n_number (d : Die) (g : DieState → DieState) (s : Node) : (modDie d g s).n.number = s.n.number := by cases d <;> rfl
@[simp] theorem modDie_n_fSeals (d : Die) (g : DieState → DieState) (s : Node) : (modDie d g s).n.fSeals = s.n.fSeals := by cases d <;> rfl
@[simp] theorem modDie_n_sealReported (d : Die) (g : DieState → DieState) (s : Node) :
    (modDie d g s).n.sealReported = s.n.sealReported := by cases d <;> rfl
@[simp] theorem modDie_n_agree (d : Die) (g : DieState → DieState) (s : Node) : (modDie d g s).n.agree = s.n.agree := by cases d <;> rfl
@[simp] theorem modDie_n_dict (d : Die) (g : DieState → DieState) (s : Node) : (modDie d g s).n.dict = s.n.dict := by cases d <;> rfl
@[simp] theorem modDie_n_can (d : Die) (g : DieState → DieState) (s : Node) : (modDie d g s).n.can = s.n.can := by cases d <;> rfl
@[simp] theorem modDie_n_port (d : Die) (g : DieState → DieState) (s : Node) : (modDie d g s).n.port = s.n.port := by cases d <;> rfl
@[simp] theorem modDie_n_hm (d : Die) (g : DieState → DieState) (s : Node) : (modDie d g s).n.hm = s.n.hm := by cases d <;> rfl
@[simp] theorem modDie_n_bar (d : Die) (g : DieState → DieState) (s : Node) : (modDie d g s).n.bar = s.n.bar := by cases d <;> rfl
@[simp] theorem modDie_n_pow (d : Die) (g : DieState → DieState) (s : Node) : (modDie d g s).n.pow = s.n.pow := by cases d <;> rfl
@[simp] theorem modDie_f_dev (d : Die) (g : DieState → DieState) (s : Node) : (modDie d g s).f.dev = s.f.dev := by cases d <;> rfl
@[simp] theorem modDie_f_inbox (d : Die) (g : DieState → DieState) (s : Node) : (modDie d g s).f.inbox = s.f.inbox := by cases d <;> rfl
@[simp] theorem modDie_f_fol (d : Die) (g : DieState → DieState) (s : Node) : (modDie d g s).f.fol = s.f.fol := by cases d <;> rfl
@[simp] theorem modDie_f_linkA (d : Die) (g : DieState → DieState) (s : Node) : (modDie d g s).f.linkA = s.f.linkA := by cases d <;> rfl
@[simp] theorem modDie_f_linkB (d : Die) (g : DieState → DieState) (s : Node) : (modDie d g s).f.linkB = s.f.linkB := by cases d <;> rfl
@[simp] theorem modDie_f_linkC (d : Die) (g : DieState → DieState) (s : Node) : (modDie d g s).f.linkC = s.f.linkC := by cases d <;> rfl
@[simp] theorem modDie_f_chain (d : Die) (g : DieState → DieState) (s : Node) : (modDie d g s).f.chain = s.f.chain := by cases d <;> rfl
@[simp] theorem modDie_f_park (d : Die) (g : DieState → DieState) (s : Node) : (modDie d g s).f.park = s.f.park := by cases d <;> rfl
@[simp] theorem modDie_f_fport (d : Die) (g : DieState → DieState) (s : Node) : (modDie d g s).f.fport = s.f.fport := by cases d <;> rfl
@[simp] theorem modDie_f_beads (d : Die) (g : DieState → DieState) (s : Node) : (modDie d g s).f.beads = s.f.beads := by cases d <;> rfl
@[simp] theorem modDie_f_vddf (d : Die) (g : DieState → DieState) (s : Node) : (modDie d g s).f.vddf = s.f.vddf := by cases d <;> rfl
@[simp] theorem modDie_f_vbead (d : Die) (g : DieState → DieState) (s : Node) : (modDie d g s).f.vbead = s.f.vbead := by cases d <;> rfl
@[simp] theorem modDie_f_fTemp (d : Die) (g : DieState → DieState) (s : Node) : (modDie d g s).f.fTemp = s.f.fTemp := by cases d <;> rfl
@[simp] theorem modDie_f_pullQueue (d : Die) (g : DieState → DieState) (s : Node) : (modDie d g s).f.pullQueue = s.f.pullQueue := by cases d <;> rfl
@[simp] theorem modDie_f_safe0 (d : Die) (g : DieState → DieState) (s : Node) : (modDie d g s).f.safe0 = s.f.safe0 := by cases d <;> rfl
@[simp] theorem modDie_f_safe1 (d : Die) (g : DieState → DieState) (s : Node) : (modDie d g s).f.safe1 = s.f.safe1 := by cases d <;> rfl
@[simp] theorem modDie_die (d : Die) (g : DieState → DieState) (s : Node) : (modDie d g s).die d = g (s.die d) := by cases d <;> rfl
@[simp] theorem modDie_n_n (g : DieState → DieState) (s : Node) : (modDie .n g s).n.toDieState = g s.n.toDieState := rfl
@[simp] theorem modDie_f_f (g : DieState → DieState) (s : Node) : (modDie .f g s).f.toDieState = g s.f.toDieState := rfl
@[simp] theorem modDie_n_f (g : DieState → DieState) (s : Node) : (modDie .n g s).f = s.f := rfl
@[simp] theorem modDie_f_n (g : DieState → DieState) (s : Node) : (modDie .f g s).n = s.n := rfl

/-! One die as a whole. -/

@[simp] theorem modN_free (g : NDie → NDie) (s : Node) : (modN g s).free = s.free := rfl
@[simp] theorem modF_free (g : FDie → FDie) (s : Node) : (modF g s).free = s.free := rfl
@[simp] theorem modN_vals (g : NDie → NDie) (s : Node) : (modN g s).vals = s.vals := rfl
@[simp] theorem modF_vals (g : FDie → FDie) (s : Node) : (modF g s).vals = s.vals := rfl
@[simp] theorem modN_blobs (g : NDie → NDie) (s : Node) : (modN g s).blobs = s.blobs := rfl
@[simp] theorem modF_blobs (g : FDie → FDie) (s : Node) : (modF g s).blobs = s.blobs := rfl
@[simp] theorem modN_nLedger (g : NDie → NDie) (s : Node) : (modN g s).nLedger = s.nLedger := rfl
@[simp] theorem modF_nLedger (g : FDie → FDie) (s : Node) : (modF g s).nLedger = s.nLedger := rfl
@[simp] theorem modN_fLedger (g : NDie → NDie) (s : Node) : (modN g s).fLedger = s.fLedger := rfl
@[simp] theorem modF_fLedger (g : FDie → FDie) (s : Node) : (modF g s).fLedger = s.fLedger := rfl
@[simp] theorem modN_fil (g : NDie → NDie) (s : Node) : (modN g s).fil = s.fil := rfl
@[simp] theorem modF_fil (g : FDie → FDie) (s : Node) : (modF g s).fil = s.fil := rfl
@[simp] theorem modN_n (g : NDie → NDie) (s : Node) : (modN g s).n = g s.n := rfl
@[simp] theorem modN_f (g : NDie → NDie) (s : Node) : (modN g s).f = s.f := rfl
@[simp] theorem modF_f (g : FDie → FDie) (s : Node) : (modF g s).f = g s.f := rfl
@[simp] theorem modF_n (g : FDie → FDie) (s : Node) : (modF g s).n = s.n := rfl

/-! The other updates are these. -/

theorem modFaults_eq (d : Die) (g : Collector → Collector) (s : Node) :
    modFaults d g s = modDie d (fun x => { x with faults := g x.faults }) s := rfl
theorem modClasp_eq (d : Die) (g : ClaspHalf → ClaspHalf) (s : Node) :
    modClasp d g s = modDie d (fun x => { x with clasp := g x.clasp }) s := rfl
theorem modCh_eq (d : Die) (g : Channels → Channels) (s : Node) :
    modCh d g s = modDie d (fun x => { x with ch := g x.ch }) s := rfl
theorem modSeq_eq (d : Die) (g : Sequencer → Sequencer) (s : Node) :
    modSeq d g s = modDie d (fun x => { x with seq := g x.seq }) s := rfl
theorem modLoupe_eq (d : Die) (g : Loupe → Loupe) (s : Node) :
    modLoupe d g s = modDie d (fun x => { x with loupe := g x.loupe }) s := rfl
theorem modIsl_eq (d : Die) (g : Islands → Islands) (s : Node) :
    modIsl d g s = modDie d (fun x => { x with isl := g x.isl }) s := rfl
theorem modDict_eq (g : Dict → Dict) (s : Node) : modDict g s = modN (fun x => { x with dict := g x.dict }) s := rfl
theorem modCan_eq (g : Can → Can) (s : Node) : modCan g s = modN (fun x => { x with can := g x.can }) s := rfl
theorem modPort_eq (g : NPort → NPort) (s : Node) : modPort g s = modN (fun x => { x with port := g x.port }) s := rfl
theorem modHm_eq (g : Hallmark → Hallmark) (s : Node) : modHm g s = modN (fun x => { x with hm := g x.hm }) s := rfl
theorem modBar_eq (g : Barrier → Barrier) (s : Node) : modBar g s = modN (fun x => { x with bar := g x.bar }) s := rfl
theorem modPow_eq (g : Power → Power) (s : Node) : modPow g s = modN (fun x => { x with pow := g x.pow }) s := rfl
theorem modFol_eq (g : Follower → Follower) (s : Node) : modFol g s = modF (fun x => { x with fol := g x.fol }) s := rfl
theorem modChain_eq (g : Chain → Chain) (s : Node) : modChain g s = modF (fun x => { x with chain := g x.chain }) s := rfl
theorem modPark_eq (g : Parked → Parked) (s : Node) : modPark g s = modF (fun x => { x with park := g x.park }) s := rfl
theorem modFPort_eq (g : FPort → FPort) (s : Node) : modFPort g s = modF (fun x => { x with fport := g x.fport }) s := rfl

/-! Reading a die. -/

@[simp] theorem die_n (s : Node) : s.die .n = s.n.toDieState := rfl
@[simp] theorem die_f (s : Node) : s.die .f = s.f.toDieState := rfl

/-! Conditional and repeated changes. -/

@[simp] theorem onlyIf_true (g : Node → Node) (s : Node) : onlyIf true g s = g s := rfl
@[simp] theorem onlyIf_false (g : Node → Node) (s : Node) : onlyIf false g s = s := rfl
@[simp] theorem forEach_nil {α : Type} (g : α → Node → Node) (s : Node) : forEach [] g s = s := rfl
@[simp] theorem forEach_cons {α : Type} (a : α) (l : List α) (g : α → Node → Node) (s : Node) :
    forEach (a :: l) g s = forEach l g (g a s) := rfl

/-- What one change keeps, a change made under a condition keeps. -/
theorem onlyIf_keeps {β : Type} (p : Node → β) {g : Node → Node} (h : ∀ s, p (g s) = p s) (c : Bool) (s : Node) :
    p (onlyIf c g s) = p s := by
  cases c
  · rfl
  · exact h s

/-- What each change keeps, their sequence keeps. -/
theorem foldl_keeps {α β : Type} (p : Node → β) {g : Node → α → Node} (h : ∀ s a, p (g s a) = p s) (l : List α) (s : Node) :
    p (l.foldl g s) = p s := by
  induction l generalizing s with
  | nil => rfl
  | cons a l ih => exact (ih (g s a)).trans (h s a)

/-- What each change keeps, their sequence keeps. -/
theorem forEach_keeps {α β : Type} (p : Node → β) {g : α → Node → Node} (h : ∀ a s, p (g a s) = p s) (l : List α) (s : Node) :
    p (forEach l g s) = p s :=
  foldl_keeps p (fun s a => h a s) l s

end Sys2Proof.Machine
end

