-- ==== Sys2Proof/Laws/Core.lean ====
section
/-! SUPPORT. What the detection of a fault, a counter, a word or a frame for the far die, a forced state and a change of the
device state leave alone: everything in Node.core. One lemma for each shared operation that does no more than these. A field of
the result is read off with congrArg. -/

namespace Sys2Proof.Machine

open Sys2Proof


/-- A Clasp half but for what sending changes. -/
def ClaspHalf.core (x : ClaspHalf) : ClaspHalf :=
  { x with credits := 0, waiting := [], unacked := [], delayed := [], txSeq := 0, sinceLoupe := 0, ctrl := [] }
/-- The channels but for levels kept, forced states and SAFE_HOLD. -/
def Channels.core (x : Channels) : Channels :=
  { x with chans := [], own := [], repeatLeft := [], hold := false, holdMask := 0, sealed := false }
/-- What both dies have, but for the collector, the sequencer, the islands, totals, SEAL sources and a flush that is due. -/
def DieState.core (x : DieState) : DieState :=
  { x with
    faults := {}, clasp := x.clasp.core, ch := x.ch.core, seq := {}, isl := {}
    loupe := { x.loupe with cells := [], due := false }, ret := { x.ret with seals := 0 } }
/-- The CAN port but for its alert queue. -/
def Can.core (x : Can) : Can := { x with alerts := [], alertSeq := 0, detour := none }
/-- A node but for what a fault detection may change. -/
def Node.core (s : Node) : Node :=
  { s with
    fil := {}
    n := { s.n with
      toDieState := s.n.toDieState.core, dev := .boot, lastTransition := 0, runPending := false, runCancelled := false
      can := s.n.can.core }
    f := { s.f with toDieState := s.f.toDieState.core, dev := .boot, fport := { s.f.fport with fetches := [] } } }

@[simp] theorem onlyIf_core {g : Node → Node} (h : ∀ s, (g s).core = s.core) (c : Bool) (s : Node) : (onlyIf c g s).core = s.core :=
  onlyIf_keeps Node.core h c s
@[simp] theorem foldl_core {α : Type} {g : Node → α → Node} (h : ∀ s a, (g s a).core = s.core) (l : List α) (s : Node) :
    (l.foldl g s).core = s.core := foldl_keeps Node.core h l s
@[simp] theorem forEach_core {α : Type} {g : α → Node → Node} (h : ∀ a s, (g a s).core = s.core) (l : List α) (s : Node) :
    (forEach l g s).core = s.core := forEach_keeps Node.core h l s
theorem withFil_core (s : Node) (x : Filigree) : ({ s with fil := x } : Node).core = s.core := rfl
theorem modDie_core (d : Die) {g : DieState → DieState} (h : ∀ x, (g x).core = x.core) (s : Node) : (modDie d g s).core = s.core := by
  cases d <;> simp [Node.core, modDie, h]
@[simp] theorem modFaults_core (d : Die) (g : Collector → Collector) (s : Node) : (modFaults d g s).core = s.core := by cases d <;> rfl
@[simp] theorem modSeq_core (d : Die) (g : Sequencer → Sequencer) (s : Node) : (modSeq d g s).core = s.core := by cases d <;> rfl
@[simp] theorem modIsl_core (d : Die) (g : Islands → Islands) (s : Node) : (modIsl d g s).core = s.core := by cases d <;> rfl

theorem modClasp_core (d : Die) {g : ClaspHalf → ClaspHalf} (h : ∀ x, (g x).core = x.core) (s : Node) : (modClasp d g s).core = s.core := by
  cases d <;> simp [Node.core, DieState.core, modClasp, modDie, h]
theorem modCh_core (d : Die) {g : Channels → Channels} (h : ∀ x, (g x).core = x.core) (s : Node) : (modCh d g s).core = s.core := by
  cases d <;> simp [Node.core, DieState.core, modCh, modDie, h]
theorem modCan_core {g : Can → Can} (h : ∀ x, (g x).core = x.core) (s : Node) : (modCan g s).core = s.core := by
  simp [Node.core, modCan, modN, h]
theorem modFPort_fetches (g : FPort → List FWork) (s : Node) : (modFPort (fun x => { x with fetches := g x }) s).core = s.core := rfl

@[simp] theorem addTotal_core (d : Die) (k n : Nat) (s : Node) : (modLoupe d (addTotal k n) s).core = s.core := by
  cases d <;> rfl
@[simp] theorem modChan_core (d : Die) (c : Nat) (g : Chan → Chan) (s : Node) : (modChan d c g s).core = s.core := by
  cases d <;> rfl
@[simp] theorem modFil_core (i : Nat) (g : FilSlot → FilSlot) (s : Node) : (modFil i g s).core = s.core := by
  rfl
@[simp] theorem filEffect_core (i : Nat) (s : Node) : (filEffect i s).core = s.core := by
  unfold filEffect; simp
@[simp] theorem filEvery_core (i : Nat) (s : Node) : (filEvery i s).1.core = s.core := by
  unfold filEvery; split <;> simp
@[simp] theorem filWord_core (tx : Die) (cls : Nat) (s : Node) : (filWord tx cls s).1.core = s.core := by
  unfold filWord; split <;> simp
@[simp] theorem countBy_core (d : Die) (blk idx cell n : Nat) (s : Node) :
    (countBy d blk idx cell n s).core = s.core := by
  unfold countBy; split <;> simp
@[simp] theorem bump_core (d : Die) (blk idx cell : Nat) (s : Node) : (bump d blk idx cell s).core = s.core := by
  unfold bump; simp
@[simp] theorem peak_core (d : Die) (blk idx cell v : Nat) (s : Node) : (peak d blk idx cell v s).core = s.core := by
  (unfold peak; (repeat' split) <;> first | rfl | (cases d <;> rfl) | (simp; done))
@[simp] theorem sendCtrl_core (d : Die) (w : Ctrl) (s : Node) : (sendCtrl d w s).core = s.core := by
  unfold sendCtrl
  apply onlyIf_core
  intro s
  apply modClasp_core
  intro x
  rfl
@[simp] theorem gotCtrl_core (d : Die) (w : Ctrl) (s : Node) : (gotCtrl d w s).core = s.core := by
  (unfold gotCtrl; (repeat' split) <;> first | rfl | (cases d <;> rfl) | (simp; done))
@[simp] theorem sendFrame_core (d : Die) (s : Node) : (sendFrame d s).core = s.core := by
  unfold sendFrame
  dsimp only
  split
  · rfl
  · split
    · rfl
    · rw [modClasp_core, bump_core]
      intro x
      rfl
@[simp] theorem pumpData_core (d : Die) (s : Node) : (pumpData d s).core = s.core := by
  unfold pumpData; split <;> simp
@[simp] theorem sendData_core (d : Die) (stream : Nat) (m : Msg) (s : Node) :
    (sendData d stream m s).core = s.core := by
  unfold sendData
  split
  · split
    · rw [filEffect_core, modClasp_core]
      intro x
      rfl
    · rw [pumpData_core, modClasp_core, onlyIf_core fun s => by simp]
      intro x
      rfl
  · rfl
@[simp] theorem keepLevel_core (d : Die) (before : Node) (c : Nat) (s : Node) :
    (keepLevel d before c s).core = s.core := by
  unfold keepLevel; split <;> simp
@[simp] theorem settlePins_core (d : Die) {g : Node → Node} (h : ∀ s, (g s).core = s.core) (s : Node) :
    (settlePins d g s).core = s.core := by
  unfold settlePins
  rw [forEach_core fun c s => by simp, modCh_core, h]
  intro x
  split <;> rfl
@[simp] theorem settleCh_core (d : Die) {g : Channels → Channels} (h : ∀ x, (g x).core = x.core) (s : Node) :
    (settlePins d (modCh d g) s).core = s.core := by
  exact settlePins_core d (fun s => modCh_core d h s) s
@[simp] theorem setForce_core (d : Die) (o : Nat) (m : Mask) (s : Node) : (setForce d o m s).core = s.core := by
  unfold setForce
  split
  · rfl
  · rw [sendCtrl_core, onlyIf_core (fun s => by simp), settleCh_core]
    intro x
    rfl
@[simp] theorem enterHold_core (d : Die) (s : Node) : (enterHold d s).core = s.core := by
  unfold enterHold
  split
  · rfl
  · apply settleCh_core
    intro x
    rfl
@[simp] theorem leaveHold_core (d : Die) (s : Node) : (leaveHold d s).core = s.core := by
  unfold leaveHold
  split
  · apply settleCh_core
    intro x
    rfl
  · rfl
@[simp] theorem sealChannels_core (d : Die) (s : Node) : (sealChannels d s).core = s.core := by
  apply settleCh_core
  intro x
  rfl
@[simp] theorem modRun_core (d : Die) (r : Runner) (g : Run → Run) (s : Node) : (modRun d r g s).core = s.core := by
  unfold modRun; (repeat' split) <;> simp
@[simp] theorem modRef_core (d : Die) (r : RunRef) (g : Run → Run) (s : Node) : (modRef d r g s).core = s.core := by
  unfold modRef; split <;> simp
@[simp] theorem modObject_core (d : Die) (o : Nat) (g : ResultObject → ResultObject) (s : Node) :
    (modObject d o g s).core = s.core := by
  unfold modObject; simp
@[simp] theorem closeObject_core (d : Die) (o : Nat) (run : Run) (incomplete : Bool) (s : Node) :
    (closeObject d o run incomplete s).core = s.core := by
  unfold closeObject; simp
@[simp] theorem disown_core (d : Die) (o : Nat) (s : Node) : (disown d o s).core = s.core := by
  unfold disown; simp
@[simp] theorem addRecord_core (d : Die) (rec : LaunchRecord) (s : Node) : (addRecord d rec s).core = s.core := by
  unfold addRecord; split <;> simp
@[simp] theorem record_core (d : Die) (slot list flags : Nat) (time : T48) (lateness : Nat) (s : Node) :
    (record d slot list flags time lateness s).core = s.core := by
  unfold record; simp
@[simp] theorem freeRunner_core (d : Die) (r : Runner) (s : Node) : (freeRunner d r s).core = s.core := by
  simp only [freeRunner]; (repeat' split) <;> simp_all
@[simp] theorem endRun_core (d : Die) (r : Runner) (incomplete : Bool) (s : Node) :
    (endRun d r incomplete s).core = s.core := by
  unfold endRun
  split
  · rfl
  · simp only [freeRunner_core, record_core]
    split
    · exact forEach_core (fun o s => by split <;> simp) _ s
    · rfl
@[simp] theorem stopLists_core (d : Die) (s : Node) : (stopLists d s).core = s.core := by
  exact forEach_core (fun n s => by simp) _ s
@[simp] theorem fetchAhead_core (d : Die) (r : Runner) (s : Node) : (fetchAhead d r s).core = s.core := by
  unfold fetchAhead
  split
  · dsimp only
    split
    · rfl
    · rw [modFPort_fetches, onlyIf_core fun s => by simp]
  · rfl
@[simp] theorem startTrap_core (d : Die) (s : Node) : (startTrap d s).core = s.core := by
  unfold startTrap; (repeat' split) <;> simp
@[simp] theorem leaveState_core (d : Die) (prev st : DevState) (s : Node) :
    (leaveState d prev st s).core = s.core := by
  have h : (onlyIf (prev == .run && st != .run) (stopLists d) s).core = s.core := onlyIf_core (fun s => by simp) _ s
  unfold leaveState
  dsimp only
  split
  · rw [leaveHold_core, setForce_core, onlyIf_core (fun s => by simp), h]
  · exact h
@[simp] theorem holdForce_core (s : Node) : (holdForce s).core = s.core := by
  unfold holdForce; simp
@[simp] theorem enterStateN_core (st : DevState) (cause : Nat) (s : Node) :
    (enterStateN st cause s).core = s.core := by
  unfold enterStateN holdForce
  split <;> simp
@[simp] theorem setDev_core (st : DevState) (cause source session : Nat) (s : Node) :
    (setDev st cause source session s).core = s.core := by
  unfold setDev
  rw [sendData_core, enterStateN_core]
  exact (by rfl : (modN _ _).core = _).trans (leaveState_core ..)
@[simp] theorem trapState_core (cause source : Nat) (s : Node) : (trapState cause source s).core = s.core := by
  unfold trapState; split <;> simp
@[simp] theorem sealState_core (cause source : Nat) (s : Node) : (sealState cause source s).core = s.core := by
  unfold sealState
  split
  · rfl
  · simp
@[simp] theorem setDevF_core (st : DevState) (s : Node) : (setDevF st s).core = s.core := by
  have h : (modF (fun f => { f with dev := st }) (leaveState .f s.f.dev st s)).core = s.core := (by rfl : (modF _ _).core = _).trans (leaveState_core ..)
  unfold setDevF
  dsimp only
  split <;> simp only [enterHold_core, sealChannels_core, h]
@[simp] theorem detourNext_core (s : Node) : (detourNext s).core = s.core := by
  simp only [detourNext]
  split
  · split
    · rfl
    · rw [sendData_core, bump_core]
      rfl
  · rfl
@[simp] theorem pushAlert_core (q : QueuedAlert) (s : Node) : (pushAlert q s).core = s.core := by
  unfold pushAlert
  dsimp only
  split
  · rw [detourNext_core]
    rfl
  · split
    · rw [detourNext_core, modCan_core, bump_core]
      intro x
      rfl
    · simp
@[simp] theorem queueAlert_core (die source cls : Nat) (detected : T48) (status : Word) (s : Node) :
    (queueAlert die source cls detected status s).core = s.core := by
  unfold queueAlert
  split
  · rw [pushAlert_core]
    rfl
  · rfl
@[simp] theorem writeEntry_core (d : Die) (e : HistEntry) (s : Node) : (writeEntry d e s).core = s.core := by
  unfold writeEntry; simp
@[simp] theorem modEntry_core (d : Die) (event : Nat) (g : HistEntry → HistEntry) (s : Node) :
    (modEntry d event g s).core = s.core := by
  unfold modEntry; simp
@[simp] theorem assertPin_core (d : Die) (s : Node) : (assertPin d s).core = s.core := by
  unfold assertPin; split <;> simp
@[simp] theorem forwardEvent_core (e : HistEntry) (s : Node) : (forwardEvent e s).core = s.core := by
  unfold forwardEvent; split <;> simp
@[simp] theorem sealDie_core (d : Die) (src : Nat) (s : Node) : (sealDie d src s).core = s.core := by
  unfold sealDie
  have h : (modDie d (fun x => { x with ret := { x.ret with seals := setSrc x.ret.seals src true } }) s).core = s.core := by cases d <;> rfl
  dsimp only
  split <;> simp [h]
@[simp] theorem trapReaction_core (d : Die) (src : Nat) (s : Node) : (trapReaction d src s).core = s.core := by
  simp only [trapReaction]; (repeat' split) <;> simp_all
@[simp] theorem reactions_core (d : Die) (src cls mask : Nat) (e : HistEntry) (s : Node) :
    (reactions d src cls mask e s).core = s.core := by
  unfold reactions; simp
@[simp] theorem requestFlush_core (d : Die) (s : Node) : (requestFlush d s).core = s.core := by
  cases d <;> rfl
@[simp] theorem startEvent_core (d : Die) (src cls mask detail fSource : Nat) (seals fresh : Bool) (s : Node) :
    (startEvent d src cls mask detail fSource seals fresh s).core = s.core := by
  unfold startEvent; simp
@[simp] theorem detectCore_core (d : Die) (src detail fSource : Nat) (cls : Option Nat) (s : Node) :
    (detectCore d src detail fSource cls s).core = s.core := by
  simp only [detectCore]; (repeat' split) <;> simp_all
@[simp] theorem condFell_core (d : Die) (src : Nat) (s : Node) : (condFell d src s).core = s.core := by
  simp only [condFell]; (repeat' split) <;> simp_all
@[simp] theorem tear_core (d : Die) (i entries : Nat) (s : Node) : (tear d i entries s).core = s.core := by
  unfold tear; simp
@[simp] theorem resetIsland_core (d : Die) (island cause : Nat) (s : Node) :
    (resetIsland d island cause s).core = s.core := by
  simp only [resetIsland]; (repeat' split) <;> simp_all
@[simp] theorem detect_core (d : Die) (src detail : Nat) (s : Node) : (detect d src detail s).core = s.core := by
  simp only [detect]; (repeat' split) <;> simp_all
@[simp] theorem setCond_core (d : Die) (src : Nat) (on : Bool) (detail : Nat) (s : Node) :
    (setCond d src on detail s).core = s.core := by
  simp only [setCond]; (repeat' split) <;> simp_all
@[simp] theorem closeWindow_core (d : Die) (src : Nat) (s : Node) : (closeWindow d src s).core = s.core := by
  unfold closeWindow; simp
@[simp] theorem failStep_core (d : Die) (r : RunRef) (op : Nat) (s : Node) : (failStep d r op s).core = s.core := by
  unfold failStep; simp
@[simp] theorem beginStep_core (d : Die) (r : RunRef) (s : Node) : (beginStep d r s).core = s.core := by
  unfold beginStep; simp
@[simp] theorem endOutstanding_core (d : Die) (r : RunRef) (s : Node) : (endOutstanding d r s).core = s.core := by
  simp only [endOutstanding]; (repeat' split) <;> simp_all
@[simp] theorem storeData_core (d : Die) (dest : Nat) (bs : List Byte) (deferred : Bool) (s : Node) :
    (storeData d dest bs deferred s).1.core = s.core := by
  simp only [storeData]; (repeat' split) <;> simp_all
@[simp] theorem stepData_core (d : Die) (r : RunRef) (op dest : Nat) (data : Option (List Byte)) (deferred : Bool) (s : Node) :
    (stepData d r op dest data deferred s).core = s.core := by
  simp only [stepData]; (repeat' split) <;> simp_all
@[simp] theorem endKeyStep_core (t : Txn) (data : Option (List Byte)) (s : Node) :
    (endKeyStep t data s).core = s.core := by
  unfold endKeyStep; (repeat' split) <;> simp
@[simp] theorem slotsLive_core (s : Node) : (slotsLive s).core = s.core := by
  unfold slotsLive; simp
@[simp] theorem sendHeld_core (d : Die) (s : Node) : (sendHeld d s).core = s.core := by
  unfold sendHeld
  rw [pumpData_core, modClasp_core]
  intro x
  rfl
@[simp] theorem endFil_core (i cause : Nat) (s : Node) : (endFil i cause s).core = s.core := by
  simp only [endFil]; (repeat' split) <;> simp_all
@[simp] theorem endRecal_core (d : Die) (s : Node) : (endRecal d s).core = s.core := by
  unfold endRecal; simp
@[simp] theorem chainFromN_core (dst type : Nat) (urgent : Bool) (typeField : Nat) (bs : List Byte) (s : Node) :
    (chainFromN dst type urgent typeField bs s).core = s.core := by
  unfold chainFromN; simp
@[simp] theorem txDiscard_core (cls cause n : Nat) (s : Node) : (txDiscard cls cause n s).core = s.core := by
  unfold txDiscard; simp
@[simp] theorem overflow15_core (idx : Nat) (s : Node) : (overflow15 idx s).core = s.core := by
  unfold overflow15; simp
@[simp] theorem edgeOverflow_core (d : Die) (c : Nat) (s : Node) : (edgeOverflow d c s).core = s.core := by
  unfold edgeOverflow; simp
@[simp] theorem backlogOverflow_core (d : Die) (c : Nat) (s : Node) : (backlogOverflow d c s).core = s.core := by
  unfold backlogOverflow; simp
@[simp] theorem captureEdge_core (d : Die) (c at_ : Nat) (s : Node) : (captureEdge d c at_ s).core = s.core := by
  simp only [captureEdge]; (repeat' split) <;> simp_all
@[simp] theorem putSlot_core (d : Die) (i : Nat) (x : Slot) (s : Node) : (putSlot d i x s).core = s.core := by
  unfold putSlot; simp
@[simp] theorem launchSlot_core (d : Die) (i : Nat) (late : Bool) (s : Node) :
    (launchSlot d i late s).core = s.core := by
  simp only [launchSlot]; (repeat' split) <;> simp_all
@[simp] theorem armSlot_core (d : Die) (i : Nat) (x : Slot) (s : Node) : (armSlot d i x s).core = s.core := by
  unfold armSlot; split <;> simp
@[simp] theorem advance_core (d : Die) (r : Runner) (g : Run → Run) (s : Node) : (advance d r g s).core = s.core := by
  unfold advance; simp
@[simp] theorem actLate_core (d : Die) (list late : Nat) (s : Node) : (actLate d list late s).1.core = s.core := by
  unfold actLate; (repeat' split) <;> simp
@[simp] theorem issueStep_core (d : Die) (r : Runner) (op lateness : Nat) (s : Node) :
    (issueStep d r op lateness s).core = s.core := by
  unfold issueStep; simp
@[simp] theorem countDropped_core (d : Die) (s : Node) : (countDropped d s).core = s.core := by
  unfold countDropped; simp
@[simp] theorem sendConfig_core (d : Die) (phase : Nat) (s : Node) : (sendConfig d phase s).core = s.core := by
  unfold sendConfig; simp
@[simp] theorem perturbed_core (d : Die) (cls : Nat) (s : Node) : (perturbed d cls s).1.core = s.core := by
  unfold perturbed; simp
@[simp] theorem repeatOrders_core (d : Die) (s : Node) : (repeatOrders d s).core = s.core := by
  unfold repeatOrders; simp
@[simp] theorem eventSent_core (d : Die) (c : Nat) (s : Node) : (eventSent d c s).core = s.core := by
  unfold eventSent; simp
@[simp] theorem takeEvent_core (d : Die) (e : EdgeEvent) (s : Node) : (takeEvent d e s).core = s.core := by
  unfold takeEvent; split <;> simp
@[simp] theorem refreshChannel_core (d : Die) (mask levels : Mask) (c : Nat) (s : Node) :
    (refreshChannel d mask levels c s).core = s.core := by
  simp only [refreshChannel]; (repeat' split) <;> simp_all
@[simp] theorem sampleSource_core (d : Die) (src : Nat) (s : Node) : (sampleSource d src s).core = s.core := by
  simp only [sampleSource]; (repeat' split) <;> simp_all
@[simp] theorem releasePin_core (d : Die) (s : Node) : (releasePin d s).core = s.core := by
  simp only [releasePin]; (repeat' split) <;> simp
@[simp] theorem clearStatus_core (d : Die) (m : Word) (s : Node) : (clearStatus d m s).core = s.core := by
  unfold clearStatus; simp
@[simp] theorem clearHistory_core (d : Die) (s : Node) : (clearHistory d s).core = s.core := by
  unfold clearHistory; simp
@[simp] theorem statusSeen_core (d : Die) (s : Node) : (statusSeen d s).core = s.core := by
  unfold statusSeen; simp
@[simp] theorem forwardPending_core (s : Node) : (forwardPending s).core = s.core := by
  simp only [forwardPending]; (repeat' split) <;> simp_all
@[simp] theorem canReceived_core (cls : Nat) (s : Node) : (canReceived cls s).core = s.core := by
  unfold canReceived; simp
@[simp] theorem canSent_core (cls : Nat) (s : Node) : (canSent cls s).core = s.core := by
  unfold canSent; simp
@[simp] theorem alertAnswer_core (dst seq origin outcome : Nat) (s : Node) :
    (alertAnswer dst seq origin outcome s).core = s.core := by
  unfold alertAnswer; simp
@[simp] theorem tunnelIn_core (ws : List Nat) (s : Node) : (tunnelIn ws s).core = s.core := by
  unfold tunnelIn; split <;> simp
@[simp] theorem linkCountBy_core (p : Port) (item cell n : Nat) (s : Node) :
    (linkCountBy p item cell n s).core = s.core := by
  unfold linkCountBy; simp
@[simp] theorem linkCount_core (p : Port) (item cell : Nat) (s : Node) : (linkCount p item cell s).core = s.core := by
  unfold linkCount; simp
@[simp] theorem dropFrames_core (p : Option Port) (cell n : Nat) (s : Node) :
    (dropFrames p cell n s).core = s.core := by
  unfold dropFrames; simp
@[simp] theorem putOnLine_core (p : Port) (type : Nat) (s : Node) : (putOnLine p type s).core = s.core := by
  unfold putOnLine; split <;> simp
@[simp] theorem egress_core (f : ChainFrame) (s : Node) : (egress f s).core = s.core := by
  unfold egress; simp
@[simp] theorem unknownDest_core {send : Port → ChainFrame → Node → Node} (h : ∀ p f s, (send p f s).core = s.core) (from_ : Option Port) (f : ChainFrame) (s : Node) :
    (unknownDest send from_ f s).core = s.core := by
  unfold unknownDest
  (repeat' split) <;> simp [h]
@[simp] theorem sendOn_core {send : Port → ChainFrame → Node → Node} (h : ∀ p f s, (send p f s).core = s.core) (from_ : Option Port) (f : ChainFrame) (s : Node) :
    (sendOn send from_ f s).core = s.core := by
  unfold sendOn
  (repeat' split) <;> simp [h]
@[simp] theorem slotPast_core (d : Die) (i : Nat) (new : T48) (s : Node) : (slotPast d i new s).core = s.core := by
  simp only [slotPast]; (repeat' split) <;> simp_all
@[simp] theorem dropSlot_core (d : Die) (i : Nat) (s : Node) : (dropSlot d i s).core = s.core := by
  unfold dropSlot; simp
@[simp] theorem slotOver_core (d : Die) (new : T48) (drop : Bool) (i : Nat) (s : Node) :
    (slotOver d new drop i s).core = s.core := by
  unfold slotOver; split <;> simp
@[simp] theorem jumped_core (d : Die) (old : T48) (drop : Bool) (s : Node) : (jumped d old drop s).core = s.core := by
  unfold jumped; simp
@[simp] theorem deliverToN_core (f : ChainFrame) (s : Node) : (deliverToN f s).core = s.core := by
  unfold deliverToN; split <;> simp
@[simp] theorem setTimed_core (d : Die) (levels c : Nat) (s : Node) : (setTimed d levels c s).core = s.core := by
  simp only [setTimed]; (repeat' split) <;> simp_all
@[simp] theorem releaseIsland_core (d : Die) (island : Nat) (byClock : Bool) (s : Node) :
    (releaseIsland d island byClock s).core = s.core := by
  unfold releaseIsland; (repeat' split) <;> simp
@[simp] theorem countWork_core (i : Nat) (s : Node) : (countWork i s).core = s.core := by
  unfold countWork; simp
@[simp] theorem takeFetched_core (r : RunRef) (words : List Nat) (s : Node) :
    (takeFetched r words s).core = s.core := by
  simp only [takeFetched]; (repeat' split) <;> simp_all
@[simp] theorem beadCount_core (p item cell : Nat) (s : Node) : (beadCount p item cell s).core = s.core := by
  unfold beadCount; simp
@[simp] theorem beadError_core (p k : Nat) (s : Node) : (beadError p k s).1.core = s.core := by
  unfold beadError; split <;> simp
@[simp] theorem pairCount_core (p item cell : Nat) (s : Node) : (pairCount p item cell s).core = s.core := by
  unfold pairCount; simp
@[simp] theorem parkCount_core (item cell : Nat) (s : Node) : (parkCount item cell s).core = s.core := by
  unfold parkCount; simp
@[simp] theorem unlockFil_core (arg : Nat) (s : Node) : (unlockFil arg s).2.core = s.core := by
  unfold unlockFil
  (repeat' split) <;> first
    | rfl
    | exact (bump_core ..).trans rfl
@[simp] theorem lockFil_core (s : Node) : (lockFil s).core = s.core := by
  rfl
@[simp] theorem disarmFil_core (i : Nat) (s : Node) : (disarmFil i s).core = s.core := by
  unfold disarmFil; (repeat' split) <;> simp
@[simp] theorem reportSlots_core (s : Node) : (reportSlots s).core = s.core := by
  unfold reportSlots; simp
@[simp] theorem tempCond_core (d : Die) (t : Int) (limit blk item : Nat) (s : Node) :
    (tempCond d t limit blk item s).core = s.core := by
  unfold tempCond; (repeat' split) <;> simp
@[simp] theorem vbatCond_core (v : Nat) (settled : Bool) (s : Node) : (vbatCond v settled s).core = s.core := by
  simp only [vbatCond]; (repeat' split) <;> simp_all
@[simp] theorem vbeadCond_core (v : Nat) (s : Node) : (vbeadCond v s).core = s.core := by
  simp only [vbeadCond]; (repeat' split) <;> simp_all
@[simp] theorem tempExtremes_core (d : Die) (t : Int) (s : Node) : (tempExtremes d t s).core = s.core := by
  (unfold tempExtremes; (repeat' split) <;> first | rfl | (cases d <;> rfl) | (simp; done))
@[simp] theorem endsWith_core (status : Nat) (s : Node) : (endsWith status s).1.core = s.core := by
  unfold endsWith; simp
@[simp] theorem sliceRead_core (status : Nat) (bs : List Byte) (offset length : Nat) (s : Node) :
    (sliceRead status bs offset length s).1.core = s.core := by
  unfold sliceRead; split <;> simp
@[simp] theorem readStream_core (d : Die) (offset length : Nat) (s : Node) :
    (readStream d offset length s).1.core = s.core := by
  unfold readStream; (repeat' split) <;> simp
@[simp] theorem writeArm_core (d : Die) (bs : List Byte) (s : Node) : (writeArm d bs s).1.core = s.core := by
  unfold writeArm; (repeat' split) <;> simp
@[simp] theorem checked_core {r : Except Nat Node} {s : Node} (h : ∀ t, r = .ok t → t.core = s.core) :
    (checked r s).1.core = s.core := by
  unfold checked
  split
  · rfl
  · exact h _ rfl
@[simp] theorem requestState_core (session arg : Nat) (s : Node) : (requestState session arg s).1.core = s.core := by
  simp only [requestState]; (repeat' split) <;> simp_all
@[simp] theorem cancelSlot_core (d : Die) (arg : Nat) (s : Node) : (cancelSlot d arg s).1.core = s.core := by
  simp only [cancelSlot]; (repeat' split) <;> simp_all
@[simp] theorem disarmCommand_core (arg : Nat) (s : Node) : (disarmCommand arg s).1.core = s.core := by
  unfold disarmCommand; (repeat' split) <;> simp
@[simp] theorem cancelRun_core (t : Txn) (status : Nat) (s : Node) : (cancelRun t status s).core = s.core := by
  (unfold cancelRun; (repeat' split) <;> first | rfl | (cases d <;> rfl) | (simp; done))
@[simp] theorem forcedBusy_core (session key : Nat) (s : Node) : (forcedBusy session key s).1.core = s.core := by
  unfold forcedBusy; (repeat' split) <;> simp
@[simp] theorem offerForces_core (d : Die) (s : Node) : (offerForces d s).core = s.core := by
  unfold offerForces; simp

end Sys2Proof.Machine
end

