-- ==== Sys2Proof/Laws/Fields.lean ====
section
/-! SUPPORT. The fields that a counter, a word or a frame for the far die, a forced state, an alert, a detection and a change of the
device state leave alone, one by one. -/

namespace Sys2Proof.Machine

open Sys2Proof

/-! countBy. -/

@[simp] theorem countBy_vals (d : Die) (blk idx cell n : Nat) (s : Node) : (countBy d blk idx cell n s).vals = s.vals := congrArg (fun x => x.vals) (countBy_core d blk idx cell n s)
@[simp] theorem countBy_blobs (d : Die) (blk idx cell n : Nat) (s : Node) : (countBy d blk idx cell n s).blobs = s.blobs := congrArg (fun x => x.blobs) (countBy_core d blk idx cell n s)
@[simp] theorem countBy_nLedger (d : Die) (blk idx cell n : Nat) (s : Node) : (countBy d blk idx cell n s).nLedger = s.nLedger := congrArg (fun x => x.nLedger) (countBy_core d blk idx cell n s)
@[simp] theorem countBy_fLedger (d : Die) (blk idx cell n : Nat) (s : Node) : (countBy d blk idx cell n s).fLedger = s.fLedger := congrArg (fun x => x.fLedger) (countBy_core d blk idx cell n s)
@[simp] theorem countBy_n_agree (d : Die) (blk idx cell n : Nat) (s : Node) : (countBy d blk idx cell n s).n.agree = s.n.agree := congrArg (fun x => x.n.agree) (countBy_core d blk idx cell n s)
@[simp] theorem countBy_n_dict (d : Die) (blk idx cell n : Nat) (s : Node) : (countBy d blk idx cell n s).n.dict = s.n.dict := congrArg (fun x => x.n.dict) (countBy_core d blk idx cell n s)
@[simp] theorem countBy_n_port (d : Die) (blk idx cell n : Nat) (s : Node) : (countBy d blk idx cell n s).n.port = s.n.port := congrArg (fun x => x.n.port) (countBy_core d blk idx cell n s)
@[simp] theorem countBy_n_hm (d : Die) (blk idx cell n : Nat) (s : Node) : (countBy d blk idx cell n s).n.hm = s.n.hm := congrArg (fun x => x.n.hm) (countBy_core d blk idx cell n s)
@[simp] theorem countBy_n_bar (d : Die) (blk idx cell n : Nat) (s : Node) : (countBy d blk idx cell n s).n.bar = s.n.bar := congrArg (fun x => x.n.bar) (countBy_core d blk idx cell n s)
@[simp] theorem countBy_n_pow (d : Die) (blk idx cell n : Nat) (s : Node) : (countBy d blk idx cell n s).n.pow = s.n.pow := congrArg (fun x => x.n.pow) (countBy_core d blk idx cell n s)
@[simp] theorem countBy_n_number (d : Die) (blk idx cell n : Nat) (s : Node) : (countBy d blk idx cell n s).n.number = s.n.number := congrArg (fun x => x.n.number) (countBy_core d blk idx cell n s)
@[simp] theorem countBy_n_trainings (d : Die) (blk idx cell n : Nat) (s : Node) : (countBy d blk idx cell n s).n.trainings = s.n.trainings := congrArg (fun x => x.n.trainings) (countBy_core d blk idx cell n s)
@[simp] theorem countBy_n_crystal (d : Die) (blk idx cell n : Nat) (s : Node) : (countBy d blk idx cell n s).n.crystal = s.n.crystal := congrArg (fun x => x.n.crystal) (countBy_core d blk idx cell n s)
@[simp] theorem countBy_n_straps (d : Die) (blk idx cell n : Nat) (s : Node) : (countBy d blk idx cell n s).n.straps = s.n.straps := congrArg (fun x => x.n.straps) (countBy_core d blk idx cell n s)
@[simp] theorem countBy_n_floating (d : Die) (blk idx cell n : Nat) (s : Node) : (countBy d blk idx cell n s).n.floating = s.n.floating := congrArg (fun x => x.n.floating) (countBy_core d blk idx cell n s)
@[simp] theorem countBy_n_runDeferred (d : Die) (blk idx cell n : Nat) (s : Node) : (countBy d blk idx cell n s).n.runDeferred = s.n.runDeferred := congrArg (fun x => x.n.runDeferred) (countBy_core d blk idx cell n s)
@[simp] theorem countBy_n_can_state (d : Die) (blk idx cell n : Nat) (s : Node) : (countBy d blk idx cell n s).n.can.state = s.n.can.state := congrArg (fun x => x.n.can.state) (countBy_core d blk idx cell n s)
@[simp] theorem countBy_n_can_tx (d : Die) (blk idx cell n : Nat) (s : Node) : (countBy d blk idx cell n s).n.can.tx = s.n.can.tx := congrArg (fun x => x.n.can.tx) (countBy_core d blk idx cell n s)
@[simp] theorem countBy_n_can_tecCount (d : Die) (blk idx cell n : Nat) (s : Node) : (countBy d blk idx cell n s).n.can.tecCount = s.n.can.tecCount := congrArg (fun x => x.n.can.tecCount) (countBy_core d blk idx cell n s)
@[simp] theorem countBy_n_can_recCount (d : Die) (blk idx cell n : Nat) (s : Node) : (countBy d blk idx cell n s).n.can.recCount = s.n.can.recCount := congrArg (fun x => x.n.can.recCount) (countBy_core d blk idx cell n s)
@[simp] theorem countBy_n_can_txvr (d : Die) (blk idx cell n : Nat) (s : Node) : (countBy d blk idx cell n s).n.can.txvr = s.n.can.txvr := congrArg (fun x => x.n.can.txvr) (countBy_core d blk idx cell n s)
@[simp] theorem countBy_n_can_driver (d : Die) (blk idx cell n : Nat) (s : Node) : (countBy d blk idx cell n s).n.can.driver = s.n.can.driver := congrArg (fun x => x.n.can.driver) (countBy_core d blk idx cell n s)
@[simp] theorem countBy_n_can_syncSeen (d : Die) (blk idx cell n : Nat) (s : Node) : (countBy d blk idx cell n s).n.can.syncSeen = s.n.can.syncSeen := congrArg (fun x => x.n.can.syncSeen) (countBy_core d blk idx cell n s)
@[simp] theorem countBy_n_can_tunnelFirst (d : Die) (blk idx cell n : Nat) (s : Node) : (countBy d blk idx cell n s).n.can.tunnelFirst = s.n.can.tunnelFirst := congrArg (fun x => x.n.can.tunnelFirst) (countBy_core d blk idx cell n s)
@[simp] theorem countBy_n_phase (d : Die) (blk idx cell n : Nat) (s : Node) : (countBy d blk idx cell n s).n.phase = s.n.phase := congrArg (fun x => x.n.phase) (countBy_core d blk idx cell n s)
@[simp] theorem countBy_n_cause (d : Die) (blk idx cell n : Nat) (s : Node) : (countBy d blk idx cell n s).n.cause = s.n.cause := congrArg (fun x => x.n.cause) (countBy_core d blk idx cell n s)
@[simp] theorem countBy_n_ticks (d : Die) (blk idx cell n : Nat) (s : Node) : (countBy d blk idx cell n s).n.ticks = s.n.ticks := congrArg (fun x => x.n.ticks) (countBy_core d blk idx cell n s)
@[simp] theorem countBy_n_undervoltage (d : Die) (blk idx cell n : Nat) (s : Node) : (countBy d blk idx cell n s).n.undervoltage = s.n.undervoltage := congrArg (fun x => x.n.undervoltage) (countBy_core d blk idx cell n s)
@[simp] theorem countBy_n_waitExpired (d : Die) (blk idx cell n : Nat) (s : Node) : (countBy d blk idx cell n s).n.waitExpired = s.n.waitExpired := congrArg (fun x => x.n.waitExpired) (countBy_core d blk idx cell n s)
@[simp] theorem countBy_n_clasp_link (d : Die) (blk idx cell n : Nat) (s : Node) : (countBy d blk idx cell n s).n.clasp.link = s.n.clasp.link := congrArg (fun x => x.n.clasp.link) (countBy_core d blk idx cell n s)
@[simp] theorem countBy_n_clasp_trained (d : Die) (blk idx cell n : Nat) (s : Node) : (countBy d blk idx cell n s).n.clasp.trained = s.n.clasp.trained := congrArg (fun x => x.n.clasp.trained) (countBy_core d blk idx cell n s)
@[simp] theorem countBy_n_clasp_synth (d : Die) (blk idx cell n : Nat) (s : Node) : (countBy d blk idx cell n s).n.clasp.synth = s.n.clasp.synth := congrArg (fun x => x.n.clasp.synth) (countBy_core d blk idx cell n s)
@[simp] theorem countBy_n_clasp_half (d : Die) (blk idx cell n : Nat) (s : Node) : (countBy d blk idx cell n s).n.clasp.half = s.n.clasp.half := congrArg (fun x => x.n.clasp.half) (countBy_core d blk idx cell n s)
@[simp] theorem countBy_n_clasp_swing (d : Die) (blk idx cell n : Nat) (s : Node) : (countBy d blk idx cell n s).n.clasp.swing = s.n.clasp.swing := congrArg (fun x => x.n.clasp.swing) (countBy_core d blk idx cell n s)
@[simp] theorem countBy_n_clasp_lossSeen (d : Die) (blk idx cell n : Nat) (s : Node) : (countBy d blk idx cell n s).n.clasp.lossSeen = s.n.clasp.lossSeen := congrArg (fun x => x.n.clasp.lossSeen) (countBy_core d blk idx cell n s)
@[simp] theorem countBy_n_clasp_rxSeq (d : Die) (blk idx cell n : Nat) (s : Node) : (countBy d blk idx cell n s).n.clasp.rxSeq = s.n.clasp.rxSeq := congrArg (fun x => x.n.clasp.rxSeq) (countBy_core d blk idx cell n s)
@[simp] theorem countBy_n_clasp_orders (d : Die) (blk idx cell n : Nat) (s : Node) : (countBy d blk idx cell n s).n.clasp.orders = s.n.clasp.orders := congrArg (fun x => x.n.clasp.orders) (countBy_core d blk idx cell n s)
@[simp] theorem countBy_n_ch_map (d : Die) (blk idx cell n : Nat) (s : Node) : (countBy d blk idx cell n s).n.ch.map = s.n.ch.map := congrArg (fun x => x.n.ch.map) (countBy_core d blk idx cell n s)
@[simp] theorem countBy_n_ch_upper (d : Die) (blk idx cell n : Nat) (s : Node) : (countBy d blk idx cell n s).n.ch.upper = s.n.ch.upper := congrArg (fun x => x.n.ch.upper) (countBy_core d blk idx cell n s)
@[simp] theorem countBy_n_ch_timedOut (d : Die) (blk idx cell n : Nat) (s : Node) : (countBy d blk idx cell n s).n.ch.timedOut = s.n.ch.timedOut := congrArg (fun x => x.n.ch.timedOut) (countBy_core d blk idx cell n s)
@[simp] theorem countBy_n_ch_timer (d : Die) (blk idx cell n : Nat) (s : Node) : (countBy d blk idx cell n s).n.ch.timer = s.n.ch.timer := congrArg (fun x => x.n.ch.timer) (countBy_core d blk idx cell n s)
@[simp] theorem countBy_n_ch_timeout (d : Die) (blk idx cell n : Nat) (s : Node) : (countBy d blk idx cell n s).n.ch.timeout = s.n.ch.timeout := congrArg (fun x => x.n.ch.timeout) (countBy_core d blk idx cell n s)
@[simp] theorem countBy_n_ch_far (d : Die) (blk idx cell n : Nat) (s : Node) : (countBy d blk idx cell n s).n.ch.far = s.n.ch.far := congrArg (fun x => x.n.ch.far) (countBy_core d blk idx cell n s)
@[simp] theorem countBy_n_ch_changeDue (d : Die) (blk idx cell n : Nat) (s : Node) : (countBy d blk idx cell n s).n.ch.changeDue = s.n.ch.changeDue := congrArg (fun x => x.n.ch.changeDue) (countBy_core d blk idx cell n s)
@[simp] theorem countBy_n_loupe_tokens (d : Die) (blk idx cell n : Nat) (s : Node) : (countBy d blk idx cell n s).n.loupe.tokens = s.n.loupe.tokens := congrArg (fun x => x.n.loupe.tokens) (countBy_core d blk idx cell n s)
@[simp] theorem countBy_f_phase (d : Die) (blk idx cell n : Nat) (s : Node) : (countBy d blk idx cell n s).f.phase = s.f.phase := congrArg (fun x => x.f.phase) (countBy_core d blk idx cell n s)
@[simp] theorem countBy_f_cause (d : Die) (blk idx cell n : Nat) (s : Node) : (countBy d blk idx cell n s).f.cause = s.f.cause := congrArg (fun x => x.f.cause) (countBy_core d blk idx cell n s)
@[simp] theorem countBy_f_ticks (d : Die) (blk idx cell n : Nat) (s : Node) : (countBy d blk idx cell n s).f.ticks = s.f.ticks := congrArg (fun x => x.f.ticks) (countBy_core d blk idx cell n s)
@[simp] theorem countBy_f_undervoltage (d : Die) (blk idx cell n : Nat) (s : Node) : (countBy d blk idx cell n s).f.undervoltage = s.f.undervoltage := congrArg (fun x => x.f.undervoltage) (countBy_core d blk idx cell n s)
@[simp] theorem countBy_f_waitExpired (d : Die) (blk idx cell n : Nat) (s : Node) : (countBy d blk idx cell n s).f.waitExpired = s.f.waitExpired := congrArg (fun x => x.f.waitExpired) (countBy_core d blk idx cell n s)
@[simp] theorem countBy_f_clasp_link (d : Die) (blk idx cell n : Nat) (s : Node) : (countBy d blk idx cell n s).f.clasp.link = s.f.clasp.link := congrArg (fun x => x.f.clasp.link) (countBy_core d blk idx cell n s)
@[simp] theorem countBy_f_clasp_trained (d : Die) (blk idx cell n : Nat) (s : Node) : (countBy d blk idx cell n s).f.clasp.trained = s.f.clasp.trained := congrArg (fun x => x.f.clasp.trained) (countBy_core d blk idx cell n s)
@[simp] theorem countBy_f_clasp_synth (d : Die) (blk idx cell n : Nat) (s : Node) : (countBy d blk idx cell n s).f.clasp.synth = s.f.clasp.synth := congrArg (fun x => x.f.clasp.synth) (countBy_core d blk idx cell n s)
@[simp] theorem countBy_f_clasp_half (d : Die) (blk idx cell n : Nat) (s : Node) : (countBy d blk idx cell n s).f.clasp.half = s.f.clasp.half := congrArg (fun x => x.f.clasp.half) (countBy_core d blk idx cell n s)
@[simp] theorem countBy_f_clasp_swing (d : Die) (blk idx cell n : Nat) (s : Node) : (countBy d blk idx cell n s).f.clasp.swing = s.f.clasp.swing := congrArg (fun x => x.f.clasp.swing) (countBy_core d blk idx cell n s)
@[simp] theorem countBy_f_clasp_lossSeen (d : Die) (blk idx cell n : Nat) (s : Node) : (countBy d blk idx cell n s).f.clasp.lossSeen = s.f.clasp.lossSeen := congrArg (fun x => x.f.clasp.lossSeen) (countBy_core d blk idx cell n s)
@[simp] theorem countBy_f_clasp_rxSeq (d : Die) (blk idx cell n : Nat) (s : Node) : (countBy d blk idx cell n s).f.clasp.rxSeq = s.f.clasp.rxSeq := congrArg (fun x => x.f.clasp.rxSeq) (countBy_core d blk idx cell n s)
@[simp] theorem countBy_f_clasp_orders (d : Die) (blk idx cell n : Nat) (s : Node) : (countBy d blk idx cell n s).f.clasp.orders = s.f.clasp.orders := congrArg (fun x => x.f.clasp.orders) (countBy_core d blk idx cell n s)
@[simp] theorem countBy_f_ch_map (d : Die) (blk idx cell n : Nat) (s : Node) : (countBy d blk idx cell n s).f.ch.map = s.f.ch.map := congrArg (fun x => x.f.ch.map) (countBy_core d blk idx cell n s)
@[simp] theorem countBy_f_ch_upper (d : Die) (blk idx cell n : Nat) (s : Node) : (countBy d blk idx cell n s).f.ch.upper = s.f.ch.upper := congrArg (fun x => x.f.ch.upper) (countBy_core d blk idx cell n s)
@[simp] theorem countBy_f_ch_timedOut (d : Die) (blk idx cell n : Nat) (s : Node) : (countBy d blk idx cell n s).f.ch.timedOut = s.f.ch.timedOut := congrArg (fun x => x.f.ch.timedOut) (countBy_core d blk idx cell n s)
@[simp] theorem countBy_f_ch_timer (d : Die) (blk idx cell n : Nat) (s : Node) : (countBy d blk idx cell n s).f.ch.timer = s.f.ch.timer := congrArg (fun x => x.f.ch.timer) (countBy_core d blk idx cell n s)
@[simp] theorem countBy_f_ch_timeout (d : Die) (blk idx cell n : Nat) (s : Node) : (countBy d blk idx cell n s).f.ch.timeout = s.f.ch.timeout := congrArg (fun x => x.f.ch.timeout) (countBy_core d blk idx cell n s)
@[simp] theorem countBy_f_ch_far (d : Die) (blk idx cell n : Nat) (s : Node) : (countBy d blk idx cell n s).f.ch.far = s.f.ch.far := congrArg (fun x => x.f.ch.far) (countBy_core d blk idx cell n s)
@[simp] theorem countBy_f_ch_changeDue (d : Die) (blk idx cell n : Nat) (s : Node) : (countBy d blk idx cell n s).f.ch.changeDue = s.f.ch.changeDue := congrArg (fun x => x.f.ch.changeDue) (countBy_core d blk idx cell n s)
@[simp] theorem countBy_f_loupe_tokens (d : Die) (blk idx cell n : Nat) (s : Node) : (countBy d blk idx cell n s).f.loupe.tokens = s.f.loupe.tokens := congrArg (fun x => x.f.loupe.tokens) (countBy_core d blk idx cell n s)
@[simp] theorem countBy_f_inbox (d : Die) (blk idx cell n : Nat) (s : Node) : (countBy d blk idx cell n s).f.inbox = s.f.inbox := congrArg (fun x => x.f.inbox) (countBy_core d blk idx cell n s)
@[simp] theorem countBy_f_fol (d : Die) (blk idx cell n : Nat) (s : Node) : (countBy d blk idx cell n s).f.fol = s.f.fol := congrArg (fun x => x.f.fol) (countBy_core d blk idx cell n s)
@[simp] theorem countBy_f_chain (d : Die) (blk idx cell n : Nat) (s : Node) : (countBy d blk idx cell n s).f.chain = s.f.chain := congrArg (fun x => x.f.chain) (countBy_core d blk idx cell n s)
@[simp] theorem countBy_f_park (d : Die) (blk idx cell n : Nat) (s : Node) : (countBy d blk idx cell n s).f.park = s.f.park := congrArg (fun x => x.f.park) (countBy_core d blk idx cell n s)
@[simp] theorem countBy_f_beads (d : Die) (blk idx cell n : Nat) (s : Node) : (countBy d blk idx cell n s).f.beads = s.f.beads := congrArg (fun x => x.f.beads) (countBy_core d blk idx cell n s)
@[simp] theorem countBy_f_linkA (d : Die) (blk idx cell n : Nat) (s : Node) : (countBy d blk idx cell n s).f.linkA = s.f.linkA := congrArg (fun x => x.f.linkA) (countBy_core d blk idx cell n s)
@[simp] theorem countBy_f_linkB (d : Die) (blk idx cell n : Nat) (s : Node) : (countBy d blk idx cell n s).f.linkB = s.f.linkB := congrArg (fun x => x.f.linkB) (countBy_core d blk idx cell n s)
@[simp] theorem countBy_f_linkC (d : Die) (blk idx cell n : Nat) (s : Node) : (countBy d blk idx cell n s).f.linkC = s.f.linkC := congrArg (fun x => x.f.linkC) (countBy_core d blk idx cell n s)
@[simp] theorem countBy_f_safe0 (d : Die) (blk idx cell n : Nat) (s : Node) : (countBy d blk idx cell n s).f.safe0 = s.f.safe0 := congrArg (fun x => x.f.safe0) (countBy_core d blk idx cell n s)
@[simp] theorem countBy_f_safe1 (d : Die) (blk idx cell n : Nat) (s : Node) : (countBy d blk idx cell n s).f.safe1 = s.f.safe1 := congrArg (fun x => x.f.safe1) (countBy_core d blk idx cell n s)
@[simp] theorem countBy_f_pullQueue (d : Die) (blk idx cell n : Nat) (s : Node) : (countBy d blk idx cell n s).f.pullQueue = s.f.pullQueue := congrArg (fun x => x.f.pullQueue) (countBy_core d blk idx cell n s)
@[simp] theorem countBy_f_fport_current (d : Die) (blk idx cell n : Nat) (s : Node) : (countBy d blk idx cell n s).f.fport.current = s.f.fport.current := congrArg (fun x => x.f.fport.current) (countBy_core d blk idx cell n s)
@[simp] theorem countBy_f_fport_queue (d : Die) (blk idx cell n : Nat) (s : Node) : (countBy d blk idx cell n s).f.fport.queue = s.f.fport.queue := congrArg (fun x => x.f.fport.queue) (countBy_core d blk idx cell n s)
@[simp] theorem countBy_f_fport_job (d : Die) (blk idx cell n : Nat) (s : Node) : (countBy d blk idx cell n s).f.fport.job = s.f.fport.job := congrArg (fun x => x.f.fport.job) (countBy_core d blk idx cell n s)
@[simp] theorem countBy_f_fport_erase (d : Die) (blk idx cell n : Nat) (s : Node) : (countBy d blk idx cell n s).f.fport.erase = s.f.fport.erase := congrArg (fun x => x.f.fport.erase) (countBy_core d blk idx cell n s)
@[simp] theorem countBy_f_fport_recovering (d : Die) (blk idx cell n : Nat) (s : Node) : (countBy d blk idx cell n s).f.fport.recovering = s.f.fport.recovering := congrArg (fun x => x.f.fport.recovering) (countBy_core d blk idx cell n s)
@[simp] theorem countBy_f_fport_tunnels (d : Die) (blk idx cell n : Nat) (s : Node) : (countBy d blk idx cell n s).f.fport.tunnels = s.f.fport.tunnels := congrArg (fun x => x.f.fport.tunnels) (countBy_core d blk idx cell n s)
@[simp] theorem countBy_f_fport_sfdp (d : Die) (blk idx cell n : Nat) (s : Node) : (countBy d blk idx cell n s).f.fport.sfdp = s.f.fport.sfdp := congrArg (fun x => x.f.fport.sfdp) (countBy_core d blk idx cell n s)
@[simp] theorem countBy_f_fport_proposals (d : Die) (blk idx cell n : Nat) (s : Node) : (countBy d blk idx cell n s).f.fport.proposals = s.f.fport.proposals := congrArg (fun x => x.f.fport.proposals) (countBy_core d blk idx cell n s)
@[simp] theorem countBy_nUp (d : Die) (blk idx cell n : Nat) (s : Node) : (countBy d blk idx cell n s).nUp = s.nUp := by simp [Node.nUp]
@[simp] theorem countBy_fUp (d : Die) (blk idx cell n : Nat) (s : Node) : (countBy d blk idx cell n s).fUp = s.fUp := by simp [Node.fUp]
@[simp] theorem countBy_trained (d : Die) (blk idx cell n : Nat) (s : Node) : (countBy d blk idx cell n s).trained = s.trained := by simp [Node.trained]
@[simp] theorem countBy_linkUp (d : Die) (blk idx cell n : Nat) (s : Node) : (countBy d blk idx cell n s).linkUp = s.linkUp := by simp [Node.linkUp]
@[simp] theorem countBy_up (d : Die) (blk idx cell n : Nat) (s : Node) (e : Die) : (countBy d blk idx cell n s).up e = s.up e := by cases e <;> simp [Node.up]
@[simp] theorem countBy_valAt (d : Die) (blk idx cell n : Nat) (s : Node) (key sel : Nat) : (countBy d blk idx cell n s).valAt key sel = s.valAt key sel := by simp [Node.valAt]
@[simp] theorem countBy_val (d : Die) (blk idx cell n : Nat) (s : Node) (key : Nat) : (countBy d blk idx cell n s).val key = s.val key := by simp [Node.val]
@[simp] theorem countBy_blob (d : Die) (blk idx cell n : Nat) (s : Node) (key : Nat) : (countBy d blk idx cell n s).blob key = s.blob key := by simp [Node.blob]

/-! bump. -/

@[simp] theorem bump_vals (d : Die) (blk idx cell : Nat) (s : Node) : (bump d blk idx cell s).vals = s.vals := congrArg (fun x => x.vals) (bump_core d blk idx cell s)
@[simp] theorem bump_blobs (d : Die) (blk idx cell : Nat) (s : Node) : (bump d blk idx cell s).blobs = s.blobs := congrArg (fun x => x.blobs) (bump_core d blk idx cell s)
@[simp] theorem bump_nLedger (d : Die) (blk idx cell : Nat) (s : Node) : (bump d blk idx cell s).nLedger = s.nLedger := congrArg (fun x => x.nLedger) (bump_core d blk idx cell s)
@[simp] theorem bump_fLedger (d : Die) (blk idx cell : Nat) (s : Node) : (bump d blk idx cell s).fLedger = s.fLedger := congrArg (fun x => x.fLedger) (bump_core d blk idx cell s)
@[simp] theorem bump_n_agree (d : Die) (blk idx cell : Nat) (s : Node) : (bump d blk idx cell s).n.agree = s.n.agree := congrArg (fun x => x.n.agree) (bump_core d blk idx cell s)
@[simp] theorem bump_n_dict (d : Die) (blk idx cell : Nat) (s : Node) : (bump d blk idx cell s).n.dict = s.n.dict := congrArg (fun x => x.n.dict) (bump_core d blk idx cell s)
@[simp] theorem bump_n_port (d : Die) (blk idx cell : Nat) (s : Node) : (bump d blk idx cell s).n.port = s.n.port := congrArg (fun x => x.n.port) (bump_core d blk idx cell s)
@[simp] theorem bump_n_hm (d : Die) (blk idx cell : Nat) (s : Node) : (bump d blk idx cell s).n.hm = s.n.hm := congrArg (fun x => x.n.hm) (bump_core d blk idx cell s)
@[simp] theorem bump_n_bar (d : Die) (blk idx cell : Nat) (s : Node) : (bump d blk idx cell s).n.bar = s.n.bar := congrArg (fun x => x.n.bar) (bump_core d blk idx cell s)
@[simp] theorem bump_n_pow (d : Die) (blk idx cell : Nat) (s : Node) : (bump d blk idx cell s).n.pow = s.n.pow := congrArg (fun x => x.n.pow) (bump_core d blk idx cell s)
@[simp] theorem bump_n_number (d : Die) (blk idx cell : Nat) (s : Node) : (bump d blk idx cell s).n.number = s.n.number := congrArg (fun x => x.n.number) (bump_core d blk idx cell s)
@[simp] theorem bump_n_trainings (d : Die) (blk idx cell : Nat) (s : Node) : (bump d blk idx cell s).n.trainings = s.n.trainings := congrArg (fun x => x.n.trainings) (bump_core d blk idx cell s)
@[simp] theorem bump_n_crystal (d : Die) (blk idx cell : Nat) (s : Node) : (bump d blk idx cell s).n.crystal = s.n.crystal := congrArg (fun x => x.n.crystal) (bump_core d blk idx cell s)
@[simp] theorem bump_n_straps (d : Die) (blk idx cell : Nat) (s : Node) : (bump d blk idx cell s).n.straps = s.n.straps := congrArg (fun x => x.n.straps) (bump_core d blk idx cell s)
@[simp] theorem bump_n_floating (d : Die) (blk idx cell : Nat) (s : Node) : (bump d blk idx cell s).n.floating = s.n.floating := congrArg (fun x => x.n.floating) (bump_core d blk idx cell s)
@[simp] theorem bump_n_runDeferred (d : Die) (blk idx cell : Nat) (s : Node) : (bump d blk idx cell s).n.runDeferred = s.n.runDeferred := congrArg (fun x => x.n.runDeferred) (bump_core d blk idx cell s)
@[simp] theorem bump_n_can_state (d : Die) (blk idx cell : Nat) (s : Node) : (bump d blk idx cell s).n.can.state = s.n.can.state := congrArg (fun x => x.n.can.state) (bump_core d blk idx cell s)
@[simp] theorem bump_n_can_tx (d : Die) (blk idx cell : Nat) (s : Node) : (bump d blk idx cell s).n.can.tx = s.n.can.tx := congrArg (fun x => x.n.can.tx) (bump_core d blk idx cell s)
@[simp] theorem bump_n_can_tecCount (d : Die) (blk idx cell : Nat) (s : Node) : (bump d blk idx cell s).n.can.tecCount = s.n.can.tecCount := congrArg (fun x => x.n.can.tecCount) (bump_core d blk idx cell s)
@[simp] theorem bump_n_can_recCount (d : Die) (blk idx cell : Nat) (s : Node) : (bump d blk idx cell s).n.can.recCount = s.n.can.recCount := congrArg (fun x => x.n.can.recCount) (bump_core d blk idx cell s)
@[simp] theorem bump_n_can_txvr (d : Die) (blk idx cell : Nat) (s : Node) : (bump d blk idx cell s).n.can.txvr = s.n.can.txvr := congrArg (fun x => x.n.can.txvr) (bump_core d blk idx cell s)
@[simp] theorem bump_n_can_driver (d : Die) (blk idx cell : Nat) (s : Node) : (bump d blk idx cell s).n.can.driver = s.n.can.driver := congrArg (fun x => x.n.can.driver) (bump_core d blk idx cell s)
@[simp] theorem bump_n_can_syncSeen (d : Die) (blk idx cell : Nat) (s : Node) : (bump d blk idx cell s).n.can.syncSeen = s.n.can.syncSeen := congrArg (fun x => x.n.can.syncSeen) (bump_core d blk idx cell s)
@[simp] theorem bump_n_can_tunnelFirst (d : Die) (blk idx cell : Nat) (s : Node) : (bump d blk idx cell s).n.can.tunnelFirst = s.n.can.tunnelFirst := congrArg (fun x => x.n.can.tunnelFirst) (bump_core d blk idx cell s)
@[simp] theorem bump_n_phase (d : Die) (blk idx cell : Nat) (s : Node) : (bump d blk idx cell s).n.phase = s.n.phase := congrArg (fun x => x.n.phase) (bump_core d blk idx cell s)
@[simp] theorem bump_n_cause (d : Die) (blk idx cell : Nat) (s : Node) : (bump d blk idx cell s).n.cause = s.n.cause := congrArg (fun x => x.n.cause) (bump_core d blk idx cell s)
@[simp] theorem bump_n_ticks (d : Die) (blk idx cell : Nat) (s : Node) : (bump d blk idx cell s).n.ticks = s.n.ticks := congrArg (fun x => x.n.ticks) (bump_core d blk idx cell s)
@[simp] theorem bump_n_undervoltage (d : Die) (blk idx cell : Nat) (s : Node) : (bump d blk idx cell s).n.undervoltage = s.n.undervoltage := congrArg (fun x => x.n.undervoltage) (bump_core d blk idx cell s)
@[simp] theorem bump_n_waitExpired (d : Die) (blk idx cell : Nat) (s : Node) : (bump d blk idx cell s).n.waitExpired = s.n.waitExpired := congrArg (fun x => x.n.waitExpired) (bump_core d blk idx cell s)
@[simp] theorem bump_n_clasp_link (d : Die) (blk idx cell : Nat) (s : Node) : (bump d blk idx cell s).n.clasp.link = s.n.clasp.link := congrArg (fun x => x.n.clasp.link) (bump_core d blk idx cell s)
@[simp] theorem bump_n_clasp_trained (d : Die) (blk idx cell : Nat) (s : Node) : (bump d blk idx cell s).n.clasp.trained = s.n.clasp.trained := congrArg (fun x => x.n.clasp.trained) (bump_core d blk idx cell s)
@[simp] theorem bump_n_clasp_synth (d : Die) (blk idx cell : Nat) (s : Node) : (bump d blk idx cell s).n.clasp.synth = s.n.clasp.synth := congrArg (fun x => x.n.clasp.synth) (bump_core d blk idx cell s)
@[simp] theorem bump_n_clasp_half (d : Die) (blk idx cell : Nat) (s : Node) : (bump d blk idx cell s).n.clasp.half = s.n.clasp.half := congrArg (fun x => x.n.clasp.half) (bump_core d blk idx cell s)
@[simp] theorem bump_n_clasp_swing (d : Die) (blk idx cell : Nat) (s : Node) : (bump d blk idx cell s).n.clasp.swing = s.n.clasp.swing := congrArg (fun x => x.n.clasp.swing) (bump_core d blk idx cell s)
@[simp] theorem bump_n_clasp_lossSeen (d : Die) (blk idx cell : Nat) (s : Node) : (bump d blk idx cell s).n.clasp.lossSeen = s.n.clasp.lossSeen := congrArg (fun x => x.n.clasp.lossSeen) (bump_core d blk idx cell s)
@[simp] theorem bump_n_clasp_rxSeq (d : Die) (blk idx cell : Nat) (s : Node) : (bump d blk idx cell s).n.clasp.rxSeq = s.n.clasp.rxSeq := congrArg (fun x => x.n.clasp.rxSeq) (bump_core d blk idx cell s)
@[simp] theorem bump_n_clasp_orders (d : Die) (blk idx cell : Nat) (s : Node) : (bump d blk idx cell s).n.clasp.orders = s.n.clasp.orders := congrArg (fun x => x.n.clasp.orders) (bump_core d blk idx cell s)
@[simp] theorem bump_n_ch_map (d : Die) (blk idx cell : Nat) (s : Node) : (bump d blk idx cell s).n.ch.map = s.n.ch.map := congrArg (fun x => x.n.ch.map) (bump_core d blk idx cell s)
@[simp] theorem bump_n_ch_upper (d : Die) (blk idx cell : Nat) (s : Node) : (bump d blk idx cell s).n.ch.upper = s.n.ch.upper := congrArg (fun x => x.n.ch.upper) (bump_core d blk idx cell s)
@[simp] theorem bump_n_ch_timedOut (d : Die) (blk idx cell : Nat) (s : Node) : (bump d blk idx cell s).n.ch.timedOut = s.n.ch.timedOut := congrArg (fun x => x.n.ch.timedOut) (bump_core d blk idx cell s)
@[simp] theorem bump_n_ch_timer (d : Die) (blk idx cell : Nat) (s : Node) : (bump d blk idx cell s).n.ch.timer = s.n.ch.timer := congrArg (fun x => x.n.ch.timer) (bump_core d blk idx cell s)
@[simp] theorem bump_n_ch_timeout (d : Die) (blk idx cell : Nat) (s : Node) : (bump d blk idx cell s).n.ch.timeout = s.n.ch.timeout := congrArg (fun x => x.n.ch.timeout) (bump_core d blk idx cell s)
@[simp] theorem bump_n_ch_far (d : Die) (blk idx cell : Nat) (s : Node) : (bump d blk idx cell s).n.ch.far = s.n.ch.far := congrArg (fun x => x.n.ch.far) (bump_core d blk idx cell s)
@[simp] theorem bump_n_ch_changeDue (d : Die) (blk idx cell : Nat) (s : Node) : (bump d blk idx cell s).n.ch.changeDue = s.n.ch.changeDue := congrArg (fun x => x.n.ch.changeDue) (bump_core d blk idx cell s)
@[simp] theorem bump_n_loupe_tokens (d : Die) (blk idx cell : Nat) (s : Node) : (bump d blk idx cell s).n.loupe.tokens = s.n.loupe.tokens := congrArg (fun x => x.n.loupe.tokens) (bump_core d blk idx cell s)
@[simp] theorem bump_f_phase (d : Die) (blk idx cell : Nat) (s : Node) : (bump d blk idx cell s).f.phase = s.f.phase := congrArg (fun x => x.f.phase) (bump_core d blk idx cell s)
@[simp] theorem bump_f_cause (d : Die) (blk idx cell : Nat) (s : Node) : (bump d blk idx cell s).f.cause = s.f.cause := congrArg (fun x => x.f.cause) (bump_core d blk idx cell s)
@[simp] theorem bump_f_ticks (d : Die) (blk idx cell : Nat) (s : Node) : (bump d blk idx cell s).f.ticks = s.f.ticks := congrArg (fun x => x.f.ticks) (bump_core d blk idx cell s)
@[simp] theorem bump_f_undervoltage (d : Die) (blk idx cell : Nat) (s : Node) : (bump d blk idx cell s).f.undervoltage = s.f.undervoltage := congrArg (fun x => x.f.undervoltage) (bump_core d blk idx cell s)
@[simp] theorem bump_f_waitExpired (d : Die) (blk idx cell : Nat) (s : Node) : (bump d blk idx cell s).f.waitExpired = s.f.waitExpired := congrArg (fun x => x.f.waitExpired) (bump_core d blk idx cell s)
@[simp] theorem bump_f_clasp_link (d : Die) (blk idx cell : Nat) (s : Node) : (bump d blk idx cell s).f.clasp.link = s.f.clasp.link := congrArg (fun x => x.f.clasp.link) (bump_core d blk idx cell s)
@[simp] theorem bump_f_clasp_trained (d : Die) (blk idx cell : Nat) (s : Node) : (bump d blk idx cell s).f.clasp.trained = s.f.clasp.trained := congrArg (fun x => x.f.clasp.trained) (bump_core d blk idx cell s)
@[simp] theorem bump_f_clasp_synth (d : Die) (blk idx cell : Nat) (s : Node) : (bump d blk idx cell s).f.clasp.synth = s.f.clasp.synth := congrArg (fun x => x.f.clasp.synth) (bump_core d blk idx cell s)
@[simp] theorem bump_f_clasp_half (d : Die) (blk idx cell : Nat) (s : Node) : (bump d blk idx cell s).f.clasp.half = s.f.clasp.half := congrArg (fun x => x.f.clasp.half) (bump_core d blk idx cell s)
@[simp] theorem bump_f_clasp_swing (d : Die) (blk idx cell : Nat) (s : Node) : (bump d blk idx cell s).f.clasp.swing = s.f.clasp.swing := congrArg (fun x => x.f.clasp.swing) (bump_core d blk idx cell s)
@[simp] theorem bump_f_clasp_lossSeen (d : Die) (blk idx cell : Nat) (s : Node) : (bump d blk idx cell s).f.clasp.lossSeen = s.f.clasp.lossSeen := congrArg (fun x => x.f.clasp.lossSeen) (bump_core d blk idx cell s)
@[simp] theorem bump_f_clasp_rxSeq (d : Die) (blk idx cell : Nat) (s : Node) : (bump d blk idx cell s).f.clasp.rxSeq = s.f.clasp.rxSeq := congrArg (fun x => x.f.clasp.rxSeq) (bump_core d blk idx cell s)
@[simp] theorem bump_f_clasp_orders (d : Die) (blk idx cell : Nat) (s : Node) : (bump d blk idx cell s).f.clasp.orders = s.f.clasp.orders := congrArg (fun x => x.f.clasp.orders) (bump_core d blk idx cell s)
@[simp] theorem bump_f_ch_map (d : Die) (blk idx cell : Nat) (s : Node) : (bump d blk idx cell s).f.ch.map = s.f.ch.map := congrArg (fun x => x.f.ch.map) (bump_core d blk idx cell s)
@[simp] theorem bump_f_ch_upper (d : Die) (blk idx cell : Nat) (s : Node) : (bump d blk idx cell s).f.ch.upper = s.f.ch.upper := congrArg (fun x => x.f.ch.upper) (bump_core d blk idx cell s)
@[simp] theorem bump_f_ch_timedOut (d : Die) (blk idx cell : Nat) (s : Node) : (bump d blk idx cell s).f.ch.timedOut = s.f.ch.timedOut := congrArg (fun x => x.f.ch.timedOut) (bump_core d blk idx cell s)
@[simp] theorem bump_f_ch_timer (d : Die) (blk idx cell : Nat) (s : Node) : (bump d blk idx cell s).f.ch.timer = s.f.ch.timer := congrArg (fun x => x.f.ch.timer) (bump_core d blk idx cell s)
@[simp] theorem bump_f_ch_timeout (d : Die) (blk idx cell : Nat) (s : Node) : (bump d blk idx cell s).f.ch.timeout = s.f.ch.timeout := congrArg (fun x => x.f.ch.timeout) (bump_core d blk idx cell s)
@[simp] theorem bump_f_ch_far (d : Die) (blk idx cell : Nat) (s : Node) : (bump d blk idx cell s).f.ch.far = s.f.ch.far := congrArg (fun x => x.f.ch.far) (bump_core d blk idx cell s)
@[simp] theorem bump_f_ch_changeDue (d : Die) (blk idx cell : Nat) (s : Node) : (bump d blk idx cell s).f.ch.changeDue = s.f.ch.changeDue := congrArg (fun x => x.f.ch.changeDue) (bump_core d blk idx cell s)
@[simp] theorem bump_f_loupe_tokens (d : Die) (blk idx cell : Nat) (s : Node) : (bump d blk idx cell s).f.loupe.tokens = s.f.loupe.tokens := congrArg (fun x => x.f.loupe.tokens) (bump_core d blk idx cell s)
@[simp] theorem bump_f_inbox (d : Die) (blk idx cell : Nat) (s : Node) : (bump d blk idx cell s).f.inbox = s.f.inbox := congrArg (fun x => x.f.inbox) (bump_core d blk idx cell s)
@[simp] theorem bump_f_fol (d : Die) (blk idx cell : Nat) (s : Node) : (bump d blk idx cell s).f.fol = s.f.fol := congrArg (fun x => x.f.fol) (bump_core d blk idx cell s)
@[simp] theorem bump_f_chain (d : Die) (blk idx cell : Nat) (s : Node) : (bump d blk idx cell s).f.chain = s.f.chain := congrArg (fun x => x.f.chain) (bump_core d blk idx cell s)
@[simp] theorem bump_f_park (d : Die) (blk idx cell : Nat) (s : Node) : (bump d blk idx cell s).f.park = s.f.park := congrArg (fun x => x.f.park) (bump_core d blk idx cell s)
@[simp] theorem bump_f_beads (d : Die) (blk idx cell : Nat) (s : Node) : (bump d blk idx cell s).f.beads = s.f.beads := congrArg (fun x => x.f.beads) (bump_core d blk idx cell s)
@[simp] theorem bump_f_linkA (d : Die) (blk idx cell : Nat) (s : Node) : (bump d blk idx cell s).f.linkA = s.f.linkA := congrArg (fun x => x.f.linkA) (bump_core d blk idx cell s)
@[simp] theorem bump_f_linkB (d : Die) (blk idx cell : Nat) (s : Node) : (bump d blk idx cell s).f.linkB = s.f.linkB := congrArg (fun x => x.f.linkB) (bump_core d blk idx cell s)
@[simp] theorem bump_f_linkC (d : Die) (blk idx cell : Nat) (s : Node) : (bump d blk idx cell s).f.linkC = s.f.linkC := congrArg (fun x => x.f.linkC) (bump_core d blk idx cell s)
@[simp] theorem bump_f_safe0 (d : Die) (blk idx cell : Nat) (s : Node) : (bump d blk idx cell s).f.safe0 = s.f.safe0 := congrArg (fun x => x.f.safe0) (bump_core d blk idx cell s)
@[simp] theorem bump_f_safe1 (d : Die) (blk idx cell : Nat) (s : Node) : (bump d blk idx cell s).f.safe1 = s.f.safe1 := congrArg (fun x => x.f.safe1) (bump_core d blk idx cell s)
@[simp] theorem bump_f_pullQueue (d : Die) (blk idx cell : Nat) (s : Node) : (bump d blk idx cell s).f.pullQueue = s.f.pullQueue := congrArg (fun x => x.f.pullQueue) (bump_core d blk idx cell s)
@[simp] theorem bump_f_fport_current (d : Die) (blk idx cell : Nat) (s : Node) : (bump d blk idx cell s).f.fport.current = s.f.fport.current := congrArg (fun x => x.f.fport.current) (bump_core d blk idx cell s)
@[simp] theorem bump_f_fport_queue (d : Die) (blk idx cell : Nat) (s : Node) : (bump d blk idx cell s).f.fport.queue = s.f.fport.queue := congrArg (fun x => x.f.fport.queue) (bump_core d blk idx cell s)
@[simp] theorem bump_f_fport_job (d : Die) (blk idx cell : Nat) (s : Node) : (bump d blk idx cell s).f.fport.job = s.f.fport.job := congrArg (fun x => x.f.fport.job) (bump_core d blk idx cell s)
@[simp] theorem bump_f_fport_erase (d : Die) (blk idx cell : Nat) (s : Node) : (bump d blk idx cell s).f.fport.erase = s.f.fport.erase := congrArg (fun x => x.f.fport.erase) (bump_core d blk idx cell s)
@[simp] theorem bump_f_fport_recovering (d : Die) (blk idx cell : Nat) (s : Node) : (bump d blk idx cell s).f.fport.recovering = s.f.fport.recovering := congrArg (fun x => x.f.fport.recovering) (bump_core d blk idx cell s)
@[simp] theorem bump_f_fport_tunnels (d : Die) (blk idx cell : Nat) (s : Node) : (bump d blk idx cell s).f.fport.tunnels = s.f.fport.tunnels := congrArg (fun x => x.f.fport.tunnels) (bump_core d blk idx cell s)
@[simp] theorem bump_f_fport_sfdp (d : Die) (blk idx cell : Nat) (s : Node) : (bump d blk idx cell s).f.fport.sfdp = s.f.fport.sfdp := congrArg (fun x => x.f.fport.sfdp) (bump_core d blk idx cell s)
@[simp] theorem bump_f_fport_proposals (d : Die) (blk idx cell : Nat) (s : Node) : (bump d blk idx cell s).f.fport.proposals = s.f.fport.proposals := congrArg (fun x => x.f.fport.proposals) (bump_core d blk idx cell s)
@[simp] theorem bump_nUp (d : Die) (blk idx cell : Nat) (s : Node) : (bump d blk idx cell s).nUp = s.nUp := by simp [Node.nUp]
@[simp] theorem bump_fUp (d : Die) (blk idx cell : Nat) (s : Node) : (bump d blk idx cell s).fUp = s.fUp := by simp [Node.fUp]
@[simp] theorem bump_trained (d : Die) (blk idx cell : Nat) (s : Node) : (bump d blk idx cell s).trained = s.trained := by simp [Node.trained]
@[simp] theorem bump_linkUp (d : Die) (blk idx cell : Nat) (s : Node) : (bump d blk idx cell s).linkUp = s.linkUp := by simp [Node.linkUp]
@[simp] theorem bump_up (d : Die) (blk idx cell : Nat) (s : Node) (e : Die) : (bump d blk idx cell s).up e = s.up e := by cases e <;> simp [Node.up]
@[simp] theorem bump_valAt (d : Die) (blk idx cell : Nat) (s : Node) (key sel : Nat) : (bump d blk idx cell s).valAt key sel = s.valAt key sel := by simp [Node.valAt]
@[simp] theorem bump_val (d : Die) (blk idx cell : Nat) (s : Node) (key : Nat) : (bump d blk idx cell s).val key = s.val key := by simp [Node.val]
@[simp] theorem bump_blob (d : Die) (blk idx cell : Nat) (s : Node) (key : Nat) : (bump d blk idx cell s).blob key = s.blob key := by simp [Node.blob]

/-! peak. -/

@[simp] theorem peak_vals (d : Die) (blk idx cell v : Nat) (s : Node) : (peak d blk idx cell v s).vals = s.vals := congrArg (fun x => x.vals) (peak_core d blk idx cell v s)
@[simp] theorem peak_blobs (d : Die) (blk idx cell v : Nat) (s : Node) : (peak d blk idx cell v s).blobs = s.blobs := congrArg (fun x => x.blobs) (peak_core d blk idx cell v s)
@[simp] theorem peak_nLedger (d : Die) (blk idx cell v : Nat) (s : Node) : (peak d blk idx cell v s).nLedger = s.nLedger := congrArg (fun x => x.nLedger) (peak_core d blk idx cell v s)
@[simp] theorem peak_fLedger (d : Die) (blk idx cell v : Nat) (s : Node) : (peak d blk idx cell v s).fLedger = s.fLedger := congrArg (fun x => x.fLedger) (peak_core d blk idx cell v s)
@[simp] theorem peak_n_agree (d : Die) (blk idx cell v : Nat) (s : Node) : (peak d blk idx cell v s).n.agree = s.n.agree := congrArg (fun x => x.n.agree) (peak_core d blk idx cell v s)
@[simp] theorem peak_n_dict (d : Die) (blk idx cell v : Nat) (s : Node) : (peak d blk idx cell v s).n.dict = s.n.dict := congrArg (fun x => x.n.dict) (peak_core d blk idx cell v s)
@[simp] theorem peak_n_port (d : Die) (blk idx cell v : Nat) (s : Node) : (peak d blk idx cell v s).n.port = s.n.port := congrArg (fun x => x.n.port) (peak_core d blk idx cell v s)
@[simp] theorem peak_n_hm (d : Die) (blk idx cell v : Nat) (s : Node) : (peak d blk idx cell v s).n.hm = s.n.hm := congrArg (fun x => x.n.hm) (peak_core d blk idx cell v s)
@[simp] theorem peak_n_bar (d : Die) (blk idx cell v : Nat) (s : Node) : (peak d blk idx cell v s).n.bar = s.n.bar := congrArg (fun x => x.n.bar) (peak_core d blk idx cell v s)
@[simp] theorem peak_n_pow (d : Die) (blk idx cell v : Nat) (s : Node) : (peak d blk idx cell v s).n.pow = s.n.pow := congrArg (fun x => x.n.pow) (peak_core d blk idx cell v s)
@[simp] theorem peak_n_number (d : Die) (blk idx cell v : Nat) (s : Node) : (peak d blk idx cell v s).n.number = s.n.number := congrArg (fun x => x.n.number) (peak_core d blk idx cell v s)
@[simp] theorem peak_n_trainings (d : Die) (blk idx cell v : Nat) (s : Node) : (peak d blk idx cell v s).n.trainings = s.n.trainings := congrArg (fun x => x.n.trainings) (peak_core d blk idx cell v s)
@[simp] theorem peak_n_crystal (d : Die) (blk idx cell v : Nat) (s : Node) : (peak d blk idx cell v s).n.crystal = s.n.crystal := congrArg (fun x => x.n.crystal) (peak_core d blk idx cell v s)
@[simp] theorem peak_n_straps (d : Die) (blk idx cell v : Nat) (s : Node) : (peak d blk idx cell v s).n.straps = s.n.straps := congrArg (fun x => x.n.straps) (peak_core d blk idx cell v s)
@[simp] theorem peak_n_floating (d : Die) (blk idx cell v : Nat) (s : Node) : (peak d blk idx cell v s).n.floating = s.n.floating := congrArg (fun x => x.n.floating) (peak_core d blk idx cell v s)
@[simp] theorem peak_n_runDeferred (d : Die) (blk idx cell v : Nat) (s : Node) : (peak d blk idx cell v s).n.runDeferred = s.n.runDeferred := congrArg (fun x => x.n.runDeferred) (peak_core d blk idx cell v s)
@[simp] theorem peak_n_can_state (d : Die) (blk idx cell v : Nat) (s : Node) : (peak d blk idx cell v s).n.can.state = s.n.can.state := congrArg (fun x => x.n.can.state) (peak_core d blk idx cell v s)
@[simp] theorem peak_n_can_tx (d : Die) (blk idx cell v : Nat) (s : Node) : (peak d blk idx cell v s).n.can.tx = s.n.can.tx := congrArg (fun x => x.n.can.tx) (peak_core d blk idx cell v s)
@[simp] theorem peak_n_can_tecCount (d : Die) (blk idx cell v : Nat) (s : Node) : (peak d blk idx cell v s).n.can.tecCount = s.n.can.tecCount := congrArg (fun x => x.n.can.tecCount) (peak_core d blk idx cell v s)
@[simp] theorem peak_n_can_recCount (d : Die) (blk idx cell v : Nat) (s : Node) : (peak d blk idx cell v s).n.can.recCount = s.n.can.recCount := congrArg (fun x => x.n.can.recCount) (peak_core d blk idx cell v s)
@[simp] theorem peak_n_can_txvr (d : Die) (blk idx cell v : Nat) (s : Node) : (peak d blk idx cell v s).n.can.txvr = s.n.can.txvr := congrArg (fun x => x.n.can.txvr) (peak_core d blk idx cell v s)
@[simp] theorem peak_n_can_driver (d : Die) (blk idx cell v : Nat) (s : Node) : (peak d blk idx cell v s).n.can.driver = s.n.can.driver := congrArg (fun x => x.n.can.driver) (peak_core d blk idx cell v s)
@[simp] theorem peak_n_can_syncSeen (d : Die) (blk idx cell v : Nat) (s : Node) : (peak d blk idx cell v s).n.can.syncSeen = s.n.can.syncSeen := congrArg (fun x => x.n.can.syncSeen) (peak_core d blk idx cell v s)
@[simp] theorem peak_n_can_tunnelFirst (d : Die) (blk idx cell v : Nat) (s : Node) : (peak d blk idx cell v s).n.can.tunnelFirst = s.n.can.tunnelFirst := congrArg (fun x => x.n.can.tunnelFirst) (peak_core d blk idx cell v s)
@[simp] theorem peak_n_phase (d : Die) (blk idx cell v : Nat) (s : Node) : (peak d blk idx cell v s).n.phase = s.n.phase := congrArg (fun x => x.n.phase) (peak_core d blk idx cell v s)
@[simp] theorem peak_n_cause (d : Die) (blk idx cell v : Nat) (s : Node) : (peak d blk idx cell v s).n.cause = s.n.cause := congrArg (fun x => x.n.cause) (peak_core d blk idx cell v s)
@[simp] theorem peak_n_ticks (d : Die) (blk idx cell v : Nat) (s : Node) : (peak d blk idx cell v s).n.ticks = s.n.ticks := congrArg (fun x => x.n.ticks) (peak_core d blk idx cell v s)
@[simp] theorem peak_n_undervoltage (d : Die) (blk idx cell v : Nat) (s : Node) : (peak d blk idx cell v s).n.undervoltage = s.n.undervoltage := congrArg (fun x => x.n.undervoltage) (peak_core d blk idx cell v s)
@[simp] theorem peak_n_waitExpired (d : Die) (blk idx cell v : Nat) (s : Node) : (peak d blk idx cell v s).n.waitExpired = s.n.waitExpired := congrArg (fun x => x.n.waitExpired) (peak_core d blk idx cell v s)
@[simp] theorem peak_n_clasp_link (d : Die) (blk idx cell v : Nat) (s : Node) : (peak d blk idx cell v s).n.clasp.link = s.n.clasp.link := congrArg (fun x => x.n.clasp.link) (peak_core d blk idx cell v s)
@[simp] theorem peak_n_clasp_trained (d : Die) (blk idx cell v : Nat) (s : Node) : (peak d blk idx cell v s).n.clasp.trained = s.n.clasp.trained := congrArg (fun x => x.n.clasp.trained) (peak_core d blk idx cell v s)
@[simp] theorem peak_n_clasp_synth (d : Die) (blk idx cell v : Nat) (s : Node) : (peak d blk idx cell v s).n.clasp.synth = s.n.clasp.synth := congrArg (fun x => x.n.clasp.synth) (peak_core d blk idx cell v s)
@[simp] theorem peak_n_clasp_half (d : Die) (blk idx cell v : Nat) (s : Node) : (peak d blk idx cell v s).n.clasp.half = s.n.clasp.half := congrArg (fun x => x.n.clasp.half) (peak_core d blk idx cell v s)
@[simp] theorem peak_n_clasp_swing (d : Die) (blk idx cell v : Nat) (s : Node) : (peak d blk idx cell v s).n.clasp.swing = s.n.clasp.swing := congrArg (fun x => x.n.clasp.swing) (peak_core d blk idx cell v s)
@[simp] theorem peak_n_clasp_lossSeen (d : Die) (blk idx cell v : Nat) (s : Node) : (peak d blk idx cell v s).n.clasp.lossSeen = s.n.clasp.lossSeen := congrArg (fun x => x.n.clasp.lossSeen) (peak_core d blk idx cell v s)
@[simp] theorem peak_n_clasp_rxSeq (d : Die) (blk idx cell v : Nat) (s : Node) : (peak d blk idx cell v s).n.clasp.rxSeq = s.n.clasp.rxSeq := congrArg (fun x => x.n.clasp.rxSeq) (peak_core d blk idx cell v s)
@[simp] theorem peak_n_clasp_orders (d : Die) (blk idx cell v : Nat) (s : Node) : (peak d blk idx cell v s).n.clasp.orders = s.n.clasp.orders := congrArg (fun x => x.n.clasp.orders) (peak_core d blk idx cell v s)
@[simp] theorem peak_n_ch_map (d : Die) (blk idx cell v : Nat) (s : Node) : (peak d blk idx cell v s).n.ch.map = s.n.ch.map := congrArg (fun x => x.n.ch.map) (peak_core d blk idx cell v s)
@[simp] theorem peak_n_ch_upper (d : Die) (blk idx cell v : Nat) (s : Node) : (peak d blk idx cell v s).n.ch.upper = s.n.ch.upper := congrArg (fun x => x.n.ch.upper) (peak_core d blk idx cell v s)
@[simp] theorem peak_n_ch_timedOut (d : Die) (blk idx cell v : Nat) (s : Node) : (peak d blk idx cell v s).n.ch.timedOut = s.n.ch.timedOut := congrArg (fun x => x.n.ch.timedOut) (peak_core d blk idx cell v s)
@[simp] theorem peak_n_ch_timer (d : Die) (blk idx cell v : Nat) (s : Node) : (peak d blk idx cell v s).n.ch.timer = s.n.ch.timer := congrArg (fun x => x.n.ch.timer) (peak_core d blk idx cell v s)
@[simp] theorem peak_n_ch_timeout (d : Die) (blk idx cell v : Nat) (s : Node) : (peak d blk idx cell v s).n.ch.timeout = s.n.ch.timeout := congrArg (fun x => x.n.ch.timeout) (peak_core d blk idx cell v s)
@[simp] theorem peak_n_ch_far (d : Die) (blk idx cell v : Nat) (s : Node) : (peak d blk idx cell v s).n.ch.far = s.n.ch.far := congrArg (fun x => x.n.ch.far) (peak_core d blk idx cell v s)
@[simp] theorem peak_n_ch_changeDue (d : Die) (blk idx cell v : Nat) (s : Node) : (peak d blk idx cell v s).n.ch.changeDue = s.n.ch.changeDue := congrArg (fun x => x.n.ch.changeDue) (peak_core d blk idx cell v s)
@[simp] theorem peak_n_loupe_tokens (d : Die) (blk idx cell v : Nat) (s : Node) : (peak d blk idx cell v s).n.loupe.tokens = s.n.loupe.tokens := congrArg (fun x => x.n.loupe.tokens) (peak_core d blk idx cell v s)
@[simp] theorem peak_f_phase (d : Die) (blk idx cell v : Nat) (s : Node) : (peak d blk idx cell v s).f.phase = s.f.phase := congrArg (fun x => x.f.phase) (peak_core d blk idx cell v s)
@[simp] theorem peak_f_cause (d : Die) (blk idx cell v : Nat) (s : Node) : (peak d blk idx cell v s).f.cause = s.f.cause := congrArg (fun x => x.f.cause) (peak_core d blk idx cell v s)
@[simp] theorem peak_f_ticks (d : Die) (blk idx cell v : Nat) (s : Node) : (peak d blk idx cell v s).f.ticks = s.f.ticks := congrArg (fun x => x.f.ticks) (peak_core d blk idx cell v s)
@[simp] theorem peak_f_undervoltage (d : Die) (blk idx cell v : Nat) (s : Node) : (peak d blk idx cell v s).f.undervoltage = s.f.undervoltage := congrArg (fun x => x.f.undervoltage) (peak_core d blk idx cell v s)
@[simp] theorem peak_f_waitExpired (d : Die) (blk idx cell v : Nat) (s : Node) : (peak d blk idx cell v s).f.waitExpired = s.f.waitExpired := congrArg (fun x => x.f.waitExpired) (peak_core d blk idx cell v s)
@[simp] theorem peak_f_clasp_link (d : Die) (blk idx cell v : Nat) (s : Node) : (peak d blk idx cell v s).f.clasp.link = s.f.clasp.link := congrArg (fun x => x.f.clasp.link) (peak_core d blk idx cell v s)
@[simp] theorem peak_f_clasp_trained (d : Die) (blk idx cell v : Nat) (s : Node) : (peak d blk idx cell v s).f.clasp.trained = s.f.clasp.trained := congrArg (fun x => x.f.clasp.trained) (peak_core d blk idx cell v s)
@[simp] theorem peak_f_clasp_synth (d : Die) (blk idx cell v : Nat) (s : Node) : (peak d blk idx cell v s).f.clasp.synth = s.f.clasp.synth := congrArg (fun x => x.f.clasp.synth) (peak_core d blk idx cell v s)
@[simp] theorem peak_f_clasp_half (d : Die) (blk idx cell v : Nat) (s : Node) : (peak d blk idx cell v s).f.clasp.half = s.f.clasp.half := congrArg (fun x => x.f.clasp.half) (peak_core d blk idx cell v s)
@[simp] theorem peak_f_clasp_swing (d : Die) (blk idx cell v : Nat) (s : Node) : (peak d blk idx cell v s).f.clasp.swing = s.f.clasp.swing := congrArg (fun x => x.f.clasp.swing) (peak_core d blk idx cell v s)
@[simp] theorem peak_f_clasp_lossSeen (d : Die) (blk idx cell v : Nat) (s : Node) : (peak d blk idx cell v s).f.clasp.lossSeen = s.f.clasp.lossSeen := congrArg (fun x => x.f.clasp.lossSeen) (peak_core d blk idx cell v s)
@[simp] theorem peak_f_clasp_rxSeq (d : Die) (blk idx cell v : Nat) (s : Node) : (peak d blk idx cell v s).f.clasp.rxSeq = s.f.clasp.rxSeq := congrArg (fun x => x.f.clasp.rxSeq) (peak_core d blk idx cell v s)
@[simp] theorem peak_f_clasp_orders (d : Die) (blk idx cell v : Nat) (s : Node) : (peak d blk idx cell v s).f.clasp.orders = s.f.clasp.orders := congrArg (fun x => x.f.clasp.orders) (peak_core d blk idx cell v s)
@[simp] theorem peak_f_ch_map (d : Die) (blk idx cell v : Nat) (s : Node) : (peak d blk idx cell v s).f.ch.map = s.f.ch.map := congrArg (fun x => x.f.ch.map) (peak_core d blk idx cell v s)
@[simp] theorem peak_f_ch_upper (d : Die) (blk idx cell v : Nat) (s : Node) : (peak d blk idx cell v s).f.ch.upper = s.f.ch.upper := congrArg (fun x => x.f.ch.upper) (peak_core d blk idx cell v s)
@[simp] theorem peak_f_ch_timedOut (d : Die) (blk idx cell v : Nat) (s : Node) : (peak d blk idx cell v s).f.ch.timedOut = s.f.ch.timedOut := congrArg (fun x => x.f.ch.timedOut) (peak_core d blk idx cell v s)
@[simp] theorem peak_f_ch_timer (d : Die) (blk idx cell v : Nat) (s : Node) : (peak d blk idx cell v s).f.ch.timer = s.f.ch.timer := congrArg (fun x => x.f.ch.timer) (peak_core d blk idx cell v s)
@[simp] theorem peak_f_ch_timeout (d : Die) (blk idx cell v : Nat) (s : Node) : (peak d blk idx cell v s).f.ch.timeout = s.f.ch.timeout := congrArg (fun x => x.f.ch.timeout) (peak_core d blk idx cell v s)
@[simp] theorem peak_f_ch_far (d : Die) (blk idx cell v : Nat) (s : Node) : (peak d blk idx cell v s).f.ch.far = s.f.ch.far := congrArg (fun x => x.f.ch.far) (peak_core d blk idx cell v s)
@[simp] theorem peak_f_ch_changeDue (d : Die) (blk idx cell v : Nat) (s : Node) : (peak d blk idx cell v s).f.ch.changeDue = s.f.ch.changeDue := congrArg (fun x => x.f.ch.changeDue) (peak_core d blk idx cell v s)
@[simp] theorem peak_f_loupe_tokens (d : Die) (blk idx cell v : Nat) (s : Node) : (peak d blk idx cell v s).f.loupe.tokens = s.f.loupe.tokens := congrArg (fun x => x.f.loupe.tokens) (peak_core d blk idx cell v s)
@[simp] theorem peak_f_inbox (d : Die) (blk idx cell v : Nat) (s : Node) : (peak d blk idx cell v s).f.inbox = s.f.inbox := congrArg (fun x => x.f.inbox) (peak_core d blk idx cell v s)
@[simp] theorem peak_f_fol (d : Die) (blk idx cell v : Nat) (s : Node) : (peak d blk idx cell v s).f.fol = s.f.fol := congrArg (fun x => x.f.fol) (peak_core d blk idx cell v s)
@[simp] theorem peak_f_chain (d : Die) (blk idx cell v : Nat) (s : Node) : (peak d blk idx cell v s).f.chain = s.f.chain := congrArg (fun x => x.f.chain) (peak_core d blk idx cell v s)
@[simp] theorem peak_f_park (d : Die) (blk idx cell v : Nat) (s : Node) : (peak d blk idx cell v s).f.park = s.f.park := congrArg (fun x => x.f.park) (peak_core d blk idx cell v s)
@[simp] theorem peak_f_beads (d : Die) (blk idx cell v : Nat) (s : Node) : (peak d blk idx cell v s).f.beads = s.f.beads := congrArg (fun x => x.f.beads) (peak_core d blk idx cell v s)
@[simp] theorem peak_f_linkA (d : Die) (blk idx cell v : Nat) (s : Node) : (peak d blk idx cell v s).f.linkA = s.f.linkA := congrArg (fun x => x.f.linkA) (peak_core d blk idx cell v s)
@[simp] theorem peak_f_linkB (d : Die) (blk idx cell v : Nat) (s : Node) : (peak d blk idx cell v s).f.linkB = s.f.linkB := congrArg (fun x => x.f.linkB) (peak_core d blk idx cell v s)
@[simp] theorem peak_f_linkC (d : Die) (blk idx cell v : Nat) (s : Node) : (peak d blk idx cell v s).f.linkC = s.f.linkC := congrArg (fun x => x.f.linkC) (peak_core d blk idx cell v s)
@[simp] theorem peak_f_safe0 (d : Die) (blk idx cell v : Nat) (s : Node) : (peak d blk idx cell v s).f.safe0 = s.f.safe0 := congrArg (fun x => x.f.safe0) (peak_core d blk idx cell v s)
@[simp] theorem peak_f_safe1 (d : Die) (blk idx cell v : Nat) (s : Node) : (peak d blk idx cell v s).f.safe1 = s.f.safe1 := congrArg (fun x => x.f.safe1) (peak_core d blk idx cell v s)
@[simp] theorem peak_f_pullQueue (d : Die) (blk idx cell v : Nat) (s : Node) : (peak d blk idx cell v s).f.pullQueue = s.f.pullQueue := congrArg (fun x => x.f.pullQueue) (peak_core d blk idx cell v s)
@[simp] theorem peak_f_fport_current (d : Die) (blk idx cell v : Nat) (s : Node) : (peak d blk idx cell v s).f.fport.current = s.f.fport.current := congrArg (fun x => x.f.fport.current) (peak_core d blk idx cell v s)
@[simp] theorem peak_f_fport_queue (d : Die) (blk idx cell v : Nat) (s : Node) : (peak d blk idx cell v s).f.fport.queue = s.f.fport.queue := congrArg (fun x => x.f.fport.queue) (peak_core d blk idx cell v s)
@[simp] theorem peak_f_fport_job (d : Die) (blk idx cell v : Nat) (s : Node) : (peak d blk idx cell v s).f.fport.job = s.f.fport.job := congrArg (fun x => x.f.fport.job) (peak_core d blk idx cell v s)
@[simp] theorem peak_f_fport_erase (d : Die) (blk idx cell v : Nat) (s : Node) : (peak d blk idx cell v s).f.fport.erase = s.f.fport.erase := congrArg (fun x => x.f.fport.erase) (peak_core d blk idx cell v s)
@[simp] theorem peak_f_fport_recovering (d : Die) (blk idx cell v : Nat) (s : Node) : (peak d blk idx cell v s).f.fport.recovering = s.f.fport.recovering := congrArg (fun x => x.f.fport.recovering) (peak_core d blk idx cell v s)
@[simp] theorem peak_f_fport_tunnels (d : Die) (blk idx cell v : Nat) (s : Node) : (peak d blk idx cell v s).f.fport.tunnels = s.f.fport.tunnels := congrArg (fun x => x.f.fport.tunnels) (peak_core d blk idx cell v s)
@[simp] theorem peak_f_fport_sfdp (d : Die) (blk idx cell v : Nat) (s : Node) : (peak d blk idx cell v s).f.fport.sfdp = s.f.fport.sfdp := congrArg (fun x => x.f.fport.sfdp) (peak_core d blk idx cell v s)
@[simp] theorem peak_f_fport_proposals (d : Die) (blk idx cell v : Nat) (s : Node) : (peak d blk idx cell v s).f.fport.proposals = s.f.fport.proposals := congrArg (fun x => x.f.fport.proposals) (peak_core d blk idx cell v s)
@[simp] theorem peak_nUp (d : Die) (blk idx cell v : Nat) (s : Node) : (peak d blk idx cell v s).nUp = s.nUp := by simp [Node.nUp]
@[simp] theorem peak_fUp (d : Die) (blk idx cell v : Nat) (s : Node) : (peak d blk idx cell v s).fUp = s.fUp := by simp [Node.fUp]
@[simp] theorem peak_trained (d : Die) (blk idx cell v : Nat) (s : Node) : (peak d blk idx cell v s).trained = s.trained := by simp [Node.trained]
@[simp] theorem peak_linkUp (d : Die) (blk idx cell v : Nat) (s : Node) : (peak d blk idx cell v s).linkUp = s.linkUp := by simp [Node.linkUp]
@[simp] theorem peak_up (d : Die) (blk idx cell v : Nat) (s : Node) (e : Die) : (peak d blk idx cell v s).up e = s.up e := by cases e <;> simp [Node.up]
@[simp] theorem peak_valAt (d : Die) (blk idx cell v : Nat) (s : Node) (key sel : Nat) : (peak d blk idx cell v s).valAt key sel = s.valAt key sel := by simp [Node.valAt]
@[simp] theorem peak_val (d : Die) (blk idx cell v : Nat) (s : Node) (key : Nat) : (peak d blk idx cell v s).val key = s.val key := by simp [Node.val]
@[simp] theorem peak_blob (d : Die) (blk idx cell v : Nat) (s : Node) (key : Nat) : (peak d blk idx cell v s).blob key = s.blob key := by simp [Node.blob]

/-! sendCtrl. -/

@[simp] theorem sendCtrl_vals (d : Die) (w : Ctrl) (s : Node) : (sendCtrl d w s).vals = s.vals := congrArg (fun x => x.vals) (sendCtrl_core d w s)
@[simp] theorem sendCtrl_blobs (d : Die) (w : Ctrl) (s : Node) : (sendCtrl d w s).blobs = s.blobs := congrArg (fun x => x.blobs) (sendCtrl_core d w s)
@[simp] theorem sendCtrl_nLedger (d : Die) (w : Ctrl) (s : Node) : (sendCtrl d w s).nLedger = s.nLedger := congrArg (fun x => x.nLedger) (sendCtrl_core d w s)
@[simp] theorem sendCtrl_fLedger (d : Die) (w : Ctrl) (s : Node) : (sendCtrl d w s).fLedger = s.fLedger := congrArg (fun x => x.fLedger) (sendCtrl_core d w s)
@[simp] theorem sendCtrl_n_agree (d : Die) (w : Ctrl) (s : Node) : (sendCtrl d w s).n.agree = s.n.agree := congrArg (fun x => x.n.agree) (sendCtrl_core d w s)
@[simp] theorem sendCtrl_n_dict (d : Die) (w : Ctrl) (s : Node) : (sendCtrl d w s).n.dict = s.n.dict := congrArg (fun x => x.n.dict) (sendCtrl_core d w s)
@[simp] theorem sendCtrl_n_port (d : Die) (w : Ctrl) (s : Node) : (sendCtrl d w s).n.port = s.n.port := congrArg (fun x => x.n.port) (sendCtrl_core d w s)
@[simp] theorem sendCtrl_n_hm (d : Die) (w : Ctrl) (s : Node) : (sendCtrl d w s).n.hm = s.n.hm := congrArg (fun x => x.n.hm) (sendCtrl_core d w s)
@[simp] theorem sendCtrl_n_bar (d : Die) (w : Ctrl) (s : Node) : (sendCtrl d w s).n.bar = s.n.bar := congrArg (fun x => x.n.bar) (sendCtrl_core d w s)
@[simp] theorem sendCtrl_n_pow (d : Die) (w : Ctrl) (s : Node) : (sendCtrl d w s).n.pow = s.n.pow := congrArg (fun x => x.n.pow) (sendCtrl_core d w s)
@[simp] theorem sendCtrl_n_number (d : Die) (w : Ctrl) (s : Node) : (sendCtrl d w s).n.number = s.n.number := congrArg (fun x => x.n.number) (sendCtrl_core d w s)
@[simp] theorem sendCtrl_n_trainings (d : Die) (w : Ctrl) (s : Node) : (sendCtrl d w s).n.trainings = s.n.trainings := congrArg (fun x => x.n.trainings) (sendCtrl_core d w s)
@[simp] theorem sendCtrl_n_crystal (d : Die) (w : Ctrl) (s : Node) : (sendCtrl d w s).n.crystal = s.n.crystal := congrArg (fun x => x.n.crystal) (sendCtrl_core d w s)
@[simp] theorem sendCtrl_n_straps (d : Die) (w : Ctrl) (s : Node) : (sendCtrl d w s).n.straps = s.n.straps := congrArg (fun x => x.n.straps) (sendCtrl_core d w s)
@[simp] theorem sendCtrl_n_floating (d : Die) (w : Ctrl) (s : Node) : (sendCtrl d w s).n.floating = s.n.floating := congrArg (fun x => x.n.floating) (sendCtrl_core d w s)
@[simp] theorem sendCtrl_n_runDeferred (d : Die) (w : Ctrl) (s : Node) : (sendCtrl d w s).n.runDeferred = s.n.runDeferred := congrArg (fun x => x.n.runDeferred) (sendCtrl_core d w s)
@[simp] theorem sendCtrl_n_can_state (d : Die) (w : Ctrl) (s : Node) : (sendCtrl d w s).n.can.state = s.n.can.state := congrArg (fun x => x.n.can.state) (sendCtrl_core d w s)
@[simp] theorem sendCtrl_n_can_tx (d : Die) (w : Ctrl) (s : Node) : (sendCtrl d w s).n.can.tx = s.n.can.tx := congrArg (fun x => x.n.can.tx) (sendCtrl_core d w s)
@[simp] theorem sendCtrl_n_can_tecCount (d : Die) (w : Ctrl) (s : Node) : (sendCtrl d w s).n.can.tecCount = s.n.can.tecCount := congrArg (fun x => x.n.can.tecCount) (sendCtrl_core d w s)
@[simp] theorem sendCtrl_n_can_recCount (d : Die) (w : Ctrl) (s : Node) : (sendCtrl d w s).n.can.recCount = s.n.can.recCount := congrArg (fun x => x.n.can.recCount) (sendCtrl_core d w s)
@[simp] theorem sendCtrl_n_can_txvr (d : Die) (w : Ctrl) (s : Node) : (sendCtrl d w s).n.can.txvr = s.n.can.txvr := congrArg (fun x => x.n.can.txvr) (sendCtrl_core d w s)
@[simp] theorem sendCtrl_n_can_driver (d : Die) (w : Ctrl) (s : Node) : (sendCtrl d w s).n.can.driver = s.n.can.driver := congrArg (fun x => x.n.can.driver) (sendCtrl_core d w s)
@[simp] theorem sendCtrl_n_can_syncSeen (d : Die) (w : Ctrl) (s : Node) : (sendCtrl d w s).n.can.syncSeen = s.n.can.syncSeen := congrArg (fun x => x.n.can.syncSeen) (sendCtrl_core d w s)
@[simp] theorem sendCtrl_n_can_tunnelFirst (d : Die) (w : Ctrl) (s : Node) : (sendCtrl d w s).n.can.tunnelFirst = s.n.can.tunnelFirst := congrArg (fun x => x.n.can.tunnelFirst) (sendCtrl_core d w s)
@[simp] theorem sendCtrl_n_phase (d : Die) (w : Ctrl) (s : Node) : (sendCtrl d w s).n.phase = s.n.phase := congrArg (fun x => x.n.phase) (sendCtrl_core d w s)
@[simp] theorem sendCtrl_n_cause (d : Die) (w : Ctrl) (s : Node) : (sendCtrl d w s).n.cause = s.n.cause := congrArg (fun x => x.n.cause) (sendCtrl_core d w s)
@[simp] theorem sendCtrl_n_ticks (d : Die) (w : Ctrl) (s : Node) : (sendCtrl d w s).n.ticks = s.n.ticks := congrArg (fun x => x.n.ticks) (sendCtrl_core d w s)
@[simp] theorem sendCtrl_n_undervoltage (d : Die) (w : Ctrl) (s : Node) : (sendCtrl d w s).n.undervoltage = s.n.undervoltage := congrArg (fun x => x.n.undervoltage) (sendCtrl_core d w s)
@[simp] theorem sendCtrl_n_waitExpired (d : Die) (w : Ctrl) (s : Node) : (sendCtrl d w s).n.waitExpired = s.n.waitExpired := congrArg (fun x => x.n.waitExpired) (sendCtrl_core d w s)
@[simp] theorem sendCtrl_n_clasp_link (d : Die) (w : Ctrl) (s : Node) : (sendCtrl d w s).n.clasp.link = s.n.clasp.link := congrArg (fun x => x.n.clasp.link) (sendCtrl_core d w s)
@[simp] theorem sendCtrl_n_clasp_trained (d : Die) (w : Ctrl) (s : Node) : (sendCtrl d w s).n.clasp.trained = s.n.clasp.trained := congrArg (fun x => x.n.clasp.trained) (sendCtrl_core d w s)
@[simp] theorem sendCtrl_n_clasp_synth (d : Die) (w : Ctrl) (s : Node) : (sendCtrl d w s).n.clasp.synth = s.n.clasp.synth := congrArg (fun x => x.n.clasp.synth) (sendCtrl_core d w s)
@[simp] theorem sendCtrl_n_clasp_half (d : Die) (w : Ctrl) (s : Node) : (sendCtrl d w s).n.clasp.half = s.n.clasp.half := congrArg (fun x => x.n.clasp.half) (sendCtrl_core d w s)
@[simp] theorem sendCtrl_n_clasp_swing (d : Die) (w : Ctrl) (s : Node) : (sendCtrl d w s).n.clasp.swing = s.n.clasp.swing := congrArg (fun x => x.n.clasp.swing) (sendCtrl_core d w s)
@[simp] theorem sendCtrl_n_clasp_lossSeen (d : Die) (w : Ctrl) (s : Node) : (sendCtrl d w s).n.clasp.lossSeen = s.n.clasp.lossSeen := congrArg (fun x => x.n.clasp.lossSeen) (sendCtrl_core d w s)
@[simp] theorem sendCtrl_n_clasp_rxSeq (d : Die) (w : Ctrl) (s : Node) : (sendCtrl d w s).n.clasp.rxSeq = s.n.clasp.rxSeq := congrArg (fun x => x.n.clasp.rxSeq) (sendCtrl_core d w s)
@[simp] theorem sendCtrl_n_clasp_orders (d : Die) (w : Ctrl) (s : Node) : (sendCtrl d w s).n.clasp.orders = s.n.clasp.orders := congrArg (fun x => x.n.clasp.orders) (sendCtrl_core d w s)
@[simp] theorem sendCtrl_n_ch_map (d : Die) (w : Ctrl) (s : Node) : (sendCtrl d w s).n.ch.map = s.n.ch.map := congrArg (fun x => x.n.ch.map) (sendCtrl_core d w s)
@[simp] theorem sendCtrl_n_ch_upper (d : Die) (w : Ctrl) (s : Node) : (sendCtrl d w s).n.ch.upper = s.n.ch.upper := congrArg (fun x => x.n.ch.upper) (sendCtrl_core d w s)
@[simp] theorem sendCtrl_n_ch_timedOut (d : Die) (w : Ctrl) (s : Node) : (sendCtrl d w s).n.ch.timedOut = s.n.ch.timedOut := congrArg (fun x => x.n.ch.timedOut) (sendCtrl_core d w s)
@[simp] theorem sendCtrl_n_ch_timer (d : Die) (w : Ctrl) (s : Node) : (sendCtrl d w s).n.ch.timer = s.n.ch.timer := congrArg (fun x => x.n.ch.timer) (sendCtrl_core d w s)
@[simp] theorem sendCtrl_n_ch_timeout (d : Die) (w : Ctrl) (s : Node) : (sendCtrl d w s).n.ch.timeout = s.n.ch.timeout := congrArg (fun x => x.n.ch.timeout) (sendCtrl_core d w s)
@[simp] theorem sendCtrl_n_ch_far (d : Die) (w : Ctrl) (s : Node) : (sendCtrl d w s).n.ch.far = s.n.ch.far := congrArg (fun x => x.n.ch.far) (sendCtrl_core d w s)
@[simp] theorem sendCtrl_n_ch_changeDue (d : Die) (w : Ctrl) (s : Node) : (sendCtrl d w s).n.ch.changeDue = s.n.ch.changeDue := congrArg (fun x => x.n.ch.changeDue) (sendCtrl_core d w s)
@[simp] theorem sendCtrl_n_loupe_tokens (d : Die) (w : Ctrl) (s : Node) : (sendCtrl d w s).n.loupe.tokens = s.n.loupe.tokens := congrArg (fun x => x.n.loupe.tokens) (sendCtrl_core d w s)
@[simp] theorem sendCtrl_f_phase (d : Die) (w : Ctrl) (s : Node) : (sendCtrl d w s).f.phase = s.f.phase := congrArg (fun x => x.f.phase) (sendCtrl_core d w s)
@[simp] theorem sendCtrl_f_cause (d : Die) (w : Ctrl) (s : Node) : (sendCtrl d w s).f.cause = s.f.cause := congrArg (fun x => x.f.cause) (sendCtrl_core d w s)
@[simp] theorem sendCtrl_f_ticks (d : Die) (w : Ctrl) (s : Node) : (sendCtrl d w s).f.ticks = s.f.ticks := congrArg (fun x => x.f.ticks) (sendCtrl_core d w s)
@[simp] theorem sendCtrl_f_undervoltage (d : Die) (w : Ctrl) (s : Node) : (sendCtrl d w s).f.undervoltage = s.f.undervoltage := congrArg (fun x => x.f.undervoltage) (sendCtrl_core d w s)
@[simp] theorem sendCtrl_f_waitExpired (d : Die) (w : Ctrl) (s : Node) : (sendCtrl d w s).f.waitExpired = s.f.waitExpired := congrArg (fun x => x.f.waitExpired) (sendCtrl_core d w s)
@[simp] theorem sendCtrl_f_clasp_link (d : Die) (w : Ctrl) (s : Node) : (sendCtrl d w s).f.clasp.link = s.f.clasp.link := congrArg (fun x => x.f.clasp.link) (sendCtrl_core d w s)
@[simp] theorem sendCtrl_f_clasp_trained (d : Die) (w : Ctrl) (s : Node) : (sendCtrl d w s).f.clasp.trained = s.f.clasp.trained := congrArg (fun x => x.f.clasp.trained) (sendCtrl_core d w s)
@[simp] theorem sendCtrl_f_clasp_synth (d : Die) (w : Ctrl) (s : Node) : (sendCtrl d w s).f.clasp.synth = s.f.clasp.synth := congrArg (fun x => x.f.clasp.synth) (sendCtrl_core d w s)
@[simp] theorem sendCtrl_f_clasp_half (d : Die) (w : Ctrl) (s : Node) : (sendCtrl d w s).f.clasp.half = s.f.clasp.half := congrArg (fun x => x.f.clasp.half) (sendCtrl_core d w s)
@[simp] theorem sendCtrl_f_clasp_swing (d : Die) (w : Ctrl) (s : Node) : (sendCtrl d w s).f.clasp.swing = s.f.clasp.swing := congrArg (fun x => x.f.clasp.swing) (sendCtrl_core d w s)
@[simp] theorem sendCtrl_f_clasp_lossSeen (d : Die) (w : Ctrl) (s : Node) : (sendCtrl d w s).f.clasp.lossSeen = s.f.clasp.lossSeen := congrArg (fun x => x.f.clasp.lossSeen) (sendCtrl_core d w s)
@[simp] theorem sendCtrl_f_clasp_rxSeq (d : Die) (w : Ctrl) (s : Node) : (sendCtrl d w s).f.clasp.rxSeq = s.f.clasp.rxSeq := congrArg (fun x => x.f.clasp.rxSeq) (sendCtrl_core d w s)
@[simp] theorem sendCtrl_f_clasp_orders (d : Die) (w : Ctrl) (s : Node) : (sendCtrl d w s).f.clasp.orders = s.f.clasp.orders := congrArg (fun x => x.f.clasp.orders) (sendCtrl_core d w s)
@[simp] theorem sendCtrl_f_ch_map (d : Die) (w : Ctrl) (s : Node) : (sendCtrl d w s).f.ch.map = s.f.ch.map := congrArg (fun x => x.f.ch.map) (sendCtrl_core d w s)
@[simp] theorem sendCtrl_f_ch_upper (d : Die) (w : Ctrl) (s : Node) : (sendCtrl d w s).f.ch.upper = s.f.ch.upper := congrArg (fun x => x.f.ch.upper) (sendCtrl_core d w s)
@[simp] theorem sendCtrl_f_ch_timedOut (d : Die) (w : Ctrl) (s : Node) : (sendCtrl d w s).f.ch.timedOut = s.f.ch.timedOut := congrArg (fun x => x.f.ch.timedOut) (sendCtrl_core d w s)
@[simp] theorem sendCtrl_f_ch_timer (d : Die) (w : Ctrl) (s : Node) : (sendCtrl d w s).f.ch.timer = s.f.ch.timer := congrArg (fun x => x.f.ch.timer) (sendCtrl_core d w s)
@[simp] theorem sendCtrl_f_ch_timeout (d : Die) (w : Ctrl) (s : Node) : (sendCtrl d w s).f.ch.timeout = s.f.ch.timeout := congrArg (fun x => x.f.ch.timeout) (sendCtrl_core d w s)
@[simp] theorem sendCtrl_f_ch_far (d : Die) (w : Ctrl) (s : Node) : (sendCtrl d w s).f.ch.far = s.f.ch.far := congrArg (fun x => x.f.ch.far) (sendCtrl_core d w s)
@[simp] theorem sendCtrl_f_ch_changeDue (d : Die) (w : Ctrl) (s : Node) : (sendCtrl d w s).f.ch.changeDue = s.f.ch.changeDue := congrArg (fun x => x.f.ch.changeDue) (sendCtrl_core d w s)
@[simp] theorem sendCtrl_f_loupe_tokens (d : Die) (w : Ctrl) (s : Node) : (sendCtrl d w s).f.loupe.tokens = s.f.loupe.tokens := congrArg (fun x => x.f.loupe.tokens) (sendCtrl_core d w s)
@[simp] theorem sendCtrl_f_inbox (d : Die) (w : Ctrl) (s : Node) : (sendCtrl d w s).f.inbox = s.f.inbox := congrArg (fun x => x.f.inbox) (sendCtrl_core d w s)
@[simp] theorem sendCtrl_f_fol (d : Die) (w : Ctrl) (s : Node) : (sendCtrl d w s).f.fol = s.f.fol := congrArg (fun x => x.f.fol) (sendCtrl_core d w s)
@[simp] theorem sendCtrl_f_chain (d : Die) (w : Ctrl) (s : Node) : (sendCtrl d w s).f.chain = s.f.chain := congrArg (fun x => x.f.chain) (sendCtrl_core d w s)
@[simp] theorem sendCtrl_f_park (d : Die) (w : Ctrl) (s : Node) : (sendCtrl d w s).f.park = s.f.park := congrArg (fun x => x.f.park) (sendCtrl_core d w s)
@[simp] theorem sendCtrl_f_beads (d : Die) (w : Ctrl) (s : Node) : (sendCtrl d w s).f.beads = s.f.beads := congrArg (fun x => x.f.beads) (sendCtrl_core d w s)
@[simp] theorem sendCtrl_f_linkA (d : Die) (w : Ctrl) (s : Node) : (sendCtrl d w s).f.linkA = s.f.linkA := congrArg (fun x => x.f.linkA) (sendCtrl_core d w s)
@[simp] theorem sendCtrl_f_linkB (d : Die) (w : Ctrl) (s : Node) : (sendCtrl d w s).f.linkB = s.f.linkB := congrArg (fun x => x.f.linkB) (sendCtrl_core d w s)
@[simp] theorem sendCtrl_f_linkC (d : Die) (w : Ctrl) (s : Node) : (sendCtrl d w s).f.linkC = s.f.linkC := congrArg (fun x => x.f.linkC) (sendCtrl_core d w s)
@[simp] theorem sendCtrl_f_safe0 (d : Die) (w : Ctrl) (s : Node) : (sendCtrl d w s).f.safe0 = s.f.safe0 := congrArg (fun x => x.f.safe0) (sendCtrl_core d w s)
@[simp] theorem sendCtrl_f_safe1 (d : Die) (w : Ctrl) (s : Node) : (sendCtrl d w s).f.safe1 = s.f.safe1 := congrArg (fun x => x.f.safe1) (sendCtrl_core d w s)
@[simp] theorem sendCtrl_f_pullQueue (d : Die) (w : Ctrl) (s : Node) : (sendCtrl d w s).f.pullQueue = s.f.pullQueue := congrArg (fun x => x.f.pullQueue) (sendCtrl_core d w s)
@[simp] theorem sendCtrl_f_fport_current (d : Die) (w : Ctrl) (s : Node) : (sendCtrl d w s).f.fport.current = s.f.fport.current := congrArg (fun x => x.f.fport.current) (sendCtrl_core d w s)
@[simp] theorem sendCtrl_f_fport_queue (d : Die) (w : Ctrl) (s : Node) : (sendCtrl d w s).f.fport.queue = s.f.fport.queue := congrArg (fun x => x.f.fport.queue) (sendCtrl_core d w s)
@[simp] theorem sendCtrl_f_fport_job (d : Die) (w : Ctrl) (s : Node) : (sendCtrl d w s).f.fport.job = s.f.fport.job := congrArg (fun x => x.f.fport.job) (sendCtrl_core d w s)
@[simp] theorem sendCtrl_f_fport_erase (d : Die) (w : Ctrl) (s : Node) : (sendCtrl d w s).f.fport.erase = s.f.fport.erase := congrArg (fun x => x.f.fport.erase) (sendCtrl_core d w s)
@[simp] theorem sendCtrl_f_fport_recovering (d : Die) (w : Ctrl) (s : Node) : (sendCtrl d w s).f.fport.recovering = s.f.fport.recovering := congrArg (fun x => x.f.fport.recovering) (sendCtrl_core d w s)
@[simp] theorem sendCtrl_f_fport_tunnels (d : Die) (w : Ctrl) (s : Node) : (sendCtrl d w s).f.fport.tunnels = s.f.fport.tunnels := congrArg (fun x => x.f.fport.tunnels) (sendCtrl_core d w s)
@[simp] theorem sendCtrl_f_fport_sfdp (d : Die) (w : Ctrl) (s : Node) : (sendCtrl d w s).f.fport.sfdp = s.f.fport.sfdp := congrArg (fun x => x.f.fport.sfdp) (sendCtrl_core d w s)
@[simp] theorem sendCtrl_f_fport_proposals (d : Die) (w : Ctrl) (s : Node) : (sendCtrl d w s).f.fport.proposals = s.f.fport.proposals := congrArg (fun x => x.f.fport.proposals) (sendCtrl_core d w s)
@[simp] theorem sendCtrl_nUp (d : Die) (w : Ctrl) (s : Node) : (sendCtrl d w s).nUp = s.nUp := by simp [Node.nUp]
@[simp] theorem sendCtrl_fUp (d : Die) (w : Ctrl) (s : Node) : (sendCtrl d w s).fUp = s.fUp := by simp [Node.fUp]
@[simp] theorem sendCtrl_trained (d : Die) (w : Ctrl) (s : Node) : (sendCtrl d w s).trained = s.trained := by simp [Node.trained]
@[simp] theorem sendCtrl_linkUp (d : Die) (w : Ctrl) (s : Node) : (sendCtrl d w s).linkUp = s.linkUp := by simp [Node.linkUp]
@[simp] theorem sendCtrl_up (d : Die) (w : Ctrl) (s : Node) (e : Die) : (sendCtrl d w s).up e = s.up e := by cases e <;> simp [Node.up]
@[simp] theorem sendCtrl_valAt (d : Die) (w : Ctrl) (s : Node) (key sel : Nat) : (sendCtrl d w s).valAt key sel = s.valAt key sel := by simp [Node.valAt]
@[simp] theorem sendCtrl_val (d : Die) (w : Ctrl) (s : Node) (key : Nat) : (sendCtrl d w s).val key = s.val key := by simp [Node.val]
@[simp] theorem sendCtrl_blob (d : Die) (w : Ctrl) (s : Node) (key : Nat) : (sendCtrl d w s).blob key = s.blob key := by simp [Node.blob]

/-! sendData. -/

@[simp] theorem sendData_vals (d : Die) (stream : Nat) (m : Msg) (s : Node) : (sendData d stream m s).vals = s.vals := congrArg (fun x => x.vals) (sendData_core d stream m s)
@[simp] theorem sendData_blobs (d : Die) (stream : Nat) (m : Msg) (s : Node) : (sendData d stream m s).blobs = s.blobs := congrArg (fun x => x.blobs) (sendData_core d stream m s)
@[simp] theorem sendData_nLedger (d : Die) (stream : Nat) (m : Msg) (s : Node) : (sendData d stream m s).nLedger = s.nLedger := congrArg (fun x => x.nLedger) (sendData_core d stream m s)
@[simp] theorem sendData_fLedger (d : Die) (stream : Nat) (m : Msg) (s : Node) : (sendData d stream m s).fLedger = s.fLedger := congrArg (fun x => x.fLedger) (sendData_core d stream m s)
@[simp] theorem sendData_n_agree (d : Die) (stream : Nat) (m : Msg) (s : Node) : (sendData d stream m s).n.agree = s.n.agree := congrArg (fun x => x.n.agree) (sendData_core d stream m s)
@[simp] theorem sendData_n_dict (d : Die) (stream : Nat) (m : Msg) (s : Node) : (sendData d stream m s).n.dict = s.n.dict := congrArg (fun x => x.n.dict) (sendData_core d stream m s)
@[simp] theorem sendData_n_port (d : Die) (stream : Nat) (m : Msg) (s : Node) : (sendData d stream m s).n.port = s.n.port := congrArg (fun x => x.n.port) (sendData_core d stream m s)
@[simp] theorem sendData_n_hm (d : Die) (stream : Nat) (m : Msg) (s : Node) : (sendData d stream m s).n.hm = s.n.hm := congrArg (fun x => x.n.hm) (sendData_core d stream m s)
@[simp] theorem sendData_n_bar (d : Die) (stream : Nat) (m : Msg) (s : Node) : (sendData d stream m s).n.bar = s.n.bar := congrArg (fun x => x.n.bar) (sendData_core d stream m s)
@[simp] theorem sendData_n_pow (d : Die) (stream : Nat) (m : Msg) (s : Node) : (sendData d stream m s).n.pow = s.n.pow := congrArg (fun x => x.n.pow) (sendData_core d stream m s)
@[simp] theorem sendData_n_number (d : Die) (stream : Nat) (m : Msg) (s : Node) : (sendData d stream m s).n.number = s.n.number := congrArg (fun x => x.n.number) (sendData_core d stream m s)
@[simp] theorem sendData_n_trainings (d : Die) (stream : Nat) (m : Msg) (s : Node) : (sendData d stream m s).n.trainings = s.n.trainings := congrArg (fun x => x.n.trainings) (sendData_core d stream m s)
@[simp] theorem sendData_n_crystal (d : Die) (stream : Nat) (m : Msg) (s : Node) : (sendData d stream m s).n.crystal = s.n.crystal := congrArg (fun x => x.n.crystal) (sendData_core d stream m s)
@[simp] theorem sendData_n_straps (d : Die) (stream : Nat) (m : Msg) (s : Node) : (sendData d stream m s).n.straps = s.n.straps := congrArg (fun x => x.n.straps) (sendData_core d stream m s)
@[simp] theorem sendData_n_floating (d : Die) (stream : Nat) (m : Msg) (s : Node) : (sendData d stream m s).n.floating = s.n.floating := congrArg (fun x => x.n.floating) (sendData_core d stream m s)
@[simp] theorem sendData_n_runDeferred (d : Die) (stream : Nat) (m : Msg) (s : Node) : (sendData d stream m s).n.runDeferred = s.n.runDeferred := congrArg (fun x => x.n.runDeferred) (sendData_core d stream m s)
@[simp] theorem sendData_n_can_state (d : Die) (stream : Nat) (m : Msg) (s : Node) : (sendData d stream m s).n.can.state = s.n.can.state := congrArg (fun x => x.n.can.state) (sendData_core d stream m s)
@[simp] theorem sendData_n_can_tx (d : Die) (stream : Nat) (m : Msg) (s : Node) : (sendData d stream m s).n.can.tx = s.n.can.tx := congrArg (fun x => x.n.can.tx) (sendData_core d stream m s)
@[simp] theorem sendData_n_can_tecCount (d : Die) (stream : Nat) (m : Msg) (s : Node) : (sendData d stream m s).n.can.tecCount = s.n.can.tecCount := congrArg (fun x => x.n.can.tecCount) (sendData_core d stream m s)
@[simp] theorem sendData_n_can_recCount (d : Die) (stream : Nat) (m : Msg) (s : Node) : (sendData d stream m s).n.can.recCount = s.n.can.recCount := congrArg (fun x => x.n.can.recCount) (sendData_core d stream m s)
@[simp] theorem sendData_n_can_txvr (d : Die) (stream : Nat) (m : Msg) (s : Node) : (sendData d stream m s).n.can.txvr = s.n.can.txvr := congrArg (fun x => x.n.can.txvr) (sendData_core d stream m s)
@[simp] theorem sendData_n_can_driver (d : Die) (stream : Nat) (m : Msg) (s : Node) : (sendData d stream m s).n.can.driver = s.n.can.driver := congrArg (fun x => x.n.can.driver) (sendData_core d stream m s)
@[simp] theorem sendData_n_can_syncSeen (d : Die) (stream : Nat) (m : Msg) (s : Node) : (sendData d stream m s).n.can.syncSeen = s.n.can.syncSeen := congrArg (fun x => x.n.can.syncSeen) (sendData_core d stream m s)
@[simp] theorem sendData_n_can_tunnelFirst (d : Die) (stream : Nat) (m : Msg) (s : Node) : (sendData d stream m s).n.can.tunnelFirst = s.n.can.tunnelFirst := congrArg (fun x => x.n.can.tunnelFirst) (sendData_core d stream m s)
@[simp] theorem sendData_n_phase (d : Die) (stream : Nat) (m : Msg) (s : Node) : (sendData d stream m s).n.phase = s.n.phase := congrArg (fun x => x.n.phase) (sendData_core d stream m s)
@[simp] theorem sendData_n_cause (d : Die) (stream : Nat) (m : Msg) (s : Node) : (sendData d stream m s).n.cause = s.n.cause := congrArg (fun x => x.n.cause) (sendData_core d stream m s)
@[simp] theorem sendData_n_ticks (d : Die) (stream : Nat) (m : Msg) (s : Node) : (sendData d stream m s).n.ticks = s.n.ticks := congrArg (fun x => x.n.ticks) (sendData_core d stream m s)
@[simp] theorem sendData_n_undervoltage (d : Die) (stream : Nat) (m : Msg) (s : Node) : (sendData d stream m s).n.undervoltage = s.n.undervoltage := congrArg (fun x => x.n.undervoltage) (sendData_core d stream m s)
@[simp] theorem sendData_n_waitExpired (d : Die) (stream : Nat) (m : Msg) (s : Node) : (sendData d stream m s).n.waitExpired = s.n.waitExpired := congrArg (fun x => x.n.waitExpired) (sendData_core d stream m s)
@[simp] theorem sendData_n_clasp_link (d : Die) (stream : Nat) (m : Msg) (s : Node) : (sendData d stream m s).n.clasp.link = s.n.clasp.link := congrArg (fun x => x.n.clasp.link) (sendData_core d stream m s)
@[simp] theorem sendData_n_clasp_trained (d : Die) (stream : Nat) (m : Msg) (s : Node) : (sendData d stream m s).n.clasp.trained = s.n.clasp.trained := congrArg (fun x => x.n.clasp.trained) (sendData_core d stream m s)
@[simp] theorem sendData_n_clasp_synth (d : Die) (stream : Nat) (m : Msg) (s : Node) : (sendData d stream m s).n.clasp.synth = s.n.clasp.synth := congrArg (fun x => x.n.clasp.synth) (sendData_core d stream m s)
@[simp] theorem sendData_n_clasp_half (d : Die) (stream : Nat) (m : Msg) (s : Node) : (sendData d stream m s).n.clasp.half = s.n.clasp.half := congrArg (fun x => x.n.clasp.half) (sendData_core d stream m s)
@[simp] theorem sendData_n_clasp_swing (d : Die) (stream : Nat) (m : Msg) (s : Node) : (sendData d stream m s).n.clasp.swing = s.n.clasp.swing := congrArg (fun x => x.n.clasp.swing) (sendData_core d stream m s)
@[simp] theorem sendData_n_clasp_lossSeen (d : Die) (stream : Nat) (m : Msg) (s : Node) : (sendData d stream m s).n.clasp.lossSeen = s.n.clasp.lossSeen := congrArg (fun x => x.n.clasp.lossSeen) (sendData_core d stream m s)
@[simp] theorem sendData_n_clasp_rxSeq (d : Die) (stream : Nat) (m : Msg) (s : Node) : (sendData d stream m s).n.clasp.rxSeq = s.n.clasp.rxSeq := congrArg (fun x => x.n.clasp.rxSeq) (sendData_core d stream m s)
@[simp] theorem sendData_n_clasp_orders (d : Die) (stream : Nat) (m : Msg) (s : Node) : (sendData d stream m s).n.clasp.orders = s.n.clasp.orders := congrArg (fun x => x.n.clasp.orders) (sendData_core d stream m s)
@[simp] theorem sendData_n_ch_map (d : Die) (stream : Nat) (m : Msg) (s : Node) : (sendData d stream m s).n.ch.map = s.n.ch.map := congrArg (fun x => x.n.ch.map) (sendData_core d stream m s)
@[simp] theorem sendData_n_ch_upper (d : Die) (stream : Nat) (m : Msg) (s : Node) : (sendData d stream m s).n.ch.upper = s.n.ch.upper := congrArg (fun x => x.n.ch.upper) (sendData_core d stream m s)
@[simp] theorem sendData_n_ch_timedOut (d : Die) (stream : Nat) (m : Msg) (s : Node) : (sendData d stream m s).n.ch.timedOut = s.n.ch.timedOut := congrArg (fun x => x.n.ch.timedOut) (sendData_core d stream m s)
@[simp] theorem sendData_n_ch_timer (d : Die) (stream : Nat) (m : Msg) (s : Node) : (sendData d stream m s).n.ch.timer = s.n.ch.timer := congrArg (fun x => x.n.ch.timer) (sendData_core d stream m s)
@[simp] theorem sendData_n_ch_timeout (d : Die) (stream : Nat) (m : Msg) (s : Node) : (sendData d stream m s).n.ch.timeout = s.n.ch.timeout := congrArg (fun x => x.n.ch.timeout) (sendData_core d stream m s)
@[simp] theorem sendData_n_ch_far (d : Die) (stream : Nat) (m : Msg) (s : Node) : (sendData d stream m s).n.ch.far = s.n.ch.far := congrArg (fun x => x.n.ch.far) (sendData_core d stream m s)
@[simp] theorem sendData_n_ch_changeDue (d : Die) (stream : Nat) (m : Msg) (s : Node) : (sendData d stream m s).n.ch.changeDue = s.n.ch.changeDue := congrArg (fun x => x.n.ch.changeDue) (sendData_core d stream m s)
@[simp] theorem sendData_n_loupe_tokens (d : Die) (stream : Nat) (m : Msg) (s : Node) : (sendData d stream m s).n.loupe.tokens = s.n.loupe.tokens := congrArg (fun x => x.n.loupe.tokens) (sendData_core d stream m s)
@[simp] theorem sendData_f_phase (d : Die) (stream : Nat) (m : Msg) (s : Node) : (sendData d stream m s).f.phase = s.f.phase := congrArg (fun x => x.f.phase) (sendData_core d stream m s)
@[simp] theorem sendData_f_cause (d : Die) (stream : Nat) (m : Msg) (s : Node) : (sendData d stream m s).f.cause = s.f.cause := congrArg (fun x => x.f.cause) (sendData_core d stream m s)
@[simp] theorem sendData_f_ticks (d : Die) (stream : Nat) (m : Msg) (s : Node) : (sendData d stream m s).f.ticks = s.f.ticks := congrArg (fun x => x.f.ticks) (sendData_core d stream m s)
@[simp] theorem sendData_f_undervoltage (d : Die) (stream : Nat) (m : Msg) (s : Node) : (sendData d stream m s).f.undervoltage = s.f.undervoltage := congrArg (fun x => x.f.undervoltage) (sendData_core d stream m s)
@[simp] theorem sendData_f_waitExpired (d : Die) (stream : Nat) (m : Msg) (s : Node) : (sendData d stream m s).f.waitExpired = s.f.waitExpired := congrArg (fun x => x.f.waitExpired) (sendData_core d stream m s)
@[simp] theorem sendData_f_clasp_link (d : Die) (stream : Nat) (m : Msg) (s : Node) : (sendData d stream m s).f.clasp.link = s.f.clasp.link := congrArg (fun x => x.f.clasp.link) (sendData_core d stream m s)
@[simp] theorem sendData_f_clasp_trained (d : Die) (stream : Nat) (m : Msg) (s : Node) : (sendData d stream m s).f.clasp.trained = s.f.clasp.trained := congrArg (fun x => x.f.clasp.trained) (sendData_core d stream m s)
@[simp] theorem sendData_f_clasp_synth (d : Die) (stream : Nat) (m : Msg) (s : Node) : (sendData d stream m s).f.clasp.synth = s.f.clasp.synth := congrArg (fun x => x.f.clasp.synth) (sendData_core d stream m s)
@[simp] theorem sendData_f_clasp_half (d : Die) (stream : Nat) (m : Msg) (s : Node) : (sendData d stream m s).f.clasp.half = s.f.clasp.half := congrArg (fun x => x.f.clasp.half) (sendData_core d stream m s)
@[simp] theorem sendData_f_clasp_swing (d : Die) (stream : Nat) (m : Msg) (s : Node) : (sendData d stream m s).f.clasp.swing = s.f.clasp.swing := congrArg (fun x => x.f.clasp.swing) (sendData_core d stream m s)
@[simp] theorem sendData_f_clasp_lossSeen (d : Die) (stream : Nat) (m : Msg) (s : Node) : (sendData d stream m s).f.clasp.lossSeen = s.f.clasp.lossSeen := congrArg (fun x => x.f.clasp.lossSeen) (sendData_core d stream m s)
@[simp] theorem sendData_f_clasp_rxSeq (d : Die) (stream : Nat) (m : Msg) (s : Node) : (sendData d stream m s).f.clasp.rxSeq = s.f.clasp.rxSeq := congrArg (fun x => x.f.clasp.rxSeq) (sendData_core d stream m s)
@[simp] theorem sendData_f_clasp_orders (d : Die) (stream : Nat) (m : Msg) (s : Node) : (sendData d stream m s).f.clasp.orders = s.f.clasp.orders := congrArg (fun x => x.f.clasp.orders) (sendData_core d stream m s)
@[simp] theorem sendData_f_ch_map (d : Die) (stream : Nat) (m : Msg) (s : Node) : (sendData d stream m s).f.ch.map = s.f.ch.map := congrArg (fun x => x.f.ch.map) (sendData_core d stream m s)
@[simp] theorem sendData_f_ch_upper (d : Die) (stream : Nat) (m : Msg) (s : Node) : (sendData d stream m s).f.ch.upper = s.f.ch.upper := congrArg (fun x => x.f.ch.upper) (sendData_core d stream m s)
@[simp] theorem sendData_f_ch_timedOut (d : Die) (stream : Nat) (m : Msg) (s : Node) : (sendData d stream m s).f.ch.timedOut = s.f.ch.timedOut := congrArg (fun x => x.f.ch.timedOut) (sendData_core d stream m s)
@[simp] theorem sendData_f_ch_timer (d : Die) (stream : Nat) (m : Msg) (s : Node) : (sendData d stream m s).f.ch.timer = s.f.ch.timer := congrArg (fun x => x.f.ch.timer) (sendData_core d stream m s)
@[simp] theorem sendData_f_ch_timeout (d : Die) (stream : Nat) (m : Msg) (s : Node) : (sendData d stream m s).f.ch.timeout = s.f.ch.timeout := congrArg (fun x => x.f.ch.timeout) (sendData_core d stream m s)
@[simp] theorem sendData_f_ch_far (d : Die) (stream : Nat) (m : Msg) (s : Node) : (sendData d stream m s).f.ch.far = s.f.ch.far := congrArg (fun x => x.f.ch.far) (sendData_core d stream m s)
@[simp] theorem sendData_f_ch_changeDue (d : Die) (stream : Nat) (m : Msg) (s : Node) : (sendData d stream m s).f.ch.changeDue = s.f.ch.changeDue := congrArg (fun x => x.f.ch.changeDue) (sendData_core d stream m s)
@[simp] theorem sendData_f_loupe_tokens (d : Die) (stream : Nat) (m : Msg) (s : Node) : (sendData d stream m s).f.loupe.tokens = s.f.loupe.tokens := congrArg (fun x => x.f.loupe.tokens) (sendData_core d stream m s)
@[simp] theorem sendData_f_inbox (d : Die) (stream : Nat) (m : Msg) (s : Node) : (sendData d stream m s).f.inbox = s.f.inbox := congrArg (fun x => x.f.inbox) (sendData_core d stream m s)
@[simp] theorem sendData_f_fol (d : Die) (stream : Nat) (m : Msg) (s : Node) : (sendData d stream m s).f.fol = s.f.fol := congrArg (fun x => x.f.fol) (sendData_core d stream m s)
@[simp] theorem sendData_f_chain (d : Die) (stream : Nat) (m : Msg) (s : Node) : (sendData d stream m s).f.chain = s.f.chain := congrArg (fun x => x.f.chain) (sendData_core d stream m s)
@[simp] theorem sendData_f_park (d : Die) (stream : Nat) (m : Msg) (s : Node) : (sendData d stream m s).f.park = s.f.park := congrArg (fun x => x.f.park) (sendData_core d stream m s)
@[simp] theorem sendData_f_beads (d : Die) (stream : Nat) (m : Msg) (s : Node) : (sendData d stream m s).f.beads = s.f.beads := congrArg (fun x => x.f.beads) (sendData_core d stream m s)
@[simp] theorem sendData_f_linkA (d : Die) (stream : Nat) (m : Msg) (s : Node) : (sendData d stream m s).f.linkA = s.f.linkA := congrArg (fun x => x.f.linkA) (sendData_core d stream m s)
@[simp] theorem sendData_f_linkB (d : Die) (stream : Nat) (m : Msg) (s : Node) : (sendData d stream m s).f.linkB = s.f.linkB := congrArg (fun x => x.f.linkB) (sendData_core d stream m s)
@[simp] theorem sendData_f_linkC (d : Die) (stream : Nat) (m : Msg) (s : Node) : (sendData d stream m s).f.linkC = s.f.linkC := congrArg (fun x => x.f.linkC) (sendData_core d stream m s)
@[simp] theorem sendData_f_safe0 (d : Die) (stream : Nat) (m : Msg) (s : Node) : (sendData d stream m s).f.safe0 = s.f.safe0 := congrArg (fun x => x.f.safe0) (sendData_core d stream m s)
@[simp] theorem sendData_f_safe1 (d : Die) (stream : Nat) (m : Msg) (s : Node) : (sendData d stream m s).f.safe1 = s.f.safe1 := congrArg (fun x => x.f.safe1) (sendData_core d stream m s)
@[simp] theorem sendData_f_pullQueue (d : Die) (stream : Nat) (m : Msg) (s : Node) : (sendData d stream m s).f.pullQueue = s.f.pullQueue := congrArg (fun x => x.f.pullQueue) (sendData_core d stream m s)
@[simp] theorem sendData_f_fport_current (d : Die) (stream : Nat) (m : Msg) (s : Node) : (sendData d stream m s).f.fport.current = s.f.fport.current := congrArg (fun x => x.f.fport.current) (sendData_core d stream m s)
@[simp] theorem sendData_f_fport_queue (d : Die) (stream : Nat) (m : Msg) (s : Node) : (sendData d stream m s).f.fport.queue = s.f.fport.queue := congrArg (fun x => x.f.fport.queue) (sendData_core d stream m s)
@[simp] theorem sendData_f_fport_job (d : Die) (stream : Nat) (m : Msg) (s : Node) : (sendData d stream m s).f.fport.job = s.f.fport.job := congrArg (fun x => x.f.fport.job) (sendData_core d stream m s)
@[simp] theorem sendData_f_fport_erase (d : Die) (stream : Nat) (m : Msg) (s : Node) : (sendData d stream m s).f.fport.erase = s.f.fport.erase := congrArg (fun x => x.f.fport.erase) (sendData_core d stream m s)
@[simp] theorem sendData_f_fport_recovering (d : Die) (stream : Nat) (m : Msg) (s : Node) : (sendData d stream m s).f.fport.recovering = s.f.fport.recovering := congrArg (fun x => x.f.fport.recovering) (sendData_core d stream m s)
@[simp] theorem sendData_f_fport_tunnels (d : Die) (stream : Nat) (m : Msg) (s : Node) : (sendData d stream m s).f.fport.tunnels = s.f.fport.tunnels := congrArg (fun x => x.f.fport.tunnels) (sendData_core d stream m s)
@[simp] theorem sendData_f_fport_sfdp (d : Die) (stream : Nat) (m : Msg) (s : Node) : (sendData d stream m s).f.fport.sfdp = s.f.fport.sfdp := congrArg (fun x => x.f.fport.sfdp) (sendData_core d stream m s)
@[simp] theorem sendData_f_fport_proposals (d : Die) (stream : Nat) (m : Msg) (s : Node) : (sendData d stream m s).f.fport.proposals = s.f.fport.proposals := congrArg (fun x => x.f.fport.proposals) (sendData_core d stream m s)
@[simp] theorem sendData_nUp (d : Die) (stream : Nat) (m : Msg) (s : Node) : (sendData d stream m s).nUp = s.nUp := by simp [Node.nUp]
@[simp] theorem sendData_fUp (d : Die) (stream : Nat) (m : Msg) (s : Node) : (sendData d stream m s).fUp = s.fUp := by simp [Node.fUp]
@[simp] theorem sendData_trained (d : Die) (stream : Nat) (m : Msg) (s : Node) : (sendData d stream m s).trained = s.trained := by simp [Node.trained]
@[simp] theorem sendData_linkUp (d : Die) (stream : Nat) (m : Msg) (s : Node) : (sendData d stream m s).linkUp = s.linkUp := by simp [Node.linkUp]
@[simp] theorem sendData_up (d : Die) (stream : Nat) (m : Msg) (s : Node) (e : Die) : (sendData d stream m s).up e = s.up e := by cases e <;> simp [Node.up]
@[simp] theorem sendData_valAt (d : Die) (stream : Nat) (m : Msg) (s : Node) (key sel : Nat) : (sendData d stream m s).valAt key sel = s.valAt key sel := by simp [Node.valAt]
@[simp] theorem sendData_val (d : Die) (stream : Nat) (m : Msg) (s : Node) (key : Nat) : (sendData d stream m s).val key = s.val key := by simp [Node.val]
@[simp] theorem sendData_blob (d : Die) (stream : Nat) (m : Msg) (s : Node) (key : Nat) : (sendData d stream m s).blob key = s.blob key := by simp [Node.blob]

/-! setForce. -/

@[simp] theorem setForce_vals (d : Die) (o : Nat) (m : Mask) (s : Node) : (setForce d o m s).vals = s.vals := congrArg (fun x => x.vals) (setForce_core d o m s)
@[simp] theorem setForce_blobs (d : Die) (o : Nat) (m : Mask) (s : Node) : (setForce d o m s).blobs = s.blobs := congrArg (fun x => x.blobs) (setForce_core d o m s)
@[simp] theorem setForce_nLedger (d : Die) (o : Nat) (m : Mask) (s : Node) : (setForce d o m s).nLedger = s.nLedger := congrArg (fun x => x.nLedger) (setForce_core d o m s)
@[simp] theorem setForce_fLedger (d : Die) (o : Nat) (m : Mask) (s : Node) : (setForce d o m s).fLedger = s.fLedger := congrArg (fun x => x.fLedger) (setForce_core d o m s)
@[simp] theorem setForce_n_agree (d : Die) (o : Nat) (m : Mask) (s : Node) : (setForce d o m s).n.agree = s.n.agree := congrArg (fun x => x.n.agree) (setForce_core d o m s)
@[simp] theorem setForce_n_dict (d : Die) (o : Nat) (m : Mask) (s : Node) : (setForce d o m s).n.dict = s.n.dict := congrArg (fun x => x.n.dict) (setForce_core d o m s)
@[simp] theorem setForce_n_port (d : Die) (o : Nat) (m : Mask) (s : Node) : (setForce d o m s).n.port = s.n.port := congrArg (fun x => x.n.port) (setForce_core d o m s)
@[simp] theorem setForce_n_hm (d : Die) (o : Nat) (m : Mask) (s : Node) : (setForce d o m s).n.hm = s.n.hm := congrArg (fun x => x.n.hm) (setForce_core d o m s)
@[simp] theorem setForce_n_bar (d : Die) (o : Nat) (m : Mask) (s : Node) : (setForce d o m s).n.bar = s.n.bar := congrArg (fun x => x.n.bar) (setForce_core d o m s)
@[simp] theorem setForce_n_pow (d : Die) (o : Nat) (m : Mask) (s : Node) : (setForce d o m s).n.pow = s.n.pow := congrArg (fun x => x.n.pow) (setForce_core d o m s)
@[simp] theorem setForce_n_number (d : Die) (o : Nat) (m : Mask) (s : Node) : (setForce d o m s).n.number = s.n.number := congrArg (fun x => x.n.number) (setForce_core d o m s)
@[simp] theorem setForce_n_trainings (d : Die) (o : Nat) (m : Mask) (s : Node) : (setForce d o m s).n.trainings = s.n.trainings := congrArg (fun x => x.n.trainings) (setForce_core d o m s)
@[simp] theorem setForce_n_crystal (d : Die) (o : Nat) (m : Mask) (s : Node) : (setForce d o m s).n.crystal = s.n.crystal := congrArg (fun x => x.n.crystal) (setForce_core d o m s)
@[simp] theorem setForce_n_straps (d : Die) (o : Nat) (m : Mask) (s : Node) : (setForce d o m s).n.straps = s.n.straps := congrArg (fun x => x.n.straps) (setForce_core d o m s)
@[simp] theorem setForce_n_floating (d : Die) (o : Nat) (m : Mask) (s : Node) : (setForce d o m s).n.floating = s.n.floating := congrArg (fun x => x.n.floating) (setForce_core d o m s)
@[simp] theorem setForce_n_runDeferred (d : Die) (o : Nat) (m : Mask) (s : Node) : (setForce d o m s).n.runDeferred = s.n.runDeferred := congrArg (fun x => x.n.runDeferred) (setForce_core d o m s)
@[simp] theorem setForce_n_can_state (d : Die) (o : Nat) (m : Mask) (s : Node) : (setForce d o m s).n.can.state = s.n.can.state := congrArg (fun x => x.n.can.state) (setForce_core d o m s)
@[simp] theorem setForce_n_can_tx (d : Die) (o : Nat) (m : Mask) (s : Node) : (setForce d o m s).n.can.tx = s.n.can.tx := congrArg (fun x => x.n.can.tx) (setForce_core d o m s)
@[simp] theorem setForce_n_can_tecCount (d : Die) (o : Nat) (m : Mask) (s : Node) : (setForce d o m s).n.can.tecCount = s.n.can.tecCount := congrArg (fun x => x.n.can.tecCount) (setForce_core d o m s)
@[simp] theorem setForce_n_can_recCount (d : Die) (o : Nat) (m : Mask) (s : Node) : (setForce d o m s).n.can.recCount = s.n.can.recCount := congrArg (fun x => x.n.can.recCount) (setForce_core d o m s)
@[simp] theorem setForce_n_can_txvr (d : Die) (o : Nat) (m : Mask) (s : Node) : (setForce d o m s).n.can.txvr = s.n.can.txvr := congrArg (fun x => x.n.can.txvr) (setForce_core d o m s)
@[simp] theorem setForce_n_can_driver (d : Die) (o : Nat) (m : Mask) (s : Node) : (setForce d o m s).n.can.driver = s.n.can.driver := congrArg (fun x => x.n.can.driver) (setForce_core d o m s)
@[simp] theorem setForce_n_can_syncSeen (d : Die) (o : Nat) (m : Mask) (s : Node) : (setForce d o m s).n.can.syncSeen = s.n.can.syncSeen := congrArg (fun x => x.n.can.syncSeen) (setForce_core d o m s)
@[simp] theorem setForce_n_can_tunnelFirst (d : Die) (o : Nat) (m : Mask) (s : Node) : (setForce d o m s).n.can.tunnelFirst = s.n.can.tunnelFirst := congrArg (fun x => x.n.can.tunnelFirst) (setForce_core d o m s)
@[simp] theorem setForce_n_phase (d : Die) (o : Nat) (m : Mask) (s : Node) : (setForce d o m s).n.phase = s.n.phase := congrArg (fun x => x.n.phase) (setForce_core d o m s)
@[simp] theorem setForce_n_cause (d : Die) (o : Nat) (m : Mask) (s : Node) : (setForce d o m s).n.cause = s.n.cause := congrArg (fun x => x.n.cause) (setForce_core d o m s)
@[simp] theorem setForce_n_ticks (d : Die) (o : Nat) (m : Mask) (s : Node) : (setForce d o m s).n.ticks = s.n.ticks := congrArg (fun x => x.n.ticks) (setForce_core d o m s)
@[simp] theorem setForce_n_undervoltage (d : Die) (o : Nat) (m : Mask) (s : Node) : (setForce d o m s).n.undervoltage = s.n.undervoltage := congrArg (fun x => x.n.undervoltage) (setForce_core d o m s)
@[simp] theorem setForce_n_waitExpired (d : Die) (o : Nat) (m : Mask) (s : Node) : (setForce d o m s).n.waitExpired = s.n.waitExpired := congrArg (fun x => x.n.waitExpired) (setForce_core d o m s)
@[simp] theorem setForce_n_clasp_link (d : Die) (o : Nat) (m : Mask) (s : Node) : (setForce d o m s).n.clasp.link = s.n.clasp.link := congrArg (fun x => x.n.clasp.link) (setForce_core d o m s)
@[simp] theorem setForce_n_clasp_trained (d : Die) (o : Nat) (m : Mask) (s : Node) : (setForce d o m s).n.clasp.trained = s.n.clasp.trained := congrArg (fun x => x.n.clasp.trained) (setForce_core d o m s)
@[simp] theorem setForce_n_clasp_synth (d : Die) (o : Nat) (m : Mask) (s : Node) : (setForce d o m s).n.clasp.synth = s.n.clasp.synth := congrArg (fun x => x.n.clasp.synth) (setForce_core d o m s)
@[simp] theorem setForce_n_clasp_half (d : Die) (o : Nat) (m : Mask) (s : Node) : (setForce d o m s).n.clasp.half = s.n.clasp.half := congrArg (fun x => x.n.clasp.half) (setForce_core d o m s)
@[simp] theorem setForce_n_clasp_swing (d : Die) (o : Nat) (m : Mask) (s : Node) : (setForce d o m s).n.clasp.swing = s.n.clasp.swing := congrArg (fun x => x.n.clasp.swing) (setForce_core d o m s)
@[simp] theorem setForce_n_clasp_lossSeen (d : Die) (o : Nat) (m : Mask) (s : Node) : (setForce d o m s).n.clasp.lossSeen = s.n.clasp.lossSeen := congrArg (fun x => x.n.clasp.lossSeen) (setForce_core d o m s)
@[simp] theorem setForce_n_clasp_rxSeq (d : Die) (o : Nat) (m : Mask) (s : Node) : (setForce d o m s).n.clasp.rxSeq = s.n.clasp.rxSeq := congrArg (fun x => x.n.clasp.rxSeq) (setForce_core d o m s)
@[simp] theorem setForce_n_clasp_orders (d : Die) (o : Nat) (m : Mask) (s : Node) : (setForce d o m s).n.clasp.orders = s.n.clasp.orders := congrArg (fun x => x.n.clasp.orders) (setForce_core d o m s)
@[simp] theorem setForce_n_ch_map (d : Die) (o : Nat) (m : Mask) (s : Node) : (setForce d o m s).n.ch.map = s.n.ch.map := congrArg (fun x => x.n.ch.map) (setForce_core d o m s)
@[simp] theorem setForce_n_ch_upper (d : Die) (o : Nat) (m : Mask) (s : Node) : (setForce d o m s).n.ch.upper = s.n.ch.upper := congrArg (fun x => x.n.ch.upper) (setForce_core d o m s)
@[simp] theorem setForce_n_ch_timedOut (d : Die) (o : Nat) (m : Mask) (s : Node) : (setForce d o m s).n.ch.timedOut = s.n.ch.timedOut := congrArg (fun x => x.n.ch.timedOut) (setForce_core d o m s)
@[simp] theorem setForce_n_ch_timer (d : Die) (o : Nat) (m : Mask) (s : Node) : (setForce d o m s).n.ch.timer = s.n.ch.timer := congrArg (fun x => x.n.ch.timer) (setForce_core d o m s)
@[simp] theorem setForce_n_ch_timeout (d : Die) (o : Nat) (m : Mask) (s : Node) : (setForce d o m s).n.ch.timeout = s.n.ch.timeout := congrArg (fun x => x.n.ch.timeout) (setForce_core d o m s)
@[simp] theorem setForce_n_ch_far (d : Die) (o : Nat) (m : Mask) (s : Node) : (setForce d o m s).n.ch.far = s.n.ch.far := congrArg (fun x => x.n.ch.far) (setForce_core d o m s)
@[simp] theorem setForce_n_ch_changeDue (d : Die) (o : Nat) (m : Mask) (s : Node) : (setForce d o m s).n.ch.changeDue = s.n.ch.changeDue := congrArg (fun x => x.n.ch.changeDue) (setForce_core d o m s)
@[simp] theorem setForce_n_loupe_tokens (d : Die) (o : Nat) (m : Mask) (s : Node) : (setForce d o m s).n.loupe.tokens = s.n.loupe.tokens := congrArg (fun x => x.n.loupe.tokens) (setForce_core d o m s)
@[simp] theorem setForce_f_phase (d : Die) (o : Nat) (m : Mask) (s : Node) : (setForce d o m s).f.phase = s.f.phase := congrArg (fun x => x.f.phase) (setForce_core d o m s)
@[simp] theorem setForce_f_cause (d : Die) (o : Nat) (m : Mask) (s : Node) : (setForce d o m s).f.cause = s.f.cause := congrArg (fun x => x.f.cause) (setForce_core d o m s)
@[simp] theorem setForce_f_ticks (d : Die) (o : Nat) (m : Mask) (s : Node) : (setForce d o m s).f.ticks = s.f.ticks := congrArg (fun x => x.f.ticks) (setForce_core d o m s)
@[simp] theorem setForce_f_undervoltage (d : Die) (o : Nat) (m : Mask) (s : Node) : (setForce d o m s).f.undervoltage = s.f.undervoltage := congrArg (fun x => x.f.undervoltage) (setForce_core d o m s)
@[simp] theorem setForce_f_waitExpired (d : Die) (o : Nat) (m : Mask) (s : Node) : (setForce d o m s).f.waitExpired = s.f.waitExpired := congrArg (fun x => x.f.waitExpired) (setForce_core d o m s)
@[simp] theorem setForce_f_clasp_link (d : Die) (o : Nat) (m : Mask) (s : Node) : (setForce d o m s).f.clasp.link = s.f.clasp.link := congrArg (fun x => x.f.clasp.link) (setForce_core d o m s)
@[simp] theorem setForce_f_clasp_trained (d : Die) (o : Nat) (m : Mask) (s : Node) : (setForce d o m s).f.clasp.trained = s.f.clasp.trained := congrArg (fun x => x.f.clasp.trained) (setForce_core d o m s)
@[simp] theorem setForce_f_clasp_synth (d : Die) (o : Nat) (m : Mask) (s : Node) : (setForce d o m s).f.clasp.synth = s.f.clasp.synth := congrArg (fun x => x.f.clasp.synth) (setForce_core d o m s)
@[simp] theorem setForce_f_clasp_half (d : Die) (o : Nat) (m : Mask) (s : Node) : (setForce d o m s).f.clasp.half = s.f.clasp.half := congrArg (fun x => x.f.clasp.half) (setForce_core d o m s)
@[simp] theorem setForce_f_clasp_swing (d : Die) (o : Nat) (m : Mask) (s : Node) : (setForce d o m s).f.clasp.swing = s.f.clasp.swing := congrArg (fun x => x.f.clasp.swing) (setForce_core d o m s)
@[simp] theorem setForce_f_clasp_lossSeen (d : Die) (o : Nat) (m : Mask) (s : Node) : (setForce d o m s).f.clasp.lossSeen = s.f.clasp.lossSeen := congrArg (fun x => x.f.clasp.lossSeen) (setForce_core d o m s)
@[simp] theorem setForce_f_clasp_rxSeq (d : Die) (o : Nat) (m : Mask) (s : Node) : (setForce d o m s).f.clasp.rxSeq = s.f.clasp.rxSeq := congrArg (fun x => x.f.clasp.rxSeq) (setForce_core d o m s)
@[simp] theorem setForce_f_clasp_orders (d : Die) (o : Nat) (m : Mask) (s : Node) : (setForce d o m s).f.clasp.orders = s.f.clasp.orders := congrArg (fun x => x.f.clasp.orders) (setForce_core d o m s)
@[simp] theorem setForce_f_ch_map (d : Die) (o : Nat) (m : Mask) (s : Node) : (setForce d o m s).f.ch.map = s.f.ch.map := congrArg (fun x => x.f.ch.map) (setForce_core d o m s)
@[simp] theorem setForce_f_ch_upper (d : Die) (o : Nat) (m : Mask) (s : Node) : (setForce d o m s).f.ch.upper = s.f.ch.upper := congrArg (fun x => x.f.ch.upper) (setForce_core d o m s)
@[simp] theorem setForce_f_ch_timedOut (d : Die) (o : Nat) (m : Mask) (s : Node) : (setForce d o m s).f.ch.timedOut = s.f.ch.timedOut := congrArg (fun x => x.f.ch.timedOut) (setForce_core d o m s)
@[simp] theorem setForce_f_ch_timer (d : Die) (o : Nat) (m : Mask) (s : Node) : (setForce d o m s).f.ch.timer = s.f.ch.timer := congrArg (fun x => x.f.ch.timer) (setForce_core d o m s)
@[simp] theorem setForce_f_ch_timeout (d : Die) (o : Nat) (m : Mask) (s : Node) : (setForce d o m s).f.ch.timeout = s.f.ch.timeout := congrArg (fun x => x.f.ch.timeout) (setForce_core d o m s)
@[simp] theorem setForce_f_ch_far (d : Die) (o : Nat) (m : Mask) (s : Node) : (setForce d o m s).f.ch.far = s.f.ch.far := congrArg (fun x => x.f.ch.far) (setForce_core d o m s)
@[simp] theorem setForce_f_ch_changeDue (d : Die) (o : Nat) (m : Mask) (s : Node) : (setForce d o m s).f.ch.changeDue = s.f.ch.changeDue := congrArg (fun x => x.f.ch.changeDue) (setForce_core d o m s)
@[simp] theorem setForce_f_loupe_tokens (d : Die) (o : Nat) (m : Mask) (s : Node) : (setForce d o m s).f.loupe.tokens = s.f.loupe.tokens := congrArg (fun x => x.f.loupe.tokens) (setForce_core d o m s)
@[simp] theorem setForce_f_inbox (d : Die) (o : Nat) (m : Mask) (s : Node) : (setForce d o m s).f.inbox = s.f.inbox := congrArg (fun x => x.f.inbox) (setForce_core d o m s)
@[simp] theorem setForce_f_fol (d : Die) (o : Nat) (m : Mask) (s : Node) : (setForce d o m s).f.fol = s.f.fol := congrArg (fun x => x.f.fol) (setForce_core d o m s)
@[simp] theorem setForce_f_chain (d : Die) (o : Nat) (m : Mask) (s : Node) : (setForce d o m s).f.chain = s.f.chain := congrArg (fun x => x.f.chain) (setForce_core d o m s)
@[simp] theorem setForce_f_park (d : Die) (o : Nat) (m : Mask) (s : Node) : (setForce d o m s).f.park = s.f.park := congrArg (fun x => x.f.park) (setForce_core d o m s)
@[simp] theorem setForce_f_beads (d : Die) (o : Nat) (m : Mask) (s : Node) : (setForce d o m s).f.beads = s.f.beads := congrArg (fun x => x.f.beads) (setForce_core d o m s)
@[simp] theorem setForce_f_linkA (d : Die) (o : Nat) (m : Mask) (s : Node) : (setForce d o m s).f.linkA = s.f.linkA := congrArg (fun x => x.f.linkA) (setForce_core d o m s)
@[simp] theorem setForce_f_linkB (d : Die) (o : Nat) (m : Mask) (s : Node) : (setForce d o m s).f.linkB = s.f.linkB := congrArg (fun x => x.f.linkB) (setForce_core d o m s)
@[simp] theorem setForce_f_linkC (d : Die) (o : Nat) (m : Mask) (s : Node) : (setForce d o m s).f.linkC = s.f.linkC := congrArg (fun x => x.f.linkC) (setForce_core d o m s)
@[simp] theorem setForce_f_safe0 (d : Die) (o : Nat) (m : Mask) (s : Node) : (setForce d o m s).f.safe0 = s.f.safe0 := congrArg (fun x => x.f.safe0) (setForce_core d o m s)
@[simp] theorem setForce_f_safe1 (d : Die) (o : Nat) (m : Mask) (s : Node) : (setForce d o m s).f.safe1 = s.f.safe1 := congrArg (fun x => x.f.safe1) (setForce_core d o m s)
@[simp] theorem setForce_f_pullQueue (d : Die) (o : Nat) (m : Mask) (s : Node) : (setForce d o m s).f.pullQueue = s.f.pullQueue := congrArg (fun x => x.f.pullQueue) (setForce_core d o m s)
@[simp] theorem setForce_f_fport_current (d : Die) (o : Nat) (m : Mask) (s : Node) : (setForce d o m s).f.fport.current = s.f.fport.current := congrArg (fun x => x.f.fport.current) (setForce_core d o m s)
@[simp] theorem setForce_f_fport_queue (d : Die) (o : Nat) (m : Mask) (s : Node) : (setForce d o m s).f.fport.queue = s.f.fport.queue := congrArg (fun x => x.f.fport.queue) (setForce_core d o m s)
@[simp] theorem setForce_f_fport_job (d : Die) (o : Nat) (m : Mask) (s : Node) : (setForce d o m s).f.fport.job = s.f.fport.job := congrArg (fun x => x.f.fport.job) (setForce_core d o m s)
@[simp] theorem setForce_f_fport_erase (d : Die) (o : Nat) (m : Mask) (s : Node) : (setForce d o m s).f.fport.erase = s.f.fport.erase := congrArg (fun x => x.f.fport.erase) (setForce_core d o m s)
@[simp] theorem setForce_f_fport_recovering (d : Die) (o : Nat) (m : Mask) (s : Node) : (setForce d o m s).f.fport.recovering = s.f.fport.recovering := congrArg (fun x => x.f.fport.recovering) (setForce_core d o m s)
@[simp] theorem setForce_f_fport_tunnels (d : Die) (o : Nat) (m : Mask) (s : Node) : (setForce d o m s).f.fport.tunnels = s.f.fport.tunnels := congrArg (fun x => x.f.fport.tunnels) (setForce_core d o m s)
@[simp] theorem setForce_f_fport_sfdp (d : Die) (o : Nat) (m : Mask) (s : Node) : (setForce d o m s).f.fport.sfdp = s.f.fport.sfdp := congrArg (fun x => x.f.fport.sfdp) (setForce_core d o m s)
@[simp] theorem setForce_f_fport_proposals (d : Die) (o : Nat) (m : Mask) (s : Node) : (setForce d o m s).f.fport.proposals = s.f.fport.proposals := congrArg (fun x => x.f.fport.proposals) (setForce_core d o m s)
@[simp] theorem setForce_nUp (d : Die) (o : Nat) (m : Mask) (s : Node) : (setForce d o m s).nUp = s.nUp := by simp [Node.nUp]
@[simp] theorem setForce_fUp (d : Die) (o : Nat) (m : Mask) (s : Node) : (setForce d o m s).fUp = s.fUp := by simp [Node.fUp]
@[simp] theorem setForce_trained (d : Die) (o : Nat) (m : Mask) (s : Node) : (setForce d o m s).trained = s.trained := by simp [Node.trained]
@[simp] theorem setForce_linkUp (d : Die) (o : Nat) (m : Mask) (s : Node) : (setForce d o m s).linkUp = s.linkUp := by simp [Node.linkUp]
@[simp] theorem setForce_up (d : Die) (o : Nat) (m : Mask) (s : Node) (e : Die) : (setForce d o m s).up e = s.up e := by cases e <;> simp [Node.up]
@[simp] theorem setForce_valAt (d : Die) (o : Nat) (m : Mask) (s : Node) (key sel : Nat) : (setForce d o m s).valAt key sel = s.valAt key sel := by simp [Node.valAt]
@[simp] theorem setForce_val (d : Die) (o : Nat) (m : Mask) (s : Node) (key : Nat) : (setForce d o m s).val key = s.val key := by simp [Node.val]
@[simp] theorem setForce_blob (d : Die) (o : Nat) (m : Mask) (s : Node) (key : Nat) : (setForce d o m s).blob key = s.blob key := by simp [Node.blob]

/-! queueAlert. -/

@[simp] theorem queueAlert_vals (die source cls : Nat) (detected : T48) (status : Word) (s : Node) : (queueAlert die source cls detected status s).vals = s.vals := congrArg (fun x => x.vals) (queueAlert_core die source cls detected status s)
@[simp] theorem queueAlert_blobs (die source cls : Nat) (detected : T48) (status : Word) (s : Node) : (queueAlert die source cls detected status s).blobs = s.blobs := congrArg (fun x => x.blobs) (queueAlert_core die source cls detected status s)
@[simp] theorem queueAlert_nLedger (die source cls : Nat) (detected : T48) (status : Word) (s : Node) : (queueAlert die source cls detected status s).nLedger = s.nLedger := congrArg (fun x => x.nLedger) (queueAlert_core die source cls detected status s)
@[simp] theorem queueAlert_fLedger (die source cls : Nat) (detected : T48) (status : Word) (s : Node) : (queueAlert die source cls detected status s).fLedger = s.fLedger := congrArg (fun x => x.fLedger) (queueAlert_core die source cls detected status s)
@[simp] theorem queueAlert_n_agree (die source cls : Nat) (detected : T48) (status : Word) (s : Node) : (queueAlert die source cls detected status s).n.agree = s.n.agree := congrArg (fun x => x.n.agree) (queueAlert_core die source cls detected status s)
@[simp] theorem queueAlert_n_dict (die source cls : Nat) (detected : T48) (status : Word) (s : Node) : (queueAlert die source cls detected status s).n.dict = s.n.dict := congrArg (fun x => x.n.dict) (queueAlert_core die source cls detected status s)
@[simp] theorem queueAlert_n_port (die source cls : Nat) (detected : T48) (status : Word) (s : Node) : (queueAlert die source cls detected status s).n.port = s.n.port := congrArg (fun x => x.n.port) (queueAlert_core die source cls detected status s)
@[simp] theorem queueAlert_n_hm (die source cls : Nat) (detected : T48) (status : Word) (s : Node) : (queueAlert die source cls detected status s).n.hm = s.n.hm := congrArg (fun x => x.n.hm) (queueAlert_core die source cls detected status s)
@[simp] theorem queueAlert_n_bar (die source cls : Nat) (detected : T48) (status : Word) (s : Node) : (queueAlert die source cls detected status s).n.bar = s.n.bar := congrArg (fun x => x.n.bar) (queueAlert_core die source cls detected status s)
@[simp] theorem queueAlert_n_pow (die source cls : Nat) (detected : T48) (status : Word) (s : Node) : (queueAlert die source cls detected status s).n.pow = s.n.pow := congrArg (fun x => x.n.pow) (queueAlert_core die source cls detected status s)
@[simp] theorem queueAlert_n_number (die source cls : Nat) (detected : T48) (status : Word) (s : Node) : (queueAlert die source cls detected status s).n.number = s.n.number := congrArg (fun x => x.n.number) (queueAlert_core die source cls detected status s)
@[simp] theorem queueAlert_n_trainings (die source cls : Nat) (detected : T48) (status : Word) (s : Node) : (queueAlert die source cls detected status s).n.trainings = s.n.trainings := congrArg (fun x => x.n.trainings) (queueAlert_core die source cls detected status s)
@[simp] theorem queueAlert_n_crystal (die source cls : Nat) (detected : T48) (status : Word) (s : Node) : (queueAlert die source cls detected status s).n.crystal = s.n.crystal := congrArg (fun x => x.n.crystal) (queueAlert_core die source cls detected status s)
@[simp] theorem queueAlert_n_straps (die source cls : Nat) (detected : T48) (status : Word) (s : Node) : (queueAlert die source cls detected status s).n.straps = s.n.straps := congrArg (fun x => x.n.straps) (queueAlert_core die source cls detected status s)
@[simp] theorem queueAlert_n_floating (die source cls : Nat) (detected : T48) (status : Word) (s : Node) : (queueAlert die source cls detected status s).n.floating = s.n.floating := congrArg (fun x => x.n.floating) (queueAlert_core die source cls detected status s)
@[simp] theorem queueAlert_n_runDeferred (die source cls : Nat) (detected : T48) (status : Word) (s : Node) : (queueAlert die source cls detected status s).n.runDeferred = s.n.runDeferred := congrArg (fun x => x.n.runDeferred) (queueAlert_core die source cls detected status s)
@[simp] theorem queueAlert_n_can_state (die source cls : Nat) (detected : T48) (status : Word) (s : Node) : (queueAlert die source cls detected status s).n.can.state = s.n.can.state := congrArg (fun x => x.n.can.state) (queueAlert_core die source cls detected status s)
@[simp] theorem queueAlert_n_can_tx (die source cls : Nat) (detected : T48) (status : Word) (s : Node) : (queueAlert die source cls detected status s).n.can.tx = s.n.can.tx := congrArg (fun x => x.n.can.tx) (queueAlert_core die source cls detected status s)
@[simp] theorem queueAlert_n_can_tecCount (die source cls : Nat) (detected : T48) (status : Word) (s : Node) : (queueAlert die source cls detected status s).n.can.tecCount = s.n.can.tecCount := congrArg (fun x => x.n.can.tecCount) (queueAlert_core die source cls detected status s)
@[simp] theorem queueAlert_n_can_recCount (die source cls : Nat) (detected : T48) (status : Word) (s : Node) : (queueAlert die source cls detected status s).n.can.recCount = s.n.can.recCount := congrArg (fun x => x.n.can.recCount) (queueAlert_core die source cls detected status s)
@[simp] theorem queueAlert_n_can_txvr (die source cls : Nat) (detected : T48) (status : Word) (s : Node) : (queueAlert die source cls detected status s).n.can.txvr = s.n.can.txvr := congrArg (fun x => x.n.can.txvr) (queueAlert_core die source cls detected status s)
@[simp] theorem queueAlert_n_can_driver (die source cls : Nat) (detected : T48) (status : Word) (s : Node) : (queueAlert die source cls detected status s).n.can.driver = s.n.can.driver := congrArg (fun x => x.n.can.driver) (queueAlert_core die source cls detected status s)
@[simp] theorem queueAlert_n_can_syncSeen (die source cls : Nat) (detected : T48) (status : Word) (s : Node) : (queueAlert die source cls detected status s).n.can.syncSeen = s.n.can.syncSeen := congrArg (fun x => x.n.can.syncSeen) (queueAlert_core die source cls detected status s)
@[simp] theorem queueAlert_n_can_tunnelFirst (die source cls : Nat) (detected : T48) (status : Word) (s : Node) : (queueAlert die source cls detected status s).n.can.tunnelFirst = s.n.can.tunnelFirst := congrArg (fun x => x.n.can.tunnelFirst) (queueAlert_core die source cls detected status s)
@[simp] theorem queueAlert_n_phase (die source cls : Nat) (detected : T48) (status : Word) (s : Node) : (queueAlert die source cls detected status s).n.phase = s.n.phase := congrArg (fun x => x.n.phase) (queueAlert_core die source cls detected status s)
@[simp] theorem queueAlert_n_cause (die source cls : Nat) (detected : T48) (status : Word) (s : Node) : (queueAlert die source cls detected status s).n.cause = s.n.cause := congrArg (fun x => x.n.cause) (queueAlert_core die source cls detected status s)
@[simp] theorem queueAlert_n_ticks (die source cls : Nat) (detected : T48) (status : Word) (s : Node) : (queueAlert die source cls detected status s).n.ticks = s.n.ticks := congrArg (fun x => x.n.ticks) (queueAlert_core die source cls detected status s)
@[simp] theorem queueAlert_n_undervoltage (die source cls : Nat) (detected : T48) (status : Word) (s : Node) : (queueAlert die source cls detected status s).n.undervoltage = s.n.undervoltage := congrArg (fun x => x.n.undervoltage) (queueAlert_core die source cls detected status s)
@[simp] theorem queueAlert_n_waitExpired (die source cls : Nat) (detected : T48) (status : Word) (s : Node) : (queueAlert die source cls detected status s).n.waitExpired = s.n.waitExpired := congrArg (fun x => x.n.waitExpired) (queueAlert_core die source cls detected status s)
@[simp] theorem queueAlert_n_clasp_link (die source cls : Nat) (detected : T48) (status : Word) (s : Node) : (queueAlert die source cls detected status s).n.clasp.link = s.n.clasp.link := congrArg (fun x => x.n.clasp.link) (queueAlert_core die source cls detected status s)
@[simp] theorem queueAlert_n_clasp_trained (die source cls : Nat) (detected : T48) (status : Word) (s : Node) : (queueAlert die source cls detected status s).n.clasp.trained = s.n.clasp.trained := congrArg (fun x => x.n.clasp.trained) (queueAlert_core die source cls detected status s)
@[simp] theorem queueAlert_n_clasp_synth (die source cls : Nat) (detected : T48) (status : Word) (s : Node) : (queueAlert die source cls detected status s).n.clasp.synth = s.n.clasp.synth := congrArg (fun x => x.n.clasp.synth) (queueAlert_core die source cls detected status s)
@[simp] theorem queueAlert_n_clasp_half (die source cls : Nat) (detected : T48) (status : Word) (s : Node) : (queueAlert die source cls detected status s).n.clasp.half = s.n.clasp.half := congrArg (fun x => x.n.clasp.half) (queueAlert_core die source cls detected status s)
@[simp] theorem queueAlert_n_clasp_swing (die source cls : Nat) (detected : T48) (status : Word) (s : Node) : (queueAlert die source cls detected status s).n.clasp.swing = s.n.clasp.swing := congrArg (fun x => x.n.clasp.swing) (queueAlert_core die source cls detected status s)
@[simp] theorem queueAlert_n_clasp_lossSeen (die source cls : Nat) (detected : T48) (status : Word) (s : Node) : (queueAlert die source cls detected status s).n.clasp.lossSeen = s.n.clasp.lossSeen := congrArg (fun x => x.n.clasp.lossSeen) (queueAlert_core die source cls detected status s)
@[simp] theorem queueAlert_n_clasp_rxSeq (die source cls : Nat) (detected : T48) (status : Word) (s : Node) : (queueAlert die source cls detected status s).n.clasp.rxSeq = s.n.clasp.rxSeq := congrArg (fun x => x.n.clasp.rxSeq) (queueAlert_core die source cls detected status s)
@[simp] theorem queueAlert_n_clasp_orders (die source cls : Nat) (detected : T48) (status : Word) (s : Node) : (queueAlert die source cls detected status s).n.clasp.orders = s.n.clasp.orders := congrArg (fun x => x.n.clasp.orders) (queueAlert_core die source cls detected status s)
@[simp] theorem queueAlert_n_ch_map (die source cls : Nat) (detected : T48) (status : Word) (s : Node) : (queueAlert die source cls detected status s).n.ch.map = s.n.ch.map := congrArg (fun x => x.n.ch.map) (queueAlert_core die source cls detected status s)
@[simp] theorem queueAlert_n_ch_upper (die source cls : Nat) (detected : T48) (status : Word) (s : Node) : (queueAlert die source cls detected status s).n.ch.upper = s.n.ch.upper := congrArg (fun x => x.n.ch.upper) (queueAlert_core die source cls detected status s)
@[simp] theorem queueAlert_n_ch_timedOut (die source cls : Nat) (detected : T48) (status : Word) (s : Node) : (queueAlert die source cls detected status s).n.ch.timedOut = s.n.ch.timedOut := congrArg (fun x => x.n.ch.timedOut) (queueAlert_core die source cls detected status s)
@[simp] theorem queueAlert_n_ch_timer (die source cls : Nat) (detected : T48) (status : Word) (s : Node) : (queueAlert die source cls detected status s).n.ch.timer = s.n.ch.timer := congrArg (fun x => x.n.ch.timer) (queueAlert_core die source cls detected status s)
@[simp] theorem queueAlert_n_ch_timeout (die source cls : Nat) (detected : T48) (status : Word) (s : Node) : (queueAlert die source cls detected status s).n.ch.timeout = s.n.ch.timeout := congrArg (fun x => x.n.ch.timeout) (queueAlert_core die source cls detected status s)
@[simp] theorem queueAlert_n_ch_far (die source cls : Nat) (detected : T48) (status : Word) (s : Node) : (queueAlert die source cls detected status s).n.ch.far = s.n.ch.far := congrArg (fun x => x.n.ch.far) (queueAlert_core die source cls detected status s)
@[simp] theorem queueAlert_n_ch_changeDue (die source cls : Nat) (detected : T48) (status : Word) (s : Node) : (queueAlert die source cls detected status s).n.ch.changeDue = s.n.ch.changeDue := congrArg (fun x => x.n.ch.changeDue) (queueAlert_core die source cls detected status s)
@[simp] theorem queueAlert_n_loupe_tokens (die source cls : Nat) (detected : T48) (status : Word) (s : Node) : (queueAlert die source cls detected status s).n.loupe.tokens = s.n.loupe.tokens := congrArg (fun x => x.n.loupe.tokens) (queueAlert_core die source cls detected status s)
@[simp] theorem queueAlert_f_phase (die source cls : Nat) (detected : T48) (status : Word) (s : Node) : (queueAlert die source cls detected status s).f.phase = s.f.phase := congrArg (fun x => x.f.phase) (queueAlert_core die source cls detected status s)
@[simp] theorem queueAlert_f_cause (die source cls : Nat) (detected : T48) (status : Word) (s : Node) : (queueAlert die source cls detected status s).f.cause = s.f.cause := congrArg (fun x => x.f.cause) (queueAlert_core die source cls detected status s)
@[simp] theorem queueAlert_f_ticks (die source cls : Nat) (detected : T48) (status : Word) (s : Node) : (queueAlert die source cls detected status s).f.ticks = s.f.ticks := congrArg (fun x => x.f.ticks) (queueAlert_core die source cls detected status s)
@[simp] theorem queueAlert_f_undervoltage (die source cls : Nat) (detected : T48) (status : Word) (s : Node) : (queueAlert die source cls detected status s).f.undervoltage = s.f.undervoltage := congrArg (fun x => x.f.undervoltage) (queueAlert_core die source cls detected status s)
@[simp] theorem queueAlert_f_waitExpired (die source cls : Nat) (detected : T48) (status : Word) (s : Node) : (queueAlert die source cls detected status s).f.waitExpired = s.f.waitExpired := congrArg (fun x => x.f.waitExpired) (queueAlert_core die source cls detected status s)
@[simp] theorem queueAlert_f_clasp_link (die source cls : Nat) (detected : T48) (status : Word) (s : Node) : (queueAlert die source cls detected status s).f.clasp.link = s.f.clasp.link := congrArg (fun x => x.f.clasp.link) (queueAlert_core die source cls detected status s)
@[simp] theorem queueAlert_f_clasp_trained (die source cls : Nat) (detected : T48) (status : Word) (s : Node) : (queueAlert die source cls detected status s).f.clasp.trained = s.f.clasp.trained := congrArg (fun x => x.f.clasp.trained) (queueAlert_core die source cls detected status s)
@[simp] theorem queueAlert_f_clasp_synth (die source cls : Nat) (detected : T48) (status : Word) (s : Node) : (queueAlert die source cls detected status s).f.clasp.synth = s.f.clasp.synth := congrArg (fun x => x.f.clasp.synth) (queueAlert_core die source cls detected status s)
@[simp] theorem queueAlert_f_clasp_half (die source cls : Nat) (detected : T48) (status : Word) (s : Node) : (queueAlert die source cls detected status s).f.clasp.half = s.f.clasp.half := congrArg (fun x => x.f.clasp.half) (queueAlert_core die source cls detected status s)
@[simp] theorem queueAlert_f_clasp_swing (die source cls : Nat) (detected : T48) (status : Word) (s : Node) : (queueAlert die source cls detected status s).f.clasp.swing = s.f.clasp.swing := congrArg (fun x => x.f.clasp.swing) (queueAlert_core die source cls detected status s)
@[simp] theorem queueAlert_f_clasp_lossSeen (die source cls : Nat) (detected : T48) (status : Word) (s : Node) : (queueAlert die source cls detected status s).f.clasp.lossSeen = s.f.clasp.lossSeen := congrArg (fun x => x.f.clasp.lossSeen) (queueAlert_core die source cls detected status s)
@[simp] theorem queueAlert_f_clasp_rxSeq (die source cls : Nat) (detected : T48) (status : Word) (s : Node) : (queueAlert die source cls detected status s).f.clasp.rxSeq = s.f.clasp.rxSeq := congrArg (fun x => x.f.clasp.rxSeq) (queueAlert_core die source cls detected status s)
@[simp] theorem queueAlert_f_clasp_orders (die source cls : Nat) (detected : T48) (status : Word) (s : Node) : (queueAlert die source cls detected status s).f.clasp.orders = s.f.clasp.orders := congrArg (fun x => x.f.clasp.orders) (queueAlert_core die source cls detected status s)
@[simp] theorem queueAlert_f_ch_map (die source cls : Nat) (detected : T48) (status : Word) (s : Node) : (queueAlert die source cls detected status s).f.ch.map = s.f.ch.map := congrArg (fun x => x.f.ch.map) (queueAlert_core die source cls detected status s)
@[simp] theorem queueAlert_f_ch_upper (die source cls : Nat) (detected : T48) (status : Word) (s : Node) : (queueAlert die source cls detected status s).f.ch.upper = s.f.ch.upper := congrArg (fun x => x.f.ch.upper) (queueAlert_core die source cls detected status s)
@[simp] theorem queueAlert_f_ch_timedOut (die source cls : Nat) (detected : T48) (status : Word) (s : Node) : (queueAlert die source cls detected status s).f.ch.timedOut = s.f.ch.timedOut := congrArg (fun x => x.f.ch.timedOut) (queueAlert_core die source cls detected status s)
@[simp] theorem queueAlert_f_ch_timer (die source cls : Nat) (detected : T48) (status : Word) (s : Node) : (queueAlert die source cls detected status s).f.ch.timer = s.f.ch.timer := congrArg (fun x => x.f.ch.timer) (queueAlert_core die source cls detected status s)
@[simp] theorem queueAlert_f_ch_timeout (die source cls : Nat) (detected : T48) (status : Word) (s : Node) : (queueAlert die source cls detected status s).f.ch.timeout = s.f.ch.timeout := congrArg (fun x => x.f.ch.timeout) (queueAlert_core die source cls detected status s)
@[simp] theorem queueAlert_f_ch_far (die source cls : Nat) (detected : T48) (status : Word) (s : Node) : (queueAlert die source cls detected status s).f.ch.far = s.f.ch.far := congrArg (fun x => x.f.ch.far) (queueAlert_core die source cls detected status s)
@[simp] theorem queueAlert_f_ch_changeDue (die source cls : Nat) (detected : T48) (status : Word) (s : Node) : (queueAlert die source cls detected status s).f.ch.changeDue = s.f.ch.changeDue := congrArg (fun x => x.f.ch.changeDue) (queueAlert_core die source cls detected status s)
@[simp] theorem queueAlert_f_loupe_tokens (die source cls : Nat) (detected : T48) (status : Word) (s : Node) : (queueAlert die source cls detected status s).f.loupe.tokens = s.f.loupe.tokens := congrArg (fun x => x.f.loupe.tokens) (queueAlert_core die source cls detected status s)
@[simp] theorem queueAlert_f_inbox (die source cls : Nat) (detected : T48) (status : Word) (s : Node) : (queueAlert die source cls detected status s).f.inbox = s.f.inbox := congrArg (fun x => x.f.inbox) (queueAlert_core die source cls detected status s)
@[simp] theorem queueAlert_f_fol (die source cls : Nat) (detected : T48) (status : Word) (s : Node) : (queueAlert die source cls detected status s).f.fol = s.f.fol := congrArg (fun x => x.f.fol) (queueAlert_core die source cls detected status s)
@[simp] theorem queueAlert_f_chain (die source cls : Nat) (detected : T48) (status : Word) (s : Node) : (queueAlert die source cls detected status s).f.chain = s.f.chain := congrArg (fun x => x.f.chain) (queueAlert_core die source cls detected status s)
@[simp] theorem queueAlert_f_park (die source cls : Nat) (detected : T48) (status : Word) (s : Node) : (queueAlert die source cls detected status s).f.park = s.f.park := congrArg (fun x => x.f.park) (queueAlert_core die source cls detected status s)
@[simp] theorem queueAlert_f_beads (die source cls : Nat) (detected : T48) (status : Word) (s : Node) : (queueAlert die source cls detected status s).f.beads = s.f.beads := congrArg (fun x => x.f.beads) (queueAlert_core die source cls detected status s)
@[simp] theorem queueAlert_f_linkA (die source cls : Nat) (detected : T48) (status : Word) (s : Node) : (queueAlert die source cls detected status s).f.linkA = s.f.linkA := congrArg (fun x => x.f.linkA) (queueAlert_core die source cls detected status s)
@[simp] theorem queueAlert_f_linkB (die source cls : Nat) (detected : T48) (status : Word) (s : Node) : (queueAlert die source cls detected status s).f.linkB = s.f.linkB := congrArg (fun x => x.f.linkB) (queueAlert_core die source cls detected status s)
@[simp] theorem queueAlert_f_linkC (die source cls : Nat) (detected : T48) (status : Word) (s : Node) : (queueAlert die source cls detected status s).f.linkC = s.f.linkC := congrArg (fun x => x.f.linkC) (queueAlert_core die source cls detected status s)
@[simp] theorem queueAlert_f_safe0 (die source cls : Nat) (detected : T48) (status : Word) (s : Node) : (queueAlert die source cls detected status s).f.safe0 = s.f.safe0 := congrArg (fun x => x.f.safe0) (queueAlert_core die source cls detected status s)
@[simp] theorem queueAlert_f_safe1 (die source cls : Nat) (detected : T48) (status : Word) (s : Node) : (queueAlert die source cls detected status s).f.safe1 = s.f.safe1 := congrArg (fun x => x.f.safe1) (queueAlert_core die source cls detected status s)
@[simp] theorem queueAlert_f_pullQueue (die source cls : Nat) (detected : T48) (status : Word) (s : Node) : (queueAlert die source cls detected status s).f.pullQueue = s.f.pullQueue := congrArg (fun x => x.f.pullQueue) (queueAlert_core die source cls detected status s)
@[simp] theorem queueAlert_f_fport_current (die source cls : Nat) (detected : T48) (status : Word) (s : Node) : (queueAlert die source cls detected status s).f.fport.current = s.f.fport.current := congrArg (fun x => x.f.fport.current) (queueAlert_core die source cls detected status s)
@[simp] theorem queueAlert_f_fport_queue (die source cls : Nat) (detected : T48) (status : Word) (s : Node) : (queueAlert die source cls detected status s).f.fport.queue = s.f.fport.queue := congrArg (fun x => x.f.fport.queue) (queueAlert_core die source cls detected status s)
@[simp] theorem queueAlert_f_fport_job (die source cls : Nat) (detected : T48) (status : Word) (s : Node) : (queueAlert die source cls detected status s).f.fport.job = s.f.fport.job := congrArg (fun x => x.f.fport.job) (queueAlert_core die source cls detected status s)
@[simp] theorem queueAlert_f_fport_erase (die source cls : Nat) (detected : T48) (status : Word) (s : Node) : (queueAlert die source cls detected status s).f.fport.erase = s.f.fport.erase := congrArg (fun x => x.f.fport.erase) (queueAlert_core die source cls detected status s)
@[simp] theorem queueAlert_f_fport_recovering (die source cls : Nat) (detected : T48) (status : Word) (s : Node) : (queueAlert die source cls detected status s).f.fport.recovering = s.f.fport.recovering := congrArg (fun x => x.f.fport.recovering) (queueAlert_core die source cls detected status s)
@[simp] theorem queueAlert_f_fport_tunnels (die source cls : Nat) (detected : T48) (status : Word) (s : Node) : (queueAlert die source cls detected status s).f.fport.tunnels = s.f.fport.tunnels := congrArg (fun x => x.f.fport.tunnels) (queueAlert_core die source cls detected status s)
@[simp] theorem queueAlert_f_fport_sfdp (die source cls : Nat) (detected : T48) (status : Word) (s : Node) : (queueAlert die source cls detected status s).f.fport.sfdp = s.f.fport.sfdp := congrArg (fun x => x.f.fport.sfdp) (queueAlert_core die source cls detected status s)
@[simp] theorem queueAlert_f_fport_proposals (die source cls : Nat) (detected : T48) (status : Word) (s : Node) : (queueAlert die source cls detected status s).f.fport.proposals = s.f.fport.proposals := congrArg (fun x => x.f.fport.proposals) (queueAlert_core die source cls detected status s)
@[simp] theorem queueAlert_nUp (die source cls : Nat) (detected : T48) (status : Word) (s : Node) : (queueAlert die source cls detected status s).nUp = s.nUp := by simp [Node.nUp]
@[simp] theorem queueAlert_fUp (die source cls : Nat) (detected : T48) (status : Word) (s : Node) : (queueAlert die source cls detected status s).fUp = s.fUp := by simp [Node.fUp]
@[simp] theorem queueAlert_trained (die source cls : Nat) (detected : T48) (status : Word) (s : Node) : (queueAlert die source cls detected status s).trained = s.trained := by simp [Node.trained]
@[simp] theorem queueAlert_linkUp (die source cls : Nat) (detected : T48) (status : Word) (s : Node) : (queueAlert die source cls detected status s).linkUp = s.linkUp := by simp [Node.linkUp]
@[simp] theorem queueAlert_up (die source cls : Nat) (detected : T48) (status : Word) (s : Node) (e : Die) : (queueAlert die source cls detected status s).up e = s.up e := by cases e <;> simp [Node.up]
@[simp] theorem queueAlert_valAt (die source cls : Nat) (detected : T48) (status : Word) (s : Node) (key sel : Nat) : (queueAlert die source cls detected status s).valAt key sel = s.valAt key sel := by simp [Node.valAt]
@[simp] theorem queueAlert_val (die source cls : Nat) (detected : T48) (status : Word) (s : Node) (key : Nat) : (queueAlert die source cls detected status s).val key = s.val key := by simp [Node.val]
@[simp] theorem queueAlert_blob (die source cls : Nat) (detected : T48) (status : Word) (s : Node) (key : Nat) : (queueAlert die source cls detected status s).blob key = s.blob key := by simp [Node.blob]

/-! detect. -/

@[simp] theorem detect_vals (d : Die) (src detail : Nat) (s : Node) : (detect d src detail s).vals = s.vals := congrArg (fun x => x.vals) (detect_core d src detail s)
@[simp] theorem detect_blobs (d : Die) (src detail : Nat) (s : Node) : (detect d src detail s).blobs = s.blobs := congrArg (fun x => x.blobs) (detect_core d src detail s)
@[simp] theorem detect_nLedger (d : Die) (src detail : Nat) (s : Node) : (detect d src detail s).nLedger = s.nLedger := congrArg (fun x => x.nLedger) (detect_core d src detail s)
@[simp] theorem detect_fLedger (d : Die) (src detail : Nat) (s : Node) : (detect d src detail s).fLedger = s.fLedger := congrArg (fun x => x.fLedger) (detect_core d src detail s)
@[simp] theorem detect_n_agree (d : Die) (src detail : Nat) (s : Node) : (detect d src detail s).n.agree = s.n.agree := congrArg (fun x => x.n.agree) (detect_core d src detail s)
@[simp] theorem detect_n_dict (d : Die) (src detail : Nat) (s : Node) : (detect d src detail s).n.dict = s.n.dict := congrArg (fun x => x.n.dict) (detect_core d src detail s)
@[simp] theorem detect_n_port (d : Die) (src detail : Nat) (s : Node) : (detect d src detail s).n.port = s.n.port := congrArg (fun x => x.n.port) (detect_core d src detail s)
@[simp] theorem detect_n_hm (d : Die) (src detail : Nat) (s : Node) : (detect d src detail s).n.hm = s.n.hm := congrArg (fun x => x.n.hm) (detect_core d src detail s)
@[simp] theorem detect_n_bar (d : Die) (src detail : Nat) (s : Node) : (detect d src detail s).n.bar = s.n.bar := congrArg (fun x => x.n.bar) (detect_core d src detail s)
@[simp] theorem detect_n_pow (d : Die) (src detail : Nat) (s : Node) : (detect d src detail s).n.pow = s.n.pow := congrArg (fun x => x.n.pow) (detect_core d src detail s)
@[simp] theorem detect_n_number (d : Die) (src detail : Nat) (s : Node) : (detect d src detail s).n.number = s.n.number := congrArg (fun x => x.n.number) (detect_core d src detail s)
@[simp] theorem detect_n_trainings (d : Die) (src detail : Nat) (s : Node) : (detect d src detail s).n.trainings = s.n.trainings := congrArg (fun x => x.n.trainings) (detect_core d src detail s)
@[simp] theorem detect_n_crystal (d : Die) (src detail : Nat) (s : Node) : (detect d src detail s).n.crystal = s.n.crystal := congrArg (fun x => x.n.crystal) (detect_core d src detail s)
@[simp] theorem detect_n_straps (d : Die) (src detail : Nat) (s : Node) : (detect d src detail s).n.straps = s.n.straps := congrArg (fun x => x.n.straps) (detect_core d src detail s)
@[simp] theorem detect_n_floating (d : Die) (src detail : Nat) (s : Node) : (detect d src detail s).n.floating = s.n.floating := congrArg (fun x => x.n.floating) (detect_core d src detail s)
@[simp] theorem detect_n_runDeferred (d : Die) (src detail : Nat) (s : Node) : (detect d src detail s).n.runDeferred = s.n.runDeferred := congrArg (fun x => x.n.runDeferred) (detect_core d src detail s)
@[simp] theorem detect_n_can_state (d : Die) (src detail : Nat) (s : Node) : (detect d src detail s).n.can.state = s.n.can.state := congrArg (fun x => x.n.can.state) (detect_core d src detail s)
@[simp] theorem detect_n_can_tx (d : Die) (src detail : Nat) (s : Node) : (detect d src detail s).n.can.tx = s.n.can.tx := congrArg (fun x => x.n.can.tx) (detect_core d src detail s)
@[simp] theorem detect_n_can_tecCount (d : Die) (src detail : Nat) (s : Node) : (detect d src detail s).n.can.tecCount = s.n.can.tecCount := congrArg (fun x => x.n.can.tecCount) (detect_core d src detail s)
@[simp] theorem detect_n_can_recCount (d : Die) (src detail : Nat) (s : Node) : (detect d src detail s).n.can.recCount = s.n.can.recCount := congrArg (fun x => x.n.can.recCount) (detect_core d src detail s)
@[simp] theorem detect_n_can_txvr (d : Die) (src detail : Nat) (s : Node) : (detect d src detail s).n.can.txvr = s.n.can.txvr := congrArg (fun x => x.n.can.txvr) (detect_core d src detail s)
@[simp] theorem detect_n_can_driver (d : Die) (src detail : Nat) (s : Node) : (detect d src detail s).n.can.driver = s.n.can.driver := congrArg (fun x => x.n.can.driver) (detect_core d src detail s)
@[simp] theorem detect_n_can_syncSeen (d : Die) (src detail : Nat) (s : Node) : (detect d src detail s).n.can.syncSeen = s.n.can.syncSeen := congrArg (fun x => x.n.can.syncSeen) (detect_core d src detail s)
@[simp] theorem detect_n_can_tunnelFirst (d : Die) (src detail : Nat) (s : Node) : (detect d src detail s).n.can.tunnelFirst = s.n.can.tunnelFirst := congrArg (fun x => x.n.can.tunnelFirst) (detect_core d src detail s)
@[simp] theorem detect_n_phase (d : Die) (src detail : Nat) (s : Node) : (detect d src detail s).n.phase = s.n.phase := congrArg (fun x => x.n.phase) (detect_core d src detail s)
@[simp] theorem detect_n_cause (d : Die) (src detail : Nat) (s : Node) : (detect d src detail s).n.cause = s.n.cause := congrArg (fun x => x.n.cause) (detect_core d src detail s)
@[simp] theorem detect_n_ticks (d : Die) (src detail : Nat) (s : Node) : (detect d src detail s).n.ticks = s.n.ticks := congrArg (fun x => x.n.ticks) (detect_core d src detail s)
@[simp] theorem detect_n_undervoltage (d : Die) (src detail : Nat) (s : Node) : (detect d src detail s).n.undervoltage = s.n.undervoltage := congrArg (fun x => x.n.undervoltage) (detect_core d src detail s)
@[simp] theorem detect_n_waitExpired (d : Die) (src detail : Nat) (s : Node) : (detect d src detail s).n.waitExpired = s.n.waitExpired := congrArg (fun x => x.n.waitExpired) (detect_core d src detail s)
@[simp] theorem detect_n_clasp_link (d : Die) (src detail : Nat) (s : Node) : (detect d src detail s).n.clasp.link = s.n.clasp.link := congrArg (fun x => x.n.clasp.link) (detect_core d src detail s)
@[simp] theorem detect_n_clasp_trained (d : Die) (src detail : Nat) (s : Node) : (detect d src detail s).n.clasp.trained = s.n.clasp.trained := congrArg (fun x => x.n.clasp.trained) (detect_core d src detail s)
@[simp] theorem detect_n_clasp_synth (d : Die) (src detail : Nat) (s : Node) : (detect d src detail s).n.clasp.synth = s.n.clasp.synth := congrArg (fun x => x.n.clasp.synth) (detect_core d src detail s)
@[simp] theorem detect_n_clasp_half (d : Die) (src detail : Nat) (s : Node) : (detect d src detail s).n.clasp.half = s.n.clasp.half := congrArg (fun x => x.n.clasp.half) (detect_core d src detail s)
@[simp] theorem detect_n_clasp_swing (d : Die) (src detail : Nat) (s : Node) : (detect d src detail s).n.clasp.swing = s.n.clasp.swing := congrArg (fun x => x.n.clasp.swing) (detect_core d src detail s)
@[simp] theorem detect_n_clasp_lossSeen (d : Die) (src detail : Nat) (s : Node) : (detect d src detail s).n.clasp.lossSeen = s.n.clasp.lossSeen := congrArg (fun x => x.n.clasp.lossSeen) (detect_core d src detail s)
@[simp] theorem detect_n_clasp_rxSeq (d : Die) (src detail : Nat) (s : Node) : (detect d src detail s).n.clasp.rxSeq = s.n.clasp.rxSeq := congrArg (fun x => x.n.clasp.rxSeq) (detect_core d src detail s)
@[simp] theorem detect_n_clasp_orders (d : Die) (src detail : Nat) (s : Node) : (detect d src detail s).n.clasp.orders = s.n.clasp.orders := congrArg (fun x => x.n.clasp.orders) (detect_core d src detail s)
@[simp] theorem detect_n_ch_map (d : Die) (src detail : Nat) (s : Node) : (detect d src detail s).n.ch.map = s.n.ch.map := congrArg (fun x => x.n.ch.map) (detect_core d src detail s)
@[simp] theorem detect_n_ch_upper (d : Die) (src detail : Nat) (s : Node) : (detect d src detail s).n.ch.upper = s.n.ch.upper := congrArg (fun x => x.n.ch.upper) (detect_core d src detail s)
@[simp] theorem detect_n_ch_timedOut (d : Die) (src detail : Nat) (s : Node) : (detect d src detail s).n.ch.timedOut = s.n.ch.timedOut := congrArg (fun x => x.n.ch.timedOut) (detect_core d src detail s)
@[simp] theorem detect_n_ch_timer (d : Die) (src detail : Nat) (s : Node) : (detect d src detail s).n.ch.timer = s.n.ch.timer := congrArg (fun x => x.n.ch.timer) (detect_core d src detail s)
@[simp] theorem detect_n_ch_timeout (d : Die) (src detail : Nat) (s : Node) : (detect d src detail s).n.ch.timeout = s.n.ch.timeout := congrArg (fun x => x.n.ch.timeout) (detect_core d src detail s)
@[simp] theorem detect_n_ch_far (d : Die) (src detail : Nat) (s : Node) : (detect d src detail s).n.ch.far = s.n.ch.far := congrArg (fun x => x.n.ch.far) (detect_core d src detail s)
@[simp] theorem detect_n_ch_changeDue (d : Die) (src detail : Nat) (s : Node) : (detect d src detail s).n.ch.changeDue = s.n.ch.changeDue := congrArg (fun x => x.n.ch.changeDue) (detect_core d src detail s)
@[simp] theorem detect_n_loupe_tokens (d : Die) (src detail : Nat) (s : Node) : (detect d src detail s).n.loupe.tokens = s.n.loupe.tokens := congrArg (fun x => x.n.loupe.tokens) (detect_core d src detail s)
@[simp] theorem detect_f_phase (d : Die) (src detail : Nat) (s : Node) : (detect d src detail s).f.phase = s.f.phase := congrArg (fun x => x.f.phase) (detect_core d src detail s)
@[simp] theorem detect_f_cause (d : Die) (src detail : Nat) (s : Node) : (detect d src detail s).f.cause = s.f.cause := congrArg (fun x => x.f.cause) (detect_core d src detail s)
@[simp] theorem detect_f_ticks (d : Die) (src detail : Nat) (s : Node) : (detect d src detail s).f.ticks = s.f.ticks := congrArg (fun x => x.f.ticks) (detect_core d src detail s)
@[simp] theorem detect_f_undervoltage (d : Die) (src detail : Nat) (s : Node) : (detect d src detail s).f.undervoltage = s.f.undervoltage := congrArg (fun x => x.f.undervoltage) (detect_core d src detail s)
@[simp] theorem detect_f_waitExpired (d : Die) (src detail : Nat) (s : Node) : (detect d src detail s).f.waitExpired = s.f.waitExpired := congrArg (fun x => x.f.waitExpired) (detect_core d src detail s)
@[simp] theorem detect_f_clasp_link (d : Die) (src detail : Nat) (s : Node) : (detect d src detail s).f.clasp.link = s.f.clasp.link := congrArg (fun x => x.f.clasp.link) (detect_core d src detail s)
@[simp] theorem detect_f_clasp_trained (d : Die) (src detail : Nat) (s : Node) : (detect d src detail s).f.clasp.trained = s.f.clasp.trained := congrArg (fun x => x.f.clasp.trained) (detect_core d src detail s)
@[simp] theorem detect_f_clasp_synth (d : Die) (src detail : Nat) (s : Node) : (detect d src detail s).f.clasp.synth = s.f.clasp.synth := congrArg (fun x => x.f.clasp.synth) (detect_core d src detail s)
@[simp] theorem detect_f_clasp_half (d : Die) (src detail : Nat) (s : Node) : (detect d src detail s).f.clasp.half = s.f.clasp.half := congrArg (fun x => x.f.clasp.half) (detect_core d src detail s)
@[simp] theorem detect_f_clasp_swing (d : Die) (src detail : Nat) (s : Node) : (detect d src detail s).f.clasp.swing = s.f.clasp.swing := congrArg (fun x => x.f.clasp.swing) (detect_core d src detail s)
@[simp] theorem detect_f_clasp_lossSeen (d : Die) (src detail : Nat) (s : Node) : (detect d src detail s).f.clasp.lossSeen = s.f.clasp.lossSeen := congrArg (fun x => x.f.clasp.lossSeen) (detect_core d src detail s)
@[simp] theorem detect_f_clasp_rxSeq (d : Die) (src detail : Nat) (s : Node) : (detect d src detail s).f.clasp.rxSeq = s.f.clasp.rxSeq := congrArg (fun x => x.f.clasp.rxSeq) (detect_core d src detail s)
@[simp] theorem detect_f_clasp_orders (d : Die) (src detail : Nat) (s : Node) : (detect d src detail s).f.clasp.orders = s.f.clasp.orders := congrArg (fun x => x.f.clasp.orders) (detect_core d src detail s)
@[simp] theorem detect_f_ch_map (d : Die) (src detail : Nat) (s : Node) : (detect d src detail s).f.ch.map = s.f.ch.map := congrArg (fun x => x.f.ch.map) (detect_core d src detail s)
@[simp] theorem detect_f_ch_upper (d : Die) (src detail : Nat) (s : Node) : (detect d src detail s).f.ch.upper = s.f.ch.upper := congrArg (fun x => x.f.ch.upper) (detect_core d src detail s)
@[simp] theorem detect_f_ch_timedOut (d : Die) (src detail : Nat) (s : Node) : (detect d src detail s).f.ch.timedOut = s.f.ch.timedOut := congrArg (fun x => x.f.ch.timedOut) (detect_core d src detail s)
@[simp] theorem detect_f_ch_timer (d : Die) (src detail : Nat) (s : Node) : (detect d src detail s).f.ch.timer = s.f.ch.timer := congrArg (fun x => x.f.ch.timer) (detect_core d src detail s)
@[simp] theorem detect_f_ch_timeout (d : Die) (src detail : Nat) (s : Node) : (detect d src detail s).f.ch.timeout = s.f.ch.timeout := congrArg (fun x => x.f.ch.timeout) (detect_core d src detail s)
@[simp] theorem detect_f_ch_far (d : Die) (src detail : Nat) (s : Node) : (detect d src detail s).f.ch.far = s.f.ch.far := congrArg (fun x => x.f.ch.far) (detect_core d src detail s)
@[simp] theorem detect_f_ch_changeDue (d : Die) (src detail : Nat) (s : Node) : (detect d src detail s).f.ch.changeDue = s.f.ch.changeDue := congrArg (fun x => x.f.ch.changeDue) (detect_core d src detail s)
@[simp] theorem detect_f_loupe_tokens (d : Die) (src detail : Nat) (s : Node) : (detect d src detail s).f.loupe.tokens = s.f.loupe.tokens := congrArg (fun x => x.f.loupe.tokens) (detect_core d src detail s)
@[simp] theorem detect_f_inbox (d : Die) (src detail : Nat) (s : Node) : (detect d src detail s).f.inbox = s.f.inbox := congrArg (fun x => x.f.inbox) (detect_core d src detail s)
@[simp] theorem detect_f_fol (d : Die) (src detail : Nat) (s : Node) : (detect d src detail s).f.fol = s.f.fol := congrArg (fun x => x.f.fol) (detect_core d src detail s)
@[simp] theorem detect_f_chain (d : Die) (src detail : Nat) (s : Node) : (detect d src detail s).f.chain = s.f.chain := congrArg (fun x => x.f.chain) (detect_core d src detail s)
@[simp] theorem detect_f_park (d : Die) (src detail : Nat) (s : Node) : (detect d src detail s).f.park = s.f.park := congrArg (fun x => x.f.park) (detect_core d src detail s)
@[simp] theorem detect_f_beads (d : Die) (src detail : Nat) (s : Node) : (detect d src detail s).f.beads = s.f.beads := congrArg (fun x => x.f.beads) (detect_core d src detail s)
@[simp] theorem detect_f_linkA (d : Die) (src detail : Nat) (s : Node) : (detect d src detail s).f.linkA = s.f.linkA := congrArg (fun x => x.f.linkA) (detect_core d src detail s)
@[simp] theorem detect_f_linkB (d : Die) (src detail : Nat) (s : Node) : (detect d src detail s).f.linkB = s.f.linkB := congrArg (fun x => x.f.linkB) (detect_core d src detail s)
@[simp] theorem detect_f_linkC (d : Die) (src detail : Nat) (s : Node) : (detect d src detail s).f.linkC = s.f.linkC := congrArg (fun x => x.f.linkC) (detect_core d src detail s)
@[simp] theorem detect_f_safe0 (d : Die) (src detail : Nat) (s : Node) : (detect d src detail s).f.safe0 = s.f.safe0 := congrArg (fun x => x.f.safe0) (detect_core d src detail s)
@[simp] theorem detect_f_safe1 (d : Die) (src detail : Nat) (s : Node) : (detect d src detail s).f.safe1 = s.f.safe1 := congrArg (fun x => x.f.safe1) (detect_core d src detail s)
@[simp] theorem detect_f_pullQueue (d : Die) (src detail : Nat) (s : Node) : (detect d src detail s).f.pullQueue = s.f.pullQueue := congrArg (fun x => x.f.pullQueue) (detect_core d src detail s)
@[simp] theorem detect_f_fport_current (d : Die) (src detail : Nat) (s : Node) : (detect d src detail s).f.fport.current = s.f.fport.current := congrArg (fun x => x.f.fport.current) (detect_core d src detail s)
@[simp] theorem detect_f_fport_queue (d : Die) (src detail : Nat) (s : Node) : (detect d src detail s).f.fport.queue = s.f.fport.queue := congrArg (fun x => x.f.fport.queue) (detect_core d src detail s)
@[simp] theorem detect_f_fport_job (d : Die) (src detail : Nat) (s : Node) : (detect d src detail s).f.fport.job = s.f.fport.job := congrArg (fun x => x.f.fport.job) (detect_core d src detail s)
@[simp] theorem detect_f_fport_erase (d : Die) (src detail : Nat) (s : Node) : (detect d src detail s).f.fport.erase = s.f.fport.erase := congrArg (fun x => x.f.fport.erase) (detect_core d src detail s)
@[simp] theorem detect_f_fport_recovering (d : Die) (src detail : Nat) (s : Node) : (detect d src detail s).f.fport.recovering = s.f.fport.recovering := congrArg (fun x => x.f.fport.recovering) (detect_core d src detail s)
@[simp] theorem detect_f_fport_tunnels (d : Die) (src detail : Nat) (s : Node) : (detect d src detail s).f.fport.tunnels = s.f.fport.tunnels := congrArg (fun x => x.f.fport.tunnels) (detect_core d src detail s)
@[simp] theorem detect_f_fport_sfdp (d : Die) (src detail : Nat) (s : Node) : (detect d src detail s).f.fport.sfdp = s.f.fport.sfdp := congrArg (fun x => x.f.fport.sfdp) (detect_core d src detail s)
@[simp] theorem detect_f_fport_proposals (d : Die) (src detail : Nat) (s : Node) : (detect d src detail s).f.fport.proposals = s.f.fport.proposals := congrArg (fun x => x.f.fport.proposals) (detect_core d src detail s)
@[simp] theorem detect_nUp (d : Die) (src detail : Nat) (s : Node) : (detect d src detail s).nUp = s.nUp := by simp [Node.nUp]
@[simp] theorem detect_fUp (d : Die) (src detail : Nat) (s : Node) : (detect d src detail s).fUp = s.fUp := by simp [Node.fUp]
@[simp] theorem detect_trained (d : Die) (src detail : Nat) (s : Node) : (detect d src detail s).trained = s.trained := by simp [Node.trained]
@[simp] theorem detect_linkUp (d : Die) (src detail : Nat) (s : Node) : (detect d src detail s).linkUp = s.linkUp := by simp [Node.linkUp]
@[simp] theorem detect_up (d : Die) (src detail : Nat) (s : Node) (e : Die) : (detect d src detail s).up e = s.up e := by cases e <;> simp [Node.up]
@[simp] theorem detect_valAt (d : Die) (src detail : Nat) (s : Node) (key sel : Nat) : (detect d src detail s).valAt key sel = s.valAt key sel := by simp [Node.valAt]
@[simp] theorem detect_val (d : Die) (src detail : Nat) (s : Node) (key : Nat) : (detect d src detail s).val key = s.val key := by simp [Node.val]
@[simp] theorem detect_blob (d : Die) (src detail : Nat) (s : Node) (key : Nat) : (detect d src detail s).blob key = s.blob key := by simp [Node.blob]

/-! setCond. -/

@[simp] theorem setCond_vals (d : Die) (src : Nat) (on : Bool) (detail : Nat) (s : Node) : (setCond d src on detail s).vals = s.vals := congrArg (fun x => x.vals) (setCond_core d src on detail s)
@[simp] theorem setCond_blobs (d : Die) (src : Nat) (on : Bool) (detail : Nat) (s : Node) : (setCond d src on detail s).blobs = s.blobs := congrArg (fun x => x.blobs) (setCond_core d src on detail s)
@[simp] theorem setCond_nLedger (d : Die) (src : Nat) (on : Bool) (detail : Nat) (s : Node) : (setCond d src on detail s).nLedger = s.nLedger := congrArg (fun x => x.nLedger) (setCond_core d src on detail s)
@[simp] theorem setCond_fLedger (d : Die) (src : Nat) (on : Bool) (detail : Nat) (s : Node) : (setCond d src on detail s).fLedger = s.fLedger := congrArg (fun x => x.fLedger) (setCond_core d src on detail s)
@[simp] theorem setCond_n_agree (d : Die) (src : Nat) (on : Bool) (detail : Nat) (s : Node) : (setCond d src on detail s).n.agree = s.n.agree := congrArg (fun x => x.n.agree) (setCond_core d src on detail s)
@[simp] theorem setCond_n_dict (d : Die) (src : Nat) (on : Bool) (detail : Nat) (s : Node) : (setCond d src on detail s).n.dict = s.n.dict := congrArg (fun x => x.n.dict) (setCond_core d src on detail s)
@[simp] theorem setCond_n_port (d : Die) (src : Nat) (on : Bool) (detail : Nat) (s : Node) : (setCond d src on detail s).n.port = s.n.port := congrArg (fun x => x.n.port) (setCond_core d src on detail s)
@[simp] theorem setCond_n_hm (d : Die) (src : Nat) (on : Bool) (detail : Nat) (s : Node) : (setCond d src on detail s).n.hm = s.n.hm := congrArg (fun x => x.n.hm) (setCond_core d src on detail s)
@[simp] theorem setCond_n_bar (d : Die) (src : Nat) (on : Bool) (detail : Nat) (s : Node) : (setCond d src on detail s).n.bar = s.n.bar := congrArg (fun x => x.n.bar) (setCond_core d src on detail s)
@[simp] theorem setCond_n_pow (d : Die) (src : Nat) (on : Bool) (detail : Nat) (s : Node) : (setCond d src on detail s).n.pow = s.n.pow := congrArg (fun x => x.n.pow) (setCond_core d src on detail s)
@[simp] theorem setCond_n_number (d : Die) (src : Nat) (on : Bool) (detail : Nat) (s : Node) : (setCond d src on detail s).n.number = s.n.number := congrArg (fun x => x.n.number) (setCond_core d src on detail s)
@[simp] theorem setCond_n_trainings (d : Die) (src : Nat) (on : Bool) (detail : Nat) (s : Node) : (setCond d src on detail s).n.trainings = s.n.trainings := congrArg (fun x => x.n.trainings) (setCond_core d src on detail s)
@[simp] theorem setCond_n_crystal (d : Die) (src : Nat) (on : Bool) (detail : Nat) (s : Node) : (setCond d src on detail s).n.crystal = s.n.crystal := congrArg (fun x => x.n.crystal) (setCond_core d src on detail s)
@[simp] theorem setCond_n_straps (d : Die) (src : Nat) (on : Bool) (detail : Nat) (s : Node) : (setCond d src on detail s).n.straps = s.n.straps := congrArg (fun x => x.n.straps) (setCond_core d src on detail s)
@[simp] theorem setCond_n_floating (d : Die) (src : Nat) (on : Bool) (detail : Nat) (s : Node) : (setCond d src on detail s).n.floating = s.n.floating := congrArg (fun x => x.n.floating) (setCond_core d src on detail s)
@[simp] theorem setCond_n_runDeferred (d : Die) (src : Nat) (on : Bool) (detail : Nat) (s : Node) : (setCond d src on detail s).n.runDeferred = s.n.runDeferred := congrArg (fun x => x.n.runDeferred) (setCond_core d src on detail s)
@[simp] theorem setCond_n_can_state (d : Die) (src : Nat) (on : Bool) (detail : Nat) (s : Node) : (setCond d src on detail s).n.can.state = s.n.can.state := congrArg (fun x => x.n.can.state) (setCond_core d src on detail s)
@[simp] theorem setCond_n_can_tx (d : Die) (src : Nat) (on : Bool) (detail : Nat) (s : Node) : (setCond d src on detail s).n.can.tx = s.n.can.tx := congrArg (fun x => x.n.can.tx) (setCond_core d src on detail s)
@[simp] theorem setCond_n_can_tecCount (d : Die) (src : Nat) (on : Bool) (detail : Nat) (s : Node) : (setCond d src on detail s).n.can.tecCount = s.n.can.tecCount := congrArg (fun x => x.n.can.tecCount) (setCond_core d src on detail s)
@[simp] theorem setCond_n_can_recCount (d : Die) (src : Nat) (on : Bool) (detail : Nat) (s : Node) : (setCond d src on detail s).n.can.recCount = s.n.can.recCount := congrArg (fun x => x.n.can.recCount) (setCond_core d src on detail s)
@[simp] theorem setCond_n_can_txvr (d : Die) (src : Nat) (on : Bool) (detail : Nat) (s : Node) : (setCond d src on detail s).n.can.txvr = s.n.can.txvr := congrArg (fun x => x.n.can.txvr) (setCond_core d src on detail s)
@[simp] theorem setCond_n_can_driver (d : Die) (src : Nat) (on : Bool) (detail : Nat) (s : Node) : (setCond d src on detail s).n.can.driver = s.n.can.driver := congrArg (fun x => x.n.can.driver) (setCond_core d src on detail s)
@[simp] theorem setCond_n_can_syncSeen (d : Die) (src : Nat) (on : Bool) (detail : Nat) (s : Node) : (setCond d src on detail s).n.can.syncSeen = s.n.can.syncSeen := congrArg (fun x => x.n.can.syncSeen) (setCond_core d src on detail s)
@[simp] theorem setCond_n_can_tunnelFirst (d : Die) (src : Nat) (on : Bool) (detail : Nat) (s : Node) : (setCond d src on detail s).n.can.tunnelFirst = s.n.can.tunnelFirst := congrArg (fun x => x.n.can.tunnelFirst) (setCond_core d src on detail s)
@[simp] theorem setCond_n_phase (d : Die) (src : Nat) (on : Bool) (detail : Nat) (s : Node) : (setCond d src on detail s).n.phase = s.n.phase := congrArg (fun x => x.n.phase) (setCond_core d src on detail s)
@[simp] theorem setCond_n_cause (d : Die) (src : Nat) (on : Bool) (detail : Nat) (s : Node) : (setCond d src on detail s).n.cause = s.n.cause := congrArg (fun x => x.n.cause) (setCond_core d src on detail s)
@[simp] theorem setCond_n_ticks (d : Die) (src : Nat) (on : Bool) (detail : Nat) (s : Node) : (setCond d src on detail s).n.ticks = s.n.ticks := congrArg (fun x => x.n.ticks) (setCond_core d src on detail s)
@[simp] theorem setCond_n_undervoltage (d : Die) (src : Nat) (on : Bool) (detail : Nat) (s : Node) : (setCond d src on detail s).n.undervoltage = s.n.undervoltage := congrArg (fun x => x.n.undervoltage) (setCond_core d src on detail s)
@[simp] theorem setCond_n_waitExpired (d : Die) (src : Nat) (on : Bool) (detail : Nat) (s : Node) : (setCond d src on detail s).n.waitExpired = s.n.waitExpired := congrArg (fun x => x.n.waitExpired) (setCond_core d src on detail s)
@[simp] theorem setCond_n_clasp_link (d : Die) (src : Nat) (on : Bool) (detail : Nat) (s : Node) : (setCond d src on detail s).n.clasp.link = s.n.clasp.link := congrArg (fun x => x.n.clasp.link) (setCond_core d src on detail s)
@[simp] theorem setCond_n_clasp_trained (d : Die) (src : Nat) (on : Bool) (detail : Nat) (s : Node) : (setCond d src on detail s).n.clasp.trained = s.n.clasp.trained := congrArg (fun x => x.n.clasp.trained) (setCond_core d src on detail s)
@[simp] theorem setCond_n_clasp_synth (d : Die) (src : Nat) (on : Bool) (detail : Nat) (s : Node) : (setCond d src on detail s).n.clasp.synth = s.n.clasp.synth := congrArg (fun x => x.n.clasp.synth) (setCond_core d src on detail s)
@[simp] theorem setCond_n_clasp_half (d : Die) (src : Nat) (on : Bool) (detail : Nat) (s : Node) : (setCond d src on detail s).n.clasp.half = s.n.clasp.half := congrArg (fun x => x.n.clasp.half) (setCond_core d src on detail s)
@[simp] theorem setCond_n_clasp_swing (d : Die) (src : Nat) (on : Bool) (detail : Nat) (s : Node) : (setCond d src on detail s).n.clasp.swing = s.n.clasp.swing := congrArg (fun x => x.n.clasp.swing) (setCond_core d src on detail s)
@[simp] theorem setCond_n_clasp_lossSeen (d : Die) (src : Nat) (on : Bool) (detail : Nat) (s : Node) : (setCond d src on detail s).n.clasp.lossSeen = s.n.clasp.lossSeen := congrArg (fun x => x.n.clasp.lossSeen) (setCond_core d src on detail s)
@[simp] theorem setCond_n_clasp_rxSeq (d : Die) (src : Nat) (on : Bool) (detail : Nat) (s : Node) : (setCond d src on detail s).n.clasp.rxSeq = s.n.clasp.rxSeq := congrArg (fun x => x.n.clasp.rxSeq) (setCond_core d src on detail s)
@[simp] theorem setCond_n_clasp_orders (d : Die) (src : Nat) (on : Bool) (detail : Nat) (s : Node) : (setCond d src on detail s).n.clasp.orders = s.n.clasp.orders := congrArg (fun x => x.n.clasp.orders) (setCond_core d src on detail s)
@[simp] theorem setCond_n_ch_map (d : Die) (src : Nat) (on : Bool) (detail : Nat) (s : Node) : (setCond d src on detail s).n.ch.map = s.n.ch.map := congrArg (fun x => x.n.ch.map) (setCond_core d src on detail s)
@[simp] theorem setCond_n_ch_upper (d : Die) (src : Nat) (on : Bool) (detail : Nat) (s : Node) : (setCond d src on detail s).n.ch.upper = s.n.ch.upper := congrArg (fun x => x.n.ch.upper) (setCond_core d src on detail s)
@[simp] theorem setCond_n_ch_timedOut (d : Die) (src : Nat) (on : Bool) (detail : Nat) (s : Node) : (setCond d src on detail s).n.ch.timedOut = s.n.ch.timedOut := congrArg (fun x => x.n.ch.timedOut) (setCond_core d src on detail s)
@[simp] theorem setCond_n_ch_timer (d : Die) (src : Nat) (on : Bool) (detail : Nat) (s : Node) : (setCond d src on detail s).n.ch.timer = s.n.ch.timer := congrArg (fun x => x.n.ch.timer) (setCond_core d src on detail s)
@[simp] theorem setCond_n_ch_timeout (d : Die) (src : Nat) (on : Bool) (detail : Nat) (s : Node) : (setCond d src on detail s).n.ch.timeout = s.n.ch.timeout := congrArg (fun x => x.n.ch.timeout) (setCond_core d src on detail s)
@[simp] theorem setCond_n_ch_far (d : Die) (src : Nat) (on : Bool) (detail : Nat) (s : Node) : (setCond d src on detail s).n.ch.far = s.n.ch.far := congrArg (fun x => x.n.ch.far) (setCond_core d src on detail s)
@[simp] theorem setCond_n_ch_changeDue (d : Die) (src : Nat) (on : Bool) (detail : Nat) (s : Node) : (setCond d src on detail s).n.ch.changeDue = s.n.ch.changeDue := congrArg (fun x => x.n.ch.changeDue) (setCond_core d src on detail s)
@[simp] theorem setCond_n_loupe_tokens (d : Die) (src : Nat) (on : Bool) (detail : Nat) (s : Node) : (setCond d src on detail s).n.loupe.tokens = s.n.loupe.tokens := congrArg (fun x => x.n.loupe.tokens) (setCond_core d src on detail s)
@[simp] theorem setCond_f_phase (d : Die) (src : Nat) (on : Bool) (detail : Nat) (s : Node) : (setCond d src on detail s).f.phase = s.f.phase := congrArg (fun x => x.f.phase) (setCond_core d src on detail s)
@[simp] theorem setCond_f_cause (d : Die) (src : Nat) (on : Bool) (detail : Nat) (s : Node) : (setCond d src on detail s).f.cause = s.f.cause := congrArg (fun x => x.f.cause) (setCond_core d src on detail s)
@[simp] theorem setCond_f_ticks (d : Die) (src : Nat) (on : Bool) (detail : Nat) (s : Node) : (setCond d src on detail s).f.ticks = s.f.ticks := congrArg (fun x => x.f.ticks) (setCond_core d src on detail s)
@[simp] theorem setCond_f_undervoltage (d : Die) (src : Nat) (on : Bool) (detail : Nat) (s : Node) : (setCond d src on detail s).f.undervoltage = s.f.undervoltage := congrArg (fun x => x.f.undervoltage) (setCond_core d src on detail s)
@[simp] theorem setCond_f_waitExpired (d : Die) (src : Nat) (on : Bool) (detail : Nat) (s : Node) : (setCond d src on detail s).f.waitExpired = s.f.waitExpired := congrArg (fun x => x.f.waitExpired) (setCond_core d src on detail s)
@[simp] theorem setCond_f_clasp_link (d : Die) (src : Nat) (on : Bool) (detail : Nat) (s : Node) : (setCond d src on detail s).f.clasp.link = s.f.clasp.link := congrArg (fun x => x.f.clasp.link) (setCond_core d src on detail s)
@[simp] theorem setCond_f_clasp_trained (d : Die) (src : Nat) (on : Bool) (detail : Nat) (s : Node) : (setCond d src on detail s).f.clasp.trained = s.f.clasp.trained := congrArg (fun x => x.f.clasp.trained) (setCond_core d src on detail s)
@[simp] theorem setCond_f_clasp_synth (d : Die) (src : Nat) (on : Bool) (detail : Nat) (s : Node) : (setCond d src on detail s).f.clasp.synth = s.f.clasp.synth := congrArg (fun x => x.f.clasp.synth) (setCond_core d src on detail s)
@[simp] theorem setCond_f_clasp_half (d : Die) (src : Nat) (on : Bool) (detail : Nat) (s : Node) : (setCond d src on detail s).f.clasp.half = s.f.clasp.half := congrArg (fun x => x.f.clasp.half) (setCond_core d src on detail s)
@[simp] theorem setCond_f_clasp_swing (d : Die) (src : Nat) (on : Bool) (detail : Nat) (s : Node) : (setCond d src on detail s).f.clasp.swing = s.f.clasp.swing := congrArg (fun x => x.f.clasp.swing) (setCond_core d src on detail s)
@[simp] theorem setCond_f_clasp_lossSeen (d : Die) (src : Nat) (on : Bool) (detail : Nat) (s : Node) : (setCond d src on detail s).f.clasp.lossSeen = s.f.clasp.lossSeen := congrArg (fun x => x.f.clasp.lossSeen) (setCond_core d src on detail s)
@[simp] theorem setCond_f_clasp_rxSeq (d : Die) (src : Nat) (on : Bool) (detail : Nat) (s : Node) : (setCond d src on detail s).f.clasp.rxSeq = s.f.clasp.rxSeq := congrArg (fun x => x.f.clasp.rxSeq) (setCond_core d src on detail s)
@[simp] theorem setCond_f_clasp_orders (d : Die) (src : Nat) (on : Bool) (detail : Nat) (s : Node) : (setCond d src on detail s).f.clasp.orders = s.f.clasp.orders := congrArg (fun x => x.f.clasp.orders) (setCond_core d src on detail s)
@[simp] theorem setCond_f_ch_map (d : Die) (src : Nat) (on : Bool) (detail : Nat) (s : Node) : (setCond d src on detail s).f.ch.map = s.f.ch.map := congrArg (fun x => x.f.ch.map) (setCond_core d src on detail s)
@[simp] theorem setCond_f_ch_upper (d : Die) (src : Nat) (on : Bool) (detail : Nat) (s : Node) : (setCond d src on detail s).f.ch.upper = s.f.ch.upper := congrArg (fun x => x.f.ch.upper) (setCond_core d src on detail s)
@[simp] theorem setCond_f_ch_timedOut (d : Die) (src : Nat) (on : Bool) (detail : Nat) (s : Node) : (setCond d src on detail s).f.ch.timedOut = s.f.ch.timedOut := congrArg (fun x => x.f.ch.timedOut) (setCond_core d src on detail s)
@[simp] theorem setCond_f_ch_timer (d : Die) (src : Nat) (on : Bool) (detail : Nat) (s : Node) : (setCond d src on detail s).f.ch.timer = s.f.ch.timer := congrArg (fun x => x.f.ch.timer) (setCond_core d src on detail s)
@[simp] theorem setCond_f_ch_timeout (d : Die) (src : Nat) (on : Bool) (detail : Nat) (s : Node) : (setCond d src on detail s).f.ch.timeout = s.f.ch.timeout := congrArg (fun x => x.f.ch.timeout) (setCond_core d src on detail s)
@[simp] theorem setCond_f_ch_far (d : Die) (src : Nat) (on : Bool) (detail : Nat) (s : Node) : (setCond d src on detail s).f.ch.far = s.f.ch.far := congrArg (fun x => x.f.ch.far) (setCond_core d src on detail s)
@[simp] theorem setCond_f_ch_changeDue (d : Die) (src : Nat) (on : Bool) (detail : Nat) (s : Node) : (setCond d src on detail s).f.ch.changeDue = s.f.ch.changeDue := congrArg (fun x => x.f.ch.changeDue) (setCond_core d src on detail s)
@[simp] theorem setCond_f_loupe_tokens (d : Die) (src : Nat) (on : Bool) (detail : Nat) (s : Node) : (setCond d src on detail s).f.loupe.tokens = s.f.loupe.tokens := congrArg (fun x => x.f.loupe.tokens) (setCond_core d src on detail s)
@[simp] theorem setCond_f_inbox (d : Die) (src : Nat) (on : Bool) (detail : Nat) (s : Node) : (setCond d src on detail s).f.inbox = s.f.inbox := congrArg (fun x => x.f.inbox) (setCond_core d src on detail s)
@[simp] theorem setCond_f_fol (d : Die) (src : Nat) (on : Bool) (detail : Nat) (s : Node) : (setCond d src on detail s).f.fol = s.f.fol := congrArg (fun x => x.f.fol) (setCond_core d src on detail s)
@[simp] theorem setCond_f_chain (d : Die) (src : Nat) (on : Bool) (detail : Nat) (s : Node) : (setCond d src on detail s).f.chain = s.f.chain := congrArg (fun x => x.f.chain) (setCond_core d src on detail s)
@[simp] theorem setCond_f_park (d : Die) (src : Nat) (on : Bool) (detail : Nat) (s : Node) : (setCond d src on detail s).f.park = s.f.park := congrArg (fun x => x.f.park) (setCond_core d src on detail s)
@[simp] theorem setCond_f_beads (d : Die) (src : Nat) (on : Bool) (detail : Nat) (s : Node) : (setCond d src on detail s).f.beads = s.f.beads := congrArg (fun x => x.f.beads) (setCond_core d src on detail s)
@[simp] theorem setCond_f_linkA (d : Die) (src : Nat) (on : Bool) (detail : Nat) (s : Node) : (setCond d src on detail s).f.linkA = s.f.linkA := congrArg (fun x => x.f.linkA) (setCond_core d src on detail s)
@[simp] theorem setCond_f_linkB (d : Die) (src : Nat) (on : Bool) (detail : Nat) (s : Node) : (setCond d src on detail s).f.linkB = s.f.linkB := congrArg (fun x => x.f.linkB) (setCond_core d src on detail s)
@[simp] theorem setCond_f_linkC (d : Die) (src : Nat) (on : Bool) (detail : Nat) (s : Node) : (setCond d src on detail s).f.linkC = s.f.linkC := congrArg (fun x => x.f.linkC) (setCond_core d src on detail s)
@[simp] theorem setCond_f_safe0 (d : Die) (src : Nat) (on : Bool) (detail : Nat) (s : Node) : (setCond d src on detail s).f.safe0 = s.f.safe0 := congrArg (fun x => x.f.safe0) (setCond_core d src on detail s)
@[simp] theorem setCond_f_safe1 (d : Die) (src : Nat) (on : Bool) (detail : Nat) (s : Node) : (setCond d src on detail s).f.safe1 = s.f.safe1 := congrArg (fun x => x.f.safe1) (setCond_core d src on detail s)
@[simp] theorem setCond_f_pullQueue (d : Die) (src : Nat) (on : Bool) (detail : Nat) (s : Node) : (setCond d src on detail s).f.pullQueue = s.f.pullQueue := congrArg (fun x => x.f.pullQueue) (setCond_core d src on detail s)
@[simp] theorem setCond_f_fport_current (d : Die) (src : Nat) (on : Bool) (detail : Nat) (s : Node) : (setCond d src on detail s).f.fport.current = s.f.fport.current := congrArg (fun x => x.f.fport.current) (setCond_core d src on detail s)
@[simp] theorem setCond_f_fport_queue (d : Die) (src : Nat) (on : Bool) (detail : Nat) (s : Node) : (setCond d src on detail s).f.fport.queue = s.f.fport.queue := congrArg (fun x => x.f.fport.queue) (setCond_core d src on detail s)
@[simp] theorem setCond_f_fport_job (d : Die) (src : Nat) (on : Bool) (detail : Nat) (s : Node) : (setCond d src on detail s).f.fport.job = s.f.fport.job := congrArg (fun x => x.f.fport.job) (setCond_core d src on detail s)
@[simp] theorem setCond_f_fport_erase (d : Die) (src : Nat) (on : Bool) (detail : Nat) (s : Node) : (setCond d src on detail s).f.fport.erase = s.f.fport.erase := congrArg (fun x => x.f.fport.erase) (setCond_core d src on detail s)
@[simp] theorem setCond_f_fport_recovering (d : Die) (src : Nat) (on : Bool) (detail : Nat) (s : Node) : (setCond d src on detail s).f.fport.recovering = s.f.fport.recovering := congrArg (fun x => x.f.fport.recovering) (setCond_core d src on detail s)
@[simp] theorem setCond_f_fport_tunnels (d : Die) (src : Nat) (on : Bool) (detail : Nat) (s : Node) : (setCond d src on detail s).f.fport.tunnels = s.f.fport.tunnels := congrArg (fun x => x.f.fport.tunnels) (setCond_core d src on detail s)
@[simp] theorem setCond_f_fport_sfdp (d : Die) (src : Nat) (on : Bool) (detail : Nat) (s : Node) : (setCond d src on detail s).f.fport.sfdp = s.f.fport.sfdp := congrArg (fun x => x.f.fport.sfdp) (setCond_core d src on detail s)
@[simp] theorem setCond_f_fport_proposals (d : Die) (src : Nat) (on : Bool) (detail : Nat) (s : Node) : (setCond d src on detail s).f.fport.proposals = s.f.fport.proposals := congrArg (fun x => x.f.fport.proposals) (setCond_core d src on detail s)
@[simp] theorem setCond_nUp (d : Die) (src : Nat) (on : Bool) (detail : Nat) (s : Node) : (setCond d src on detail s).nUp = s.nUp := by simp [Node.nUp]
@[simp] theorem setCond_fUp (d : Die) (src : Nat) (on : Bool) (detail : Nat) (s : Node) : (setCond d src on detail s).fUp = s.fUp := by simp [Node.fUp]
@[simp] theorem setCond_trained (d : Die) (src : Nat) (on : Bool) (detail : Nat) (s : Node) : (setCond d src on detail s).trained = s.trained := by simp [Node.trained]
@[simp] theorem setCond_linkUp (d : Die) (src : Nat) (on : Bool) (detail : Nat) (s : Node) : (setCond d src on detail s).linkUp = s.linkUp := by simp [Node.linkUp]
@[simp] theorem setCond_up (d : Die) (src : Nat) (on : Bool) (detail : Nat) (s : Node) (e : Die) : (setCond d src on detail s).up e = s.up e := by cases e <;> simp [Node.up]
@[simp] theorem setCond_valAt (d : Die) (src : Nat) (on : Bool) (detail : Nat) (s : Node) (key sel : Nat) : (setCond d src on detail s).valAt key sel = s.valAt key sel := by simp [Node.valAt]
@[simp] theorem setCond_val (d : Die) (src : Nat) (on : Bool) (detail : Nat) (s : Node) (key : Nat) : (setCond d src on detail s).val key = s.val key := by simp [Node.val]
@[simp] theorem setCond_blob (d : Die) (src : Nat) (on : Bool) (detail : Nat) (s : Node) (key : Nat) : (setCond d src on detail s).blob key = s.blob key := by simp [Node.blob]

/-! setDev. -/

@[simp] theorem setDev_vals (st : DevState) (cause source session : Nat) (s : Node) : (setDev st cause source session s).vals = s.vals := congrArg (fun x => x.vals) (setDev_core st cause source session s)
@[simp] theorem setDev_blobs (st : DevState) (cause source session : Nat) (s : Node) : (setDev st cause source session s).blobs = s.blobs := congrArg (fun x => x.blobs) (setDev_core st cause source session s)
@[simp] theorem setDev_nLedger (st : DevState) (cause source session : Nat) (s : Node) : (setDev st cause source session s).nLedger = s.nLedger := congrArg (fun x => x.nLedger) (setDev_core st cause source session s)
@[simp] theorem setDev_fLedger (st : DevState) (cause source session : Nat) (s : Node) : (setDev st cause source session s).fLedger = s.fLedger := congrArg (fun x => x.fLedger) (setDev_core st cause source session s)
@[simp] theorem setDev_n_agree (st : DevState) (cause source session : Nat) (s : Node) : (setDev st cause source session s).n.agree = s.n.agree := congrArg (fun x => x.n.agree) (setDev_core st cause source session s)
@[simp] theorem setDev_n_dict (st : DevState) (cause source session : Nat) (s : Node) : (setDev st cause source session s).n.dict = s.n.dict := congrArg (fun x => x.n.dict) (setDev_core st cause source session s)
@[simp] theorem setDev_n_port (st : DevState) (cause source session : Nat) (s : Node) : (setDev st cause source session s).n.port = s.n.port := congrArg (fun x => x.n.port) (setDev_core st cause source session s)
@[simp] theorem setDev_n_hm (st : DevState) (cause source session : Nat) (s : Node) : (setDev st cause source session s).n.hm = s.n.hm := congrArg (fun x => x.n.hm) (setDev_core st cause source session s)
@[simp] theorem setDev_n_bar (st : DevState) (cause source session : Nat) (s : Node) : (setDev st cause source session s).n.bar = s.n.bar := congrArg (fun x => x.n.bar) (setDev_core st cause source session s)
@[simp] theorem setDev_n_pow (st : DevState) (cause source session : Nat) (s : Node) : (setDev st cause source session s).n.pow = s.n.pow := congrArg (fun x => x.n.pow) (setDev_core st cause source session s)
@[simp] theorem setDev_n_number (st : DevState) (cause source session : Nat) (s : Node) : (setDev st cause source session s).n.number = s.n.number := congrArg (fun x => x.n.number) (setDev_core st cause source session s)
@[simp] theorem setDev_n_trainings (st : DevState) (cause source session : Nat) (s : Node) : (setDev st cause source session s).n.trainings = s.n.trainings := congrArg (fun x => x.n.trainings) (setDev_core st cause source session s)
@[simp] theorem setDev_n_crystal (st : DevState) (cause source session : Nat) (s : Node) : (setDev st cause source session s).n.crystal = s.n.crystal := congrArg (fun x => x.n.crystal) (setDev_core st cause source session s)
@[simp] theorem setDev_n_straps (st : DevState) (cause source session : Nat) (s : Node) : (setDev st cause source session s).n.straps = s.n.straps := congrArg (fun x => x.n.straps) (setDev_core st cause source session s)
@[simp] theorem setDev_n_floating (st : DevState) (cause source session : Nat) (s : Node) : (setDev st cause source session s).n.floating = s.n.floating := congrArg (fun x => x.n.floating) (setDev_core st cause source session s)
@[simp] theorem setDev_n_runDeferred (st : DevState) (cause source session : Nat) (s : Node) : (setDev st cause source session s).n.runDeferred = s.n.runDeferred := congrArg (fun x => x.n.runDeferred) (setDev_core st cause source session s)
@[simp] theorem setDev_n_can_state (st : DevState) (cause source session : Nat) (s : Node) : (setDev st cause source session s).n.can.state = s.n.can.state := congrArg (fun x => x.n.can.state) (setDev_core st cause source session s)
@[simp] theorem setDev_n_can_tx (st : DevState) (cause source session : Nat) (s : Node) : (setDev st cause source session s).n.can.tx = s.n.can.tx := congrArg (fun x => x.n.can.tx) (setDev_core st cause source session s)
@[simp] theorem setDev_n_can_tecCount (st : DevState) (cause source session : Nat) (s : Node) : (setDev st cause source session s).n.can.tecCount = s.n.can.tecCount := congrArg (fun x => x.n.can.tecCount) (setDev_core st cause source session s)
@[simp] theorem setDev_n_can_recCount (st : DevState) (cause source session : Nat) (s : Node) : (setDev st cause source session s).n.can.recCount = s.n.can.recCount := congrArg (fun x => x.n.can.recCount) (setDev_core st cause source session s)
@[simp] theorem setDev_n_can_txvr (st : DevState) (cause source session : Nat) (s : Node) : (setDev st cause source session s).n.can.txvr = s.n.can.txvr := congrArg (fun x => x.n.can.txvr) (setDev_core st cause source session s)
@[simp] theorem setDev_n_can_driver (st : DevState) (cause source session : Nat) (s : Node) : (setDev st cause source session s).n.can.driver = s.n.can.driver := congrArg (fun x => x.n.can.driver) (setDev_core st cause source session s)
@[simp] theorem setDev_n_can_syncSeen (st : DevState) (cause source session : Nat) (s : Node) : (setDev st cause source session s).n.can.syncSeen = s.n.can.syncSeen := congrArg (fun x => x.n.can.syncSeen) (setDev_core st cause source session s)
@[simp] theorem setDev_n_can_tunnelFirst (st : DevState) (cause source session : Nat) (s : Node) : (setDev st cause source session s).n.can.tunnelFirst = s.n.can.tunnelFirst := congrArg (fun x => x.n.can.tunnelFirst) (setDev_core st cause source session s)
@[simp] theorem setDev_n_phase (st : DevState) (cause source session : Nat) (s : Node) : (setDev st cause source session s).n.phase = s.n.phase := congrArg (fun x => x.n.phase) (setDev_core st cause source session s)
@[simp] theorem setDev_n_cause (st : DevState) (cause source session : Nat) (s : Node) : (setDev st cause source session s).n.cause = s.n.cause := congrArg (fun x => x.n.cause) (setDev_core st cause source session s)
@[simp] theorem setDev_n_ticks (st : DevState) (cause source session : Nat) (s : Node) : (setDev st cause source session s).n.ticks = s.n.ticks := congrArg (fun x => x.n.ticks) (setDev_core st cause source session s)
@[simp] theorem setDev_n_undervoltage (st : DevState) (cause source session : Nat) (s : Node) : (setDev st cause source session s).n.undervoltage = s.n.undervoltage := congrArg (fun x => x.n.undervoltage) (setDev_core st cause source session s)
@[simp] theorem setDev_n_waitExpired (st : DevState) (cause source session : Nat) (s : Node) : (setDev st cause source session s).n.waitExpired = s.n.waitExpired := congrArg (fun x => x.n.waitExpired) (setDev_core st cause source session s)
@[simp] theorem setDev_n_clasp_link (st : DevState) (cause source session : Nat) (s : Node) : (setDev st cause source session s).n.clasp.link = s.n.clasp.link := congrArg (fun x => x.n.clasp.link) (setDev_core st cause source session s)
@[simp] theorem setDev_n_clasp_trained (st : DevState) (cause source session : Nat) (s : Node) : (setDev st cause source session s).n.clasp.trained = s.n.clasp.trained := congrArg (fun x => x.n.clasp.trained) (setDev_core st cause source session s)
@[simp] theorem setDev_n_clasp_synth (st : DevState) (cause source session : Nat) (s : Node) : (setDev st cause source session s).n.clasp.synth = s.n.clasp.synth := congrArg (fun x => x.n.clasp.synth) (setDev_core st cause source session s)
@[simp] theorem setDev_n_clasp_half (st : DevState) (cause source session : Nat) (s : Node) : (setDev st cause source session s).n.clasp.half = s.n.clasp.half := congrArg (fun x => x.n.clasp.half) (setDev_core st cause source session s)
@[simp] theorem setDev_n_clasp_swing (st : DevState) (cause source session : Nat) (s : Node) : (setDev st cause source session s).n.clasp.swing = s.n.clasp.swing := congrArg (fun x => x.n.clasp.swing) (setDev_core st cause source session s)
@[simp] theorem setDev_n_clasp_lossSeen (st : DevState) (cause source session : Nat) (s : Node) : (setDev st cause source session s).n.clasp.lossSeen = s.n.clasp.lossSeen := congrArg (fun x => x.n.clasp.lossSeen) (setDev_core st cause source session s)
@[simp] theorem setDev_n_clasp_rxSeq (st : DevState) (cause source session : Nat) (s : Node) : (setDev st cause source session s).n.clasp.rxSeq = s.n.clasp.rxSeq := congrArg (fun x => x.n.clasp.rxSeq) (setDev_core st cause source session s)
@[simp] theorem setDev_n_clasp_orders (st : DevState) (cause source session : Nat) (s : Node) : (setDev st cause source session s).n.clasp.orders = s.n.clasp.orders := congrArg (fun x => x.n.clasp.orders) (setDev_core st cause source session s)
@[simp] theorem setDev_n_ch_map (st : DevState) (cause source session : Nat) (s : Node) : (setDev st cause source session s).n.ch.map = s.n.ch.map := congrArg (fun x => x.n.ch.map) (setDev_core st cause source session s)
@[simp] theorem setDev_n_ch_upper (st : DevState) (cause source session : Nat) (s : Node) : (setDev st cause source session s).n.ch.upper = s.n.ch.upper := congrArg (fun x => x.n.ch.upper) (setDev_core st cause source session s)
@[simp] theorem setDev_n_ch_timedOut (st : DevState) (cause source session : Nat) (s : Node) : (setDev st cause source session s).n.ch.timedOut = s.n.ch.timedOut := congrArg (fun x => x.n.ch.timedOut) (setDev_core st cause source session s)
@[simp] theorem setDev_n_ch_timer (st : DevState) (cause source session : Nat) (s : Node) : (setDev st cause source session s).n.ch.timer = s.n.ch.timer := congrArg (fun x => x.n.ch.timer) (setDev_core st cause source session s)
@[simp] theorem setDev_n_ch_timeout (st : DevState) (cause source session : Nat) (s : Node) : (setDev st cause source session s).n.ch.timeout = s.n.ch.timeout := congrArg (fun x => x.n.ch.timeout) (setDev_core st cause source session s)
@[simp] theorem setDev_n_ch_far (st : DevState) (cause source session : Nat) (s : Node) : (setDev st cause source session s).n.ch.far = s.n.ch.far := congrArg (fun x => x.n.ch.far) (setDev_core st cause source session s)
@[simp] theorem setDev_n_ch_changeDue (st : DevState) (cause source session : Nat) (s : Node) : (setDev st cause source session s).n.ch.changeDue = s.n.ch.changeDue := congrArg (fun x => x.n.ch.changeDue) (setDev_core st cause source session s)
@[simp] theorem setDev_n_loupe_tokens (st : DevState) (cause source session : Nat) (s : Node) : (setDev st cause source session s).n.loupe.tokens = s.n.loupe.tokens := congrArg (fun x => x.n.loupe.tokens) (setDev_core st cause source session s)
@[simp] theorem setDev_f_phase (st : DevState) (cause source session : Nat) (s : Node) : (setDev st cause source session s).f.phase = s.f.phase := congrArg (fun x => x.f.phase) (setDev_core st cause source session s)
@[simp] theorem setDev_f_cause (st : DevState) (cause source session : Nat) (s : Node) : (setDev st cause source session s).f.cause = s.f.cause := congrArg (fun x => x.f.cause) (setDev_core st cause source session s)
@[simp] theorem setDev_f_ticks (st : DevState) (cause source session : Nat) (s : Node) : (setDev st cause source session s).f.ticks = s.f.ticks := congrArg (fun x => x.f.ticks) (setDev_core st cause source session s)
@[simp] theorem setDev_f_undervoltage (st : DevState) (cause source session : Nat) (s : Node) : (setDev st cause source session s).f.undervoltage = s.f.undervoltage := congrArg (fun x => x.f.undervoltage) (setDev_core st cause source session s)
@[simp] theorem setDev_f_waitExpired (st : DevState) (cause source session : Nat) (s : Node) : (setDev st cause source session s).f.waitExpired = s.f.waitExpired := congrArg (fun x => x.f.waitExpired) (setDev_core st cause source session s)
@[simp] theorem setDev_f_clasp_link (st : DevState) (cause source session : Nat) (s : Node) : (setDev st cause source session s).f.clasp.link = s.f.clasp.link := congrArg (fun x => x.f.clasp.link) (setDev_core st cause source session s)
@[simp] theorem setDev_f_clasp_trained (st : DevState) (cause source session : Nat) (s : Node) : (setDev st cause source session s).f.clasp.trained = s.f.clasp.trained := congrArg (fun x => x.f.clasp.trained) (setDev_core st cause source session s)
@[simp] theorem setDev_f_clasp_synth (st : DevState) (cause source session : Nat) (s : Node) : (setDev st cause source session s).f.clasp.synth = s.f.clasp.synth := congrArg (fun x => x.f.clasp.synth) (setDev_core st cause source session s)
@[simp] theorem setDev_f_clasp_half (st : DevState) (cause source session : Nat) (s : Node) : (setDev st cause source session s).f.clasp.half = s.f.clasp.half := congrArg (fun x => x.f.clasp.half) (setDev_core st cause source session s)
@[simp] theorem setDev_f_clasp_swing (st : DevState) (cause source session : Nat) (s : Node) : (setDev st cause source session s).f.clasp.swing = s.f.clasp.swing := congrArg (fun x => x.f.clasp.swing) (setDev_core st cause source session s)
@[simp] theorem setDev_f_clasp_lossSeen (st : DevState) (cause source session : Nat) (s : Node) : (setDev st cause source session s).f.clasp.lossSeen = s.f.clasp.lossSeen := congrArg (fun x => x.f.clasp.lossSeen) (setDev_core st cause source session s)
@[simp] theorem setDev_f_clasp_rxSeq (st : DevState) (cause source session : Nat) (s : Node) : (setDev st cause source session s).f.clasp.rxSeq = s.f.clasp.rxSeq := congrArg (fun x => x.f.clasp.rxSeq) (setDev_core st cause source session s)
@[simp] theorem setDev_f_clasp_orders (st : DevState) (cause source session : Nat) (s : Node) : (setDev st cause source session s).f.clasp.orders = s.f.clasp.orders := congrArg (fun x => x.f.clasp.orders) (setDev_core st cause source session s)
@[simp] theorem setDev_f_ch_map (st : DevState) (cause source session : Nat) (s : Node) : (setDev st cause source session s).f.ch.map = s.f.ch.map := congrArg (fun x => x.f.ch.map) (setDev_core st cause source session s)
@[simp] theorem setDev_f_ch_upper (st : DevState) (cause source session : Nat) (s : Node) : (setDev st cause source session s).f.ch.upper = s.f.ch.upper := congrArg (fun x => x.f.ch.upper) (setDev_core st cause source session s)
@[simp] theorem setDev_f_ch_timedOut (st : DevState) (cause source session : Nat) (s : Node) : (setDev st cause source session s).f.ch.timedOut = s.f.ch.timedOut := congrArg (fun x => x.f.ch.timedOut) (setDev_core st cause source session s)
@[simp] theorem setDev_f_ch_timer (st : DevState) (cause source session : Nat) (s : Node) : (setDev st cause source session s).f.ch.timer = s.f.ch.timer := congrArg (fun x => x.f.ch.timer) (setDev_core st cause source session s)
@[simp] theorem setDev_f_ch_timeout (st : DevState) (cause source session : Nat) (s : Node) : (setDev st cause source session s).f.ch.timeout = s.f.ch.timeout := congrArg (fun x => x.f.ch.timeout) (setDev_core st cause source session s)
@[simp] theorem setDev_f_ch_far (st : DevState) (cause source session : Nat) (s : Node) : (setDev st cause source session s).f.ch.far = s.f.ch.far := congrArg (fun x => x.f.ch.far) (setDev_core st cause source session s)
@[simp] theorem setDev_f_ch_changeDue (st : DevState) (cause source session : Nat) (s : Node) : (setDev st cause source session s).f.ch.changeDue = s.f.ch.changeDue := congrArg (fun x => x.f.ch.changeDue) (setDev_core st cause source session s)
@[simp] theorem setDev_f_loupe_tokens (st : DevState) (cause source session : Nat) (s : Node) : (setDev st cause source session s).f.loupe.tokens = s.f.loupe.tokens := congrArg (fun x => x.f.loupe.tokens) (setDev_core st cause source session s)
@[simp] theorem setDev_f_inbox (st : DevState) (cause source session : Nat) (s : Node) : (setDev st cause source session s).f.inbox = s.f.inbox := congrArg (fun x => x.f.inbox) (setDev_core st cause source session s)
@[simp] theorem setDev_f_fol (st : DevState) (cause source session : Nat) (s : Node) : (setDev st cause source session s).f.fol = s.f.fol := congrArg (fun x => x.f.fol) (setDev_core st cause source session s)
@[simp] theorem setDev_f_chain (st : DevState) (cause source session : Nat) (s : Node) : (setDev st cause source session s).f.chain = s.f.chain := congrArg (fun x => x.f.chain) (setDev_core st cause source session s)
@[simp] theorem setDev_f_park (st : DevState) (cause source session : Nat) (s : Node) : (setDev st cause source session s).f.park = s.f.park := congrArg (fun x => x.f.park) (setDev_core st cause source session s)
@[simp] theorem setDev_f_beads (st : DevState) (cause source session : Nat) (s : Node) : (setDev st cause source session s).f.beads = s.f.beads := congrArg (fun x => x.f.beads) (setDev_core st cause source session s)
@[simp] theorem setDev_f_linkA (st : DevState) (cause source session : Nat) (s : Node) : (setDev st cause source session s).f.linkA = s.f.linkA := congrArg (fun x => x.f.linkA) (setDev_core st cause source session s)
@[simp] theorem setDev_f_linkB (st : DevState) (cause source session : Nat) (s : Node) : (setDev st cause source session s).f.linkB = s.f.linkB := congrArg (fun x => x.f.linkB) (setDev_core st cause source session s)
@[simp] theorem setDev_f_linkC (st : DevState) (cause source session : Nat) (s : Node) : (setDev st cause source session s).f.linkC = s.f.linkC := congrArg (fun x => x.f.linkC) (setDev_core st cause source session s)
@[simp] theorem setDev_f_safe0 (st : DevState) (cause source session : Nat) (s : Node) : (setDev st cause source session s).f.safe0 = s.f.safe0 := congrArg (fun x => x.f.safe0) (setDev_core st cause source session s)
@[simp] theorem setDev_f_safe1 (st : DevState) (cause source session : Nat) (s : Node) : (setDev st cause source session s).f.safe1 = s.f.safe1 := congrArg (fun x => x.f.safe1) (setDev_core st cause source session s)
@[simp] theorem setDev_f_pullQueue (st : DevState) (cause source session : Nat) (s : Node) : (setDev st cause source session s).f.pullQueue = s.f.pullQueue := congrArg (fun x => x.f.pullQueue) (setDev_core st cause source session s)
@[simp] theorem setDev_f_fport_current (st : DevState) (cause source session : Nat) (s : Node) : (setDev st cause source session s).f.fport.current = s.f.fport.current := congrArg (fun x => x.f.fport.current) (setDev_core st cause source session s)
@[simp] theorem setDev_f_fport_queue (st : DevState) (cause source session : Nat) (s : Node) : (setDev st cause source session s).f.fport.queue = s.f.fport.queue := congrArg (fun x => x.f.fport.queue) (setDev_core st cause source session s)
@[simp] theorem setDev_f_fport_job (st : DevState) (cause source session : Nat) (s : Node) : (setDev st cause source session s).f.fport.job = s.f.fport.job := congrArg (fun x => x.f.fport.job) (setDev_core st cause source session s)
@[simp] theorem setDev_f_fport_erase (st : DevState) (cause source session : Nat) (s : Node) : (setDev st cause source session s).f.fport.erase = s.f.fport.erase := congrArg (fun x => x.f.fport.erase) (setDev_core st cause source session s)
@[simp] theorem setDev_f_fport_recovering (st : DevState) (cause source session : Nat) (s : Node) : (setDev st cause source session s).f.fport.recovering = s.f.fport.recovering := congrArg (fun x => x.f.fport.recovering) (setDev_core st cause source session s)
@[simp] theorem setDev_f_fport_tunnels (st : DevState) (cause source session : Nat) (s : Node) : (setDev st cause source session s).f.fport.tunnels = s.f.fport.tunnels := congrArg (fun x => x.f.fport.tunnels) (setDev_core st cause source session s)
@[simp] theorem setDev_f_fport_sfdp (st : DevState) (cause source session : Nat) (s : Node) : (setDev st cause source session s).f.fport.sfdp = s.f.fport.sfdp := congrArg (fun x => x.f.fport.sfdp) (setDev_core st cause source session s)
@[simp] theorem setDev_f_fport_proposals (st : DevState) (cause source session : Nat) (s : Node) : (setDev st cause source session s).f.fport.proposals = s.f.fport.proposals := congrArg (fun x => x.f.fport.proposals) (setDev_core st cause source session s)
@[simp] theorem setDev_nUp (st : DevState) (cause source session : Nat) (s : Node) : (setDev st cause source session s).nUp = s.nUp := by simp [Node.nUp]
@[simp] theorem setDev_fUp (st : DevState) (cause source session : Nat) (s : Node) : (setDev st cause source session s).fUp = s.fUp := by simp [Node.fUp]
@[simp] theorem setDev_trained (st : DevState) (cause source session : Nat) (s : Node) : (setDev st cause source session s).trained = s.trained := by simp [Node.trained]
@[simp] theorem setDev_linkUp (st : DevState) (cause source session : Nat) (s : Node) : (setDev st cause source session s).linkUp = s.linkUp := by simp [Node.linkUp]
@[simp] theorem setDev_up (st : DevState) (cause source session : Nat) (s : Node) (e : Die) : (setDev st cause source session s).up e = s.up e := by cases e <;> simp [Node.up]
@[simp] theorem setDev_valAt (st : DevState) (cause source session : Nat) (s : Node) (key sel : Nat) : (setDev st cause source session s).valAt key sel = s.valAt key sel := by simp [Node.valAt]
@[simp] theorem setDev_val (st : DevState) (cause source session : Nat) (s : Node) (key : Nat) : (setDev st cause source session s).val key = s.val key := by simp [Node.val]
@[simp] theorem setDev_blob (st : DevState) (cause source session : Nat) (s : Node) (key : Nat) : (setDev st cause source session s).blob key = s.blob key := by simp [Node.blob]

end Sys2Proof.Machine
end

