-- ==== Sys2Proof/Laws/Other.lean ====
section
/-! SUPPORT. An operation on one die leaves the other die alone: one lemma for each shared operation of which that holds. -/

namespace Sys2Proof.Machine

open Sys2Proof

/-! Operations on the F-die leave the N-die alone. -/

@[simp] theorem onlyIf_keeps_n {g : Node → Node} (h : ∀ s, (g s).n = s.n) (c : Bool) (s : Node) : (onlyIf c g s).n = s.n :=
  onlyIf_keeps Node.n h c s
@[simp] theorem foldl_keeps_n {α : Type} {g : Node → α → Node} (h : ∀ s a, (g s a).n = s.n) (l : List α) (s : Node) :
    (l.foldl g s).n = s.n := foldl_keeps Node.n h l s
@[simp] theorem forEach_keeps_n {α : Type} {g : α → Node → Node} (h : ∀ a s, (g a s).n = s.n) (l : List α) (s : Node) :
    (forEach l g s).n = s.n := forEach_keeps Node.n h l s
@[simp] theorem modFaults_n (g : Collector → Collector) (s : Node) : (modFaults .f g s).n = s.n := rfl
@[simp] theorem modClasp_n (g : ClaspHalf → ClaspHalf) (s : Node) : (modClasp .f g s).n = s.n := rfl
@[simp] theorem modCh_n (g : Channels → Channels) (s : Node) : (modCh .f g s).n = s.n := rfl
@[simp] theorem modSeq_n (g : Sequencer → Sequencer) (s : Node) : (modSeq .f g s).n = s.n := rfl
@[simp] theorem modLoupe_n (g : Loupe → Loupe) (s : Node) : (modLoupe .f g s).n = s.n := rfl
@[simp] theorem modIsl_n (g : Islands → Islands) (s : Node) : (modIsl .f g s).n = s.n := rfl
@[simp] theorem modFol_n (g : Follower → Follower) (s : Node) : (modFol g s).n = s.n := rfl
@[simp] theorem modChain_n (g : Chain → Chain) (s : Node) : (modChain g s).n = s.n := rfl
@[simp] theorem modPark_n (g : Parked → Parked) (s : Node) : (modPark g s).n = s.n := rfl
@[simp] theorem modFPort_n (g : FPort → FPort) (s : Node) : (modFPort g s).n = s.n := rfl

@[simp] theorem modChan_n (c : Nat) (g : Chan → Chan) (s : Node) : (modChan .f c g s).n = s.n := by
  unfold modChan; simp
@[simp] theorem tookFree_n (s : Node) : (tookFree s).n = s.n := rfl
@[simp] theorem modFil_n (i : Nat) (g : FilSlot → FilSlot) (s : Node) : (modFil i g s).n = s.n := rfl
@[simp] theorem filEffect_n (i : Nat) (s : Node) : (filEffect i s).n = s.n := by
  unfold filEffect; simp
@[simp] theorem filEvery_n (i : Nat) (s : Node) : (filEvery i s).1.n = s.n := by
  unfold filEvery; (repeat' split) <;> simp
@[simp] theorem filWord_n (tx : Die) (cls : Nat) (s : Node) : (filWord tx cls s).1.n = s.n := by
  unfold filWord; (repeat' split) <;> simp
@[simp] theorem setVal_n (key sel v : Nat) (s : Node) : (setVal key sel v s).n = s.n := by
  unfold setVal; simp
@[simp] theorem setBlob_n (key : Nat) (v : List Byte) (s : Node) : (setBlob key v s).n = s.n := by
  unfold setBlob; simp
@[simp] theorem rowValsN_n (row fRow : List Word) (s : Node) : (rowValsN row fRow s).n = s.n := by
  unfold rowValsN; simp
@[simp] theorem rowValsPair_n (p w : Nat) (s : Node) : (rowValsPair p w s).n = s.n := by
  unfold rowValsPair; simp
@[simp] theorem rowValsBead_n (p w : Nat) (s : Node) : (rowValsBead p w s).n = s.n := by
  unfold rowValsBead; simp
@[simp] theorem rowValsF_n (row : List Word) (s : Node) : (rowValsF row s).n = s.n := by
  unfold rowValsF; simp
@[simp] theorem dropVals_n (s : Node) : (dropVals .f s).n = s.n := by
  unfold dropVals; simp
@[simp] theorem loadArea_n (a : Area) (s : Node) : (loadArea a s).n = s.n := by
  unfold loadArea; (repeat' split) <;> simp
@[simp] theorem countBy_n (blk idx cell n : Nat) (s : Node) : (countBy .f blk idx cell n s).n = s.n := by
  unfold countBy; (repeat' split) <;> simp
@[simp] theorem bump_n (blk idx cell : Nat) (s : Node) : (bump .f blk idx cell s).n = s.n := by
  unfold bump; simp
@[simp] theorem peak_n (blk idx cell v : Nat) (s : Node) : (peak .f blk idx cell v s).n = s.n := by
  unfold peak; simp
@[simp] theorem sendCtrl_n (w : Ctrl) (s : Node) : (sendCtrl .f w s).n = s.n := by
  unfold sendCtrl
  apply onlyIf_keeps_n
  intro s
  rfl
@[simp] theorem gotCtrl_n (w : Ctrl) (s : Node) : (gotCtrl .f w s).n = s.n := by
  unfold gotCtrl; simp
@[simp] theorem sendFrame_n (s : Node) : (sendFrame .f s).n = s.n := by
  simp only [sendFrame]; (repeat' split) <;> simp_all
@[simp] theorem pumpData_n (s : Node) : (pumpData .f s).n = s.n := by
  unfold pumpData; (repeat' split) <;> simp
@[simp] theorem sendData_n (stream : Nat) (m : Msg) (s : Node) : (sendData .f stream m s).n = s.n := by
  unfold sendData; (repeat' split) <;> simp
@[simp] theorem keepLevel_n (before : Node) (c : Nat) (s : Node) : (keepLevel .f before c s).n = s.n := by
  unfold keepLevel; (repeat' split) <;> simp
@[simp] theorem settlePins_n {g : Node → Node} (h : ∀ s, (g s).n = s.n) (s : Node) : (settlePins .f g s).n = s.n := by
  simp [settlePins, h]
@[simp] theorem settleCh_n (g : Channels → Channels) (s : Node) : (settlePins .f (modCh .f g) s).n = s.n := by
  apply settlePins_n
  intro s
  rfl
@[simp] theorem setForce_n (o : Nat) (m : Mask) (s : Node) : (setForce .f o m s).n = s.n := by
  unfold setForce
  split
  · rfl
  · rw [sendCtrl_n, onlyIf_keeps_n (fun s => by simp), settleCh_n]
@[simp] theorem takeForce_n (o : Nat) (m : Mask) (s : Node) : (takeForce .f o m s).n = s.n := by
  unfold takeForce
  rw [settleCh_n, onlyIf_keeps_n (fun s => by simp)]
@[simp] theorem enterHold_n (s : Node) : (enterHold .f s).n = s.n := by
  unfold enterHold
  split
  · rfl
  · apply settleCh_n
@[simp] theorem leaveHold_n (s : Node) : (leaveHold .f s).n = s.n := by
  unfold leaveHold
  split
  · apply settleCh_n
  · rfl
@[simp] theorem sealChannels_n (s : Node) : (sealChannels .f s).n = s.n := by
  apply settleCh_n
@[simp] theorem modRun_n (r : Runner) (g : Run → Run) (s : Node) : (modRun .f r g s).n = s.n := by
  unfold modRun; (repeat' split) <;> simp
@[simp] theorem modRef_n (r : RunRef) (g : Run → Run) (s : Node) : (modRef .f r g s).n = s.n := by
  unfold modRef; (repeat' split) <;> simp
@[simp] theorem modObject_n (o : Nat) (g : ResultObject → ResultObject) (s : Node) : (modObject .f o g s).n = s.n := by
  unfold modObject; simp
@[simp] theorem closeObject_n (o : Nat) (run : Run) (incomplete : Bool) (s : Node) :
    (closeObject .f o run incomplete s).n = s.n := by
  unfold closeObject; simp
@[simp] theorem disown_n (o : Nat) (s : Node) : (disown .f o s).n = s.n := by
  unfold disown; simp
@[simp] theorem addRecord_n (rec : LaunchRecord) (s : Node) : (addRecord .f rec s).n = s.n := by
  unfold addRecord; (repeat' split) <;> simp
@[simp] theorem record_n (slot list flags : Nat) (time : T48) (lateness : Nat) (s : Node) :
    (record .f slot list flags time lateness s).n = s.n := by
  unfold record; simp
@[simp] theorem freeRunner_n (r : Runner) (s : Node) : (freeRunner .f r s).n = s.n := by
  simp only [freeRunner]; (repeat' split) <;> simp_all
@[simp] theorem endRun_n (r : Runner) (incomplete : Bool) (s : Node) : (endRun .f r incomplete s).n = s.n := by
  unfold endRun
  split
  · rfl
  · simp only [freeRunner_n, record_n]
    split
    · exact forEach_keeps_n (fun o s => by split <;> simp) _ s
    · rfl
@[simp] theorem stopLists_n (s : Node) : (stopLists .f s).n = s.n := by
  unfold stopLists; simp
@[simp] theorem fetchAhead_n (r : Runner) (s : Node) : (fetchAhead .f r s).n = s.n := by
  simp only [fetchAhead]; (repeat' split) <;> simp_all
@[simp] theorem startTrap_n (s : Node) : (startTrap .f s).n = s.n := by
  unfold startTrap; (repeat' split) <;> simp
@[simp] theorem leaveState_n (prev st : DevState) (s : Node) : (leaveState .f prev st s).n = s.n := by
  have h : (onlyIf (prev == .run && st != .run) (stopLists .f) s).n = s.n := onlyIf_keeps_n (fun s => by simp) _ s
  unfold leaveState
  dsimp only
  split
  · first
      | (rw [leaveHold_n, setForce_n]; exact h)
      | (rw [leaveHold_n, setForce_n, onlyIf_keeps_n (fun s => by simp), h]; done)
  · exact h
@[simp] theorem setDevF_n (st : DevState) (s : Node) : (setDevF st s).n = s.n := by
  unfold setDevF; (repeat' split) <;> simp
@[simp] theorem writeEntry_n (e : HistEntry) (s : Node) : (writeEntry .f e s).n = s.n := by
  unfold writeEntry; simp
@[simp] theorem modEntry_n (event : Nat) (g : HistEntry → HistEntry) (s : Node) : (modEntry .f event g s).n = s.n := by
  unfold modEntry; simp
@[simp] theorem assertPin_n (s : Node) : (assertPin .f s).n = s.n := by
  unfold assertPin; (repeat' split) <;> simp
@[simp] theorem forwardEvent_n (e : HistEntry) (s : Node) : (forwardEvent e s).n = s.n := by
  unfold forwardEvent; (repeat' split) <;> simp
@[simp] theorem sealDie_n (src : Nat) (s : Node) : (sealDie .f src s).n = s.n := by
  unfold sealDie
  have h : (modDie .f (fun x => { x with ret := { x.ret with seals := setSrc x.ret.seals src true } }) s).n = s.n := rfl
  simp [h]
@[simp] theorem trapReaction_n (src : Nat) (s : Node) : (trapReaction .f src s).n = s.n := by
  unfold trapReaction
  split
  · rfl
  · dsimp only
    first
      | (simp; done)
      | (split
         · simp [onlyIf_keeps_n (g := setDevF .safeHold) (fun s => by simp)]
         · simp [onlyIf_keeps_n (g := setDevF .safeHold) (fun s => by simp)])
@[simp] theorem reactions_n (src cls mask : Nat) (e : HistEntry) (s : Node) : (reactions .f src cls mask e s).n = s.n := by
  unfold reactions
  dsimp only
  rw [onlyIf_keeps_n (fun s => by simp), onlyIf_keeps_n (fun s => by simp), onlyIf_keeps_n (fun s => by simp), onlyIf_keeps_n (fun s => by simp)]
@[simp] theorem requestFlush_n (s : Node) : (requestFlush .f s).n = s.n := by
  unfold requestFlush; simp
@[simp] theorem startEvent_n (src cls mask detail fSource : Nat) (seals fresh : Bool) (s : Node) :
    (startEvent .f src cls mask detail fSource seals fresh s).n = s.n := by
  unfold startEvent; simp
@[simp] theorem detectCore_n (src detail fSource : Nat) (cls : Option Nat) (s : Node) :
    (detectCore .f src detail fSource cls s).n = s.n := by
  unfold detectCore
  split
  · simp only [show (Die.f == Die.n) = false from by decide, Bool.false_and, onlyIf_false]
    split <;> simp
  · rfl
@[simp] theorem condFell_n (src : Nat) (s : Node) : (condFell .f src s).n = s.n := by
  simp only [condFell]; (repeat' split) <;> simp_all
@[simp] theorem tear_n (i entries : Nat) (s : Node) : (tear .f i entries s).n = s.n := by
  unfold tear; simp
@[simp] theorem resetIsland_n (island cause : Nat) (s : Node) : (resetIsland .f island cause s).n = s.n := by
  simp only [resetIsland]; (repeat' split) <;> simp_all
@[simp] theorem detect_n (src detail : Nat) (s : Node) : (detect .f src detail s).n = s.n := by
  simp only [detect]; (repeat' split) <;> simp_all
@[simp] theorem setCond_n (src : Nat) (on : Bool) (detail : Nat) (s : Node) : (setCond .f src on detail s).n = s.n := by
  simp only [setCond]; (repeat' split) <;> simp_all
@[simp] theorem closeWindow_n (src : Nat) (s : Node) : (closeWindow .f src s).n = s.n := by
  unfold closeWindow; simp
@[simp] theorem failStep_n (r : RunRef) (op : Nat) (s : Node) : (failStep .f r op s).n = s.n := by
  unfold failStep; simp
@[simp] theorem beginStep_n (r : RunRef) (s : Node) : (beginStep .f r s).n = s.n := by
  unfold beginStep; simp
@[simp] theorem endOutstanding_n (r : RunRef) (s : Node) : (endOutstanding .f r s).n = s.n := by
  simp only [endOutstanding]; (repeat' split) <;> simp_all
@[simp] theorem storeData_n (dest : Nat) (bs : List Byte) (deferred : Bool) (s : Node) :
    (storeData .f dest bs deferred s).1.n = s.n := by
  simp only [storeData]; (repeat' split) <;> simp_all
@[simp] theorem stepData_n (r : RunRef) (op dest : Nat) (data : Option (List Byte)) (deferred : Bool) (s : Node) :
    (stepData .f r op dest data deferred s).n = s.n := by
  simp only [stepData]; (repeat' split) <;> simp_all
@[simp] theorem restartF_n (phase : Phase) (cause : Nat) (s : Node) : (restartF phase cause s).n = s.n := by
  unfold restartF; simp
@[simp] theorem sendHeld_n (s : Node) : (sendHeld .f s).n = s.n := by
  unfold sendHeld; simp
@[simp] theorem waitsNoMore_n (session tag : Nat) (s : Node) : (waitsNoMore session tag s).n = s.n := by
  unfold waitsNoMore; simp
@[simp] theorem edgeOverflow_n (c : Nat) (s : Node) : (edgeOverflow .f c s).n = s.n := by
  unfold edgeOverflow; simp
@[simp] theorem backlogOverflow_n (c : Nat) (s : Node) : (backlogOverflow .f c s).n = s.n := by
  unfold backlogOverflow; simp
@[simp] theorem captureEdge_n (c at_ : Nat) (s : Node) : (captureEdge .f c at_ s).n = s.n := by
  simp only [captureEdge]; (repeat' split) <;> simp_all
@[simp] theorem putSlot_n (i : Nat) (x : Slot) (s : Node) : (putSlot .f i x s).n = s.n := by
  unfold putSlot; simp
@[simp] theorem launchSlot_n (i : Nat) (late : Bool) (s : Node) : (launchSlot .f i late s).n = s.n := by
  simp only [launchSlot]; (repeat' split) <;> simp_all
@[simp] theorem armSlot_n (i : Nat) (x : Slot) (s : Node) : (armSlot .f i x s).n = s.n := by
  unfold armSlot; (repeat' split) <;> simp
@[simp] theorem sendOrder_n (floor list : Nat) (launch : T48) (fromStep : Option RunRef) (s : Node) :
    (sendOrder .f floor list launch fromStep s).n = s.n := by
  simp only [sendOrder]; (repeat' split) <;> simp_all
@[simp] theorem answerOrder_n (id : Nat) (late : Bool) (outcome : Nat) (s : Node) :
    (answerOrder .f id late outcome s).n = s.n := by
  unfold answerOrder; simp
@[simp] theorem takeOrder_n (id floor list : Nat) (launch : T48) (s : Node) :
    (takeOrder .f id floor list launch s).n = s.n := by
  simp only [takeOrder]; (repeat' split) <;> simp_all
@[simp] theorem takeTrigger_n (origin list : Nat) (launch : T48) (s : Node) :
    (takeTrigger .f origin list launch s).n = s.n := by
  simp only [takeTrigger]; (repeat' split) <;> simp_all
@[simp] theorem advance_n (r : Runner) (g : Run → Run) (s : Node) : (advance .f r g s).n = s.n := by
  unfold advance; simp
@[simp] theorem actLate_n (list late : Nat) (s : Node) : (actLate .f list late s).1.n = s.n := by
  unfold actLate; (repeat' split) <;> simp
@[simp] theorem issueStep_n (r : Runner) (op lateness : Nat) (s : Node) : (issueStep .f r op lateness s).n = s.n := by
  unfold issueStep; simp
@[simp] theorem publish_n (o : Nat) (s : Node) : (publish .f o s).n = s.n := by
  simp only [publish]; split <;> simp
@[simp] theorem countDropped_n (s : Node) : (countDropped .f s).n = s.n := by
  unfold countDropped; simp
@[simp] theorem enterOutage_n (s : Node) : (enterOutage .f s).n = s.n := by
  unfold enterOutage; (repeat' split) <;> simp
@[simp] theorem sendConfig_n (phase : Nat) (s : Node) : (sendConfig .f phase s).n = s.n := by
  unfold sendConfig; simp
@[simp] theorem countWord_n (c : WordCheck) (s : Node) : (countWord .f c s).n = s.n := by
  unfold countWord; (repeat' split) <;> simp
@[simp] theorem perturbed_n (cls : Nat) (s : Node) : (perturbed .f cls s).1.n = s.n := by
  unfold perturbed; simp
@[simp] theorem ctrlWord_n {g : Node → Node} (h : ∀ s, (g s).n = s.n) (s : Node) : (ctrlWord .f g s).n = s.n := by
  unfold ctrlWord
  split
  · dsimp only
    split <;> simp [h]
  · exact h s
@[simp] theorem repeatOrders_n (s : Node) : (repeatOrders .f s).n = s.n := by
  unfold repeatOrders; simp
@[simp] theorem promoteOrder_n (s : Node) : (promoteOrder .f s).n = s.n := by
  unfold promoteOrder; (repeat' split) <;> simp
@[simp] theorem requestRate_n (half : Bool) (s : Node) : (requestRate .f half s).n = s.n := by
  unfold requestRate; simp
@[simp] theorem limitReached_n (s : Node) : (limitReached .f s).n = s.n := by
  simp only [limitReached]; (repeat' split) <;> simp_all
@[simp] theorem answerRate_n (half : Bool) (n : Nat) (s : Node) : (answerRate .f half n s).n = s.n := by
  unfold answerRate; (repeat' split) <;> simp
@[simp] theorem switchRate_n (half : Bool) (s : Node) : (switchRate .f half s).n = s.n := by
  unfold switchRate; simp
@[simp] theorem eventSent_n (c : Nat) (s : Node) : (eventSent .f c s).n = s.n := by
  unfold eventSent; simp
@[simp] theorem takeEvent_n (e : EdgeEvent) (s : Node) : (takeEvent .f e s).n = s.n := by
  unfold takeEvent; (repeat' split) <;> simp
@[simp] theorem refreshChannel_n (mask levels : Mask) (c : Nat) (s : Node) :
    (refreshChannel .f mask levels c s).n = s.n := by
  simp only [refreshChannel]; (repeat' split) <;> simp_all
@[simp] theorem repeatForce_n (o : Nat) (s : Node) : (repeatForce .f o s).n = s.n := by
  simp only [repeatForce]; (repeat' split) <;> simp_all
@[simp] theorem rewriteMap_n (map : Nat) (upper : Bool) (s : Node) : (rewriteMap map upper s).n = s.n := by
  unfold rewriteMap; simp
@[simp] theorem sampleSource_n (src : Nat) (s : Node) : (sampleSource .f src s).n = s.n := by
  simp only [sampleSource]; (repeat' split) <;> simp_all
@[simp] theorem releasePin_n (s : Node) : (releasePin .f s).n = s.n := by
  simp only [releasePin]; (repeat' split) <;> simp
@[simp] theorem clearStatus_n (m : Word) (s : Node) : (clearStatus .f m s).n = s.n := by
  unfold clearStatus; simp
@[simp] theorem ackSource_n (src : Nat) (s : Node) : (ackSource .f src s).n = s.n := by
  simp only [ackSource]; (repeat' split) <;> simp_all
@[simp] theorem ackSources_n (m : Word) (s : Node) : (ackSources .f m s).n = s.n := by
  unfold ackSources; simp
@[simp] theorem clearHistory_n (s : Node) : (clearHistory .f s).n = s.n := by
  unfold clearHistory; simp
@[simp] theorem statusSeen_n (s : Node) : (statusSeen .f s).n = s.n := by
  unfold statusSeen; simp
@[simp] theorem forwardPending_n (s : Node) : (forwardPending s).n = s.n := by
  simp only [forwardPending]; (repeat' split) <;> simp_all
@[simp] theorem modLink_n (p : Port) (g : Link → Link) (s : Node) : (modLink p g s).n = s.n := by
  unfold modLink; simp
@[simp] theorem linkCountBy_n (p : Port) (item cell n : Nat) (s : Node) : (linkCountBy p item cell n s).n = s.n := by
  unfold linkCountBy; simp
@[simp] theorem linkCount_n (p : Port) (item cell : Nat) (s : Node) : (linkCount p item cell s).n = s.n := by
  unfold linkCount; simp
@[simp] theorem dropFrames_n (p : Option Port) (cell n : Nat) (s : Node) : (dropFrames p cell n s).n = s.n := by
  unfold dropFrames; simp
@[simp] theorem putOnLine_n (p : Port) (type : Nat) (s : Node) : (putOnLine p type s).n = s.n := by
  unfold putOnLine; (repeat' split) <;> simp
@[simp] theorem startNext_n (p : Port) (s : Node) : (startNext p s).n = s.n := by
  simp only [startNext]; (repeat' split) <;> simp_all
@[simp] theorem sendBypass_n (p : Port) (f : ChainFrame) (s : Node) : (sendBypass p f s).n = s.n := by
  unfold sendBypass; simp
@[simp] theorem enqueue_n (p : Port) (f : ChainFrame) (s : Node) : (enqueue p f s).n = s.n := by
  unfold enqueue; simp
@[simp] theorem forwardOn_n (p : Port) (f : ChainFrame) (s : Node) : (forwardOn p f s).n = s.n := by
  unfold forwardOn; (repeat' split) <;> simp
@[simp] theorem egress_n (f : ChainFrame) (s : Node) : (egress f s).n = s.n := by
  unfold egress; simp
@[simp] theorem originOn_n (p : Port) (f : ChainFrame) (s : Node) : (originOn p f s).n = s.n := by
  unfold originOn; (repeat' split) <;> simp
@[simp] theorem unstall_n (s : Node) : (unstall s).n = s.n := by
  unfold unstall; simp
@[simp] theorem startPorts_n (s : Node) : (startPorts s).n = s.n := by
  unfold startPorts; simp
@[simp] theorem slotPast_n (i : Nat) (new : T48) (s : Node) : (slotPast .f i new s).n = s.n := by
  simp only [slotPast]; (repeat' split) <;> simp_all
@[simp] theorem dropSlot_n (i : Nat) (s : Node) : (dropSlot .f i s).n = s.n := by
  unfold dropSlot; simp
@[simp] theorem slotOver_n (new : T48) (drop : Bool) (i : Nat) (s : Node) : (slotOver .f new drop i s).n = s.n := by
  unfold slotOver; (repeat' split) <;> simp
@[simp] theorem jumped_n (old : T48) (drop : Bool) (s : Node) : (jumped .f old drop s).n = s.n := by
  unfold jumped; simp
@[simp] theorem adoptRoot_n (p : Port) (d : Discover) (s : Node) : (adoptRoot p d s).n = s.n := by
  unfold adoptRoot; simp
@[simp] theorem reenableLink_n (p : Port) (s : Node) : (reenableLink p s).n = s.n := by
  simp only [reenableLink]; (repeat' split) <;> simp_all
@[simp] theorem deliverToN_n (f : ChainFrame) (s : Node) : (deliverToN f s).n = s.n := by
  unfold deliverToN; (repeat' split) <;> simp
@[simp] theorem setTimed_n (levels c : Nat) (s : Node) : (setTimed .f levels c s).n = s.n := by
  simp only [setTimed]; (repeat' split) <;> simp_all
@[simp] theorem releaseIsland_n (island : Nat) (byClock : Bool) (s : Node) :
    (releaseIsland .f island byClock s).n = s.n := by
  unfold releaseIsland; (repeat' split) <;> simp
@[simp] theorem countWork_n (i : Nat) (s : Node) : (countWork i s).n = s.n := by
  unfold countWork; simp
@[simp] theorem putOnPins_n (work : FWork) (target read source : Nat) (s : Node) :
    (putOnPins work target read source s).n = s.n := by
  unfold putOnPins; simp
@[simp] theorem stallFetches_n (t : Nat) (s : Node) : (stallFetches t s).n = s.n := by
  unfold stallFetches
  refine forEach_keeps Node.n (fun w s => ?_) _ s
  (repeat' split) <;> simp
@[simp] theorem startJob_n (window addr : Nat) (bytes : List Byte) (s : Node) : (startJob window addr bytes s).n = s.n := by
  unfold startJob; simp
@[simp] theorem startErase_n (arg : Nat) (txn : Option (Nat × Nat)) (s : Node) : (startErase arg txn s).n = s.n := by
  unfold startErase; simp
@[simp] theorem startWindowRead_n (session tag window addr len : Nat) (s : Node) :
    (startWindowRead session tag window addr len s).n = s.n := by
  unfold startWindowRead; simp
@[simp] theorem startFPort_n (s : Node) : (startFPort s).n = s.n := by
  unfold startFPort; simp
@[simp] theorem modBead_n (p : Nat) (g : Bead → Bead) (s : Node) : (modBead p g s).n = s.n := by
  unfold modBead; simp
@[simp] theorem modPos_n (p k : Nat) (g : BeadPos → BeadPos) (s : Node) : (modPos p k g s).n = s.n := by
  unfold modPos; simp
@[simp] theorem beadCount_n (p item cell : Nat) (s : Node) : (beadCount p item cell s).n = s.n := by
  unfold beadCount; simp
@[simp] theorem dropSlow_n (p k reason : Nat) (s : Node) : (dropSlow p k reason s).n = s.n := by
  unfold dropSlow; simp
@[simp] theorem beadError_n (p k : Nat) (s : Node) : (beadError p k s).1.n = s.n := by
  unfold beadError; (repeat' split) <;> simp
@[simp] theorem grant_n (p : Nat) (s : Node) : (grant p s).n = s.n := by
  unfold grant; simp
@[simp] theorem requestPull_n (p : Nat) (s : Node) : (requestPull p s).n = s.n := by
  unfold requestPull; (repeat' split) <;> simp
@[simp] theorem startTrain_n (p path : Nat) (at_ : T48) (s : Node) : (startTrain p path at_ s).n = s.n := by
  unfold startTrain; simp
@[simp] theorem beadStart_n (p : Nat) (s : Node) : (beadStart p s).n = s.n := by
  unfold beadStart; simp
@[simp] theorem startBeads_n (s : Node) : (startBeads s).n = s.n := by
  unfold startBeads; simp
@[simp] theorem tryFlush_n (s : Node) : (tryFlush .f s).n = s.n := by
  simp only [tryFlush]; (repeat' split) <;> simp_all
@[simp] theorem flush_n (s : Node) : (flush .f s).n = s.n := by
  unfold flush; simp
@[simp] theorem modPair_n (p : Nat) (g : SafePair → SafePair) (s : Node) : (modPair p g s).n = s.n := by
  unfold modPair; simp
@[simp] theorem pairCount_n (p item cell : Nat) (s : Node) : (pairCount p item cell s).n = s.n := by
  unfold pairCount; simp
@[simp] theorem assertPair_n (p : Nat) (s : Node) : (assertPair p s).n = s.n := by
  unfold assertPair; simp
@[simp] theorem clearPair_n (p : Nat) (s : Node) : (clearPair p s).n = s.n := by
  unfold clearPair; simp
@[simp] theorem enterPair_n (p : Nat) (st : SafeState) (s : Node) : (enterPair p st s).n = s.n := by
  unfold enterPair; (repeat' split) <;> simp
@[simp] theorem parkCount_n (item cell : Nat) (s : Node) : (parkCount item cell s).n = s.n := by
  unfold parkCount; simp
@[simp] theorem sendParked_n (p : Port) (f : ChainFrame) (s : Node) : (sendParked p f s).n = s.n := by
  unfold sendParked; simp
@[simp] theorem routeWake_n (from_ : Option Port) (f : ChainFrame) (s : Node) : (routeWake from_ f s).n = s.n := by
  unfold routeWake; (repeat' split) <;> simp
@[simp] theorem wakeF_n (s : Node) : (wakeF s).n = s.n := by
  unfold wakeF; (repeat' split) <;> simp
@[simp] theorem wakeNDie_n (s : Node) : (wakeNDie s).n = s.n := by
  unfold wakeNDie; (repeat' split) <;> simp
@[simp] theorem unparkPort_n (p : Port) (s : Node) : (unparkPort p s).n = s.n := by
  unfold unparkPort; simp
@[simp] theorem checkUnparked_n (s : Node) : (checkUnparked s).n = s.n := by
  unfold checkUnparked; (repeat' split) <;> simp
@[simp] theorem setChannels_n (p : Nat) (a b : Bool) (s : Node) : (setChannels p a b s).n = s.n := by
  unfold setChannels; simp
@[simp] theorem declare_n (p : Nat) (s : Node) : (declare p s).n = s.n := by
  simp only [declare]; simp
@[simp] theorem enterTransition_n (p : Nat) (permit a b : Bool) (s : Node) : (enterTransition p permit a b s).n = s.n := by
  simp only [enterTransition]; (repeat' split) <;> simp_all
@[simp] theorem enterActive_n (p : Nat) (s : Node) : (enterActive p s).n = s.n := by
  simp only [enterActive]; (repeat' split) <;> simp_all
@[simp] theorem enterBlocked_n (p : Nat) (s : Node) : (enterBlocked p s).n = s.n := by
  unfold enterBlocked; simp
@[simp] theorem lockFil_n (s : Node) : (lockFil s).n = s.n := by
  unfold lockFil; simp
@[simp] theorem sendOldest_n (s : Node) : (sendOldest .f s).n = s.n := by
  unfold sendOldest; (repeat' split) <;> simp
@[simp] theorem returnHeld_n (s : Node) : (returnHeld .f s).n = s.n := by
  unfold returnHeld; (repeat' split) <;> simp
@[simp] theorem linksOff_n (s : Node) : (linksOff s).n = s.n := by
  unfold linksOff; simp
@[simp] theorem rowFour_n (s : Node) : (rowFour s).n = s.n := by
  unfold rowFour; simp
@[simp] theorem tempCond_n (t : Int) (limit blk item : Nat) (s : Node) : (tempCond .f t limit blk item s).n = s.n := by
  unfold tempCond; (repeat' split) <;> simp
@[simp] theorem tempExtremes_n (t : Int) (s : Node) : (tempExtremes .f t s).n = s.n := by
  unfold tempExtremes; simp
@[simp] theorem endsWith_n (status : Nat) (s : Node) : (endsWith status s).1.n = s.n := by
  unfold endsWith; simp
@[simp] theorem sliceRead_n (status : Nat) (bs : List Byte) (offset length : Nat) (s : Node) :
    (sliceRead status bs offset length s).1.n = s.n := by
  unfold sliceRead; (repeat' split) <;> simp
@[simp] theorem readStream_n (offset length : Nat) (s : Node) : (readStream .f offset length s).1.n = s.n := by
  unfold readStream; (repeat' split) <;> simp
@[simp] theorem readWindow_n (session tag window pointer offset length : Nat) (s : Node) :
    (readWindow session tag window pointer offset length s).1.n = s.n := by
  simp only [readWindow]; (repeat' split) <;> simp_all
@[simp] theorem capSwing_n (s : Node) : (capSwing .f s).n = s.n := by
  unfold capSwing; simp
@[simp] theorem writeList_n (key : Nat) (bs : List Byte) (s : Node) : (writeList key bs s).1.n = s.n := by
  simp only [writeList]; (repeat' split) <;> simp_all
@[simp] theorem writeArm_n (bs : List Byte) (s : Node) : (writeArm .f bs s).1.n = s.n := by
  unfold writeArm; (repeat' split) <;> simp
@[simp] theorem writeWindow_n (window pointer : Nat) (bs : List Byte) (s : Node) :
    (writeWindow window pointer bs s).1.n = s.n := by
  simp only [writeWindow]; (repeat' split) <;> simp_all
@[simp] theorem detectUnstated_n (src : Nat) (s : Node) : (detectUnstated .f src s).n = s.n := by
  unfold detectUnstated; simp
@[simp] theorem resetSequencer_n (s : Node) : (resetSequencer .f s).n = s.n := by
  unfold resetSequencer; simp
@[simp] theorem restored_n (arg : Nat) (s : Node) : (restored arg s).n = s.n := by
  unfold restored; (repeat' split) <;> simp
@[simp] theorem factoryPart_n (part : Nat) (s : Node) : (factoryPart part s).n = s.n := by
  unfold factoryPart; (repeat' split) <;> simp
@[simp] theorem cancelSlot_n (arg : Nat) (s : Node) : (cancelSlot .f arg s).1.n = s.n := by
  simp only [cancelSlot]; (repeat' split) <;> simp_all
@[simp] theorem syncCommand_n (p : Nat) (now : T48) (s : Node) : (syncCommand p now s).1.n = s.n := by
  simp only [syncCommand]; (repeat' split) <;> simp_all
@[simp] theorem eraseCommand_n (session tag arg : Nat) (waits : Bool) (s : Node) :
    (eraseCommand session tag arg waits s).1.n = s.n := by
  simp only [eraseCommand]; (repeat' split) <;> simp_all
@[simp] theorem sfdpCommand_n (arg : Nat) (s : Node) : (sfdpCommand arg s).1.n = s.n := by
  unfold sfdpCommand; (repeat' split) <;> simp
@[simp] theorem forcedBusy_n (session key : Nat) (s : Node) : (forcedBusy session key s).1.n = s.n := by
  unfold forcedBusy; (repeat' split) <;> simp
@[simp] theorem oweCredit_n (s : Node) : (oweCredit .f s).n = s.n := by
  unfold oweCredit; (repeat' split) <;> simp
@[simp] theorem discardData_n (seq : Nat) (s : Node) : (discardData .f seq s).n = s.n := by
  unfold discardData; simp
@[simp] theorem clearRetention_n (s : Node) : (clearRetention .f s).n = s.n := by
  unfold clearRetention; simp
@[simp] theorem applyRow_n (row : List Word) (map : Nat) (s : Node) : (applyRow .f row map s).n = s.n := by
  unfold applyRow; simp
@[simp] theorem countStart_n (restored recovered : Bool) (readyTime : Nat) (s : Node) :
    (countStart .f restored recovered readyTime s).n = s.n := by
  unfold countStart; simp
@[simp] theorem releaseStartup_n (s : Node) : (releaseStartup .f s).n = s.n := by
  unfold releaseStartup; simp
@[simp] theorem reseal_n (s : Node) : (reseal .f s).n = s.n := by
  simp only [reseal]; (repeat' split) <;> simp_all
@[simp] theorem startSources_n (restored : Bool) (s : Node) : (startSources .f restored s).n = s.n := by
  unfold startSources; (repeat' split) <;> simp
@[simp] theorem trainDie_n (s : Node) : (trainDie .f s).n = s.n := by
  unfold trainDie; simp
@[simp] theorem offerForces_n (s : Node) : (offerForces .f s).n = s.n := by
  unfold offerForces; simp

/-! Operations on the N-die leave the F-die alone. -/

@[simp] theorem onlyIf_keeps_f {g : Node → Node} (h : ∀ s, (g s).f = s.f) (c : Bool) (s : Node) : (onlyIf c g s).f = s.f :=
  onlyIf_keeps Node.f h c s
@[simp] theorem foldl_keeps_f {α : Type} {g : Node → α → Node} (h : ∀ s a, (g s a).f = s.f) (l : List α) (s : Node) :
    (l.foldl g s).f = s.f := foldl_keeps Node.f h l s
@[simp] theorem forEach_keeps_f {α : Type} {g : α → Node → Node} (h : ∀ a s, (g a s).f = s.f) (l : List α) (s : Node) :
    (forEach l g s).f = s.f := forEach_keeps Node.f h l s
@[simp] theorem modFaults_f (g : Collector → Collector) (s : Node) : (modFaults .n g s).f = s.f := rfl
@[simp] theorem modClasp_f (g : ClaspHalf → ClaspHalf) (s : Node) : (modClasp .n g s).f = s.f := rfl
@[simp] theorem modCh_f (g : Channels → Channels) (s : Node) : (modCh .n g s).f = s.f := rfl
@[simp] theorem modSeq_f (g : Sequencer → Sequencer) (s : Node) : (modSeq .n g s).f = s.f := rfl
@[simp] theorem modLoupe_f (g : Loupe → Loupe) (s : Node) : (modLoupe .n g s).f = s.f := rfl
@[simp] theorem modIsl_f (g : Islands → Islands) (s : Node) : (modIsl .n g s).f = s.f := rfl
@[simp] theorem modDict_f (g : Dict → Dict) (s : Node) : (modDict g s).f = s.f := rfl
@[simp] theorem modCan_f (g : Can → Can) (s : Node) : (modCan g s).f = s.f := rfl
@[simp] theorem modPort_f (g : NPort → NPort) (s : Node) : (modPort g s).f = s.f := rfl
@[simp] theorem modHm_f (g : Hallmark → Hallmark) (s : Node) : (modHm g s).f = s.f := rfl
@[simp] theorem modBar_f (g : Barrier → Barrier) (s : Node) : (modBar g s).f = s.f := rfl
@[simp] theorem modPow_f (g : Power → Power) (s : Node) : (modPow g s).f = s.f := rfl

@[simp] theorem modChan_f (c : Nat) (g : Chan → Chan) (s : Node) : (modChan .n c g s).f = s.f := by
  unfold modChan; simp
@[simp] theorem tookFree_f (s : Node) : (tookFree s).f = s.f := rfl
@[simp] theorem modFil_f (i : Nat) (g : FilSlot → FilSlot) (s : Node) : (modFil i g s).f = s.f := rfl
@[simp] theorem filEffect_f (i : Nat) (s : Node) : (filEffect i s).f = s.f := by
  unfold filEffect; simp
@[simp] theorem filEvery_f (i : Nat) (s : Node) : (filEvery i s).1.f = s.f := by
  unfold filEvery; (repeat' split) <;> simp
@[simp] theorem filWord_f (tx : Die) (cls : Nat) (s : Node) : (filWord tx cls s).1.f = s.f := by
  unfold filWord; (repeat' split) <;> simp
@[simp] theorem setVal_f (key sel v : Nat) (s : Node) : (setVal key sel v s).f = s.f := by
  unfold setVal; simp
@[simp] theorem setBlob_f (key : Nat) (v : List Byte) (s : Node) : (setBlob key v s).f = s.f := by
  unfold setBlob; simp
@[simp] theorem rowValsN_f (row fRow : List Word) (s : Node) : (rowValsN row fRow s).f = s.f := by
  unfold rowValsN; simp
@[simp] theorem rowValsPair_f (p w : Nat) (s : Node) : (rowValsPair p w s).f = s.f := by
  unfold rowValsPair; simp
@[simp] theorem rowValsBead_f (p w : Nat) (s : Node) : (rowValsBead p w s).f = s.f := by
  unfold rowValsBead; simp
@[simp] theorem rowValsF_f (row : List Word) (s : Node) : (rowValsF row s).f = s.f := by
  unfold rowValsF; simp
@[simp] theorem dropVals_f (s : Node) : (dropVals .n s).f = s.f := by
  unfold dropVals; simp
@[simp] theorem loadArea_f (a : Area) (s : Node) : (loadArea a s).f = s.f := by
  unfold loadArea; (repeat' split) <;> simp
@[simp] theorem countBy_f (blk idx cell n : Nat) (s : Node) : (countBy .n blk idx cell n s).f = s.f := by
  unfold countBy; (repeat' split) <;> simp
@[simp] theorem bump_f (blk idx cell : Nat) (s : Node) : (bump .n blk idx cell s).f = s.f := by
  unfold bump; simp
@[simp] theorem peak_f (blk idx cell v : Nat) (s : Node) : (peak .n blk idx cell v s).f = s.f := by
  unfold peak; simp
@[simp] theorem sendCtrl_f (w : Ctrl) (s : Node) : (sendCtrl .n w s).f = s.f := by
  unfold sendCtrl
  apply onlyIf_keeps_f
  intro s
  rfl
@[simp] theorem gotCtrl_f (w : Ctrl) (s : Node) : (gotCtrl .n w s).f = s.f := by
  unfold gotCtrl; simp
@[simp] theorem sendFrame_f (s : Node) : (sendFrame .n s).f = s.f := by
  simp only [sendFrame]; (repeat' split) <;> simp_all
@[simp] theorem pumpData_f (s : Node) : (pumpData .n s).f = s.f := by
  unfold pumpData; (repeat' split) <;> simp
@[simp] theorem sendData_f (stream : Nat) (m : Msg) (s : Node) : (sendData .n stream m s).f = s.f := by
  unfold sendData; (repeat' split) <;> simp
@[simp] theorem keepLevel_f (before : Node) (c : Nat) (s : Node) : (keepLevel .n before c s).f = s.f := by
  unfold keepLevel; (repeat' split) <;> simp
@[simp] theorem settlePins_f {g : Node → Node} (h : ∀ s, (g s).f = s.f) (s : Node) : (settlePins .n g s).f = s.f := by
  simp [settlePins, h]
@[simp] theorem settleCh_f (g : Channels → Channels) (s : Node) : (settlePins .n (modCh .n g) s).f = s.f := by
  apply settlePins_f
  intro s
  rfl
@[simp] theorem setForce_f (o : Nat) (m : Mask) (s : Node) : (setForce .n o m s).f = s.f := by
  unfold setForce
  split
  · rfl
  · rw [sendCtrl_f, onlyIf_keeps_f (fun s => by simp), settleCh_f]
@[simp] theorem takeForce_f (o : Nat) (m : Mask) (s : Node) : (takeForce .n o m s).f = s.f := by
  unfold takeForce
  rw [settleCh_f, onlyIf_keeps_f (fun s => by simp)]
@[simp] theorem enterHold_f (s : Node) : (enterHold .n s).f = s.f := by
  unfold enterHold
  split
  · rfl
  · apply settleCh_f
@[simp] theorem leaveHold_f (s : Node) : (leaveHold .n s).f = s.f := by
  unfold leaveHold
  split
  · apply settleCh_f
  · rfl
@[simp] theorem sealChannels_f (s : Node) : (sealChannels .n s).f = s.f := by
  apply settleCh_f
@[simp] theorem modRun_f (r : Runner) (g : Run → Run) (s : Node) : (modRun .n r g s).f = s.f := by
  unfold modRun; (repeat' split) <;> simp
@[simp] theorem modRef_f (r : RunRef) (g : Run → Run) (s : Node) : (modRef .n r g s).f = s.f := by
  unfold modRef; (repeat' split) <;> simp
@[simp] theorem modObject_f (o : Nat) (g : ResultObject → ResultObject) (s : Node) : (modObject .n o g s).f = s.f := by
  unfold modObject; simp
@[simp] theorem closeObject_f (o : Nat) (run : Run) (incomplete : Bool) (s : Node) :
    (closeObject .n o run incomplete s).f = s.f := by
  unfold closeObject; simp
@[simp] theorem disown_f (o : Nat) (s : Node) : (disown .n o s).f = s.f := by
  unfold disown; simp
@[simp] theorem addRecord_f (rec : LaunchRecord) (s : Node) : (addRecord .n rec s).f = s.f := by
  unfold addRecord; (repeat' split) <;> simp
@[simp] theorem record_f (slot list flags : Nat) (time : T48) (lateness : Nat) (s : Node) :
    (record .n slot list flags time lateness s).f = s.f := by
  unfold record; simp
@[simp] theorem freeRunner_f (r : Runner) (s : Node) : (freeRunner .n r s).f = s.f := by
  simp only [freeRunner]; (repeat' split) <;> simp_all
@[simp] theorem endRun_f (r : Runner) (incomplete : Bool) (s : Node) : (endRun .n r incomplete s).f = s.f := by
  unfold endRun
  split
  · rfl
  · simp only [freeRunner_f, record_f]
    split
    · exact forEach_keeps_f (fun o s => by split <;> simp) _ s
    · rfl
@[simp] theorem stopLists_f (s : Node) : (stopLists .n s).f = s.f := by
  unfold stopLists; simp
@[simp] theorem fetchAhead_f (r : Runner) (s : Node) : (fetchAhead .n r s).f = s.f := by
  unfold fetchAhead; simp
@[simp] theorem startTrap_f (s : Node) : (startTrap .n s).f = s.f := by
  unfold startTrap; (repeat' split) <;> simp
@[simp] theorem leaveState_f (prev st : DevState) (s : Node) : (leaveState .n prev st s).f = s.f := by
  have h : (onlyIf (prev == .run && st != .run) (stopLists .n) s).f = s.f := onlyIf_keeps_f (fun s => by simp) _ s
  unfold leaveState
  dsimp only
  split
  · first
      | (rw [leaveHold_f, setForce_f]; exact h)
      | (rw [leaveHold_f, setForce_f, onlyIf_keeps_f (fun s => by simp), h]; done)
  · exact h
@[simp] theorem holdForce_f (s : Node) : (holdForce s).f = s.f := by
  unfold holdForce; simp
@[simp] theorem enterStateN_f (st : DevState) (cause : Nat) (s : Node) : (enterStateN st cause s).f = s.f := by
  unfold enterStateN; (repeat' split) <;> simp
@[simp] theorem setDev_f (st : DevState) (cause source session : Nat) (s : Node) :
    (setDev st cause source session s).f = s.f := by
  unfold setDev; simp
@[simp] theorem trapState_f (cause source : Nat) (s : Node) : (trapState cause source s).f = s.f := by
  unfold trapState; (repeat' split) <;> simp
@[simp] theorem sealState_f (cause source : Nat) (s : Node) : (sealState cause source s).f = s.f := by
  unfold sealState; (repeat' split) <;> simp
@[simp] theorem detourNext_f (s : Node) : (detourNext s).f = s.f := by
  simp only [detourNext]; (repeat' split) <;> simp
@[simp] theorem pushAlert_f (q : QueuedAlert) (s : Node) : (pushAlert q s).f = s.f := by
  simp only [pushAlert]; (repeat' split) <;> simp_all
@[simp] theorem queueAlert_f (die source cls : Nat) (detected : T48) (status : Word) (s : Node) :
    (queueAlert die source cls detected status s).f = s.f := by
  unfold queueAlert; (repeat' split) <;> simp
@[simp] theorem writeEntry_f (e : HistEntry) (s : Node) : (writeEntry .n e s).f = s.f := by
  unfold writeEntry; simp
@[simp] theorem modEntry_f (event : Nat) (g : HistEntry → HistEntry) (s : Node) : (modEntry .n event g s).f = s.f := by
  unfold modEntry; simp
@[simp] theorem assertPin_f (s : Node) : (assertPin .n s).f = s.f := by
  unfold assertPin; (repeat' split) <;> simp
@[simp] theorem sealDie_f (src : Nat) (s : Node) : (sealDie .n src s).f = s.f := by
  unfold sealDie
  have h : (modDie .n (fun x => { x with ret := { x.ret with seals := setSrc x.ret.seals src true } }) s).f = s.f := rfl
  simp [h]
@[simp] theorem trapReaction_f (src : Nat) (s : Node) : (trapReaction .n src s).f = s.f := by
  unfold trapReaction
  split
  · rfl
  · dsimp only
    first
      | (simp; done)
      | (split
         · simp [onlyIf_keeps_f (g := setDevF .safeHold) (fun s => by simp)]
         · simp [onlyIf_keeps_f (g := setDevF .safeHold) (fun s => by simp)])
@[simp] theorem reactions_f (src cls mask : Nat) (e : HistEntry) (s : Node) : (reactions .n src cls mask e s).f = s.f := by
  unfold reactions
  simp only [show (Die.n == Die.f) = false from by decide, Bool.false_and, onlyIf_false]
  rw [onlyIf_keeps_f (fun s => by simp), onlyIf_keeps_f (fun s => by simp), onlyIf_keeps_f (fun s => by simp)]
@[simp] theorem requestFlush_f (s : Node) : (requestFlush .n s).f = s.f := by
  unfold requestFlush; simp
@[simp] theorem startEvent_f (src cls mask detail fSource : Nat) (seals fresh : Bool) (s : Node) :
    (startEvent .n src cls mask detail fSource seals fresh s).f = s.f := by
  unfold startEvent; simp
@[simp] theorem detectCore_f (src detail fSource : Nat) (cls : Option Nat) (s : Node) :
    (detectCore .n src detail fSource cls s).f = s.f := by
  unfold detectCore
  split
  · dsimp only
    rw [onlyIf_keeps_f (fun s => by simp)]
    split <;> simp
  · rfl
@[simp] theorem condFell_f (src : Nat) (s : Node) : (condFell .n src s).f = s.f := by
  simp only [condFell]; (repeat' split) <;> simp_all
@[simp] theorem tear_f (i entries : Nat) (s : Node) : (tear .n i entries s).f = s.f := by
  unfold tear; simp
@[simp] theorem resetIsland_f (island cause : Nat) (s : Node) : (resetIsland .n island cause s).f = s.f := by
  simp only [resetIsland]; (repeat' split) <;> simp_all
@[simp] theorem detect_f (src detail : Nat) (s : Node) : (detect .n src detail s).f = s.f := by
  simp only [detect]; (repeat' split) <;> simp_all
@[simp] theorem setCond_f (src : Nat) (on : Bool) (detail : Nat) (s : Node) : (setCond .n src on detail s).f = s.f := by
  simp only [setCond]; (repeat' split) <;> simp_all
@[simp] theorem closeWindow_f (src : Nat) (s : Node) : (closeWindow .n src s).f = s.f := by
  unfold closeWindow; simp
@[simp] theorem failStep_f (r : RunRef) (op : Nat) (s : Node) : (failStep .n r op s).f = s.f := by
  unfold failStep; simp
@[simp] theorem beginStep_f (r : RunRef) (s : Node) : (beginStep .n r s).f = s.f := by
  unfold beginStep; simp
@[simp] theorem endOutstanding_f (r : RunRef) (s : Node) : (endOutstanding .n r s).f = s.f := by
  simp only [endOutstanding]; (repeat' split) <;> simp_all
@[simp] theorem storeData_f (dest : Nat) (bs : List Byte) (deferred : Bool) (s : Node) :
    (storeData .n dest bs deferred s).1.f = s.f := by
  simp only [storeData]; (repeat' split) <;> simp_all
@[simp] theorem stepData_f (r : RunRef) (op dest : Nat) (data : Option (List Byte)) (deferred : Bool) (s : Node) :
    (stepData .n r op dest data deferred s).f = s.f := by
  simp only [stepData]; (repeat' split) <;> simp_all
@[simp] theorem sendHeld_f (s : Node) : (sendHeld .n s).f = s.f := by
  unfold sendHeld; simp
@[simp] theorem allocSession_f (i : Nat) (path : Path) (client : Nat) (s : Node) :
    (allocSession i path client s).f = s.f := by
  unfold allocSession; simp
@[simp] theorem dropSession_f (i : Nat) (s : Node) : (dropSession i s).f = s.f := by
  unfold dropSession; simp
@[simp] theorem modSession_f (i : Nat) (g : Session → Session) (s : Node) : (modSession i g s).f = s.f := by
  unfold modSession; (repeat' split) <;> simp
@[simp] theorem setSelect_f (session key v : Nat) (s : Node) : (setSelect session key v s).f = s.f := by
  unfold setSelect; simp
@[simp] theorem pushTx_f (frames : List TxFrame) (s : Node) : (pushTx frames s).f = s.f := by
  unfold pushTx; simp
@[simp] theorem chainFromN_f (dst type : Nat) (urgent : Bool) (typeField : Nat) (bs : List Byte) (s : Node) :
    (chainFromN dst type urgent typeField bs s).f = s.f := by
  unfold chainFromN; simp
@[simp] theorem txDiscard_f (cls cause n : Nat) (s : Node) : (txDiscard cls cause n s).f = s.f := by
  unfold txDiscard; simp
@[simp] theorem refuse_f (path : Path) (client tag : Nat) (op : DapOp) (key status : Nat) (s : Node) :
    (refuse path client tag op key status s).f = s.f := by
  unfold refuse; (repeat' split) <;> simp
@[simp] theorem afterFlight_f (t : Txn) (s : Node) : (afterFlight t s).f = s.f := by
  simp only [afterFlight]; (repeat' split) <;> simp_all
@[simp] theorem leaveFlight_f (session tag : Nat) (s : Node) : (leaveFlight session tag s).f = s.f := by
  unfold leaveFlight; (repeat' split) <;> simp
@[simp] theorem modTxn_f (session tag : Nat) (g : Txn → Txn) (s : Node) : (modTxn session tag g s).f = s.f := by
  unfold modTxn; simp
@[simp] theorem completePort_f (tag header : Nat) (body : List Byte) (s : Node) :
    (completePort tag header body s).f = s.f := by
  unfold completePort; simp
@[simp] theorem edgeOverflow_f (c : Nat) (s : Node) : (edgeOverflow .n c s).f = s.f := by
  unfold edgeOverflow; simp
@[simp] theorem backlogOverflow_f (c : Nat) (s : Node) : (backlogOverflow .n c s).f = s.f := by
  unfold backlogOverflow; simp
@[simp] theorem captureEdge_f (c at_ : Nat) (s : Node) : (captureEdge .n c at_ s).f = s.f := by
  simp only [captureEdge]; (repeat' split) <;> simp_all
@[simp] theorem putSlot_f (i : Nat) (x : Slot) (s : Node) : (putSlot .n i x s).f = s.f := by
  unfold putSlot; simp
@[simp] theorem launchSlot_f (i : Nat) (late : Bool) (s : Node) : (launchSlot .n i late s).f = s.f := by
  simp only [launchSlot]; (repeat' split) <;> simp_all
@[simp] theorem armSlot_f (i : Nat) (x : Slot) (s : Node) : (armSlot .n i x s).f = s.f := by
  unfold armSlot; (repeat' split) <;> simp
@[simp] theorem sendOrder_f (floor list : Nat) (launch : T48) (fromStep : Option RunRef) (s : Node) :
    (sendOrder .n floor list launch fromStep s).f = s.f := by
  simp only [sendOrder]; (repeat' split) <;> simp_all
@[simp] theorem answerOrder_f (id : Nat) (late : Bool) (outcome : Nat) (s : Node) :
    (answerOrder .n id late outcome s).f = s.f := by
  unfold answerOrder; simp
@[simp] theorem takeOrder_f (id floor list : Nat) (launch : T48) (s : Node) :
    (takeOrder .n id floor list launch s).f = s.f := by
  simp only [takeOrder]; (repeat' split) <;> simp_all
@[simp] theorem takeTrigger_f (origin list : Nat) (launch : T48) (s : Node) :
    (takeTrigger .n origin list launch s).f = s.f := by
  simp only [takeTrigger]; (repeat' split) <;> simp_all
@[simp] theorem advance_f (r : Runner) (g : Run → Run) (s : Node) : (advance .n r g s).f = s.f := by
  unfold advance; simp
@[simp] theorem actLate_f (list late : Nat) (s : Node) : (actLate .n list late s).1.f = s.f := by
  unfold actLate; (repeat' split) <;> simp
@[simp] theorem issueStep_f (r : Runner) (op lateness : Nat) (s : Node) : (issueStep .n r op lateness s).f = s.f := by
  unfold issueStep; simp
@[simp] theorem publishCan_f (die o : Nat) (x : List Byte) (s : Node) : (publishCan die o x s).f = s.f := by
  simp only [publishCan]; (repeat' split) <;> simp_all
@[simp] theorem publish_f (o : Nat) (s : Node) : (publish .n o s).f = s.f := by
  simp only [publish]; split <;> simp
@[simp] theorem endTunnels_f (s : Node) : (endTunnels s).f = s.f := by
  unfold endTunnels; simp
@[simp] theorem enterOutage_f (s : Node) : (enterOutage .n s).f = s.f := by
  (simp only [enterOutage]; (repeat' split) <;> first | rfl | (simp; done) | (simp_all; done))
@[simp] theorem sendConfig_f (phase : Nat) (s : Node) : (sendConfig .n phase s).f = s.f := by
  unfold sendConfig; simp
@[simp] theorem startAgreement_f (key map : Nat) (upper adoption : Bool) (txn : Option (Nat × Nat)) (s : Node) :
    (startAgreement key map upper adoption txn s).f = s.f := by
  unfold startAgreement; simp
@[simp] theorem endAgreement_f (outcome : Nat) (s : Node) : (endAgreement outcome s).f = s.f := by
  unfold endAgreement; simp
@[simp] theorem countWord_f (c : WordCheck) (s : Node) : (countWord .n c s).f = s.f := by
  unfold countWord; (repeat' split) <;> simp
@[simp] theorem perturbed_f (cls : Nat) (s : Node) : (perturbed .n cls s).1.f = s.f := by
  unfold perturbed; simp
@[simp] theorem ctrlWord_f {g : Node → Node} (h : ∀ s, (g s).f = s.f) (s : Node) : (ctrlWord .n g s).f = s.f := by
  unfold ctrlWord
  split
  · dsimp only
    split <;> simp [h]
  · exact h s
@[simp] theorem repeatOrders_f (s : Node) : (repeatOrders .n s).f = s.f := by
  unfold repeatOrders; simp
@[simp] theorem promoteOrder_f (s : Node) : (promoteOrder .n s).f = s.f := by
  unfold promoteOrder; (repeat' split) <;> simp
@[simp] theorem requestRate_f (half : Bool) (s : Node) : (requestRate .n half s).f = s.f := by
  unfold requestRate; simp
@[simp] theorem limitReached_f (s : Node) : (limitReached .n s).f = s.f := by
  simp only [limitReached]; (repeat' split) <;> simp_all
@[simp] theorem answerRate_f (half : Bool) (n : Nat) (s : Node) : (answerRate .n half n s).f = s.f := by
  unfold answerRate; (repeat' split) <;> simp
@[simp] theorem switchRate_f (half : Bool) (s : Node) : (switchRate .n half s).f = s.f := by
  unfold switchRate; simp
@[simp] theorem eventSent_f (c : Nat) (s : Node) : (eventSent .n c s).f = s.f := by
  unfold eventSent; simp
@[simp] theorem takeEvent_f (e : EdgeEvent) (s : Node) : (takeEvent .n e s).f = s.f := by
  unfold takeEvent; (repeat' split) <;> simp
@[simp] theorem refreshChannel_f (mask levels : Mask) (c : Nat) (s : Node) :
    (refreshChannel .n mask levels c s).f = s.f := by
  simp only [refreshChannel]; (repeat' split) <;> simp_all
@[simp] theorem repeatForce_f (o : Nat) (s : Node) : (repeatForce .n o s).f = s.f := by
  simp only [repeatForce]; (repeat' split) <;> simp_all
@[simp] theorem agreedValues_f (s : Node) : (agreedValues s).f = s.f := by
  simp only [agreedValues]; (repeat' split) <;> simp_all
@[simp] theorem rewriteMap_f (map : Nat) (upper : Bool) (s : Node) : (rewriteMap map upper s).f = s.f := by
  unfold rewriteMap; simp
@[simp] theorem leaveBoot_f (s : Node) : (leaveBoot s).f = s.f := by
  simp only [leaveBoot]; (repeat' split) <;> simp_all
@[simp] theorem endAdoption_f (adopted : Bool) (s : Node) : (endAdoption adopted s).f = s.f := by
  unfold endAdoption; (repeat' split) <;> simp
@[simp] theorem sampleSource_f (src : Nat) (s : Node) : (sampleSource .n src s).f = s.f := by
  simp only [sampleSource]; (repeat' split) <;> simp_all
@[simp] theorem releasePin_f (s : Node) : (releasePin .n s).f = s.f := by
  simp only [releasePin]; (repeat' split) <;> simp
@[simp] theorem clearStatus_f (m : Word) (s : Node) : (clearStatus .n m s).f = s.f := by
  unfold clearStatus; simp
@[simp] theorem ackSource_f (src : Nat) (s : Node) : (ackSource .n src s).f = s.f := by
  simp only [ackSource]; (repeat' split) <;> simp_all
@[simp] theorem ackSources_f (m : Word) (s : Node) : (ackSources .n m s).f = s.f := by
  unfold ackSources; simp
@[simp] theorem clearHistory_f (s : Node) : (clearHistory .n s).f = s.f := by
  unfold clearHistory; simp
@[simp] theorem statusSeen_f (s : Node) : (statusSeen .n s).f = s.f := by
  unfold statusSeen; simp
@[simp] theorem canReceived_f (cls : Nat) (s : Node) : (canReceived cls s).f = s.f := by
  unfold canReceived; simp
@[simp] theorem canSent_f (cls : Nat) (s : Node) : (canSent cls s).f = s.f := by
  unfold canSent; simp
@[simp] theorem busOffDiscard_f (s : Node) : (busOffDiscard s).f = s.f := by
  unfold busOffDiscard; simp
@[simp] theorem queueBulk_f (s : Node) : (queueBulk s).f = s.f := by
  unfold queueBulk; (repeat' split) <;> simp
@[simp] theorem recoverCan_f (s : Node) : (recoverCan s).f = s.f := by
  unfold recoverCan; (repeat' split) <;> simp
@[simp] theorem alertAnswer_f (dst seq origin outcome : Nat) (s : Node) :
    (alertAnswer dst seq origin outcome s).f = s.f := by
  unfold alertAnswer; simp
@[simp] theorem frameGone_f (f : TxFrame) (s : Node) : (frameGone f s).f = s.f := by
  unfold frameGone; (repeat' split) <;> simp
@[simp] theorem tunnelIn_f (ws : List Nat) (s : Node) : (tunnelIn ws s).f = s.f := by
  unfold tunnelIn; (repeat' split) <;> simp
@[simp] theorem selectEnds_f (s : Node) : (selectEnds s).f = s.f := by
  unfold selectEnds; simp
@[simp] theorem selectFrame_f (mode3 : Bool) (kind : Nat) (s : Node) : (selectFrame mode3 kind s).f = s.f := by
  unfold selectFrame; (repeat' split) <;> simp
@[simp] theorem answerPort_f (header tag : Nat) (body : List Byte) (s : Node) : (answerPort header tag body s).f = s.f := by
  unfold answerPort; simp
@[simp] theorem answerDeferred_f (header tag : Nat) (body : List Byte) (s : Node) :
    (answerDeferred header tag body s).f = s.f := by
  unfold answerDeferred; simp
@[simp] theorem endTunnel_f (tag : Nat) (s : Node) : (endTunnel tag s).f = s.f := by
  unfold endTunnel; simp
@[simp] theorem unhold_f (tag : Nat) (s : Node) : (unhold tag s).f = s.f := by
  unfold unhold; simp
@[simp] theorem finishTunnel_f (tag status : Nat) (bytes : List Byte) (s : Node) :
    (finishTunnel tag status bytes s).f = s.f := by
  unfold finishTunnel; simp
@[simp] theorem admitTunnel_f (tag : Nat) (b : TunnelBody) (s : Node) : (admitTunnel tag b s).f = s.f := by
  simp only [admitTunnel]; (repeat' split) <;> simp_all
@[simp] theorem enterPortMode_f (mode : Nat) (s : Node) : (enterPortMode mode s).f = s.f := by
  unfold enterPortMode; (repeat' split) <;> simp
@[simp] theorem syncNumber_f (s : Node) : (syncNumber s).f = s.f := by
  unfold syncNumber; simp
@[simp] theorem setTimeSource_f (src : Nat) (s : Node) : (setTimeSource src s).f = s.f := by
  unfold setTimeSource; (repeat' split) <;> simp
@[simp] theorem slotPast_f (i : Nat) (new : T48) (s : Node) : (slotPast .n i new s).f = s.f := by
  simp only [slotPast]; (repeat' split) <;> simp_all
@[simp] theorem dropSlot_f (i : Nat) (s : Node) : (dropSlot .n i s).f = s.f := by
  unfold dropSlot; simp
@[simp] theorem setMaster_f (t : T48) (era : Option Word) (s : Node) : (setMaster t era s).f = s.f := by
  unfold setMaster; simp
@[simp] theorem chooseSource_f (src : Nat) (s : Node) : (chooseSource src s).1.f = s.f := by
  simp only [chooseSource]; (repeat' split) <;> simp_all
@[simp] theorem manualEraSet_f (v : Word) (s : Node) : (manualEraSet v s).f = s.f := by
  unfold manualEraSet; simp
@[simp] theorem setTimed_f (levels c : Nat) (s : Node) : (setTimed .n levels c s).f = s.f := by
  simp only [setTimed]; (repeat' split) <;> simp_all
@[simp] theorem tornPort_f (i : Nat) (s : Node) : (tornPort .n i s).f = s.f := by
  unfold tornPort; simp
@[simp] theorem releaseIsland_f (island : Nat) (byClock : Bool) (s : Node) :
    (releaseIsland .n island byClock s).f = s.f := by
  unfold releaseIsland; (repeat' split) <;> simp
@[simp] theorem beadError_f (p k : Nat) (s : Node) : (beadError p k s).1.f = s.f := by
  unfold beadError; (repeat' split) <;> simp
@[simp] theorem tryFlush_f (s : Node) : (tryFlush .n s).f = s.f := by
  simp only [tryFlush]; (repeat' split) <;> simp_all
@[simp] theorem flush_f (s : Node) : (flush .n s).f = s.f := by
  unfold flush; simp
@[simp] theorem storeEpoch_f (s : Node) : (storeEpoch s).f = s.f := by
  unfold storeEpoch; simp
@[simp] theorem logBarrier_f (kind detail value : Nat) (s : Node) : (logBarrier kind detail value s).f = s.f := by
  unfold logBarrier; simp
@[simp] theorem flushForStandby_f (s : Node) : (flushForStandby s).f = s.f := by
  simp only [flushForStandby]; (repeat' split) <;> simp_all
@[simp] theorem lockFil_f (s : Node) : (lockFil s).f = s.f := by
  unfold lockFil; simp
@[simp] theorem sendOldest_f (s : Node) : (sendOldest .n s).f = s.f := by
  unfold sendOldest; (repeat' split) <;> simp
@[simp] theorem returnHeld_f (s : Node) : (returnHeld .n s).f = s.f := by
  unfold returnHeld; (repeat' split) <;> simp
@[simp] theorem dropBulk_f (s : Node) : (dropBulk s).f = s.f := by
  unfold dropBulk; simp
@[simp] theorem startBulk_f (src mask view offset : Nat) (image : List Byte) (s : Node) :
    (startBulk src mask view offset image s).f = s.f := by
  unfold startBulk; simp
@[simp] theorem abortBulk_f (b : Bulk) (s : Node) : (abortBulk b s).f = s.f := by
  unfold abortBulk; (repeat' split) <;> simp
@[simp] theorem alertSent_f (s : Node) : (alertSent s).f = s.f := by
  unfold alertSent; (repeat' split) <;> simp
@[simp] theorem tempCond_f (t : Int) (limit blk item : Nat) (s : Node) : (tempCond .n t limit blk item s).f = s.f := by
  unfold tempCond; (repeat' split) <;> simp
@[simp] theorem tempExtremes_f (t : Int) (s : Node) : (tempExtremes .n t s).f = s.f := by
  unfold tempExtremes; simp
@[simp] theorem endsWith_f (status : Nat) (s : Node) : (endsWith status s).1.f = s.f := by
  unfold endsWith; simp
@[simp] theorem sliceRead_f (status : Nat) (bs : List Byte) (offset length : Nat) (s : Node) :
    (sliceRead status bs offset length s).1.f = s.f := by
  unfold sliceRead; (repeat' split) <;> simp
@[simp] theorem readResult_f (o session offset length : Nat) (s : Node) :
    (readResult .n o session offset length s).1.f = s.f := by
  simp only [readResult]; (repeat' split) <;> simp_all
@[simp] theorem readStream_f (offset length : Nat) (s : Node) : (readStream .n offset length s).1.f = s.f := by
  unfold readStream; (repeat' split) <;> simp
@[simp] theorem capSwing_f (s : Node) : (capSwing .n s).f = s.f := by
  unfold capSwing; simp
@[simp] theorem markUnsaved_f (key : Nat) (s : Node) : (markUnsaved key s).f = s.f := by
  unfold markUnsaved; simp
@[simp] theorem writeList_f (key : Nat) (bs : List Byte) (s : Node) : (writeList key bs s).1.f = s.f := by
  simp only [writeList]; (repeat' split) <;> simp_all
@[simp] theorem writeArm_f (bs : List Byte) (s : Node) : (writeArm .n bs s).1.f = s.f := by
  unfold writeArm; (repeat' split) <;> simp
@[simp] theorem detectUnstated_f (src : Nat) (s : Node) : (detectUnstated .n src s).f = s.f := by
  unfold detectUnstated; simp
@[simp] theorem resetSequencer_f (s : Node) : (resetSequencer .n s).f = s.f := by
  unfold resetSequencer; simp
@[simp] theorem resetCanPort_f (s : Node) : (resetCanPort s).f = s.f := by
  unfold resetCanPort; simp
@[simp] theorem flushLost_f (s : Node) : (flushLost s).f = s.f := by
  unfold flushLost; (repeat' split) <;> simp
@[simp] theorem requestState_f (session arg : Nat) (s : Node) : (requestState session arg s).1.f = s.f := by
  simp only [requestState]; (repeat' split) <;> simp_all
@[simp] theorem startSave_f (arg : Nat) (s : Node) : (startSave arg s).1.f = s.f := by
  unfold startSave; (repeat' split) <;> simp
@[simp] theorem commitPart_f (vals : Tab Nat) (blobs : Tab (List Byte)) (part : Nat) (s : Node) :
    (commitPart vals blobs part s).f = s.f := by
  unfold commitPart; (repeat' split) <;> simp
@[simp] theorem clearUnsaved_f (mask : Nat) (s : Node) : (clearUnsaved mask s).f = s.f := by
  unfold clearUnsaved; simp
@[simp] theorem startRestore_f (arg : Nat) (s : Node) : (startRestore arg s).1.f = s.f := by
  unfold startRestore; (repeat' split) <;> simp
@[simp] theorem restored_f (arg : Nat) (s : Node) : (restored arg s).f = s.f := by
  unfold restored; (repeat' split) <;> simp
@[simp] theorem leaveValue_f (s : Node) : (leaveValue s).f = s.f := by
  unfold leaveValue; simp
@[simp] theorem agreeRestored_f (s : Node) : (agreeRestored s).f = s.f := by
  simp only [agreeRestored]; (repeat' split) <;> simp_all
@[simp] theorem factoryPart_f (part : Nat) (s : Node) : (factoryPart part s).f = s.f := by
  unfold factoryPart; (repeat' split) <;> simp
@[simp] theorem cancelSlot_f (arg : Nat) (s : Node) : (cancelSlot .n arg s).1.f = s.f := by
  simp only [cancelSlot]; (repeat' split) <;> simp_all
@[simp] theorem directionKey_f (session tag key v : Nat) (s : Node) : (directionKey session tag key v s).1.f = s.f := by
  unfold directionKey; (repeat' split) <;> simp
@[simp] theorem cancelRun_f (t : Txn) (status : Nat) (s : Node) : (cancelRun t status s).f = s.f := by
  unfold cancelRun; (repeat' split) <;> simp
@[simp] theorem forcedBusy_f (session key : Nat) (s : Node) : (forcedBusy session key s).1.f = s.f := by
  unfold forcedBusy; (repeat' split) <;> simp
@[simp] theorem tunnelOut_f (f : ChainFrame) (s : Node) : (tunnelOut f s).f = s.f := by
  unfold tunnelOut; (repeat' split) <;> simp
@[simp] theorem chainFromField_f (f : ChainFrame) (s : Node) : (chainFromField f s).f = s.f := by
  unfold chainFromField; (repeat' split) <;> simp
@[simp] theorem oweCredit_f (s : Node) : (oweCredit .n s).f = s.f := by
  unfold oweCredit; (repeat' split) <;> simp
@[simp] theorem discardData_f (seq : Nat) (s : Node) : (discardData .n seq s).f = s.f := by
  unfold discardData; simp
@[simp] theorem clearRetention_f (s : Node) : (clearRetention .n s).f = s.f := by
  unfold clearRetention; simp
@[simp] theorem applyRow_f (row : List Word) (map : Nat) (s : Node) : (applyRow .n row map s).f = s.f := by
  unfold applyRow; simp
@[simp] theorem countStart_f (restored recovered : Bool) (readyTime : Nat) (s : Node) :
    (countStart .n restored recovered readyTime s).f = s.f := by
  unfold countStart; simp
@[simp] theorem releaseStartup_f (s : Node) : (releaseStartup .n s).f = s.f := by
  unfold releaseStartup; simp
@[simp] theorem reseal_f (s : Node) : (reseal .n s).f = s.f := by
  simp only [reseal]; (repeat' split) <;> simp_all
@[simp] theorem startSources_f (restored : Bool) (s : Node) : (startSources .n restored s).f = s.f := by
  unfold startSources; (repeat' split) <;> simp
@[simp] theorem startTime_f (s : Node) : (startTime s).f = s.f := by
  simp only [startTime]; (repeat' split) <;> simp_all
@[simp] theorem startCan_f (s : Node) : (startCan s).f = s.f := by
  unfold startCan; simp
@[simp] theorem trainDie_f (s : Node) : (trainDie .n s).f = s.f := by
  unfold trainDie; simp
@[simp] theorem offerForces_f (s : Node) : (offerForces .n s).f = s.f := by
  unfold offerForces; simp

end Sys2Proof.Machine
end

