-- ==== Sys2Proof/Laws/Stored.lean ====
section
/-! SUPPORT. What leaves every setting and both ledgers alone (Node.stored): one lemma for each operation and each command that
does. A command without a lemma here is a restart, a request, or one that ends in one of these. -/

namespace Sys2Proof.Machine

open Sys2Proof

@[simp] theorem onlyIf_stored {g : Node → Node} (h : ∀ s, (g s).stored = s.stored) (c : Bool) (s : Node) : (onlyIf c g s).stored = s.stored :=
  onlyIf_keeps Node.stored h c s
@[simp] theorem foldl_stored {α : Type} {g : Node → α → Node} (h : ∀ s a, (g s a).stored = s.stored) (l : List α) (s : Node) :
    (l.foldl g s).stored = s.stored := foldl_keeps Node.stored h l s
@[simp] theorem forEach_stored {α : Type} {g : α → Node → Node} (h : ∀ a s, (g a s).stored = s.stored) (l : List α) (s : Node) :
    (forEach l g s).stored = s.stored := forEach_keeps Node.stored h l s
@[simp] theorem modDie_stored (d : Die) (g : DieState → DieState) (s : Node) : (modDie d g s).stored = s.stored := by cases d <;> rfl
@[simp] theorem modN_stored (g : NDie → NDie) (s : Node) : (modN g s).stored = s.stored := rfl
@[simp] theorem modF_stored (g : FDie → FDie) (s : Node) : (modF g s).stored = s.stored := rfl
@[simp] theorem modFaults_stored (d : Die) (g : Collector → Collector) (s : Node) : (modFaults d g s).stored = s.stored := by cases d <;> rfl
@[simp] theorem modClasp_stored (d : Die) (g : ClaspHalf → ClaspHalf) (s : Node) : (modClasp d g s).stored = s.stored := by cases d <;> rfl
@[simp] theorem modCh_stored (d : Die) (g : Channels → Channels) (s : Node) : (modCh d g s).stored = s.stored := by cases d <;> rfl
@[simp] theorem modSeq_stored (d : Die) (g : Sequencer → Sequencer) (s : Node) : (modSeq d g s).stored = s.stored := by cases d <;> rfl
@[simp] theorem modLoupe_stored (d : Die) (g : Loupe → Loupe) (s : Node) : (modLoupe d g s).stored = s.stored := by cases d <;> rfl
@[simp] theorem modIsl_stored (d : Die) (g : Islands → Islands) (s : Node) : (modIsl d g s).stored = s.stored := by cases d <;> rfl
@[simp] theorem modDict_stored (g : Dict → Dict) (s : Node) : (modDict g s).stored = s.stored := rfl
@[simp] theorem modCan_stored (g : Can → Can) (s : Node) : (modCan g s).stored = s.stored := rfl
@[simp] theorem modPort_stored (g : NPort → NPort) (s : Node) : (modPort g s).stored = s.stored := rfl
@[simp] theorem modHm_stored (g : Hallmark → Hallmark) (s : Node) : (modHm g s).stored = s.stored := rfl
@[simp] theorem modBar_stored (g : Barrier → Barrier) (s : Node) : (modBar g s).stored = s.stored := rfl
@[simp] theorem modPow_stored (g : Power → Power) (s : Node) : (modPow g s).stored = s.stored := rfl
@[simp] theorem modFol_stored (g : Follower → Follower) (s : Node) : (modFol g s).stored = s.stored := rfl
@[simp] theorem modChain_stored (g : Chain → Chain) (s : Node) : (modChain g s).stored = s.stored := rfl
@[simp] theorem modPark_stored (g : Parked → Parked) (s : Node) : (modPark g s).stored = s.stored := rfl
@[simp] theorem modFPort_stored (g : FPort → FPort) (s : Node) : (modFPort g s).stored = s.stored := rfl
theorem withFil_stored (s : Node) (x : Filigree) : ({ s with fil := x } : Node).stored = s.stored := rfl

@[simp] theorem modChan_stored (d : Die) (c : Nat) (g : Chan → Chan) (s : Node) :
    (modChan d c g s).stored = s.stored := by
  unfold modChan; simp
@[simp] theorem tookFree_stored (s : Node) : (tookFree s).stored = s.stored := by
  rfl
@[simp] theorem modFil_stored (i : Nat) (g : FilSlot → FilSlot) (s : Node) : (modFil i g s).stored = s.stored := by
  rfl
@[simp] theorem filEffect_stored (i : Nat) (s : Node) : (filEffect i s).stored = s.stored := by
  unfold filEffect; simp
@[simp] theorem filEvery_stored (i : Nat) (s : Node) : (filEvery i s).1.stored = s.stored := by
  unfold filEvery; split <;> simp
@[simp] theorem filWord_stored (tx : Die) (cls : Nat) (s : Node) : (filWord tx cls s).1.stored = s.stored := by
  unfold filWord; split <;> simp
@[simp] theorem countBy_stored (d : Die) (blk idx cell n : Nat) (s : Node) :
    (countBy d blk idx cell n s).stored = s.stored := by
  unfold countBy; split <;> simp
@[simp] theorem bump_stored (d : Die) (blk idx cell : Nat) (s : Node) :
    (bump d blk idx cell s).stored = s.stored := by
  unfold bump; simp
@[simp] theorem peak_stored (d : Die) (blk idx cell v : Nat) (s : Node) :
    (peak d blk idx cell v s).stored = s.stored := by
  unfold peak; simp
@[simp] theorem sendCtrl_stored (d : Die) (w : Ctrl) (s : Node) : (sendCtrl d w s).stored = s.stored := by
  unfold sendCtrl; simp
@[simp] theorem gotCtrl_stored (d : Die) (w : Ctrl) (s : Node) : (gotCtrl d w s).stored = s.stored := by
  unfold gotCtrl; simp
@[simp] theorem sendFrame_stored (d : Die) (s : Node) : (sendFrame d s).stored = s.stored := by
  simp only [sendFrame]; (repeat' split) <;> simp_all
@[simp] theorem pumpData_stored (d : Die) (s : Node) : (pumpData d s).stored = s.stored := by
  unfold pumpData; split <;> simp
@[simp] theorem sendData_stored (d : Die) (stream : Nat) (m : Msg) (s : Node) :
    (sendData d stream m s).stored = s.stored := by
  unfold sendData; (repeat' split) <;> simp
@[simp] theorem keepLevel_stored (d : Die) (before : Node) (c : Nat) (s : Node) :
    (keepLevel d before c s).stored = s.stored := by
  unfold keepLevel; split <;> simp
@[simp] theorem settlePins_stored (d : Die) {g : Node → Node} (h : ∀ s, (g s).stored = s.stored) (s : Node) :
    (settlePins d g s).stored = s.stored := by
  simp [settlePins, h]
@[simp] theorem setForce_stored (d : Die) (o : Nat) (m : Mask) (s : Node) : (setForce d o m s).stored = s.stored := by
  unfold setForce; split <;> simp
@[simp] theorem takeForce_stored (d : Die) (o : Nat) (m : Mask) (s : Node) :
    (takeForce d o m s).stored = s.stored := by
  unfold takeForce; simp
@[simp] theorem enterHold_stored (d : Die) (s : Node) : (enterHold d s).stored = s.stored := by
  unfold enterHold; split <;> simp
@[simp] theorem leaveHold_stored (d : Die) (s : Node) : (leaveHold d s).stored = s.stored := by
  unfold leaveHold; split <;> simp
@[simp] theorem sealChannels_stored (d : Die) (s : Node) : (sealChannels d s).stored = s.stored := by
  unfold sealChannels; simp
@[simp] theorem modRun_stored (d : Die) (r : Runner) (g : Run → Run) (s : Node) :
    (modRun d r g s).stored = s.stored := by
  unfold modRun; (repeat' split) <;> simp
@[simp] theorem modRef_stored (d : Die) (r : RunRef) (g : Run → Run) (s : Node) :
    (modRef d r g s).stored = s.stored := by
  unfold modRef; split <;> simp
@[simp] theorem modObject_stored (d : Die) (o : Nat) (g : ResultObject → ResultObject) (s : Node) :
    (modObject d o g s).stored = s.stored := by
  unfold modObject; simp
@[simp] theorem closeObject_stored (d : Die) (o : Nat) (run : Run) (incomplete : Bool) (s : Node) :
    (closeObject d o run incomplete s).stored = s.stored := by
  unfold closeObject; simp
@[simp] theorem disown_stored (d : Die) (o : Nat) (s : Node) : (disown d o s).stored = s.stored := by
  unfold disown; simp
@[simp] theorem addRecord_stored (d : Die) (rec : LaunchRecord) (s : Node) :
    (addRecord d rec s).stored = s.stored := by
  unfold addRecord; split <;> simp
@[simp] theorem record_stored (d : Die) (slot list flags : Nat) (time : T48) (lateness : Nat) (s : Node) :
    (record d slot list flags time lateness s).stored = s.stored := by
  unfold record; simp
@[simp] theorem freeRunner_stored (d : Die) (r : Runner) (s : Node) : (freeRunner d r s).stored = s.stored := by
  simp only [freeRunner]; (repeat' split) <;> simp_all
@[simp] theorem endRun_stored (d : Die) (r : Runner) (incomplete : Bool) (s : Node) :
    (endRun d r incomplete s).stored = s.stored := by
  unfold endRun
  split
  · rfl
  · simp only [freeRunner_stored, record_stored]
    split
    · exact forEach_stored (fun o s => by split <;> simp) _ s
    · rfl
@[simp] theorem stopLists_stored (d : Die) (s : Node) : (stopLists d s).stored = s.stored := by
  unfold stopLists; simp
@[simp] theorem fetchAhead_stored (d : Die) (r : Runner) (s : Node) : (fetchAhead d r s).stored = s.stored := by
  simp only [fetchAhead]; (repeat' split) <;> simp_all
@[simp] theorem startTrap_stored (d : Die) (s : Node) : (startTrap d s).stored = s.stored := by
  unfold startTrap; (repeat' split) <;> simp
@[simp] theorem leaveState_stored (d : Die) (prev st : DevState) (s : Node) :
    (leaveState d prev st s).stored = s.stored := by
  unfold leaveState; split <;> simp
@[simp] theorem holdForce_stored (s : Node) : (holdForce s).stored = s.stored := by
  unfold holdForce; simp
@[simp] theorem enterStateN_stored (st : DevState) (cause : Nat) (s : Node) :
    (enterStateN st cause s).stored = s.stored := by
  unfold enterStateN; split <;> simp
@[simp] theorem setDev_stored (st : DevState) (cause source session : Nat) (s : Node) :
    (setDev st cause source session s).stored = s.stored := by
  unfold setDev; simp
@[simp] theorem trapState_stored (cause source : Nat) (s : Node) : (trapState cause source s).stored = s.stored := by
  unfold trapState; split <;> simp
@[simp] theorem sealState_stored (cause source : Nat) (s : Node) : (sealState cause source s).stored = s.stored := by
  unfold sealState; split <;> simp
@[simp] theorem setDevF_stored (st : DevState) (s : Node) : (setDevF st s).stored = s.stored := by
  unfold setDevF; split <;> simp
@[simp] theorem detourNext_stored (s : Node) : (detourNext s).stored = s.stored := by
  simp only [detourNext]; (repeat' split) <;> simp
@[simp] theorem pushAlert_stored (q : QueuedAlert) (s : Node) : (pushAlert q s).stored = s.stored := by
  simp only [pushAlert]; (repeat' split) <;> simp_all
@[simp] theorem queueAlert_stored (die source cls : Nat) (detected : T48) (status : Word) (s : Node) :
    (queueAlert die source cls detected status s).stored = s.stored := by
  unfold queueAlert; split <;> simp
@[simp] theorem writeEntry_stored (d : Die) (e : HistEntry) (s : Node) : (writeEntry d e s).stored = s.stored := by
  unfold writeEntry; simp
@[simp] theorem modEntry_stored (d : Die) (event : Nat) (g : HistEntry → HistEntry) (s : Node) :
    (modEntry d event g s).stored = s.stored := by
  unfold modEntry; simp
@[simp] theorem assertPin_stored (d : Die) (s : Node) : (assertPin d s).stored = s.stored := by
  unfold assertPin; split <;> simp
@[simp] theorem forwardEvent_stored (e : HistEntry) (s : Node) : (forwardEvent e s).stored = s.stored := by
  unfold forwardEvent; split <;> simp
@[simp] theorem sealDie_stored (d : Die) (src : Nat) (s : Node) : (sealDie d src s).stored = s.stored := by
  unfold sealDie; split <;> simp
@[simp] theorem trapReaction_stored (d : Die) (src : Nat) (s : Node) : (trapReaction d src s).stored = s.stored := by
  simp only [trapReaction]; (repeat' split) <;> simp_all
@[simp] theorem reactions_stored (d : Die) (src cls mask : Nat) (e : HistEntry) (s : Node) :
    (reactions d src cls mask e s).stored = s.stored := by
  unfold reactions; simp
@[simp] theorem requestFlush_stored (d : Die) (s : Node) : (requestFlush d s).stored = s.stored := by
  unfold requestFlush; simp
@[simp] theorem startEvent_stored (d : Die) (src cls mask detail fSource : Nat) (seals fresh : Bool) (s : Node) :
    (startEvent d src cls mask detail fSource seals fresh s).stored = s.stored := by
  unfold startEvent; simp
@[simp] theorem detectCore_stored (d : Die) (src detail fSource : Nat) (cls : Option Nat) (s : Node) :
    (detectCore d src detail fSource cls s).stored = s.stored := by
  simp only [detectCore]; (repeat' split) <;> simp_all
@[simp] theorem condFell_stored (d : Die) (src : Nat) (s : Node) : (condFell d src s).stored = s.stored := by
  simp only [condFell]; (repeat' split) <;> simp_all
@[simp] theorem tear_stored (d : Die) (i entries : Nat) (s : Node) : (tear d i entries s).stored = s.stored := by
  unfold tear; simp
@[simp] theorem resetIsland_stored (d : Die) (island cause : Nat) (s : Node) :
    (resetIsland d island cause s).stored = s.stored := by
  simp only [resetIsland]; (repeat' split) <;> simp_all
@[simp] theorem detect_stored (d : Die) (src detail : Nat) (s : Node) :
    (detect d src detail s).stored = s.stored := by
  simp only [detect]; (repeat' split) <;> simp_all
@[simp] theorem setCond_stored (d : Die) (src : Nat) (on : Bool) (detail : Nat) (s : Node) :
    (setCond d src on detail s).stored = s.stored := by
  simp only [setCond]; (repeat' split) <;> simp_all
@[simp] theorem closeWindow_stored (d : Die) (src : Nat) (s : Node) : (closeWindow d src s).stored = s.stored := by
  unfold closeWindow; simp
@[simp] theorem failStep_stored (d : Die) (r : RunRef) (op : Nat) (s : Node) :
    (failStep d r op s).stored = s.stored := by
  unfold failStep; simp
@[simp] theorem beginStep_stored (d : Die) (r : RunRef) (s : Node) : (beginStep d r s).stored = s.stored := by
  unfold beginStep; simp
@[simp] theorem endOutstanding_stored (d : Die) (r : RunRef) (s : Node) :
    (endOutstanding d r s).stored = s.stored := by
  simp only [endOutstanding]; (repeat' split) <;> simp_all
@[simp] theorem storeData_stored (d : Die) (dest : Nat) (bs : List Byte) (deferred : Bool) (s : Node) :
    (storeData d dest bs deferred s).1.stored = s.stored := by
  simp only [storeData]; (repeat' split) <;> simp_all
@[simp] theorem stepData_stored (d : Die) (r : RunRef) (op dest : Nat) (data : Option (List Byte)) (deferred : Bool) (s : Node) :
    (stepData d r op dest data deferred s).stored = s.stored := by
  simp only [stepData]; (repeat' split) <;> simp_all
@[simp] theorem endKeyStep_stored (t : Txn) (data : Option (List Byte)) (s : Node) :
    (endKeyStep t data s).stored = s.stored := by
  unfold endKeyStep; (repeat' split) <;> simp
@[simp] theorem slotsLive_stored (s : Node) : (slotsLive s).stored = s.stored := by
  unfold slotsLive; simp
@[simp] theorem sendHeld_stored (d : Die) (s : Node) : (sendHeld d s).stored = s.stored := by
  unfold sendHeld; simp
@[simp] theorem endFil_stored (i cause : Nat) (s : Node) : (endFil i cause s).stored = s.stored := by
  simp only [endFil]; (repeat' split) <;> simp_all
@[simp] theorem endRecal_stored (d : Die) (s : Node) : (endRecal d s).stored = s.stored := by
  unfold endRecal; simp
@[simp] theorem allocSession_stored (i : Nat) (path : Path) (client : Nat) (s : Node) :
    (allocSession i path client s).stored = s.stored := by
  unfold allocSession; simp
@[simp] theorem dropSession_stored (i : Nat) (s : Node) : (dropSession i s).stored = s.stored := by
  unfold dropSession; simp
@[simp] theorem modSession_stored (i : Nat) (g : Session → Session) (s : Node) :
    (modSession i g s).stored = s.stored := by
  unfold modSession; split <;> simp
@[simp] theorem setSelect_stored (session key v : Nat) (s : Node) :
    (setSelect session key v s).stored = s.stored := by
  unfold setSelect; simp
@[simp] theorem pushTx_stored (frames : List TxFrame) (s : Node) : (pushTx frames s).stored = s.stored := by
  unfold pushTx; simp
@[simp] theorem chainFromN_stored (dst type : Nat) (urgent : Bool) (typeField : Nat) (bs : List Byte) (s : Node) :
    (chainFromN dst type urgent typeField bs s).stored = s.stored := by
  unfold chainFromN; simp
@[simp] theorem txDiscard_stored (cls cause n : Nat) (s : Node) : (txDiscard cls cause n s).stored = s.stored := by
  unfold txDiscard; simp
@[simp] theorem refuse_stored (path : Path) (client tag : Nat) (op : DapOp) (key status : Nat) (s : Node) :
    (refuse path client tag op key status s).stored = s.stored := by
  unfold refuse; (repeat' split) <;> simp
@[simp] theorem afterFlight_stored (t : Txn) (s : Node) : (afterFlight t s).stored = s.stored := by
  simp only [afterFlight]; (repeat' split) <;> simp_all
@[simp] theorem leaveFlight_stored (session tag : Nat) (s : Node) :
    (leaveFlight session tag s).stored = s.stored := by
  unfold leaveFlight; split <;> simp
@[simp] theorem modTxn_stored (session tag : Nat) (g : Txn → Txn) (s : Node) :
    (modTxn session tag g s).stored = s.stored := by
  unfold modTxn; simp
@[simp] theorem completePort_stored (tag header : Nat) (body : List Byte) (s : Node) :
    (completePort tag header body s).stored = s.stored := by
  unfold completePort; simp
@[simp] theorem respond_stored (t : Txn) (status : Nat) (data : List Byte) (s : Node) :
    (respond t status data s).stored = s.stored := by
  unfold respond; (repeat' split) <;> simp
@[simp] theorem waitsNoMore_stored (session tag : Nat) (s : Node) :
    (waitsNoMore session tag s).stored = s.stored := by
  unfold waitsNoMore; simp
@[simp] theorem finish_stored (session tag status : Nat) (data : List Byte) (s : Node) :
    (finish session tag status data s).stored = s.stored := by
  unfold finish; split <;> simp
@[simp] theorem fAnswer_stored (session tag status : Nat) (data : List Byte) (s : Node) :
    (fAnswer session tag status data s).stored = s.stored := by
  unfold fAnswer; simp
@[simp] theorem overflow15_stored (idx : Nat) (s : Node) : (overflow15 idx s).stored = s.stored := by
  unfold overflow15; simp
@[simp] theorem edgeOverflow_stored (d : Die) (c : Nat) (s : Node) : (edgeOverflow d c s).stored = s.stored := by
  unfold edgeOverflow; simp
@[simp] theorem backlogOverflow_stored (d : Die) (c : Nat) (s : Node) :
    (backlogOverflow d c s).stored = s.stored := by
  unfold backlogOverflow; simp
@[simp] theorem captureEdge_stored (d : Die) (c at_ : Nat) (s : Node) :
    (captureEdge d c at_ s).stored = s.stored := by
  simp only [captureEdge]; (repeat' split) <;> simp_all
@[simp] theorem applyTimed_stored (d : Die) (m : Mask) (s : Node) : (applyTimed d m s).stored = s.stored := by
  unfold applyTimed
  refine (forEach_stored (fun c s => ?_) _ _).trans (by simp)
  dsimp only
  split <;> split <;> simp
@[simp] theorem putSlot_stored (d : Die) (i : Nat) (x : Slot) (s : Node) : (putSlot d i x s).stored = s.stored := by
  unfold putSlot; simp
@[simp] theorem launchSlot_stored (d : Die) (i : Nat) (late : Bool) (s : Node) :
    (launchSlot d i late s).stored = s.stored := by
  simp only [launchSlot]; (repeat' split) <;> simp_all
@[simp] theorem armSlot_stored (d : Die) (i : Nat) (x : Slot) (s : Node) : (armSlot d i x s).stored = s.stored := by
  unfold armSlot; split <;> simp
@[simp] theorem sendOrder_stored (d : Die) (floor list : Nat) (launch : T48) (fromStep : Option RunRef) (s : Node) :
    (sendOrder d floor list launch fromStep s).stored = s.stored := by
  simp only [sendOrder]; (repeat' split) <;> simp_all
@[simp] theorem answerOrder_stored (d : Die) (id : Nat) (late : Bool) (outcome : Nat) (s : Node) :
    (answerOrder d id late outcome s).stored = s.stored := by
  unfold answerOrder; simp
@[simp] theorem takeOrder_stored (d : Die) (id floor list : Nat) (launch : T48) (s : Node) :
    (takeOrder d id floor list launch s).stored = s.stored := by
  simp only [takeOrder]; (repeat' split) <;> simp_all
@[simp] theorem takeTrigger_stored (d : Die) (origin list : Nat) (launch : T48) (s : Node) :
    (takeTrigger d origin list launch s).stored = s.stored := by
  simp only [takeTrigger]; (repeat' split) <;> simp_all
@[simp] theorem advance_stored (d : Die) (r : Runner) (g : Run → Run) (s : Node) :
    (advance d r g s).stored = s.stored := by
  unfold advance; simp
@[simp] theorem actLate_stored (d : Die) (list late : Nat) (s : Node) :
    (actLate d list late s).1.stored = s.stored := by
  unfold actLate; (repeat' split) <;> simp
@[simp] theorem issueStep_stored (d : Die) (r : Runner) (op lateness : Nat) (s : Node) :
    (issueStep d r op lateness s).stored = s.stored := by
  unfold issueStep; simp
@[simp] theorem publishCan_stored (die o : Nat) (x : List Byte) (s : Node) :
    (publishCan die o x s).stored = s.stored := by
  simp only [publishCan]; (repeat' split) <;> simp_all
@[simp] theorem publish_stored (d : Die) (o : Nat) (s : Node) : (publish d o s).stored = s.stored := by
  unfold publish; (repeat' split) <;> simp
@[simp] theorem endTunnels_stored (s : Node) : (endTunnels s).stored = s.stored := by
  unfold endTunnels; simp
@[simp] theorem endGather_stored (s : Node) : (endGather s).stored = s.stored := by
  unfold endGather; (repeat' split) <;> simp
@[simp] theorem endRemote_stored (s : Node) : (endRemote s).stored = s.stored := by
  unfold endRemote
  simp only [endTunnels_stored, endGather_stored]
  rw [forEach_stored (fun t s => by simp), forEach_stored (fun t s => by simp)]
  refine (withFil_stored _ _).trans ?_
  rw [modBar_eq, modN_stored, forEach_stored (fun w s => by simp), forEach_stored (fun t s => by simp)]
@[simp] theorem countDropped_stored (d : Die) (s : Node) : (countDropped d s).stored = s.stored := by
  unfold countDropped; simp
@[simp] theorem loseLink_stored (d : Die) (s : Node) : (loseLink d s).stored = s.stored := by
  unfold loseLink; split <;> simp
@[simp] theorem enterOutage_stored (d : Die) (s : Node) : (enterOutage d s).stored = s.stored := by
  unfold enterOutage
  split
  · rw [onlyIf_stored (fun s => by simp)]
    simp
  · rfl
@[simp] theorem sendConfig_stored (d : Die) (phase : Nat) (s : Node) : (sendConfig d phase s).stored = s.stored := by
  unfold sendConfig; simp
@[simp] theorem startAgreement_stored (key map : Nat) (upper adoption : Bool) (txn : Option (Nat × Nat)) (s : Node) :
    (startAgreement key map upper adoption txn s).stored = s.stored := by
  unfold startAgreement; simp
@[simp] theorem answerAgreement_stored (status : Nat) (s : Node) : (answerAgreement status s).stored = s.stored := by
  unfold answerAgreement; split <;> simp
@[simp] theorem endAgreement_stored (outcome : Nat) (s : Node) : (endAgreement outcome s).stored = s.stored := by
  unfold endAgreement; simp
@[simp] theorem applyDirection_stored (d : Die) (map : Nat) (upper : Bool) (s : Node) :
    (applyDirection d map upper s).stored = s.stored := by
  unfold applyDirection
  refine settlePins_stored d (fun s => ?_) s
  refine (forEach_stored (fun c s => ?_) _ _).trans (by simp)
  dsimp only
  (repeat' split) <;> simp
@[simp] theorem countWord_stored (d : Die) (c : WordCheck) (s : Node) : (countWord d c s).stored = s.stored := by
  unfold countWord; split <;> simp
@[simp] theorem perturbed_stored (d : Die) (cls : Nat) (s : Node) : (perturbed d cls s).1.stored = s.stored := by
  unfold perturbed; simp
@[simp] theorem ctrlWord_stored (d : Die) {g : Node → Node} (h : ∀ s, (g s).stored = s.stored) (s : Node) :
    (ctrlWord d g s).stored = s.stored := by
  unfold ctrlWord
  split
  · dsimp only
    split <;> simp [h]
  · exact h s
@[simp] theorem doSynthLockLoss_stored (d : Die) (s : Node) : (doSynthLockLoss d s).stored = s.stored := by
  unfold doSynthLockLoss; split <;> simp
@[simp] theorem doSynthCalibrationDone_stored (d : Die) (s : Node) :
    (doSynthCalibrationDone d s).stored = s.stored := by
  unfold doSynthCalibrationDone; split <;> simp
@[simp] theorem doSynthLockReached_stored (d : Die) (s : Node) : (doSynthLockReached d s).stored = s.stored := by
  unfold doSynthLockReached; split <;> simp
@[simp] theorem doOutageDetect_stored (d : Die) (s : Node) : (doOutageDetect d s).stored = s.stored := by
  unfold doOutageDetect; split <;> simp
@[simp] theorem doOutageResume_stored (d : Die) (lasted : Nat) (s : Node) :
    (doOutageResume d lasted s).stored = s.stored := by
  simp only [doOutageResume]; (repeat' split) <;> simp_all
@[simp] theorem doOutageLost_stored (d : Die) (s : Node) : (doOutageLost d s).stored = s.stored := by
  unfold doOutageLost; split <;> simp
@[simp] theorem doLostStep0Received_stored (d : Die) (s : Node) : (doLostStep0Received d s).stored = s.stored := by
  simp only [doLostStep0Received]; (repeat' split) <;> simp_all
@[simp] theorem doShiftEnd_stored (d : Die) (ch : Fin 8) (s : Node) : (doShiftEnd d ch s).stored = s.stored := by
  simp only [doShiftEnd]; (repeat' split) <;> simp_all
@[simp] theorem doOverflowForceClear_stored (d : Die) (s : Node) : (doOverflowForceClear d s).stored = s.stored := by
  unfold doOverflowForceClear; split <;> simp
@[simp] theorem doAct_stored (d : Die) (id floor list : Nat) (launch : T48) (complete : Bool) (s : Node) :
    (doAct d id floor list launch complete s).stored = s.stored := by
  unfold doAct; split <;> simp
@[simp] theorem repeatOrders_stored (d : Die) (s : Node) : (repeatOrders d s).stored = s.stored := by
  unfold repeatOrders; simp
@[simp] theorem doActRepeat_stored (d : Die) (s : Node) : (doActRepeat d s).stored = s.stored := by
  unfold doActRepeat; split <;> simp
@[simp] theorem promoteOrder_stored (d : Die) (s : Node) : (promoteOrder d s).stored = s.stored := by
  unfold promoteOrder; split <;> simp
@[simp] theorem doActAck_stored (d : Die) (id : Nat) (late : Bool) (outcome : Nat) (s : Node) :
    (doActAck d id late outcome s).stored = s.stored := by
  unfold doActAck; (repeat' split) <;> simp
@[simp] theorem doMargin_stored (d : Die) (swing equalisation : Nat) (atTarget : Bool) (width height : Nat) (s : Node) :
    (doMargin d swing equalisation atTarget width height s).stored = s.stored := by
  unfold doMargin; split <;> simp
@[simp] theorem requestRate_stored (d : Die) (half : Bool) (s : Node) : (requestRate d half s).stored = s.stored := by
  unfold requestRate; simp
@[simp] theorem limitReached_stored (d : Die) (s : Node) : (limitReached d s).stored = s.stored := by
  simp only [limitReached]; (repeat' split) <;> simp_all
@[simp] theorem doMarginSend_stored (d : Die) (width height : Nat) (s : Node) :
    (doMarginSend d width height s).stored = s.stored := by
  simp only [doMarginSend]; (repeat' split) <;> simp_all
@[simp] theorem answerRate_stored (d : Die) (half : Bool) (n : Nat) (s : Node) :
    (answerRate d half n s).stored = s.stored := by
  unfold answerRate; split <;> simp
@[simp] theorem doRateRequestHalf_stored (d : Die) (n : Nat) (s : Node) :
    (doRateRequestHalf d n s).stored = s.stored := by
  unfold doRateRequestHalf; split <;> simp
@[simp] theorem doRateRequestFull_stored (d : Die) (n : Nat) (s : Node) :
    (doRateRequestFull d n s).stored = s.stored := by
  unfold doRateRequestFull; split <;> simp
@[simp] theorem doRateAccept_stored (d : Die) (n : Nat) (s : Node) : (doRateAccept d n s).stored = s.stored := by
  unfold doRateAccept; (repeat' split) <;> simp
@[simp] theorem doRateRefuse_stored (d : Die) (n : Nat) (s : Node) : (doRateRefuse d n s).stored = s.stored := by
  unfold doRateRefuse; (repeat' split) <;> simp
@[simp] theorem doRateRequestRetry_stored (d : Die) (s : Node) : (doRateRequestRetry d s).stored = s.stored := by
  unfold doRateRequestRetry; (repeat' split) <;> simp
@[simp] theorem switchRate_stored (d : Die) (half : Bool) (s : Node) : (switchRate d half s).stored = s.stored := by
  unfold switchRate; simp
@[simp] theorem doRateSwitch_stored (s : Node) : (doRateSwitch s).stored = s.stored := by
  unfold doRateSwitch; (repeat' split) <;> simp
@[simp] theorem doCredit_stored (d : Die) (returned : Nat) (nak : Bool) (last : Nat) (s : Node) :
    (doCredit d returned nak last s).stored = s.stored := by
  unfold doCredit; split <;> simp
@[simp] theorem nakTrip_stored (d : Die) (s : Node) : (nakTrip d s).stored = s.stored := by
  unfold nakTrip; simp
@[simp] theorem doCreditSend_stored (d : Die) (s : Node) : (doCreditSend d s).stored = s.stored := by
  simp only [doCreditSend]; (repeat' split) <;> simp_all
@[simp] theorem doEdgeCapture_stored (d : Die) (ch : Fin 8) (at_ : Nat) (s : Node) :
    (doEdgeCapture d ch at_ s).stored = s.stored := by
  unfold doEdgeCapture; (repeat' split) <;> simp
@[simp] theorem eventSent_stored (d : Die) (c : Nat) (s : Node) : (eventSent d c s).stored = s.stored := by
  unfold eventSent; simp
@[simp] theorem takeEvent_stored (d : Die) (e : EdgeEvent) (s : Node) : (takeEvent d e s).stored = s.stored := by
  unfold takeEvent; split <;> simp
@[simp] theorem doEdgeWord_stored (d : Die) (check : WordCheck) (first : EdgeEvent) (second : Option EdgeEvent) (s : Node) :
    (doEdgeWord d check first second s).stored = s.stored := by
  simp only [doEdgeWord]; (repeat' split) <;> simp_all
@[simp] theorem doEdgeReplay_stored (d : Die) (ch : Fin 8) (s : Node) : (doEdgeReplay d ch s).stored = s.stored := by
  unfold doEdgeReplay; split <;> simp
@[simp] theorem refreshChannel_stored (d : Die) (mask levels : Mask) (c : Nat) (s : Node) :
    (refreshChannel d mask levels c s).stored = s.stored := by
  simp only [refreshChannel]; (repeat' split) <;> simp_all
@[simp] theorem doRefresh_stored (d : Die) (check : WordCheck) (count : Nat) (mask levels : Mask) (s : Node) :
    (doRefresh d check count mask levels s).stored = s.stored := by
  simp only [doRefresh]; (repeat' split) <;> simp_all
@[simp] theorem doRefreshSend_stored (d : Die) (s : Node) : (doRefreshSend d s).stored = s.stored := by
  unfold doRefreshSend; split <;> simp
@[simp] theorem doFailsafeTimeout_stored (d : Die) (s : Node) : (doFailsafeTimeout d s).stored = s.stored := by
  simp only [doFailsafeTimeout]; (repeat' split) <;> simp_all
@[simp] theorem doNewOutputTimerExpiry_stored (d : Die) (ch : Fin 8) (s : Node) :
    (doNewOutputTimerExpiry d ch s).stored = s.stored := by
  simp only [doNewOutputTimerExpiry]; (repeat' split) <;> simp_all
@[simp] theorem doForceWord_stored (d : Die) (origin : Nat) (mask : Mask) (s : Node) :
    (doForceWord d origin mask s).stored = s.stored := by
  unfold doForceWord; (repeat' split) <;> simp
@[simp] theorem repeatForce_stored (d : Die) (o : Nat) (s : Node) : (repeatForce d o s).stored = s.stored := by
  simp only [repeatForce]; (repeat' split) <;> simp_all
@[simp] theorem doForceRepeat_stored (d : Die) (s : Node) : (doForceRepeat d s).stored = s.stored := by
  unfold doForceRepeat; split <;> simp
@[simp] theorem doConfigPropose_stored (n map : Nat) (upper : Bool) (s : Node) :
    (doConfigPropose n map upper s).stored = s.stored := by
  unfold doConfigPropose; split <;> simp
@[simp] theorem doConfigCommit_stored (n : Nat) (s : Node) : (doConfigCommit n s).stored = s.stored := by
  simp only [doConfigCommit]; (repeat' split) <;> simp_all
@[simp] theorem proposeAgain_stored (s : Node) : (proposeAgain s).stored = s.stored := by
  unfold proposeAgain; split <;> simp
@[simp] theorem doConfigCommitRepeat_stored (s : Node) : (doConfigCommitRepeat s).stored = s.stored := by
  unfold doConfigCommitRepeat; split <;> simp
@[simp] theorem doConfigConfirmTimeout_stored (s : Node) : (doConfigConfirmTimeout s).stored = s.stored := by
  unfold doConfigConfirmTimeout; split <;> simp
@[simp] theorem leaveBoot_stored (s : Node) : (leaveBoot s).stored = s.stored := by
  simp only [leaveBoot]; (repeat' split) <;> simp_all
@[simp] theorem endAdoption_stored (adopted : Bool) (s : Node) : (endAdoption adopted s).stored = s.stored := by
  unfold endAdoption; split <;> simp
@[simp] theorem doConfigRefuse_stored (n : Nat) (s : Node) : (doConfigRefuse n s).stored = s.stored := by
  simp only [doConfigRefuse]; (repeat' split) <;> simp_all
@[simp] theorem doConfigConfirm_stored (n : Nat) (s : Node) : (doConfigConfirm n s).stored = s.stored := by
  simp only [doConfigConfirm]; (repeat' split) <;> simp_all
@[simp] theorem doConfigProposeTimeout_stored (s : Node) : (doConfigProposeTimeout s).stored = s.stored := by
  simp only [doConfigProposeTimeout]; (repeat' split) <;> simp_all
@[simp] theorem doFaultDetection_stored (d : Die) (src : Fin 24) (cause : Nat) (s : Node) :
    (doFaultDetection d src cause s).stored = s.stored := by
  unfold doFaultDetection; simp
@[simp] theorem sampleSource_stored (d : Die) (src : Nat) (s : Node) : (sampleSource d src s).stored = s.stored := by
  simp only [sampleSource]; (repeat' split) <;> simp_all
@[simp] theorem doLiveStateSample_stored (d : Die) (s : Node) : (doLiveStateSample d s).stored = s.stored := by
  unfold doLiveStateSample; split <;> simp
@[simp] theorem doEventLiveEnd_stored (d : Die) (src : Fin 24) (s : Node) :
    (doEventLiveEnd d src s).stored = s.stored := by
  simp only [doEventLiveEnd]; (repeat' split) <;> simp_all
@[simp] theorem doMergeWindowClose_stored (d : Die) (src : Fin 24) (s : Node) :
    (doMergeWindowClose d src s).stored = s.stored := by
  simp only [doMergeWindowClose]; (repeat' split) <;> simp_all
@[simp] theorem doErrPulseEnd_stored (d : Die) (s : Node) : (doErrPulseEnd d s).stored = s.stored := by
  unfold doErrPulseEnd; simp
@[simp] theorem releasePin_stored (d : Die) (s : Node) : (releasePin d s).stored = s.stored := by
  simp only [releasePin]; (repeat' split) <;> simp
@[simp] theorem doClearEntry_stored (d : Die) (src : Fin 24) (s : Node) :
    (doClearEntry d src s).stored = s.stored := by
  simp only [doClearEntry]; (repeat' split) <;> simp_all
@[simp] theorem clearStatus_stored (d : Die) (m : Word) (s : Node) : (clearStatus d m s).stored = s.stored := by
  unfold clearStatus; simp
@[simp] theorem ackSource_stored (d : Die) (src : Nat) (s : Node) : (ackSource d src s).stored = s.stored := by
  simp only [ackSource]; (repeat' split) <;> simp_all
@[simp] theorem ackSources_stored (d : Die) (m : Word) (s : Node) : (ackSources d m s).stored = s.stored := by
  unfold ackSources; simp
@[simp] theorem clearHistory_stored (d : Die) (s : Node) : (clearHistory d s).stored = s.stored := by
  unfold clearHistory; simp
@[simp] theorem statusSeen_stored (d : Die) (s : Node) : (statusSeen d s).stored = s.stored := by
  unfold statusSeen; simp
@[simp] theorem doFaultReport_stored (src : Fin 24) (cls : Fin 4) (live : Bool) (event : Nat) (s : Node) :
    (doFaultReport src cls live event s).stored = s.stored := by
  unfold doFaultReport; (repeat' split) <;> simp
@[simp] theorem doFaultAcknowledge_stored (src : Fin 24) (event : Nat) (s : Node) :
    (doFaultAcknowledge src event s).stored = s.stored := by
  unfold doFaultAcknowledge; split <;> simp
@[simp] theorem doFaultReportRepeat_stored (s : Node) : (doFaultReportRepeat s).stored = s.stored := by
  unfold doFaultReportRepeat; split <;> simp
@[simp] theorem doFaultEntryFrame_stored (src : Fin 24) (cls : Fin 4) (detected : T48) (status : Word) (s : Node) :
    (doFaultEntryFrame src cls detected status s).stored = s.stored := by
  unfold doFaultEntryFrame; split <;> simp
@[simp] theorem doFSealRelease_stored (s : Node) : (doFSealRelease s).stored = s.stored := by
  unfold doFSealRelease; split <;> simp
@[simp] theorem doFTrapNotice_stored (src : Fin 24) (s : Node) : (doFTrapNotice src s).stored = s.stored := by
  unfold doFTrapNotice; split <;> simp
@[simp] theorem forwardPending_stored (s : Node) : (forwardPending s).stored = s.stored := by
  simp only [forwardPending]; (repeat' split) <;> simp_all
@[simp] theorem canReceived_stored (cls : Nat) (s : Node) : (canReceived cls s).stored = s.stored := by
  unfold canReceived; simp
@[simp] theorem canSent_stored (cls : Nat) (s : Node) : (canSent cls s).stored = s.stored := by
  unfold canSent; simp
@[simp] theorem doProtocolException_stored (s : Node) : (doProtocolException s).stored = s.stored := by
  unfold doProtocolException; split <;> simp
@[simp] theorem doErrorPassiveEntry_stored (tec rec : Nat) (s : Node) :
    (doErrorPassiveEntry tec rec s).stored = s.stored := by
  unfold doErrorPassiveEntry; split <;> simp
@[simp] theorem doErrorActiveReturn_stored (tec rec : Nat) (s : Node) :
    (doErrorActiveReturn tec rec s).stored = s.stored := by
  unfold doErrorActiveReturn; split <;> simp
@[simp] theorem busOffDiscard_stored (s : Node) : (busOffDiscard s).stored = s.stored := by
  unfold busOffDiscard; simp
@[simp] theorem doBusOffEntry_stored (s : Node) : (doBusOffEntry s).stored = s.stored := by
  unfold doBusOffEntry; split <;> simp
@[simp] theorem queueBulk_stored (s : Node) : (queueBulk s).stored = s.stored := by
  unfold queueBulk; (repeat' split) <;> simp
@[simp] theorem doBusOffRecovered_stored (s : Node) : (doBusOffRecovered s).stored = s.stored := by
  unfold doBusOffRecovered; split <;> simp
@[simp] theorem recoverCan_stored (s : Node) : (recoverCan s).stored = s.stored := by
  unfold recoverCan; split <;> simp
@[simp] theorem doBusIntegrationEnd_stored (s : Node) : (doBusIntegrationEnd s).stored = s.stored := by
  unfold doBusIntegrationEnd; split <;> simp
@[simp] theorem doDetourConfirmTimeout_stored (s : Node) : (doDetourConfirmTimeout s).stored = s.stored := by
  unfold doDetourConfirmTimeout; split <;> simp
@[simp] theorem doAlertAck_stored (seq origin : Nat) (refused : Bool) (s : Node) :
    (doAlertAck seq origin refused s).stored = s.stored := by
  unfold doAlertAck; (repeat' split) <;> simp
@[simp] theorem alertAnswer_stored (dst seq origin outcome : Nat) (s : Node) :
    (alertAnswer dst seq origin outcome s).stored = s.stored := by
  unfold alertAnswer; simp
@[simp] theorem doAlert_stored (src : Nat) (a : Alert) (s : Node) : (doAlert src a s).stored = s.stored := by
  unfold doAlert; (repeat' split) <;> simp
@[simp] theorem doTransceiverFault_stored (cause : TransceiverCause) (s : Node) :
    (doTransceiverFault cause s).stored = s.stored := by
  unfold doTransceiverFault; split <;> simp
@[simp] theorem doTransceiverReenable_stored (s : Node) : (doTransceiverReenable s).stored = s.stored := by
  unfold doTransceiverReenable; split <;> simp
@[simp] theorem frameGone_stored (f : TxFrame) (s : Node) : (frameGone f s).stored = s.stored := by
  unfold frameGone; (repeat' split) <;> simp
@[simp] theorem doTxWaitTimeout_stored (cls : Nat) (s : Node) : (doTxWaitTimeout cls s).stored = s.stored := by
  simp only [doTxWaitTimeout]; (repeat' split) <;> simp_all
@[simp] theorem doDapResponseAcked_stored (client tag : Nat) (s : Node) :
    (doDapResponseAcked client tag s).stored = s.stored := by
  simp only [doDapResponseAcked]; (repeat' split) <;> simp_all
@[simp] theorem doRateApply_stored (s : Node) : (doRateApply s).stored = s.stored := by
  unfold doRateApply; split <;> simp
@[simp] theorem doTriggerFrame_stored (src dest tag length : Nat) (launch : T48) (list scope : Nat) (s : Node) :
    (doTriggerFrame src dest tag length launch list scope s).stored = s.stored := by
  unfold doTriggerFrame; (repeat' split) <;> simp
@[simp] theorem tunnelIn_stored (ws : List Nat) (s : Node) : (tunnelIn ws s).stored = s.stored := by
  unfold tunnelIn; split <;> simp
@[simp] theorem doChainTunnelFrame_stored (src dest service tag : Nat) (words : List Nat) (s : Node) :
    (doChainTunnelFrame src dest service tag words s).stored = s.stored := by
  unfold doChainTunnelFrame; (repeat' split) <;> simp
@[simp] theorem doTunnelPairTimeout_stored (s : Node) : (doTunnelPairTimeout s).stored = s.stored := by
  unfold doTunnelPairTimeout; split <;> simp
@[simp] theorem selectEnds_stored (s : Node) : (selectEnds s).stored = s.stored := by
  unfold selectEnds; simp
@[simp] theorem selectFrame_stored (mode3 : Bool) (kind : Nat) (s : Node) :
    (selectFrame mode3 kind s).stored = s.stored := by
  unfold selectFrame; split <;> simp
@[simp] theorem answerPort_stored (header tag : Nat) (body : List Byte) (s : Node) :
    (answerPort header tag body s).stored = s.stored := by
  unfold answerPort; simp
@[simp] theorem answerDeferred_stored (header tag : Nat) (body : List Byte) (s : Node) :
    (answerDeferred header tag body s).stored = s.stored := by
  unfold answerDeferred; simp
@[simp] theorem frameError_stored (code tag : Nat) (s : Node) : (frameError code tag s).stored = s.stored := by
  unfold frameError; simp
@[simp] theorem doFetch_stored (tag dest : Nat) (form : Form) (mode3 : Bool) (s : Node) :
    (doFetch tag dest form mode3 s).stored = s.stored := by
  simp only [doFetch]; (repeat' split) <;> simp_all
@[simp] theorem doRepeatResponse_stored (tag dest : Nat) (form : Form) (mode3 : Bool) (s : Node) :
    (doRepeatResponse tag dest form mode3 s).stored = s.stored := by
  simp only [doRepeatResponse]; (repeat' split) <;> simp_all
@[simp] theorem endTunnel_stored (tag : Nat) (s : Node) : (endTunnel tag s).stored = s.stored := by
  unfold endTunnel; simp
@[simp] theorem unhold_stored (tag : Nat) (s : Node) : (unhold tag s).stored = s.stored := by
  unfold unhold; simp
@[simp] theorem doResponseClockedOut_stored (s : Node) : (doResponseClockedOut s).stored = s.stored := by
  unfold doResponseClockedOut
  split
  · rfl
  · split
    · dsimp only
      split
      · simp
      · split <;> simp [onlyIf_stored (g := modPort _) (fun s => by simp)]
    · rfl
@[simp] theorem doNSelHigh_stored (s : Node) : (doNSelHigh s).stored = s.stored := by
  unfold doNSelHigh; split <;> simp
@[simp] theorem doAbortedFrame_stored (mode3 : Bool) (s : Node) : (doAbortedFrame mode3 s).stored = s.stored := by
  unfold doAbortedFrame; (repeat' split) <;> simp
@[simp] theorem doHeldResponseDiscard_stored (tag : Nat) (s : Node) :
    (doHeldResponseDiscard tag s).stored = s.stored := by
  unfold doHeldResponseDiscard; (repeat' split) <;> simp
@[simp] theorem finishTunnel_stored (tag status : Nat) (bytes : List Byte) (s : Node) :
    (finishTunnel tag status bytes s).stored = s.stored := by
  unfold finishTunnel; simp
@[simp] theorem admitTunnel_stored (tag : Nat) (b : TunnelBody) (s : Node) :
    (admitTunnel tag b s).stored = s.stored := by
  simp only [admitTunnel]; (repeat' split) <;> simp_all
@[simp] theorem doTunnel_stored (tag dest : Nat) (form : Form) (mode3 : Bool) (body : TunnelBody) (s : Node) :
    (doTunnel tag dest form mode3 body s).stored = s.stored := by
  simp only [doTunnel]; (repeat' split) <;> simp_all
@[simp] theorem doTunnelAdmitAfterWait_stored (s : Node) : (doTunnelAdmitAfterWait s).stored = s.stored := by
  unfold doTunnelAdmitAfterWait; (repeat' split) <;> simp
@[simp] theorem doTunnelComplete_stored (tag : Nat) (bytes : List Byte) (s : Node) :
    (doTunnelComplete tag bytes s).stored = s.stored := by
  unfold doTunnelComplete; split <;> simp
@[simp] theorem doTunnelTimeout_stored (tag : Nat) (s : Node) : (doTunnelTimeout tag s).stored = s.stored := by
  unfold doTunnelTimeout; split <;> simp
@[simp] theorem enterPortMode_stored (mode : Nat) (s : Node) : (enterPortMode mode s).stored = s.stored := by
  unfold enterPortMode; split <;> simp
@[simp] theorem leaveSlave_stored (s : Node) : (leaveSlave s).stored = s.stored := by
  unfold leaveSlave; simp
@[simp] theorem dropMaster_stored (s : Node) : (dropMaster s).stored = s.stored := by
  unfold dropMaster; split <;> simp
@[simp] theorem doNportModeApply_stored (s : Node) : (doNportModeApply s).stored = s.stored := by
  unfold doNportModeApply; (repeat' split) <;> simp
@[simp] theorem beginMaster_stored (m : MasterStart) (s : Node) : (beginMaster m s).stored = s.stored := by
  simp only [beginMaster]; (repeat' split) <;> simp_all
@[simp] theorem issueMaster_stored (m : MasterStart) (late : Nat) (s : Node) :
    (issueMaster m late s).stored = s.stored := by
  unfold issueMaster; simp
@[simp] theorem issueWaiting_stored (m : MasterStart) (s : Node) : (issueWaiting m s).stored = s.stored := by
  unfold issueWaiting; (repeat' split) <;> simp
@[simp] theorem nextMaster_stored (l : List MasterStart) (s : Node) : (nextMaster l s).stored = s.stored := by
  induction l generalizing s with
  | nil => rfl
  | cons m l ih =>
    simp only [nextMaster]
    split
    · rfl
    · simp [ih]
@[simp] theorem startMaster_stored (m : MasterStart) (late : Nat) (s : Node) :
    (startMaster m late s).stored = s.stored := by
  unfold startMaster; (repeat' split) <;> simp
@[simp] theorem doNportMasterEnd_stored (bytes : List Byte) (s : Node) :
    (doNportMasterEnd bytes s).stored = s.stored := by
  unfold doNportMasterEnd; (repeat' split) <;> simp
@[simp] theorem modLink_stored (p : Port) (g : Link → Link) (s : Node) : (modLink p g s).stored = s.stored := by
  unfold modLink; simp
@[simp] theorem linkCountBy_stored (p : Port) (item cell n : Nat) (s : Node) :
    (linkCountBy p item cell n s).stored = s.stored := by
  unfold linkCountBy; simp
@[simp] theorem linkCount_stored (p : Port) (item cell : Nat) (s : Node) :
    (linkCount p item cell s).stored = s.stored := by
  unfold linkCount; simp
@[simp] theorem dropFrames_stored (p : Option Port) (cell n : Nat) (s : Node) :
    (dropFrames p cell n s).stored = s.stored := by
  unfold dropFrames; simp
@[simp] theorem putOnLine_stored (p : Port) (type : Nat) (s : Node) : (putOnLine p type s).stored = s.stored := by
  unfold putOnLine; split <;> simp
@[simp] theorem startNext_stored (p : Port) (s : Node) : (startNext p s).stored = s.stored := by
  simp only [startNext]; (repeat' split) <;> simp_all
@[simp] theorem sendBypass_stored (p : Port) (f : ChainFrame) (s : Node) : (sendBypass p f s).stored = s.stored := by
  unfold sendBypass; simp
@[simp] theorem enqueue_stored (p : Port) (f : ChainFrame) (s : Node) : (enqueue p f s).stored = s.stored := by
  unfold enqueue; simp
@[simp] theorem forwardOn_stored (p : Port) (f : ChainFrame) (s : Node) : (forwardOn p f s).stored = s.stored := by
  unfold forwardOn; split <;> simp
@[simp] theorem egress_stored (f : ChainFrame) (s : Node) : (egress f s).stored = s.stored := by
  unfold egress; simp
@[simp] theorem unknownDest_stored {send : Port → ChainFrame → Node → Node} (h : ∀ p f s, (send p f s).stored = s.stored) (from_ : Option Port) (f : ChainFrame) (s : Node) :
    (unknownDest send from_ f s).stored = s.stored := by
  unfold unknownDest
  (repeat' split) <;> simp [h]
@[simp] theorem sendOn_stored {send : Port → ChainFrame → Node → Node} (h : ∀ p f s, (send p f s).stored = s.stored) (from_ : Option Port) (f : ChainFrame) (s : Node) :
    (sendOn send from_ f s).stored = s.stored := by
  unfold sendOn
  (repeat' split) <;> simp [h]
@[simp] theorem originOn_stored (p : Port) (f : ChainFrame) (s : Node) : (originOn p f s).stored = s.stored := by
  unfold originOn; split <;> simp
@[simp] theorem takeSeq_stored (f : ChainFrame) (s : Node) : (takeSeq f s).2.stored = s.stored := by
  simp [takeSeq]
@[simp] theorem originate_stored (f : ChainFrame) (s : Node) : (originate f s).stored = s.stored := by
  unfold originate
  split
  · exact (sendOn_stored (fun p f s => by simp) ..).trans (takeSeq_stored f s)
  · rfl
@[simp] theorem sendPorts_stored (ps : List Port) (f : ChainFrame) (s : Node) :
    (sendPorts ps f s).stored = s.stored := by
  exact (forEach_stored (fun p s => by simp) _ _).trans (takeSeq_stored f s)
@[simp] theorem unstall_stored (s : Node) : (unstall s).stored = s.stored := by
  unfold unstall; simp
@[simp] theorem moveOrphans_stored (p : Port) (s : Node) : (moveOrphans p s).stored = s.stored := by
  simp only [moveOrphans]; (repeat' split) <;> simp_all
@[simp] theorem moveBroadcasts_stored (old new : Port) (s : Node) : (moveBroadcasts old new s).stored = s.stored := by
  simp only [moveBroadcasts]; (repeat' split) <;> simp
@[simp] theorem rerouteStalled_stored (e : Port × ChainFrame) (s : Node) : (rerouteStalled e s).stored = s.stored := by
  unfold rerouteStalled
  split
  · rfl
  · exact sendOn_stored (fun p f s => by simp) ..
@[simp] theorem routesChanged_stored (s : Node) : (routesChanged s).stored = s.stored := by
  unfold routesChanged; simp
@[simp] theorem endClean_stored (p : Port) (s : Node) : (endClean p s).stored = s.stored := by
  unfold endClean; simp
@[simp] theorem syncNumber_stored (s : Node) : (syncNumber s).stored = s.stored := by
  unfold syncNumber; simp
@[simp] theorem nodeCause_stored (c : Nat) (s : Node) : (nodeCause c s).stored = s.stored := by
  unfold nodeCause; simp
@[simp] theorem startRepair_stored (s : Node) : (startRepair s).stored = s.stored := by
  unfold startRepair; simp
@[simp] theorem failPort_stored (p : Port) (cause : Nat) (next : LinkPortState) (s : Node) :
    (failPort p cause next s).stored = s.stored := by
  simp only [failPort]; (repeat' split) <;> simp_all
@[simp] theorem enablePort_stored (p : Port) (on : Bool) (s : Node) : (enablePort p on s).stored = s.stored := by
  simp only [enablePort]; (repeat' split) <;> simp_all
@[simp] theorem startPorts_stored (s : Node) : (startPorts s).stored = s.stored := by
  unfold startPorts; simp
@[simp] theorem raise19_stored (c : Nat) (s : Node) : (raise19 c s).stored = s.stored := by
  unfold raise19; simp
@[simp] theorem end19_stored (c : Nat) (s : Node) : (end19 c s).stored = s.stored := by
  simp only [end19]; (repeat' split) <;> simp_all
@[simp] theorem raise23_stored (c : Nat) (s : Node) : (raise23 c s).stored = s.stored := by
  simp only [raise23]; (repeat' split) <;> simp_all
@[simp] theorem setTimeState_stored (st : TimeState) (s : Node) : (setTimeState st s).stored = s.stored := by
  simp only [setTimeState]; (repeat' split) <;> simp_all
@[simp] theorem setTimeSource_stored (src : Nat) (s : Node) : (setTimeSource src s).stored = s.stored := by
  unfold setTimeSource; split <;> simp
@[simp] theorem slotPast_stored (d : Die) (i : Nat) (new : T48) (s : Node) :
    (slotPast d i new s).stored = s.stored := by
  simp only [slotPast]; (repeat' split) <;> simp_all
@[simp] theorem dropSlot_stored (d : Die) (i : Nat) (s : Node) : (dropSlot d i s).stored = s.stored := by
  unfold dropSlot; simp
@[simp] theorem slotOver_stored (d : Die) (new : T48) (drop : Bool) (i : Nat) (s : Node) :
    (slotOver d new drop i s).stored = s.stored := by
  unfold slotOver; split <;> simp
@[simp] theorem jumped_stored (d : Die) (old : T48) (drop : Bool) (s : Node) :
    (jumped d old drop s).stored = s.stored := by
  unfold jumped; simp
@[simp] theorem setMaster_stored (t : T48) (era : Option Word) (s : Node) :
    (setMaster t era s).stored = s.stored := by
  unfold setMaster; simp
@[simp] theorem applyFreeSet_stored (s : Node) : (applyFreeSet s).stored = s.stored := by
  unfold applyFreeSet; split <;> simp
@[simp] theorem acquire_stored (src : Nat) (ticks : Int) (era : Option Word) (s : Node) :
    (acquire src ticks era s).stored = s.stored := by
  simp only [acquire]; (repeat' split) <;> simp_all
@[simp] theorem scheduleStep_stored (instant amount : T48) (s : Node) :
    (scheduleStep instant amount s).stored = s.stored := by
  unfold scheduleStep; simp
@[simp] theorem setTarget_stored (rate phase : Int) (s : Node) : (setTarget rate phase s).stored = s.stored := by
  simp only [setTarget]; (repeat' split) <;> simp_all
@[simp] theorem setLimited_stored (on : Bool) (s : Node) : (setLimited on s).stored = s.stored := by
  simp only [setLimited]; (repeat' split) <;> simp_all
@[simp] theorem phaseSample_stored (src : Nat) (o ticks : Int) (s : Node) :
    (phaseSample src o ticks s).stored = s.stored := by
  unfold phaseSample; (repeat' split) <;> simp
@[simp] theorem chooseSource_stored (src : Nat) (s : Node) : (chooseSource src s).1.stored = s.stored := by
  simp only [chooseSource]; (repeat' split) <;> simp_all
@[simp] theorem countStep_stored (ticks : Int) (s : Node) : (countStep ticks s).stored = s.stored := by
  unfold countStep; simp
@[simp] theorem takeSample_stored (src : Nat) (o ticks : Int) (era : Option (Word × T48 × T48)) (s : Node) :
    (takeSample src o ticks era s).stored = s.stored := by
  simp only [takeSample]; (repeat' split) <;> simp_all
@[simp] theorem discardTime_stored (s : Node) : (discardTime s).stored = s.stored := by
  simp only [discardTime]; (repeat' split) <;> simp_all
@[simp] theorem manualSet_stored (v : T48) (s : Node) : (manualSet v s).stored = s.stored := by
  simp only [manualSet]; (repeat' split) <;> simp_all
@[simp] theorem manualEraSet_stored (v : Word) (s : Node) : (manualEraSet v s).stored = s.stored := by
  unfold manualEraSet; simp
@[simp] theorem sendBest_stored (ps : List Port) (s : Node) : (sendBest ps s).stored = s.stored := by
  unfold sendBest; (repeat' split) <;> simp
@[simp] theorem startDiscovery_stored (epoch : Nat) (s : Node) : (startDiscovery epoch s).stored = s.stored := by
  unfold startDiscovery; simp
@[simp] theorem leaveListen_stored (s : Node) : (leaveListen s).stored = s.stored := by
  unfold leaveListen; simp
@[simp] theorem doChainSettleExpiry_stored (s : Node) : (doChainSettleExpiry s).stored = s.stored := by
  simp only [doChainSettleExpiry]; (repeat' split) <;> simp
@[simp] theorem adoptRoot_stored (p : Port) (d : Discover) (s : Node) : (adoptRoot p d s).stored = s.stored := by
  unfold adoptRoot; simp
@[simp] theorem doDiscover_stored (p : Port) (d : Discover) (s : Node) : (doDiscover p d s).stored = s.stored := by
  simp only [doDiscover]; (repeat' split) <;> simp_all
@[simp] theorem doDiscoverRelay_stored (s : Node) : (doDiscoverRelay s).stored = s.stored := by
  unfold doDiscoverRelay; (repeat' split) <;> simp
@[simp] theorem dropParent_stored (s : Node) : (dropParent s).stored = s.stored := by
  unfold dropParent; simp
@[simp] theorem doQuietTimeExpiry_stored (s : Node) : (doQuietTimeExpiry s).stored = s.stored := by
  unfold doQuietTimeExpiry; (repeat' split) <;> simp
@[simp] theorem doNoRootTimeout_stored (s : Node) : (doNoRootTimeout s).stored = s.stored := by
  unfold doNoRootTimeout; split <;> simp
@[simp] theorem sendSet_stored (rows : List NodeRow) (s : Node) : (sendSet rows s).stored = s.stored := by
  unfold sendSet; simp
@[simp] theorem applySet_stored (root : Nat) (rows : List NodeRow) (s : Node) :
    (applySet root rows s).stored = s.stored := by
  simp only [applySet]; (repeat' split) <;> simp_all
@[simp] theorem doRootCollectEnd_stored (s : Node) : (doRootCollectEnd s).stored = s.stored := by
  unfold doRootCollectEnd; split <;> simp
@[simp] theorem doAssignRepeat_stored (s : Node) : (doAssignRepeat s).stored = s.stored := by
  unfold doAssignRepeat; split <;> simp
@[simp] theorem doAssign_stored (index : Nat) (rows : List NodeRow) (s : Node) :
    (doAssign index rows s).stored = s.stored := by
  unfold doAssign; split <;> simp
@[simp] theorem doCommit_stored (epoch root entries frames : Nat) (s : Node) :
    (doCommit epoch root entries frames s).stored = s.stored := by
  simp only [doCommit]; (repeat' split) <;> simp_all
@[simp] theorem answerJoin_stored (serial configured : Nat) (parent : Option Nat) (s : Node) :
    (answerJoin serial configured parent s).stored = s.stored := by
  simp only [answerJoin]; (repeat' split) <;> simp_all
@[simp] theorem doJoinFrame_stored (serial configured : Nat) (s : Node) :
    (doJoinFrame serial configured s).stored = s.stored := by
  unfold doJoinFrame; split <;> simp
@[simp] theorem doReportFrame_stored (r : Report) (root epoch : Nat) (s : Node) :
    (doReportFrame r root epoch s).stored = s.stored := by
  unfold doReportFrame; (repeat' split) <;> simp
@[simp] theorem rediscoverRoot_stored (discard : Bool) (s : Node) : (rediscoverRoot discard s).stored = s.stored := by
  unfold rediscoverRoot; simp
@[simp] theorem doRediscoverFrame_stored (discard : Bool) (s : Node) :
    (doRediscoverFrame discard s).stored = s.stored := by
  unfold doRediscoverFrame; split <;> simp
@[simp] theorem rediscoverNow_stored (arg : Nat) (s : Node) : (rediscoverNow arg s).stored = s.stored := by
  unfold rediscoverNow; split <;> simp
@[simp] theorem doHelloSend_stored (p : Port) (s : Node) : (doHelloSend p s).stored = s.stored := by
  simp only [doHelloSend]; (repeat' split) <;> simp_all
@[simp] theorem joinThrough_stored (p : Port) (h : Hello) (s : Node) : (joinThrough p h s).stored = s.stored := by
  simp only [joinThrough]; (repeat' split) <;> simp_all
@[simp] theorem helloOn_stored (p : Port) (h : Hello) (s : Node) : (helloOn p h s).stored = s.stored := by
  simp only [helloOn]; (repeat' split) <;> simp_all
@[simp] theorem doLinkSilence_stored (p : Port) (s : Node) : (doLinkSilence p s).stored = s.stored := by
  unfold doLinkSilence; split <;> simp
@[simp] theorem doHelloTimeout_stored (p : Port) (s : Node) : (doHelloTimeout p s).stored = s.stored := by
  unfold doHelloTimeout; (repeat' split) <;> simp
@[simp] theorem disableLink_stored (p : Port) (s : Node) : (disableLink p s).stored = s.stored := by
  simp only [disableLink]; (repeat' split) <;> simp_all
@[simp] theorem doDisableHoldoffExpiry_stored (p : Port) (s : Node) :
    (doDisableHoldoffExpiry p s).stored = s.stored := by
  unfold doDisableHoldoffExpiry; split <;> simp
@[simp] theorem reenableLink_stored (p : Port) (s : Node) : (reenableLink p s).stored = s.stored := by
  simp only [reenableLink]; (repeat' split) <;> simp_all
@[simp] theorem discardFrame_stored (p : Port) (cause : Nat) (overRate : Bool) (s : Node) :
    (discardFrame p cause overRate s).stored = s.stored := by
  simp only [discardFrame]; (repeat' split) <;> simp
@[simp] theorem deliverToN_stored (f : ChainFrame) (s : Node) : (deliverToN f s).stored = s.stored := by
  unfold deliverToN; split <;> simp
@[simp] theorem doChainFrameRelay_stored (p : Port) (err : FrameError) (frame : ChainFrame) (overRate : Bool) (s : Node) :
    (doChainFrameRelay p err frame overRate s).stored = s.stored := by
  simp only [doChainFrameRelay]; (repeat' split) <;> simp_all
@[simp] theorem doLinkFrameSent_stored (p : Port) (s : Node) : (doLinkFrameSent p s).stored = s.stored := by
  unfold doLinkFrameSent; split <;> simp
@[simp] theorem doOrphanFrameDrop_stored (p : Port) (s : Node) : (doOrphanFrameDrop p s).stored = s.stored := by
  simp only [doOrphanFrameDrop]; (repeat' split) <;> simp_all
@[simp] theorem doPdelaySchedule_stored (p : Port) (t1 : T48) (s : Node) :
    (doPdelaySchedule p t1 s).stored = s.stored := by
  unfold doPdelaySchedule; split <;> simp
@[simp] theorem doPdelayReq_stored (p : Port) (t2 t3 : T48) (s : Node) :
    (doPdelayReq p t2 t3 s).stored = s.stored := by
  unfold doPdelayReq; split <;> simp
@[simp] theorem doPdelayResp_stored (p : Port) (_t2 _t3 _t4 : T48) (sample : Nat) (s : Node) :
    (doPdelayResp p _t2 _t3 _t4 sample s).stored = s.stored := by
  simp only [doPdelayResp]; (repeat' split) <;> simp_all
@[simp] theorem doRepairFrame_stored (p : Port) (x epoch : Nat) (s : Node) :
    (doRepairFrame p x epoch s).stored = s.stored := by
  unfold doRepairFrame; split <;> simp
@[simp] theorem doCandidate_stored (c : Candidate) (s : Node) : (doCandidate c s).stored = s.stored := by
  unfold doCandidate; split <;> simp
@[simp] theorem sendAttach_stored (p : Port) (s : Node) : (sendAttach p s).stored = s.stored := by
  unfold sendAttach; simp
@[simp] theorem headPartition_stored (s : Node) : (headPartition s).stored = s.stored := by
  unfold headPartition; simp
@[simp] theorem tryNext_stored (s : Node) : (tryNext s).stored = s.stored := by
  simp only [tryNext]; (repeat' split) <;> simp_all
@[simp] theorem doRepairChoose_stored (s : Node) : (doRepairChoose s).stored = s.stored := by
  unfold doRepairChoose; split <;> simp
@[simp] theorem doTryFrame_stored (p : Port) (s : Node) : (doTryFrame p s).stored = s.stored := by
  unfold doTryFrame; split <;> simp
@[simp] theorem doAttach_stored (p : Port) (c m : Nat) (s : Node) : (doAttach p c m s).stored = s.stored := by
  simp only [doAttach]; (repeat' split) <;> simp_all
@[simp] theorem takeParent_stored (p : Port) (s : Node) : (takeParent p s).stored = s.stored := by
  simp only [takeParent]; (repeat' split) <;> simp
@[simp] theorem applyTopo_stored (rows : List NodeRow) (s : Node) : (applyTopo rows s).stored = s.stored := by
  unfold applyTopo; simp
@[simp] theorem endRepair_stored (c : Candidate) (s : Node) : (endRepair c s).stored = s.stored := by
  unfold endRepair; simp
@[simp] theorem afterParent_stored (old : Option Port) (s : Node) : (afterParent old s).stored = s.stored := by
  unfold afterParent; (repeat' split) <;> simp
@[simp] theorem doAttachOk_stored (p : Port) (c m : Nat) (s : Node) : (doAttachOk p c m s).stored = s.stored := by
  unfold doAttachOk; (repeat' split) <;> simp
@[simp] theorem doAttachOkTimeout_stored (s : Node) : (doAttachOkTimeout s).stored = s.stored := by
  unfold doAttachOkTimeout; (repeat' split) <;> simp
@[simp] theorem doFlip_stored (p : Port) (s : Node) : (doFlip p s).stored = s.stored := by
  unfold doFlip; split <;> simp
@[simp] theorem doTopo_stored (partition : Bool) (rows : List NodeRow) (s : Node) :
    (doTopo partition rows s).stored = s.stored := by
  unfold doTopo; (repeat' split) <;> simp
@[simp] theorem doPartitionRepairRetry_stored (s : Node) : (doPartitionRepairRetry s).stored = s.stored := by
  unfold doPartitionRepairRetry; split <;> simp
@[simp] theorem doPartitionWaitExpiry_stored (s : Node) : (doPartitionWaitExpiry s).stored = s.stored := by
  unfold doPartitionWaitExpiry; split <;> simp
@[simp] theorem doStatusFrame_stored (src can time dev : Nat) (root : Bool) (s : Node) :
    (doStatusFrame src can time dev root s).stored = s.stored := by
  unfold doStatusFrame; split <;> simp
@[simp] theorem doStatusSend_stored (s : Node) : (doStatusSend s).stored = s.stored := by
  simp only [doStatusSend]; (repeat' split) <;> simp_all
@[simp] theorem doStatusStale_stored (node : Nat) (s : Node) : (doStatusStale node s).stored = s.stored := by
  unfold doStatusStale; (repeat' split) <;> simp
@[simp] theorem doChainTrigger_stored (src : Nat) (launch : T48) (list : Nat) (s : Node) :
    (doChainTrigger src launch list s).stored = s.stored := by
  unfold doChainTrigger; split <;> simp
@[simp] theorem doTimeTripleSend_stored (s : Node) : (doTimeTripleSend s).stored = s.stored := by
  unfold doTimeTripleSend; split <;> simp
@[simp] theorem followerAligned_stored (s : Node) : (followerAligned s).stored = s.stored := by
  unfold followerAligned; simp
@[simp] theorem doTimeTriple_stored (time : T48) (fraction : Nat) (s : Node) :
    (doTimeTriple time fraction s).stored = s.stored := by
  simp only [doTimeTriple]; (repeat' split) <;> simp_all
@[simp] theorem doEraPair_stored (era : Word) (s : Node) : (doEraPair era s).stored = s.stored := by
  unfold doEraPair; split <;> simp
@[simp] theorem doCanTimeSync_stored (src tag : Nat) (stamp : T48) (s : Node) :
    (doCanTimeSync src tag stamp s).stored = s.stored := by
  unfold doCanTimeSync; (repeat' split) <;> simp
@[simp] theorem doCanTimeFollowUp_stored (src tag : Nat) (time : T48) (era8 : Nat) (inTime : Bool) (s : Node) :
    (doCanTimeFollowUp src tag time era8 inTime s).stored = s.stored := by
  unfold doCanTimeFollowUp; (repeat' split) <;> simp
@[simp] theorem doCanTimeSend_stored (stamp : T48) (s : Node) : (doCanTimeSend stamp s).stored = s.stored := by
  unfold doCanTimeSend; split <;> simp
@[simp] theorem doRootTimeSend_stored (s : Node) : (doRootTimeSend s).stored = s.stored := by
  unfold doRootTimeSend; split <;> simp
@[simp] theorem relayTime_stored (t : TimeFrame) (delay : Nat) (p : Port) (s : Node) :
    (relayTime t delay p s).stored = s.stored := by
  unfold relayTime; simp
@[simp] theorem takeNotice_stored (t : TimeFrame) (s : Node) : (takeNotice t s).stored = s.stored := by
  unfold takeNotice; split <;> simp
@[simp] theorem doChainTimeFrame_stored (port : Port) (t : TimeFrame) (s : Node) :
    (doChainTimeFrame port t s).stored = s.stored := by
  simp only [doChainTimeFrame]; (repeat' split) <;> simp_all
@[simp] theorem doRateSample_stored (rho : Int) (s : Node) : (doRateSample rho s).stored = s.stored := by
  unfold doRateSample; split <;> simp
@[simp] theorem slewOn_stored (s : Node) : (slewOn s).stored = s.stored := by
  unfold slewOn; simp
@[simp] theorem doServoRateUpdate_stored (s : Node) : (doServoRateUpdate s).stored = s.stored := by
  unfold doServoRateUpdate; (repeat' split) <;> simp
@[simp] theorem doRateLimitAlarm_stored (s : Node) : (doRateLimitAlarm s).stored = s.stored := by
  unfold doRateLimitAlarm; split <;> simp
@[simp] theorem doSourceLoss_stored (s : Node) : (doSourceLoss s).stored = s.stored := by
  simp only [doSourceLoss]; (repeat' split) <;> simp_all
@[simp] theorem doHoldoverAlarm_stored (d : Die) (s : Node) : (doHoldoverAlarm d s).stored = s.stored := by
  unfold doHoldoverAlarm; (repeat' split) <;> simp
@[simp] theorem stepMaster_stored (s : Node) : (stepMaster s).stored = s.stored := by
  unfold stepMaster; (repeat' split) <;> simp
@[simp] theorem stepFollower_stored (s : Node) : (stepFollower s).stored = s.stored := by
  unfold stepFollower; (repeat' split) <;> simp
@[simp] theorem doStepInstant_stored (s : Node) : (doStepInstant s).stored = s.stored := by
  unfold doStepInstant; simp
@[simp] theorem doCountWrap_stored (s : Node) : (doCountWrap s).stored = s.stored := by
  simp only [doCountWrap]; (repeat' split) <;> simp_all
@[simp] theorem doNSyncEdge_stored (at_ : T48) (s : Node) : (doNSyncEdge at_ s).stored = s.stored := by
  unfold doNSyncEdge; (repeat' split) <;> simp
@[simp] theorem doFSyncEdge_stored (at_ : T48) (s : Node) : (doFSyncEdge at_ s).stored = s.stored := by
  unfold doFSyncEdge; split <;> simp
@[simp] theorem doSyncPulseOutput_stored (d : Die) (s : Node) : (doSyncPulseOutput d s).stored = s.stored := by
  unfold doSyncPulseOutput; split <;> simp
@[simp] theorem doSlotLaunch_stored (d : Die) (slot : Fin 32) (s : Node) :
    (doSlotLaunch d slot s).stored = s.stored := by
  unfold doSlotLaunch; split <;> simp
@[simp] theorem doEndStep_stored (d : Die) (r : Runner) (s : Node) : (doEndStep d r s).stored = s.stored := by
  unfold doEndStep; (repeat' split) <;> simp
@[simp] theorem doWait_stored (d : Die) (r : Runner) (s : Node) : (doWait d r s).stored = s.stored := by
  unfold doWait; split <;> simp
@[simp] theorem doJoin_stored (d : Die) (r : Runner) (s : Node) : (doJoin d r s).stored = s.stored := by
  unfold doJoin; (repeat' split) <;> simp
@[simp] theorem doJoinRelease_stored (d : Die) (r : Runner) (s : Node) : (doJoinRelease d r s).stored = s.stored := by
  unfold doJoinRelease; (repeat' split) <;> simp
@[simp] theorem doLoop_stored (d : Die) (r : Runner) (s : Node) : (doLoop d r s).stored = s.stored := by
  unfold doLoop; split <;> simp
@[simp] theorem setTimed_stored (d : Die) (levels c : Nat) (s : Node) :
    (setTimed d levels c s).stored = s.stored := by
  simp only [setTimed]; (repeat' split) <;> simp_all
@[simp] theorem doLevel_stored (d : Die) (r : Runner) (late : Nat) (s : Node) :
    (doLevel d r late s).stored = s.stored := by
  simp only [doLevel]; (repeat' split) <;> simp_all
@[simp] theorem doForceStep_stored (d : Die) (r : Runner) (late : Nat) (s : Node) :
    (doForceStep d r late s).stored = s.stored := by
  unfold doForceStep; split <;> simp
@[simp] theorem doOpen_stored (d : Die) (r : Runner) (late : Nat) (s : Node) :
    (doOpen d r late s).stored = s.stored := by
  simp only [doOpen]; (repeat' split) <;> simp_all
@[simp] theorem doClose_stored (d : Die) (r : Runner) (late : Nat) (s : Node) :
    (doClose d r late s).stored = s.stored := by
  simp only [doClose]; (repeat' split) <;> simp_all
@[simp] theorem doCapture_stored (d : Die) (r : Runner) (late : Nat) (s : Node) :
    (doCapture d r late s).stored = s.stored := by
  simp only [doCapture]; (repeat' split) <;> simp_all
@[simp] theorem doArmStep_stored (d : Die) (r : Runner) (late : Nat) (s : Node) :
    (doArmStep d r late s).stored = s.stored := by
  simp only [doArmStep]; (repeat' split) <;> simp_all
@[simp] theorem doTrig_stored (d : Die) (r : Runner) (late : Nat) (s : Node) :
    (doTrig d r late s).stored = s.stored := by
  simp only [doTrig]; (repeat' split) <;> simp_all
@[simp] theorem doNportStep_stored (r : Runner) (late : Nat) (s : Node) :
    (doNportStep r late s).stored = s.stored := by
  unfold doNportStep; (repeat' split) <;> simp
@[simp] theorem tornPort_stored (d : Die) (i : Nat) (s : Node) : (tornPort d i s).stored = s.stored := by
  unfold tornPort; (repeat' split) <;> simp
@[simp] theorem doClockMonitorTrip_stored (d : Die) (island : Nat) (s : Node) :
    (doClockMonitorTrip d island s).stored = s.stored := by
  simp only [doClockMonitorTrip]; (repeat' split) <;> simp_all
@[simp] theorem releaseIsland_stored (d : Die) (island : Nat) (byClock : Bool) (s : Node) :
    (releaseIsland d island byClock s).stored = s.stored := by
  unfold releaseIsland; (repeat' split) <;> simp
@[simp] theorem doIslandClockRecovered_stored (d : Die) (island : Nat) (s : Node) :
    (doIslandClockRecovered d island s).stored = s.stored := by
  unfold doIslandClockRecovered; simp
@[simp] theorem doIslandResetRelease_stored (d : Die) (island : Nat) (s : Node) :
    (doIslandResetRelease d island s).stored = s.stored := by
  unfold doIslandResetRelease; simp
@[simp] theorem doCrossingTear_stored (crossing entries : Nat) (s : Node) :
    (doCrossingTear crossing entries s).stored = s.stored := by
  unfold doCrossingTear; (repeat' split) <;> simp
@[simp] theorem countWork_stored (i : Nat) (s : Node) : (countWork i s).stored = s.stored := by
  unfold countWork; simp
@[simp] theorem putOnPins_stored (work : FWork) (target read source : Nat) (s : Node) :
    (putOnPins work target read source s).stored = s.stored := by
  unfold putOnPins; simp
@[simp] theorem startStored_stored (r : RunRef) (index dest : Nat) (s : Node) :
    (startStored r index dest s).stored = s.stored := by
  simp only [startStored]; (repeat' split) <;> simp_all
@[simp] theorem takeSfdp_stored (w : Nat) (bytes : List Byte) (s : Node) : (takeSfdp w bytes s).stored = s.stored := by
  simp [takeSfdp]
@[simp] theorem stallFetches_stored (t : Nat) (s : Node) : (stallFetches t s).stored = s.stored := by
  unfold stallFetches
  refine forEach_stored (fun w s => ?_) _ s
  (repeat' split) <;> simp
@[simp] theorem startWork_stored (w : FWork) (s : Node) : (startWork w s).stored = s.stored := by
  unfold startWork; (repeat' split) <;> simp
@[simp] theorem doFportNextWork_stored (s : Node) : (doFportNextWork s).stored = s.stored := by
  simp only [doFportNextWork]; (repeat' split) <;> simp_all
@[simp] theorem doFportStep_stored (r : Runner) (late : Nat) (s : Node) :
    (doFportStep r late s).stored = s.stored := by
  unfold doFportStep; (repeat' split) <;> simp
@[simp] theorem takeFetched_stored (r : RunRef) (words : List Nat) (s : Node) :
    (takeFetched r words s).stored = s.stored := by
  simp only [takeFetched]; (repeat' split) <;> simp_all
@[simp] theorem leaveRecovering_stored (t : Nat) (s : Node) : (leaveRecovering t s).stored = s.stored := by
  unfold leaveRecovering; simp
@[simp] theorem endJob_stored (outcome : Nat) (s : Node) : (endJob outcome s).stored = s.stored := by
  unfold endJob; (repeat' split) <;> simp
@[simp] theorem endErase_stored (outcome : Nat) (s : Node) : (endErase outcome s).stored = s.stored := by
  unfold endErase; (repeat' split) <;> simp
@[simp] theorem doStatusPoll_stored (erase : Bool) (status : Byte) (s : Node) :
    (doStatusPoll erase status s).stored = s.stored := by
  simp only [doStatusPoll]; (repeat' split) <;> simp_all
@[simp] theorem doProgramTimeout_stored (s : Node) : (doProgramTimeout s).stored = s.stored := by
  unfold doProgramTimeout; split <;> simp
@[simp] theorem doEraseTimeout_stored (s : Node) : (doEraseTimeout s).stored = s.stored := by
  unfold doEraseTimeout; split <;> simp
@[simp] theorem doRecoveryPoll_stored (target : Nat) (status : Byte) (s : Node) :
    (doRecoveryPoll target status s).stored = s.stored := by
  unfold doRecoveryPoll; (repeat' split) <;> simp
@[simp] theorem startJob_stored (window addr : Nat) (bytes : List Byte) (s : Node) :
    (startJob window addr bytes s).stored = s.stored := by
  unfold startJob; simp
@[simp] theorem startErase_stored (arg : Nat) (txn : Option (Nat × Nat)) (s : Node) :
    (startErase arg txn s).stored = s.stored := by
  unfold startErase; simp
@[simp] theorem startWindowRead_stored (session tag window addr len : Nat) (s : Node) :
    (startWindowRead session tag window addr len s).stored = s.stored := by
  unfold startWindowRead; simp
@[simp] theorem takeRead_stored (session tag window addr left : Nat) (sofar bytes : List Byte) (s : Node) :
    (takeRead session tag window addr left sofar bytes s).stored = s.stored := by
  simp only [takeRead]; (repeat' split) <;> simp_all
@[simp] theorem doFportTransactionEnd_stored (bytes : List Byte) (s : Node) :
    (doFportTransactionEnd bytes s).stored = s.stored := by
  simp only [doFportTransactionEnd]; (repeat' split) <;> simp_all
@[simp] theorem resetFPort_stored (s : Node) : (resetFPort s).stored = s.stored := by
  unfold resetFPort; simp
@[simp] theorem startFPort_stored (s : Node) : (startFPort s).stored = s.stored := by
  unfold startFPort; simp
@[simp] theorem modBead_stored (p : Nat) (g : Bead → Bead) (s : Node) : (modBead p g s).stored = s.stored := by
  unfold modBead; simp
@[simp] theorem modPos_stored (p k : Nat) (g : BeadPos → BeadPos) (s : Node) :
    (modPos p k g s).stored = s.stored := by
  unfold modPos; simp
@[simp] theorem beadCount_stored (p item cell : Nat) (s : Node) : (beadCount p item cell s).stored = s.stored := by
  unfold beadCount; simp
@[simp] theorem raiseBead_stored (p c : Nat) (s : Node) : (raiseBead p c s).stored = s.stored := by
  unfold raiseBead; split <;> simp
@[simp] theorem endBead_stored (p c : Nat) (s : Node) : (endBead p c s).stored = s.stored := by
  simp only [endBead]; (repeat' split) <;> simp_all
@[simp] theorem flashBead_stored (p c : Nat) (s : Node) : (flashBead p c s).stored = s.stored := by
  unfold flashBead; simp
@[simp] theorem dropSlow_stored (p k reason : Nat) (s : Node) : (dropSlow p k reason s).stored = s.stored := by
  unfold dropSlow; simp
@[simp] theorem takeSlow_stored (p k m : Nat) (s : Node) : (takeSlow p k m s).stored = s.stored := by
  unfold takeSlow; (repeat' split) <;> simp
@[simp] theorem slowFrame_stored (p k status : Nat) (s : Node) : (slowFrame p k status s).stored = s.stored := by
  simp only [slowFrame]; (repeat' split) <;> simp_all
@[simp] theorem judgeFailures_stored (p : Nat) (s : Node) : (judgeFailures p s).stored = s.stored := by
  unfold judgeFailures; split <;> simp
@[simp] theorem frameStored_stored (p k : Nat) (s : Node) : (frameStored p k s).stored = s.stored := by
  simp only [frameStored]; split <;> simp
@[simp] theorem plainRecord_stored (p k byte3 : Nat) (s : Node) : (plainRecord p k byte3 s).stored = s.stored := by
  unfold plainRecord; simp
@[simp] theorem completeBead_stored (p : Nat) (w : BeadWait) (s : Node) : (completeBead p w s).stored = s.stored := by
  unfold completeBead; simp
@[simp] theorem stepJudged_stored (p k : Nat) (s : Node) : (stepJudged p k s).stored = s.stored := by
  unfold stepJudged; (repeat' split) <;> simp
@[simp] theorem judge_stored (p k outcome status data : Nat) (s : Node) :
    (judge p k outcome status data s).stored = s.stored := by
  simp only [judge]; (repeat' split) <;> simp_all
@[simp] theorem beadError_stored (p k : Nat) (s : Node) : (beadError p k s).1.stored = s.stored := by
  unfold beadError; split <;> simp
@[simp] theorem doBeadFrame_stored (p : Fin 4) (j : BeadJudgement) (status : BitVec 4) (data : Word) (s : Node) :
    (doBeadFrame p j status data s).stored = s.stored := by
  unfold doBeadFrame; split <;> simp
@[simp] theorem doPositionWindowExpiry_stored (p : Fin 4) (s : Node) :
    (doPositionWindowExpiry p s).stored = s.stored := by
  unfold doPositionWindowExpiry; split <;> simp
@[simp] theorem grant_stored (p : Nat) (s : Node) : (grant p s).stored = s.stored := by
  unfold grant; simp
@[simp] theorem requestPull_stored (p : Nat) (s : Node) : (requestPull p s).stored = s.stored := by
  unfold requestPull; split <;> simp
@[simp] theorem doPullupGrant_stored (s : Node) : (doPullupGrant s).stored = s.stored := by
  unfold doPullupGrant; (repeat' split) <;> simp
@[simp] theorem doPullupWindowEnd_stored (p : Fin 4) (s : Node) : (doPullupWindowEnd p s).stored = s.stored := by
  unfold doPullupWindowEnd; split <;> simp
@[simp] theorem startTrain_stored (p path : Nat) (at_ : T48) (s : Node) :
    (startTrain p path at_ s).stored = s.stored := by
  unfold startTrain; simp
@[simp] theorem doTrainEnd_stored (p : Fin 4) (s : Node) : (doTrainEnd p s).stored = s.stored := by
  simp only [doTrainEnd]; (repeat' split) <;> simp_all
@[simp] theorem beadLatest_stored (p first count dest : Nat) (r : RunRef) (s : Node) :
    (beadLatest p first count dest r s).stored = s.stored := by
  simp only [beadLatest]; (repeat' split) <;> simp_all
@[simp] theorem doBeadStep_stored (r : Runner) (late : Nat) (s : Node) : (doBeadStep r late s).stored = s.stored := by
  simp only [doBeadStep]; (repeat' split) <;> simp_all
@[simp] theorem beadOff_stored (p : Nat) (next : BeadState) (s : Node) : (beadOff p next s).stored = s.stored := by
  unfold beadOff; split <;> simp
@[simp] theorem beadStart_stored (p : Nat) (s : Node) : (beadStart p s).stored = s.stored := by
  unfold beadStart; simp
@[simp] theorem startBeads_stored (s : Node) : (startBeads s).stored = s.stored := by
  unfold startBeads; simp
@[simp] theorem doOvercurrentTrip_stored (p : Fin 4) (within : Nat) (s : Node) :
    (doOvercurrentTrip p within s).stored = s.stored := by
  simp only [doOvercurrentTrip]; (repeat' split) <;> simp_all
@[simp] theorem doLineOffEnd_stored (p : Fin 4) (s : Node) : (doLineOffEnd p s).stored = s.stored := by
  unfold doLineOffEnd; split <;> simp
@[simp] theorem doPoweringEnd_stored (p : Fin 4) (s : Node) : (doPoweringEnd p s).stored = s.stored := by
  unfold doPoweringEnd; split <;> simp
@[simp] theorem reenableBead_stored (p : Nat) (s : Node) : (reenableBead p s).stored = s.stored := by
  unfold reenableBead; split <;> simp
@[simp] theorem doBaseWindowFault_stored (p : Fin 4) (base : Nat) (s : Node) :
    (doBaseWindowFault p base s).stored = s.stored := by
  simp only [doBaseWindowFault]; (repeat' split) <;> simp_all
@[simp] theorem doOpenLineFault_stored (p : Fin 4) (s : Node) : (doOpenLineFault p s).stored = s.stored := by
  unfold doOpenLineFault; split <;> simp
@[simp] theorem doPullupLevelFault_stored (p : Fin 4) (s : Node) : (doPullupLevelFault p s).stored = s.stored := by
  unfold doPullupLevelFault; split <;> simp
@[simp] theorem doPsi5Frame_stored (p : Fin 4) (j : BeadJudgement) (data : Word) (at_ : T48) (s : Node) :
    (doPsi5Frame p j data at_ s).stored = s.stored := by
  simp only [doPsi5Frame]; (repeat' split) <;> simp_all
@[simp] theorem doPsi5Silence_stored (p : Fin 4) (s : Node) : (doPsi5Silence p s).stored = s.stored := by
  unfold doPsi5Silence; split <;> simp
@[simp] theorem tryFlush_stored (d : Die) (s : Node) : (tryFlush d s).stored = s.stored := by
  simp only [tryFlush]; (repeat' split) <;> simp_all
@[simp] theorem flush_stored (d : Die) (s : Node) : (flush d s).stored = s.stored := by
  unfold flush; simp
@[simp] theorem storeEpoch_stored (s : Node) : (storeEpoch s).stored = s.stored := by
  unfold storeEpoch; simp
@[simp] theorem endFlushWait_stored (w : Nat × Nat × Bool) (s : Node) : (endFlushWait w s).stored = s.stored := by
  unfold endFlushWait; split <;> simp
@[simp] theorem serveFlushes_stored (s : Node) : (serveFlushes s).stored = s.stored := by
  unfold serveFlushes; split <;> simp
@[simp] theorem endFlush_stored (d : Die) (verified : Bool) (s : Node) :
    (endFlush d verified s).stored = s.stored := by
  unfold endFlush; (repeat' split) <;> simp
@[simp] theorem waitFlush_stored (session tag : Nat) (epoch : Bool) (s : Node) :
    (waitFlush session tag epoch s).stored = s.stored := by
  unfold waitFlush; simp
@[simp] theorem logBarrier_stored (kind detail value : Nat) (s : Node) :
    (logBarrier kind detail value s).stored = s.stored := by
  unfold logBarrier; simp
@[simp] theorem flushForStandby_stored (s : Node) : (flushForStandby s).stored = s.stored := by
  simp only [flushForStandby]; (repeat' split) <;> simp_all
@[simp] theorem modPair_stored (p : Nat) (g : SafePair → SafePair) (s : Node) :
    (modPair p g s).stored = s.stored := by
  unfold modPair; simp
@[simp] theorem pairCount_stored (p item cell : Nat) (s : Node) : (pairCount p item cell s).stored = s.stored := by
  unfold pairCount; simp
@[simp] theorem assertPair_stored (p : Nat) (s : Node) : (assertPair p s).stored = s.stored := by
  unfold assertPair; simp
@[simp] theorem clearPair_stored (p : Nat) (s : Node) : (clearPair p s).stored = s.stored := by
  unfold clearPair; simp
@[simp] theorem enterPair_stored (p : Nat) (st : SafeState) (s : Node) : (enterPair p st s).stored = s.stored := by
  unfold enterPair; split <;> simp
@[simp] theorem startPair_stored (p : Nat) (s : Node) : (startPair p s).stored = s.stored := by
  unfold startPair; split <;> simp
@[simp] theorem stopPair_stored (p : Nat) (s : Node) : (stopPair p s).stored = s.stored := by
  unfold stopPair; simp
@[simp] theorem syncPair_stored (p : Nat) (s : Node) : (syncPair p s).stored = s.stored := by
  simp only [syncPair]; (repeat' split) <;> simp_all
@[simp] theorem syncPairs_stored (s : Node) : (syncPairs s).stored = s.stored := by
  unfold syncPairs; simp
@[simp] theorem releasePair_stored (p : Nat) (s t : Node) (h : releasePair p s = .ok t) : t.stored = s.stored := by
  unfold releasePair at h
  split at h <;> cases h
  simp
@[simp] theorem pairWritten_stored (key p : Nat) (s : Node) : (pairWritten key p s).stored = s.stored := by
  unfold pairWritten; (repeat' split) <;> simp
@[simp] theorem parkCount_stored (item cell : Nat) (s : Node) : (parkCount item cell s).stored = s.stored := by
  unfold parkCount; simp
@[simp] theorem sendParked_stored (p : Port) (f : ChainFrame) (s : Node) : (sendParked p f s).stored = s.stored := by
  unfold sendParked; simp
@[simp] theorem routeWake_stored (from_ : Option Port) (f : ChainFrame) (s : Node) :
    (routeWake from_ f s).stored = s.stored := by
  unfold routeWake; (repeat' split) <;> simp
@[simp] theorem ownWake_stored (f : ChainFrame) (s : Node) : (ownWake f s).stored = s.stored := by
  simp only [ownWake]
  exact (routeWake_stored ..).trans (takeSeq_stored f s)
@[simp] theorem sendWakes_stored (s : Node) : (sendWakes s).stored = s.stored := by
  unfold sendWakes
  dsimp only
  rw [modPark_eq, modF_stored, onlyIf_stored (fun s => by split <;> simp), forEach_stored (fun r s => by simp)]
@[simp] theorem queueRequest_stored (dest cause : Nat) (s : Node) :
    (queueRequest dest cause s).stored = s.stored := by
  unfold queueRequest; split <;> simp
@[simp] theorem sleepF_stored (ph : Phase) (s : Node) : (sleepF ph s).stored = s.stored := by
  unfold sleepF; simp
@[simp] theorem enterPark_stored (s : Node) : (enterPark s).stored = s.stored := by
  simp only [enterPark]; (repeat' split) <;> simp_all
@[simp] theorem wakeF_stored (s : Node) : (wakeF s).stored = s.stored := by
  unfold wakeF; split <;> simp
@[simp] theorem wakeNDie_stored (s : Node) : (wakeNDie s).stored = s.stored := by
  unfold wakeNDie; split <;> simp
@[simp] theorem unparkPort_stored (p : Port) (s : Node) : (unparkPort p s).stored = s.stored := by
  unfold unparkPort; simp
@[simp] theorem unpark_stored (cause : Nat) (s : Node) : (unpark cause s).stored = s.stored := by
  unfold unpark; split <;> simp
@[simp] theorem nDieWoke_stored (own : Bool) (s : Node) : (nDieWoke own s).stored = s.stored := by
  simp only [nDieWoke]; (repeat' split) <;> simp_all
@[simp] theorem safeChange_stored (p : Nat) (s : Node) : (safeChange p s).stored = s.stored := by
  unfold safeChange
  split
  · have h : ∀ a b, (onlyIf a (queueRequest 127 2) (onlyIf b (modPark fun x => { x with notice := true, safeChanged := true }) s)).stored = s.stored :=
      fun a b => by rw [onlyIf_stored (fun s => by simp), onlyIf_stored (fun s => by simp)]
    dsimp only
    split
    · split <;> simp only [unpark_stored, wakeNDie_stored, h]
    · exact h _ _
  · rfl
@[simp] theorem checkUnparked_stored (s : Node) : (checkUnparked s).stored = s.stored := by
  unfold checkUnparked; split <;> simp
@[simp] theorem sendBeacons_stored (s : Node) : (sendBeacons s).stored = s.stored := by
  simp only [sendBeacons]
  refine (forEach_stored (fun p s => by simp) _ _).trans ?_
  split
  · rfl
  · exact (forEach_stored (fun p s => by simp) _ _).trans (takeSeq_stored ..)
@[simp] theorem startPark_stored (arg : Nat) (s : Node) : (startPark arg s).stored = s.stored := by
  unfold startPark; simp
@[simp] theorem setChannels_stored (p : Nat) (a b : Bool) (s : Node) : (setChannels p a b s).stored = s.stored := by
  unfold setChannels; simp
@[simp] theorem declare_stored (p : Nat) (s : Node) : (declare p s).stored = s.stored := by
  unfold declare; simp
@[simp] theorem enterTransition_stored (p : Nat) (permit a b : Bool) (s : Node) :
    (enterTransition p permit a b s).stored = s.stored := by
  simp only [enterTransition]; (repeat' split) <;> simp_all
@[simp] theorem countDisagree_stored (p : Nat) (s : Node) : (countDisagree p s).stored = s.stored := by
  simp only [countDisagree]; (repeat' split) <;> simp_all
@[simp] theorem enterSafe_stored (p : Nat) (s : Node) : (enterSafe p s).stored = s.stored := by
  unfold enterSafe; simp
@[simp] theorem enterActive_stored (p : Nat) (s : Node) : (enterActive p s).stored = s.stored := by
  simp only [enterActive]; (repeat' split) <;> simp_all
@[simp] theorem enterBlocked_stored (p : Nat) (s : Node) : (enterBlocked p s).stored = s.stored := by
  unfold enterBlocked; simp
@[simp] theorem pairTick_stored (p : Nat) (a b : Bool) (s : Node) : (pairTick p a b s).stored = s.stored := by
  simp only [pairTick]; (repeat' split) <;> simp_all
@[simp] theorem doSafeTick_stored (a0 b0 a1 b1 : Bool) (s : Node) : (doSafeTick a0 b0 a1 b1 s).stored = s.stored := by
  unfold doSafeTick; split <;> simp
@[simp] theorem doLatchRecordWrite_stored (pair : Fin 2) (s : Node) :
    (doLatchRecordWrite pair s).stored = s.stored := by
  unfold doLatchRecordWrite; split <;> simp
@[simp] theorem doHello_stored (p : Port) (h : Hello) (s : Node) : (doHello p h s).stored = s.stored := by
  simp only [doHello]; (repeat' split) <;> simp_all
@[simp] theorem doParkEntry_stored (s : Node) : (doParkEntry s).stored = s.stored := by
  unfold doParkEntry; split <;> simp
@[simp] theorem acquireBeacon_stored (b : Beacon) (elapsed : Nat) (first : Bool) (s : Node) :
    (acquireBeacon b elapsed first s).stored = s.stored := by
  simp only [acquireBeacon]; (repeat' split) <;> simp_all
@[simp] theorem takeBeacon_stored (b : Beacon) (elapsed : Nat) (s : Node) :
    (takeBeacon b elapsed s).stored = s.stored := by
  simp only [takeBeacon]; (repeat' split) <;> simp_all
@[simp] theorem doBeacon_stored (b : Beacon) (elapsed : Nat) (s : Node) :
    (doBeacon b elapsed s).stored = s.stored := by
  unfold doBeacon; (repeat' split) <;> simp
@[simp] theorem doRendezvousBeaconSend_stored (s : Node) : (doRendezvousBeaconSend s).stored = s.stored := by
  simp only [doRendezvousBeaconSend]; (repeat' split) <;> simp_all
@[simp] theorem doListenWindowOpen_stored (s : Node) : (doListenWindowOpen s).stored = s.stored := by
  simp only [doListenWindowOpen]; (repeat' split) <;> simp_all
@[simp] theorem doListenWindowMiss_stored (s : Node) : (doListenWindowMiss s).stored = s.stored := by
  simp only [doListenWindowMiss]; (repeat' split) <;> simp_all
@[simp] theorem doListeningTimeout_stored (s : Node) : (doListeningTimeout s).stored = s.stored := by
  unfold doListeningTimeout; split <;> simp
@[simp] theorem fallBack_stored (s : Node) : (fallBack s).stored = s.stored := by
  unfold fallBack; simp
@[simp] theorem doAdriftWindowMiss_stored (s : Node) : (doAdriftWindowMiss s).stored = s.stored := by
  simp only [doAdriftWindowMiss]; (repeat' split) <;> simp_all
@[simp] theorem doChildAnswerTimeout_stored (p : Port) (s : Node) : (doChildAnswerTimeout p s).stored = s.stored := by
  simp only [doChildAnswerTimeout]; (repeat' split) <;> simp_all
@[simp] theorem endUnparking_stored (s : Node) : (endUnparking s).stored = s.stored := by
  unfold endUnparking; simp
@[simp] theorem doHoldWindowEnd_stored (s : Node) : (doHoldWindowEnd s).stored = s.stored := by
  simp only [doHoldWindowEnd]; (repeat' split) <;> simp_all
@[simp] theorem doWakeAnswer_stored (p : Port) (w : WakeWord) (s : Node) :
    (doWakeAnswer p w s).stored = s.stored := by
  unfold doWakeAnswer; split <;> simp
@[simp] theorem doWakeRequest_stored (p : Port) (dest : Nat) (w : WakeWord) (s : Node) :
    (doWakeRequest p dest w s).stored = s.stored := by
  simp only [doWakeRequest]; (repeat' split) <;> simp_all
@[simp] theorem doWakeNotice_stored (w : WakeWord) (s : Node) : (doWakeNotice w s).stored = s.stored := by
  unfold doWakeNotice; (repeat' split) <;> simp
@[simp] theorem requestWake_stored (arg : Nat) (s t : Node) (h : requestWake arg s = .ok t) : t.stored = s.stored := by
  unfold requestWake at h
  split at h
  · cases h
  · split at h <;> cases h <;> simp
@[simp] theorem doLfCalibration_stored (rate : Int) (s : Node) : (doLfCalibration rate s).stored = s.stored := by
  unfold doLfCalibration; split <;> simp
@[simp] theorem unlockFil_stored (arg : Nat) (s : Node) : (unlockFil arg s).2.stored = s.stored := by
  unfold unlockFil
  (repeat' split) <;> first
    | rfl
    | exact (bump_stored ..).trans rfl
@[simp] theorem lockFil_stored (s : Node) : (lockFil s).stored = s.stored := by
  rfl
@[simp] theorem holdFil_stored (i : Nat) (s : Node) : (holdFil i s).stored = s.stored := by
  unfold holdFil; (repeat' split) <;> simp
@[simp] theorem armFil_stored (session tag i : Nat) (bs : List Byte) (s : Node) :
    (armFil session tag i bs s).stored = s.stored := by
  unfold armFil
  dsimp only
  split
  · simp
  · exact (sendData_stored ..).trans ((slotsLive_stored _).trans (modFil_stored ..))
@[simp] theorem disarmFil_stored (i : Nat) (s : Node) : (disarmFil i s).stored = s.stored := by
  unfold disarmFil; (repeat' split) <;> simp
@[simp] theorem doFiligreeSlotExpiry_stored (slot : Fin 8) (s : Node) :
    (doFiligreeSlotExpiry slot s).stored = s.stored := by
  unfold doFiligreeSlotExpiry; split <;> simp
@[simp] theorem answerFil_stored (i status : Nat) (data : List Byte) (s : Node) :
    (answerFil i status data s).stored = s.stored := by
  unfold answerFil
  split
  · exact finish_stored ..
  · rfl
@[simp] theorem doFiligreeSlotReport_stored (slot : Fin 8) (armed : Bool) (s : Node) :
    (doFiligreeSlotReport slot armed s).stored = s.stored := by
  unfold doFiligreeSlotReport; (repeat' split) <;> simp
@[simp] theorem reportSlots_stored (s : Node) : (reportSlots s).stored = s.stored := by
  unfold reportSlots; simp
@[simp] theorem doUnlockExpiry_stored (s : Node) : (doUnlockExpiry s).stored = s.stored := by
  unfold doUnlockExpiry; split <;> simp
@[simp] theorem doUnlockLockoutExpiry_stored (s : Node) : (doUnlockLockoutExpiry s).stored = s.stored := by
  unfold doUnlockLockoutExpiry
  split <;> rfl
@[simp] theorem sendOldest_stored (d : Die) (s : Node) : (sendOldest d s).stored = s.stored := by
  unfold sendOldest; split <;> simp
@[simp] theorem returnHeld_stored (d : Die) (s : Node) : (returnHeld d s).stored = s.stored := by
  unfold returnHeld; split <;> simp
@[simp] theorem doFiligreeHoldEnd_stored (slot : Fin 8) (s : Node) :
    (doFiligreeHoldEnd slot s).stored = s.stored := by
  simp only [doFiligreeHoldEnd]; (repeat' split) <;> simp_all
@[simp] theorem doCounterSample_stored (d : Die) (s : Node) : (doCounterSample d s).stored = s.stored := by
  unfold doCounterSample; split <;> simp
@[simp] theorem doPeriodicFlush_stored (d : Die) (s : Node) : (doPeriodicFlush d s).stored = s.stored := by
  unfold doPeriodicFlush; split <;> simp
@[simp] theorem doEarlyFlush_stored (d : Die) (s : Node) : (doEarlyFlush d s).stored = s.stored := by
  unfold doEarlyFlush; simp
@[simp] theorem doTokenGain_stored (d : Die) (s : Node) : (doTokenGain d s).stored = s.stored := by
  unfold doTokenGain; split <;> simp
@[simp] theorem doFlushComplete_stored (d : Die) (verified : Bool) (s : Node) :
    (doFlushComplete d verified s).stored = s.stored := by
  unfold doFlushComplete; split <;> simp
@[simp] theorem doLoupeFImage_stored (time : T48) (s : Node) : (doLoupeFImage time s).stored = s.stored := by
  unfold doLoupeFImage; split <;> simp
@[simp] theorem doFCopyWrite_stored (s : Node) : (doFCopyWrite s).stored = s.stored := by
  unfold doFCopyWrite; split <;> simp
@[simp] theorem deleteEpoch_stored (arg : Nat) (s t : Node) (h : deleteEpoch arg s = .ok t) : t.stored = s.stored := by
  unfold deleteEpoch at h
  split at h
  · cases h
  · split at h
    · cases h
      simp
    · cases h
@[simp] theorem monitorEvent_stored {g : Node → Node} (h : ∀ s, (g s).stored = s.stored) (s : Node) :
    (monitorEvent g s).stored = s.stored := by
  unfold monitorEvent
  split
  · rfl
  · split
    · simp
    · exact h s
@[simp] theorem doCmTransient_stored (peak : Nat) (falling : Bool) (blankedMs : Nat) (s : Node) :
    (doCmTransient peak falling blankedMs s).stored = s.stored := by
  unfold doCmTransient; (repeat' split) <;> simp
@[simp] theorem doPdPulse_stored (charge : Nat) (s : Node) : (doPdPulse charge s).stored = s.stored := by
  unfold doPdPulse; split <;> simp
@[simp] theorem doPdWindowEnd_stored (s : Node) : (doPdWindowEnd s).stored = s.stored := by
  simp only [doPdWindowEnd]; (repeat' split) <;> simp_all
@[simp] theorem selfTest_stored (failed : Nat) (s : Node) : (selfTest failed s).stored = s.stored := by
  unfold selfTest; split <;> simp
@[simp] theorem dropBulk_stored (s : Node) : (dropBulk s).stored = s.stored := by
  unfold dropBulk; simp
@[simp] theorem startBulk_stored (src mask view offset : Nat) (image : List Byte) (s : Node) :
    (startBulk src mask view offset image s).stored = s.stored := by
  unfold startBulk; simp
@[simp] theorem doBulkRequest_stored (src mask view offset : Nat) (formOk : Bool) (s : Node) :
    (doBulkRequest src mask view offset formOk s).stored = s.stored := by
  simp only [doBulkRequest]; (repeat' split) <;> simp_all
@[simp] theorem abortBulk_stored (b : Bulk) (s : Node) : (abortBulk b s).stored = s.stored := by
  unfold abortBulk; split <;> simp
@[simp] theorem doBulkAbort_stored (src : Nat) (s : Node) : (doBulkAbort src s).stored = s.stored := by
  unfold doBulkAbort; (repeat' split) <;> simp
@[simp] theorem doBulkSnapshotTimeout_stored (s : Node) : (doBulkSnapshotTimeout s).stored = s.stored := by
  unfold doBulkSnapshotTimeout; (repeat' split) <;> simp
@[simp] theorem alertSent_stored (s : Node) : (alertSent s).stored = s.stored := by
  unfold alertSent; (repeat' split) <;> simp
@[simp] theorem doCanFrameSent_stored (cls : Nat) (s : Node) : (doCanFrameSent cls s).stored = s.stored := by
  unfold doCanFrameSent; (repeat' split) <;> simp
@[simp] theorem linksOff_stored (s : Node) : (linksOff s).stored = s.stored := by
  unfold linksOff; simp
@[simp] theorem rowFour_stored (s : Node) : (rowFour s).stored = s.stored := by
  unfold rowFour; simp
@[simp] theorem noticeF_stored (s : Node) : (noticeF s).stored = s.stored := by
  unfold noticeF; (repeat' split) <;> simp
@[simp] theorem tempCond_stored (d : Die) (t : Int) (limit blk item : Nat) (s : Node) :
    (tempCond d t limit blk item s).stored = s.stored := by
  unfold tempCond; (repeat' split) <;> simp
@[simp] theorem vbatCond_stored (v : Nat) (settled : Bool) (s : Node) : (vbatCond v settled s).stored = s.stored := by
  simp only [vbatCond]; (repeat' split) <;> simp_all
@[simp] theorem vbeadCond_stored (v : Nat) (s : Node) : (vbeadCond v s).stored = s.stored := by
  simp only [vbeadCond]; (repeat' split) <;> simp_all
@[simp] theorem tempExtremes_stored (d : Die) (t : Int) (s : Node) : (tempExtremes d t s).stored = s.stored := by
  unfold tempExtremes; simp
@[simp] theorem doMonitorSample_stored (m : Measures) (settled : Bool) (s : Node) :
    (doMonitorSample m settled s).stored = s.stored := by
  simp only [doMonitorSample]; (repeat' split) <;> simp_all
@[simp] theorem endsWith_stored (status : Nat) (s : Node) : (endsWith status s).1.stored = s.stored := by
  unfold endsWith; simp
@[simp] theorem readEffect_stored (key : Nat) (s : Node) : (readEffect key s).stored = s.stored := by
  unfold readEffect; (repeat' split) <;> simp
@[simp] theorem sliceRead_stored (status : Nat) (bs : List Byte) (offset length : Nat) (s : Node) :
    (sliceRead status bs offset length s).1.stored = s.stored := by
  unfold sliceRead; split <;> simp
@[simp] theorem readResult_stored (d : Die) (o session offset length : Nat) (s : Node) :
    (readResult d o session offset length s).1.stored = s.stored := by
  simp only [readResult]; (repeat' split) <;> simp_all
@[simp] theorem readStream_stored (d : Die) (offset length : Nat) (s : Node) :
    (readStream d offset length s).1.stored = s.stored := by
  unfold readStream; (repeat' split) <;> simp
@[simp] theorem readWindow_stored (session tag window pointer offset length : Nat) (s : Node) :
    (readWindow session tag window pointer offset length s).1.stored = s.stored := by
  simp only [readWindow]; (repeat' split) <;> simp_all
@[simp] theorem readBlockKey_stored (session tag : Nat) (sels : Tab Nat) (key offset length : Nat) (s : Node) :
    (readBlockKey session tag sels key offset length s).1.stored = s.stored := by
  unfold readBlockKey; (repeat' split) <;> simp
@[simp] theorem readKeyWord_stored (session : Nat) (sels : Tab Nat) (row : KeyRow) (key : Nat) (s : Node) :
    (readKeyWord session sels row key s).1.stored = s.stored := by
  unfold readKeyWord; simp
@[simp] theorem capSwing_stored (d : Die) (s : Node) : (capSwing d s).stored = s.stored := by
  unfold capSwing; simp
@[simp] theorem publishTimed_stored (d : Die) (s : Node) : (publishTimed d s).stored = s.stored := by
  unfold publishTimed; split <;> simp
@[simp] theorem markUnsaved_stored (key : Nat) (s : Node) : (markUnsaved key s).stored = s.stored := by
  unfold markUnsaved; simp
@[simp] theorem writeArm_stored (d : Die) (bs : List Byte) (s : Node) : (writeArm d bs s).1.stored = s.stored := by
  unfold writeArm; (repeat' split) <;> simp
@[simp] theorem writeWindow_stored (window pointer : Nat) (bs : List Byte) (s : Node) :
    (writeWindow window pointer bs s).1.stored = s.stored := by
  simp only [writeWindow]; (repeat' split) <;> simp_all
@[simp] theorem detectUnstated_stored (d : Die) (src : Nat) (s : Node) :
    (detectUnstated d src s).stored = s.stored := by
  unfold detectUnstated; simp
@[simp] theorem checked_stored {r : Except Nat Node} {s : Node} (h : ∀ t, r = .ok t → t.stored = s.stored) :
    (checked r s).1.stored = s.stored := by
  unfold checked
  split
  · rfl
  · exact h _ rfl
@[simp] theorem resetSequencer_stored (d : Die) (s : Node) : (resetSequencer d s).stored = s.stored := by
  unfold resetSequencer; simp
@[simp] theorem resetCanPort_stored (s : Node) : (resetCanPort s).stored = s.stored := by
  unfold resetCanPort; simp
@[simp] theorem resetNPort_stored (s : Node) : (resetNPort s).stored = s.stored := by
  simp [resetNPort]
@[simp] theorem restartLink_stored (p : Port) (s : Node) : (restartLink p s).stored = s.stored := by
  unfold restartLink; split <;> simp
@[simp] theorem flushLost_stored (s : Node) : (flushLost s).stored = s.stored := by
  unfold flushLost; split <;> simp
@[simp] theorem cutLink_stored (d : Die) (s : Node) : (cutLink d s).stored = s.stored := by
  simp only [cutLink]; split <;> simp
@[simp] theorem resetBlocks_stored (d : Die) (i : Nat) (s : Node) : (resetBlocks d i s).stored = s.stored := by
  unfold resetBlocks; (repeat' split) <;> simp
@[simp] theorem pairReset_stored (d : Die) (i : Nat) (s : Node) : (pairReset d i s).stored = s.stored := by
  unfold pairReset; simp
@[simp] theorem requestState_stored (session arg : Nat) (s : Node) :
    (requestState session arg s).1.stored = s.stored := by
  simp only [requestState]; (repeat' split) <;> simp_all
@[simp] theorem startSave_stored (arg : Nat) (s : Node) : (startSave arg s).1.stored = s.stored := by
  unfold startSave; (repeat' split) <;> simp
@[simp] theorem clearUnsaved_stored (mask : Nat) (s : Node) : (clearUnsaved mask s).stored = s.stored := by
  unfold clearUnsaved; simp
@[simp] theorem freeLedgers_stored (s : Node) : (freeLedgers s).stored = s.stored := by
  unfold freeLedgers; simp
@[simp] theorem failParts_stored (mask : Nat) (s : Node) : (failParts mask s).stored = s.stored := by
  unfold failParts; simp
@[simp] theorem finishRun_stored (key status : Nat) (data : List Byte) (s : Node) :
    (finishRun key status data s).stored = s.stored := by
  unfold finishRun; split <;> simp
@[simp] theorem startRestore_stored (arg : Nat) (s : Node) : (startRestore arg s).1.stored = s.stored := by
  unfold startRestore; (repeat' split) <;> simp
@[simp] theorem leaveValue_stored (s : Node) : (leaveValue s).stored = s.stored := by
  unfold leaveValue; simp
@[simp] theorem agreeRestored_stored (s : Node) : (agreeRestored s).stored = s.stored := by
  simp only [agreeRestored]; (repeat' split) <;> simp_all
@[simp] theorem flushCommand_stored (session tag : Nat) (epoch : Bool) (refusal : Option Nat) (s : Node) :
    (flushCommand session tag epoch refusal s).1.stored = s.stored := by
  unfold flushCommand; split <;> simp
@[simp] theorem cancelSlot_stored (d : Die) (arg : Nat) (s : Node) : (cancelSlot d arg s).1.stored = s.stored := by
  simp only [cancelSlot]; (repeat' split) <;> simp_all
@[simp] theorem disarmCommand_stored (arg : Nat) (s : Node) : (disarmCommand arg s).1.stored = s.stored := by
  unfold disarmCommand; (repeat' split) <;> simp
@[simp] theorem commandN_stored (session tag key arg : Nat) (s : Node) :
    (commandN session tag key arg s).1.stored = s.stored := by
  unfold commandN
  (repeat' split) <;> first
    | rfl
    | (simp; done)
    | exact checked_stored fun t h => deleteEpoch_stored arg s t h
    | (simp only [endsWith]; split <;> simp)
@[simp] theorem rediscoverCommand_stored (arg : Nat) (s : Node) : (rediscoverCommand arg s).1.stored = s.stored := by
  unfold rediscoverCommand; (repeat' split) <;> simp
@[simp] theorem parkCommand_stored (arg : Nat) (s : Node) : (parkCommand arg s).1.stored = s.stored := by
  unfold parkCommand; split <;> simp
@[simp] theorem syncCommand_stored (p : Nat) (now : T48) (s : Node) : (syncCommand p now s).1.stored = s.stored := by
  simp only [syncCommand]; (repeat' split) <;> simp_all
@[simp] theorem eraseCommand_stored (session tag arg : Nat) (waits : Bool) (s : Node) :
    (eraseCommand session tag arg waits s).1.stored = s.stored := by
  simp only [eraseCommand]; (repeat' split) <;> simp_all
@[simp] theorem sfdpCommand_stored (arg : Nat) (s : Node) : (sfdpCommand arg s).1.stored = s.stored := by
  unfold sfdpCommand; (repeat' split) <;> simp
@[simp] theorem directionKey_stored (session tag key v : Nat) (s : Node) :
    (directionKey session tag key v s).1.stored = s.stored := by
  unfold directionKey; split <;> simp
@[simp] theorem cancelRun_stored (t : Txn) (status : Nat) (s : Node) : (cancelRun t status s).stored = s.stored := by
  unfold cancelRun; split <;> simp
@[simp] theorem toFar_stored (t : Txn) (row : KeyRow) (s : Node) : (toFar t row s).stored = s.stored := by
  unfold toFar; split <;> simp
@[simp] theorem takeResult_stored (session tag : Nat) (s : Node) : (takeResult session tag s).stored = s.stored := by
  unfold takeResult; (repeat' split) <;> simp
@[simp] theorem forcedBusy_stored (session key : Nat) (s : Node) :
    (forcedBusy session key s).1.stored = s.stored := by
  unfold forcedBusy; (repeat' split) <;> simp
@[simp] theorem findSession_stored {path : Path} {client : Nat} {s : Node} {r : Nat × Node} (h : findSession path client s = some r) : r.2.stored = s.stored := by
  unfold findSession at h
  split at h
  · cases h
    simp
  · split at h <;> cases h
    simp
@[simp] theorem enterFlight_stored (path : Path) (client tag : Nat) (op : DapOp) (key : Nat) (s : Node) :
    (enterFlight path client tag op key s).1.stored = s.stored := by
  unfold enterFlight
  split
  · simp
  · split
    · simp
    · rename_i i s1 h
      have h1 : s1.stored = s.stored := findSession_stored h
      dsimp only
      split <;> simp [h1]
@[simp] theorem serveSession_stored (t : Txn) (row : KeyRow) (s : Node) :
    (serveSession t row s).stored = s.stored := by
  unfold serveSession; (repeat' split) <;> simp
@[simp] theorem gateway_stored (dest tag : Nat) (form : Form) (key : Nat) (op : DapOp) (s : Node) :
    (gateway dest tag form key op s).stored = s.stored := by
  unfold gateway
  split <;> rename_i h <;> have h1 := congrArg (fun x => x.1.stored) h <;> simp only [enterFlight_stored] at h1
  · exact h1.symm
  · dsimp only
    (repeat' split) <;> simp [← h1]
@[simp] theorem doBlockWriteTimeout_stored (session tag : Nat) (s : Node) :
    (doBlockWriteTimeout session tag s).stored = s.stored := by
  unfold doBlockWriteTimeout; (repeat' split) <;> simp
@[simp] theorem doSessionIdleRelease_stored (session : Nat) (s : Node) :
    (doSessionIdleRelease session s).stored = s.stored := by
  unfold doSessionIdleRelease; split <;> simp
@[simp] theorem doRemoteAnswerTimeout_stored (session tag : Nat) (s : Node) :
    (doRemoteAnswerTimeout session tag s).stored = s.stored := by
  simp only [doRemoteAnswerTimeout]; (repeat' split) <;> simp_all
@[simp] theorem doFKeyResult_stored (session tag : Nat) (s : Node) :
    (doFKeyResult session tag s).stored = s.stored := by
  unfold doFKeyResult; split <;> simp
@[simp] theorem doDeviceStateFrame_stored (st : DevState) (s : Node) :
    (doDeviceStateFrame st s).stored = s.stored := by
  unfold doDeviceStateFrame; split <;> simp
@[simp] theorem doDapResp_stored (src tag : Nat) (bytes : List Byte) (s : Node) :
    (doDapResp src tag bytes s).stored = s.stored := by
  simp only [doDapResp]; (repeat' split) <;> simp_all
@[simp] theorem chainFromHub_stored (f : ChainFrame) (s : Node) : (chainFromHub f s).stored = s.stored := by
  simp only [chainFromHub]; (repeat' split) <;> simp_all
@[simp] theorem tunnelOut_stored (f : ChainFrame) (s : Node) : (tunnelOut f s).stored = s.stored := by
  unfold tunnelOut; split <;> simp
@[simp] theorem chainFromField_stored (f : ChainFrame) (s : Node) : (chainFromField f s).stored = s.stored := by
  unfold chainFromField; split <;> simp
@[simp] theorem slotArrives_stored (i : Nat) (s : Node) : (slotArrives i s).stored = s.stored := by
  simp only [slotArrives]; (repeat' split) <;> simp_all
@[simp] theorem takeMessage_stored (d : Die) (m : Msg) (s : Node) : (takeMessage d m s).stored = s.stored := by
  unfold takeMessage; (repeat' split) <;> simp
@[simp] theorem oweCredit_stored (d : Die) (s : Node) : (oweCredit d s).stored = s.stored := by
  unfold oweCredit; split <;> simp
@[simp] theorem acceptFrame_stored (d : Die) (seq : Nat) (s : Node) : (acceptFrame d seq s).stored = s.stored := by
  unfold acceptFrame; (repeat' split) <;> simp
@[simp] theorem discardData_stored (d : Die) (seq : Nat) (s : Node) : (discardData d seq s).stored = s.stored := by
  unfold discardData; simp
@[simp] theorem doDataFrame_stored (d : Die) (stream seq : Nat) (intact : Bool) (s : Node) :
    (doDataFrame d stream seq intact s).stored = s.stored := by
  simp only [doDataFrame]; (repeat' split) <;> simp_all
@[simp] theorem clearRetention_stored (d : Die) (s : Node) : (clearRetention d s).stored = s.stored := by
  unfold clearRetention; simp
@[simp] theorem applyRow_stored (d : Die) (row : List Word) (map : Nat) (s : Node) :
    (applyRow d row map s).stored = s.stored := by
  unfold applyRow; simp
@[simp] theorem releaseStartup_stored (d : Die) (s : Node) : (releaseStartup d s).stored = s.stored := by
  unfold releaseStartup; simp
@[simp] theorem reseal_stored (d : Die) (s : Node) : (reseal d s).stored = s.stored := by
  simp only [reseal]; (repeat' split) <;> simp_all
@[simp] theorem startTime_stored (s : Node) : (startTime s).stored = s.stored := by
  simp only [startTime]; (repeat' split) <;> simp_all
@[simp] theorem startCan_stored (s : Node) : (startCan s).stored = s.stored := by
  unfold startCan; simp
@[simp] theorem answerTrain_stored (s : Node) : (answerTrain s).stored = s.stored := by
  unfold answerTrain; simp
@[simp] theorem trainDie_stored (d : Die) (s : Node) : (trainDie d s).stored = s.stored := by
  unfold trainDie; simp
@[simp] theorem offerForces_stored (d : Die) (s : Node) : (offerForces d s).stored = s.stored := by
  unfold offerForces; simp
@[simp] theorem agreeDirection_stored (first : Bool) (s : Node) : (agreeDirection first s).stored = s.stored := by
  simp only [agreeDirection]; (repeat' split) <;> simp_all
@[simp] theorem doTrainingAttemptTimeout_stored (s : Node) : (doTrainingAttemptTimeout s).stored = s.stored := by
  unfold doTrainingAttemptTimeout; split <;> simp
@[simp] theorem doPartnerWaitExpiry_stored (d : Die) (s : Node) : (doPartnerWaitExpiry d s).stored = s.stored := by
  unfold doPartnerWaitExpiry; (repeat' split) <;> simp
@[simp] theorem doDeferredRunEntry_stored (s : Node) : (doDeferredRunEntry s).stored = s.stored := by
  unfold doDeferredRunEntry; split <;> simp
@[simp] theorem idleTick_stored (s : Node) : (idleTick s).stored = s.stored := by
  simp only [idleTick]; (repeat' split) <;> simp_all

end Sys2Proof.Machine
end

