-- ==== Sys2Proof/Laws/Tab.lean ====
section
/-! SUPPORT. Sparse tables, the form in which settings, BLOBs, counters and action memory are held: what a read gives after a write, and
that every table operation, and every operation on the settings and their ledgers, keeps the canonical form. -/

namespace Sys2Proof.Machine

open Sys2Proof

/-! Reading after writing. -/

theorem tget?_tput {α : Type} (t : Tab α) (i j : Nat) (a : α) : tget? (tput t i a) j = if i = j then some a else tget? t j := by
  induction t with
  | nil => simp [tput, tget?]
  | cons e t ih =>
    obtain ⟨k, v⟩ := e
    simp only [tput]
    split
    · simp [tget?]
    · split
      · subst i; simp only [tget?]; split <;> simp_all
      · simp only [tget?, ih]; split <;> simp_all

theorem tget?_tdel {α : Type} (t : Tab α) (i j : Nat) : tget? (tdel t i) j = if i = j then none else tget? t j := by
  induction t with
  | nil => simp [tdel, tget?]
  | cons e t ih =>
    obtain ⟨k, v⟩ := e
    simp only [tdel]
    split <;> simp only [tget?, ih] <;> repeat' split
    all_goals first | rfl | omega

@[simp] theorem tget_tput_same {α : Type} (d : α) (t : Tab α) (i : Nat) (a : α) : tget d (tput t i a) i = a := by
  simp [tget, tget?_tput]

theorem tget_tput_other {α : Type} (d : α) (t : Tab α) {i j : Nat} (a : α) (h : i ≠ j) : tget d (tput t i a) j = tget d t j := by
  simp [tget, tget?_tput, h]

@[simp] theorem tget_tset_same {α : Type} [DecidableEq α] (d : α) (t : Tab α) (i : Nat) (a : α) : tget d (tset d t i a) i = a := by
  unfold tset; split <;> simp_all [tget, tget?_tput, tget?_tdel]

theorem tget_tset_other {α : Type} [DecidableEq α] (d : α) (t : Tab α) {i j : Nat} (a : α) (h : i ≠ j) :
    tget d (tset d t i a) j = tget d t j := by
  unfold tset; split <;> simp_all [tget, tget?_tput, tget?_tdel]

@[simp] theorem tget_tmod_same {α : Type} [DecidableEq α] (d : α) (t : Tab α) (i : Nat) (g : α → α) :
    tget d (tmod d t i g) i = g (tget d t i) := by simp [tmod]

theorem tget_tmod_other {α : Type} [DecidableEq α] (d : α) (t : Tab α) {i j : Nat} (g : α → α) (h : i ≠ j) :
    tget d (tmod d t i g) j = tget d t j := by simp [tmod, tget_tset_other d t _ h]

/-! The canonical form. -/

theorem twfFrom_weaken {α : Type} (t : Tab α) {a b : Nat} (h : a ≤ b) (w : twfFrom b t = true) : twfFrom a t = true := by
  cases t with
  | nil => rfl
  | cons e t => simp only [twfFrom, Bool.and_eq_true, decide_eq_true_eq] at *; exact ⟨by omega, w.2⟩

theorem twfFrom_tput {α : Type} (t : Tab α) (b i : Nat) (a : α) (h : b ≤ i) (w : twfFrom b t = true) : twfFrom b (tput t i a) = true := by
  induction t generalizing b with
  | nil => simpa [tput, twfFrom] using h
  | cons e t ih =>
    obtain ⟨k, v⟩ := e
    simp only [twfFrom, Bool.and_eq_true, decide_eq_true_eq] at w
    simp only [tput]
    split
    · simp only [twfFrom, Bool.and_eq_true, decide_eq_true_eq]; exact ⟨h, by omega, w.2⟩
    · split
      · subst i; simp only [twfFrom, Bool.and_eq_true, decide_eq_true_eq]; exact w
      · simp only [twfFrom, Bool.and_eq_true, decide_eq_true_eq]; exact ⟨w.1, ih (k + 1) (by omega) w.2⟩

theorem twfFrom_tdel {α : Type} (t : Tab α) (b i : Nat) (w : twfFrom b t = true) : twfFrom b (tdel t i) = true := by
  induction t generalizing b with
  | nil => rfl
  | cons e t ih =>
    obtain ⟨k, v⟩ := e
    simp only [twfFrom, Bool.and_eq_true, decide_eq_true_eq] at w
    simp only [tdel]
    split
    · exact twfFrom_weaken _ (by omega) (ih (k + 1) w.2)
    · simp only [twfFrom, Bool.and_eq_true, decide_eq_true_eq]; exact ⟨w.1, ih (k + 1) w.2⟩

theorem twfFrom_filter {α : Type} (p : Nat × α → Bool) (t : Tab α) (b : Nat) (w : twfFrom b t = true) : twfFrom b (t.filter p) = true := by
  induction t generalizing b with
  | nil => rfl
  | cons e t ih =>
    obtain ⟨k, v⟩ := e
    simp only [twfFrom, Bool.and_eq_true, decide_eq_true_eq] at w
    simp only [List.filter_cons]
    split
    · simp only [twfFrom, Bool.and_eq_true, decide_eq_true_eq]; exact ⟨w.1, ih (k + 1) w.2⟩
    · exact twfFrom_weaken _ (by omega) (ih (k + 1) w.2)

theorem twf_tput {α : Type} {t : Tab α} (i : Nat) (a : α) (w : twf t = true) : twf (tput t i a) = true :=
  twfFrom_tput t 0 i a (Nat.zero_le i) w

theorem twf_tdel {α : Type} {t : Tab α} (i : Nat) (w : twf t = true) : twf (tdel t i) = true := twfFrom_tdel t 0 i w

theorem twf_tset {α : Type} [DecidableEq α] (d : α) {t : Tab α} (i : Nat) (a : α) (w : twf t = true) : twf (tset d t i a) = true := by
  unfold tset; split
  · exact twf_tdel i w
  · exact twf_tput i a w

theorem twf_tmod {α : Type} [DecidableEq α] (d : α) {t : Tab α} (i : Nat) (g : α → α) (w : twf t = true) : twf (tmod d t i g) = true :=
  twf_tset d i _ w

theorem twf_filter {α : Type} (p : Nat × α → Bool) {t : Tab α} (w : twf t = true) : twf (t.filter p) = true := twfFrom_filter p t 0 w

theorem twf_tover {α : Type} (new : Tab α) {t : Tab α} (w : twf t = true) : twf (tover new t) = true := by
  unfold tover
  induction new generalizing t with
  | nil => exact w
  | cons e new ih => exact ih (twf_tput e.1 e.2 w)

theorem twf_savable {α : Type} (d : Die) (t : Tab α) : twf (savable d t) = true := twf_tover _ rfl

/-! Settings and ledgers. -/

/-- The four parts of the settings being in order, read off one node. -/
theorem settingsOk_iff (s : Node) :
    s.settingsOk = true ↔ twf s.vals = true ∧ twf s.blobs = true ∧ s.nLedger.ok = true ∧ s.fLedger.ok = true := by
  simp [Node.settingsOk, and_assoc]

/-- What leaves the settings alone keeps them in order. -/
theorem settingsOk_of_stored {s t : Node} (h : t.stored = s.stored) : t.settingsOk = s.settingsOk := by
  simp only [Node.stored, Prod.mk.injEq] at h
  simp [Node.settingsOk, h.1, h.2.1, h.2.2.1, h.2.2.2]

theorem setVal_settingsOk (key sel v : Nat) {s : Node} (h : s.settingsOk = true) : (setVal key sel v s).settingsOk = true := by
  rw [settingsOk_iff] at *; exact ⟨twf_tset _ _ _ h.1, h.2⟩

theorem setBlob_settingsOk (key : Nat) (v : List Byte) {s : Node} (h : s.settingsOk = true) : (setBlob key v s).settingsOk = true := by
  rw [settingsOk_iff] at *; exact ⟨h.1, twf_tset _ _ _ h.2.1, h.2.2⟩

theorem dropVals_settingsOk (d : Die) {s : Node} (h : s.settingsOk = true) : (dropVals d s).settingsOk = true := by
  rw [settingsOk_iff] at *; exact ⟨twf_filter _ h.1, twf_filter _ h.2.1, h.2.2⟩

theorem loadArea_settingsOk (a : Area) {s : Node} (h : s.settingsOk = true) : (loadArea a s).settingsOk = true := by
  unfold loadArea; split
  · rw [settingsOk_iff] at *; exact ⟨twf_tover _ h.1, twf_tover _ h.2.1, h.2.2⟩
  · exact h

theorem onlyIf_settingsOk {g : Node → Node} (hg : ∀ s, s.settingsOk = true → (g s).settingsOk = true) (c : Bool) {s : Node}
    (h : s.settingsOk = true) : (onlyIf c g s).settingsOk = true := by
  unfold onlyIf; split
  · exact hg s h
  · exact h

theorem forEach_settingsOk {α : Type} {g : α → Node → Node} (hg : ∀ a s, s.settingsOk = true → (g a s).settingsOk = true) (l : List α)
    {s : Node} (h : s.settingsOk = true) : (forEach l g s).settingsOk = true := by
  unfold forEach
  induction l generalizing s with
  | nil => exact h
  | cons a l ih => exact ih (hg a s h)

/-! Check words of the default rows (R72). -/

theorem crcBit_lt (c : Nat) (b : Bool) : crcBit c b < 16777216 := by
  have h : c * 2 % 16777216 < 2 ^ 24 := Nat.mod_lt _ (by decide)
  simp only [crcBit]
  split
  · exact Nat.xor_lt_two_pow h (by decide)
  · exact h

theorem crcBits_lt (n w c : Nat) (h : c < 16777216) : crcBits n w c < 16777216 := by
  induction n generalizing c with
  | zero => exact h
  | succ n ih => exact ih _ (crcBit_lt c _)

theorem crcWords_lt (ws : List Word) : crcWords ws < 16777216 := by
  have h : ∀ c, c < 16777216 → ws.foldl (fun c w => crcBits 24 w.toNat c) c < 16777216 := by
    induction ws with
    | nil => exact fun c hc => hc
    | cons w ws ih => exact fun c hc => ih _ (crcBits_lt 24 _ c hc)
  exact h _ (by decide)

/-- A row of seven words that is sealed carries its check word. -/
theorem rowCheck_sealRow (ws : List Word) (h : ws.length = 7) : rowCheck (sealRow ws) = true := by
  have hm : crcWords ws % 16777216 = crcWords ws := Nat.mod_eq_of_lt (crcWords_lt ws)
  simp [rowCheck, sealRow, rowWord, h, hm]

theorem rowInForce_length (d : Die) (row : List Word) : (rowInForce d row).length = 8 := by
  unfold rowInForce; split
  · rename_i h; simp [rowOk, rowCheck] at h; exact h.1.1.1
  · rfl

theorem rewriteMap_settingsOk (map : Nat) (upper : Bool) {s : Node} (h : s.settingsOk = true) :
    (rewriteMap map upper s).settingsOk = true := by
  rw [settingsOk_iff] at *
  refine ⟨h.1, h.2.1, h.2.2.1, ?_⟩
  have w := h.2.2.2
  simp only [Ledger.ok, Bool.and_eq_true] at w
  simp only [rewriteMap, Ledger.ok, Bool.and_eq_true]
  exact ⟨w.1, rowCheck_sealRow _ (by simp [rowInForce_length])⟩

theorem commitPart_settingsOk (vals : Tab Nat) (blobs : Tab (List Byte)) (part : Nat) {s : Node} (h : s.settingsOk = true) :
    (commitPart vals blobs part s).settingsOk = true := by
  simp only [commitPart, settingsOk_of_stored (bump_stored ..)]
  rw [settingsOk_iff] at h
  have n := h.2.2.1
  have f := h.2.2.2
  simp only [Ledger.ok, Bool.and_eq_true] at n f
  split <;> rw [settingsOk_iff] <;> simp only [Ledger.ok, Bool.and_eq_true]
  · exact ⟨h.1, h.2.1, ⟨⟨twf_savable .n vals, twf_savable .n blobs⟩, n.2⟩, f⟩
  · exact ⟨h.1, h.2.1, n, ⟨⟨twf_savable .f vals, twf_savable .f blobs⟩, f.2⟩⟩
  · exact ⟨h.1, h.2.1, ⟨n.1, rowCheck_sealRow _ rfl⟩, f⟩
  · exact ⟨h.1, h.2.1, n, ⟨f.1, rowCheck_sealRow _ rfl⟩⟩

end Sys2Proof.Machine
end

