-- ==== Sys2Proof/Tests/States.lean ====
section
/-! SUPPORT. Small states from which the tests start. -/

namespace Sys2Proof.Tests

open Sys2Proof Sys2Proof.Machine

/-- A trained Clasp half. -/
def half : ClaspHalf := { link := .up, synth := .locked, trained := true, credits := 32 }

/-- A node with both dies ready and the Clasp trained, in SETUP, with the number 1, an N-port host and an active CAN port. -/
def running : Node :=
  { n :=
    { phase := .ready, clasp := half, dev := .setup, number := 1, trainings := 1
      ch := { rowApplied := true, levels := 0 }
      can := { state := .active }, port := { mode := 1 }
      dict := { sessions := [(0, { path := .nport, client := 0, epoch := 1 })] } }
    f :=
    { phase := .ready, clasp := half, dev := .setup
      ch := { rowApplied := true, levels := 0 }
      chain := { settling := true, configured := 0 } } }

/-- The same node before its Clasp has trained. -/
def apart : Node :=
  { n :=
    { phase := .ready, clasp := { link := .training, synth := .locked }, can := { state := .active }, port := { mode := 1 }
      ch := { rowApplied := true }
      dict := { sessions := [(0, { path := .nport, client := 0, epoch := 1 })] } }
    f := { phase := .ready, clasp := { link := .training, synth := .locked }, ch := { rowApplied := true } } }

/-- Both dies start. -/
def starting : Node := { n := { phase := .starting }, f := { phase := .starting } }

/-- Sessions 1 to 6, held by the CAN nodes 11 to 16. -/
def sixSessions : Tab Session := [1, 2, 3, 4, 5, 6].map fun i => (i, { path := .can, client := 10 + i, epoch := i })

/-- The running node with sessions 1 to 6 in use. -/
def crowded : Node := { running with n := { running.n with dict := { sessions := sixSessions } } }

/-- The running node with a block write of K:0019 in flight: CAN node 9, tag 5, 62 bytes, of which 58 have come. -/
def collectTxn : Txn :=
  ⟨1, 5, .can, 9, 0x0019, .writeBlock ⟨0, true, 62, true, []⟩, [], .collecting 62 1 (List.replicate 58 7), 0, [], none⟩

/-- The running node with that transaction. -/
def midBlock : Node :=
  { running with n := { running.n with dict := { sessions := [(1, { path := .can, client := 9, epoch := 2 })], txns := [collectTxn] } } }

/-- A READ of K:4005 by CAN node 9, on its way to the F-die. -/
def farTxn : Txn := ⟨1, 5, .can, 9, 0x4005, .read, [], .toF, 0, [], none⟩

/-- The running node with that read in the F-die's inbox. -/
def farBusy : Node :=
  { midBlock with
    n := { midBlock.n with dict := { midBlock.n.dict with txns := [farTxn] } }
    f := { midBlock.f with inbox := [(farTxn, true)] } }

/-- The running node with the result of that read on its way back. -/
def farDone : Node :=
  { midBlock with n := { midBlock.n with dict := { midBlock.n.dict with txns := [{ farTxn with stage := .fromF, data := [1, 0, 0] }] } } }

/-- A list in action memory with these step words. -/
def listBytes (ws : List Nat) : List Byte := leBytes 3 ws.length ++ ws.flatMap (leBytes 3)

/-- The running node in RUN, with slot 0 of the N-die running list 64. -/
def onN (ws : List Nat) (run : Run) (q : Sequencer) : Node :=
  { running with
    blobs := tput [] (slotOf 0x3240 0) (listBytes ws)
    n := { running.n with dev := .run, seq := { q with slots := [(0, { state := .running, list := 64, run := { run with list := 64 } })] } } }

/-- The running node in RUN, with slot 0 of the F-die running list 0. -/
def onF (ws : List Nat) (run : Run) (q : Sequencer) : Node :=
  { running with
    blobs := tput [] (slotOf 0x3200 0) (listBytes ws)
    f := { running.f with dev := .run, seq := { q with slots := [(0, { state := .running, list := 0, run := run })] } } }

/-- A port that is UP in a role with a neighbour. -/
def linked (r : Role) (serial number : Nat) : Link := { state := .up, role := r, serial := serial, neighbour := number, heard := true, hellos := 3 }

/-- The running node as node 2 of a Chain: its parent is the root 1, its child is 3, its standby port leads to 4. -/
def inTree : Node :=
  { running with
    n := { running.n with number := 2 }
    f :=
      { running.f with
        linkA := linked .parent 11 1, linkB := linked .child 13 3, linkC := linked .standby 14 4
        chain :=
          { state := .up, number := 2, rootNumber := 1, depth := 1, epoch := 1, parentPort := some .a, settling := true, settled := true
            heardAny := true, best := some ⟨5, 11, 1⟩, table := [⟨1, 11, 0, 0⟩, ⟨2, 12, 1, 1⟩, ⟨3, 13, 2, 2⟩, ⟨4, 14, 1, 1⟩] } } }

/-- The running node as the root 1 of a Chain with the children 2 and 3. -/
def atRoot : Node :=
  { running with
    f :=
      { running.f with
        linkA := linked .child 12 2, linkB := linked .child 13 3
        fol := { state := .aligned }
        chain :=
          { state := .up, root := true, number := 1, rootNumber := 1, epoch := 1, settling := true, settled := true, candidateStrap := true
            heardAny := true, best := some ⟨5, ownSerial, 1⟩, table := [⟨1, 11, 0, 0⟩, ⟨2, 12, 1, 1⟩, ⟨3, 13, 1, 1⟩] } } }

/-- A well-formed request of the N-port host under tag 5. -/
def ask : Rq := ⟨.nport, 0, 0, 5, .good, false⟩

/-- A well-formed request of CAN node 9 under tag 5. -/
def canAsk : Rq := ⟨.can, 9, 1, 5, .good, false⟩

/-- The row of a key. -/
def rowOf (key : Nat) : KeyRow := (keyRow key).getD (ro .n 0 .u8)

/-- A state of that node with nothing waiting. -/
def st (s : Node) : State := { node := s }

end Sys2Proof.Tests
end

