-- ==== Sys2Proof/WellFormed.lean ====
section
/-! DEFINITION. Which commands are well formed: every operand lies in the range that its field has in the manual. A value that a
rule refuses with a status code is well formed: the refusal is the command's effect. -/

namespace Sys2Proof

/-- A number fits a field of some bits. -/
def fits (width n : Nat) : Bool := decide (n < 2 ^ width)

/-- A node number of a frame field: 0 to 127 (R120, R316). -/
def nodeField (n : Nat) : Bool := fits 7 n

/-- An operand word of a command key, if one is given (R126). -/
def argOk (a : Option Nat) : Bool := a.all (fits 24)

/-- A value as a request can carry it (R5, R126). -/
def Val.wf : Val → Bool
  | .word n => fits 24 n
  | .pair n => fits 48 n
  | .bytes bs => decide (bs.length ≤ 4096)

/-- A segment of a block write, in a total of at most 4096 bytes (R5, R127). The N-port sends the whole in one. -/
def Segment.wf (x : Segment) : Bool := fits 7 x.number && decide (x.total ≤ 4096) && decide (x.data.length ≤ 4096)

/-- Selects of SELECT_READ: 1 or 2, each a key and one byte (R126, R129). -/
def pairsOk (l : List (Nat × Nat)) : Bool := decide (1 ≤ l.length) && decide (l.length ≤ 2) && l.all fun p => fits 16 p.1 && fits 8 p.2

/-- An operation as a request can carry it. -/
def DapOp.wf : DapOp → Bool
  | .read => true
  | .write v => v.wf
  | .readBlock offset length => fits 16 offset && fits 16 length
  | .writeBlock x => x.wf
  | .command a => argOk a
  | .selectRead l => pairsOk l

/-- An envelope: the fields of R120, R148 and R316, and a path that a client has (R87). -/
def Rq.wf (r : Rq) : Bool := nodeField r.client && nodeField r.dest && fits 8 r.tag && r.path != .internal

/-- A Chain frame's fields fit their widths (R316). -/
def ChainFrame.wf (f : ChainFrame) : Bool :=
  nodeField f.dst && nodeField f.src && fits 5 f.type && fits 5 f.hop && fits 8 f.seq && fits 7 f.typeField && fits 2 f.pad
    && decide (f.words.length ≤ 24) && f.words.all (fits 24)

/-- An event of an EDGE word (R178). -/
def EdgeEvent.wf (e : EdgeEvent) : Bool := fits 6 e.fine && decide (e.age ≤ 6)

def Hello.wf (h : Hello) : Bool :=
  fits 48 h.serial && fits 2 h.letter && fits 8 h.epoch && nodeField h.number && fits 48 h.rootSerial

def Discover.wf (x : Discover) : Bool := fits 8 x.epoch && fits 8 x.priority && fits 48 x.rootSerial && fits 5 x.hop

def ReportPort.wf (x : ReportPort) : Bool := fits 48 x.neighbour && fits 2 x.letter

def Report.wf (x : Report) : Bool := fits 48 x.serial && nodeField x.configured && x.portA.wf && x.portB.wf && x.portC.wf

/-- A row of an assignment: a number, a serial, its parent's number and a depth of at most 31 (R329). -/
def NodeRow.wf (r : NodeRow) : Bool := nodeField r.number && fits 48 r.serial && nodeField r.parent && fits 5 r.depth

def Candidate.wf (c : Candidate) : Bool := nodeField c.number && nodeField c.target && fits 6 c.depth

def TimeFrame.wf (t : TimeFrame) : Bool := fits 5 t.hop && fits 8 t.seq && fits 24 t.correction

def Beacon.wf (b : Beacon) : Bool :=
  fits 7 b.depth && fits 16 b.rendezvous && fits 8 b.interval && fits 7 b.hold && fits 16 b.halfSpan

def WakeWord.wf (w : WakeWord) : Bool := nodeField w.sender && fits 2 w.safe0 && fits 2 w.safe1 && fits 4 w.cause && fits 8 w.misses

def Alert.wf (a : Alert) : Bool := fits 8 a.flags && fits 5 a.source && fits 2 a.cls && nodeField a.origin && fits 8 a.seq

/-- A tunnel body (R163): the fields of R163 fit their bytes. -/
def TunnelBody.wf (b : TunnelBody) : Bool := fits 8 b.target && fits 8 b.flags && fits 8 b.dummy && fits 16 b.read

/-- A crossing of R228. -/
def crossingOk (c : Nat) : Bool := (decide (1 ≤ c) && decide (c ≤ 5)) || (decide (17 ≤ c) && decide (c ≤ 26))

/-- An island of a die (R225, R226). -/
def islandOk (d : Die) (i : Nat) : Bool :=
  decide (1 ≤ i) && match d with
    | .n => decide (i ≤ 7)
    | .f => decide (i ≤ 12)

/-- A command is well formed. -/
def Instr.wf (c : Instr) : Bool :=
  match c with
  | .nVbatValid | .nRstRelease | .vddfValid | .supplyUndervoltage _ | .nDieReady .. | .fDieReady .. => true
  | .trainingComplete _ | .trainingAttemptTimeout | .partnerWaitExpiry _ | .deferredRunEntry => true
  | .read rq key => rq.wf && fits 16 key
  | .write rq key v => rq.wf && fits 16 key && v.wf
  | .readBlock rq key offset length => rq.wf && fits 16 key && fits 16 offset && fits 16 length
  | .writeBlock rq key seg => rq.wf && fits 16 key && seg.wf && (rq.path == .nport || decide (seg.data.length ≤ 60))
  | .blockWriteTimeout session tag => decide (session ≤ 7) && fits 8 tag
  | .selectRead rq pairs key => rq.wf && pairsOk pairs && fits 16 key
  | .sessionIdleRelease session => decide (1 ≤ session) && decide (session ≤ 6)
  | .remoteAnswerTimeout session tag => decide (session ≤ 7) && fits 8 tag
  | .fKeyTransaction session tag => decide (session ≤ 7) && fits 8 tag
  | .fKeyResult session tag => decide (session ≤ 7) && fits 8 tag
  | .deviceStateFrame _ => true
  | .stateRequest rq arg | .save rq arg | .restore rq arg | .dieReset rq arg => rq.wf && argOk arg
  | .releaseOwnSession rq | .sealQuery rq => rq.wf
  | .saveComplete _ | .restoreApplyAck | .restoreComplete .. | .dieResetBegin => true
  | .triggerFrame src dest tag length _ list scope =>
    nodeField src && nodeField dest && fits 7 tag && decide (length ≤ 64) && fits 7 list && fits 8 scope
  | .canTimeSync src tag _ => nodeField src && fits 7 tag
  | .canTimeFollowUp src tag _ era8 _ => nodeField src && fits 7 tag && fits 8 era8
  | .canTimeSend _ => true
  | .chainTunnelFrame src dest service tag words =>
    nodeField src && nodeField dest && fits 5 service && fits 7 tag && decide (words.length ≤ 21) && words.all (fits 24)
  | .tunnelPairTimeout | .protocolException | .busOffEntry | .detourConfirmTimeout | .busOffRecovered => true
  | .errorPassiveEntry .. => true
  | .recoverNow rq => rq.wf
  | .transceiverFault _ | .transceiverReenable => true
  | .txWaitTimeout cls => decide (1 ≤ cls) && decide (cls ≤ 7)
  | .dapResponseAcked client tag => nodeField client && fits 7 tag
  | .rateWrite rq _ v => rq.wf && v.wf
  | .rateApply | .canWakeWup => true
  | .canStatusRead rq => rq.wf
  | .fetch tag dest _ _ | .repeatResponse tag dest _ _ => fits 8 tag && nodeField dest
  | .tunnel tag dest _ _ body => fits 8 tag && nodeField dest && body.wf
  | .tunnelAdmitAfterWait | .abortedFrame _ | .responseClockedOut | .nportModeApply => true
  | .tunnelComplete tag bytes => fits 8 tag && decide (bytes.length ≤ 256)
  | .tunnelTimeout tag | .heldResponseDiscard tag => fits 8 tag
  | .nportModeWrite rq v => rq.wf && v.wf
  | .nportMasterEnd bytes => decide (bytes.length ≤ 256)
  | .edgeCapture .. | .edgeReplay .. | .refreshSend _ | .timeTripleSend | .forceRepeat _ => true
  | .edgeWord _ _ first second => first.wf && second.all EdgeEvent.wf
  | .refresh _ _ count _ _ => fits 3 count
  | .timeTriple _ fraction => fits 9 fraction
  | .eraPair _ => true
  | .forceWord _ origin _ => decide (origin ≤ 5)
  | .act _ id floor list _ _ => fits 5 id && fits 8 floor && fits 7 list
  | .actRepeat _ => true
  | .actAck _ id _ outcome => fits 5 id && decide (outcome ≤ 3)
  | .faultReport _ _ _ event | .faultAcknowledge _ event => fits 8 event
  | .faultReportRepeat | .faultEntryFrame .. => true
  | .margin _ swing equalisation _ width height => fits 3 swing && fits 2 equalisation && fits 6 width && fits 8 height
  | .marginSend _ width height => fits 6 width && fits 8 height
  | .credit _ returned _ last => decide (returned ≤ 32) && fits 8 last
  | .creditSend _ => true
  | .dataFrame _ stream seq _ => fits 4 stream && fits 8 seq
  | .rateRequestHalf _ n | .rateAccept _ n | .rateRefuse _ n | .rateRequestFull _ n => fits 8 n
  | .rateRequestRetry _ | .rateSwitch => true
  | .fullRateRequest rq => rq.wf
  | .synthLockLoss _ | .synthCalibrationDone _ | .synthLockReached _ | .outageDetect _ | .outageResume .. => true
  | .outageLost _ | .lostStep0Received _ | .shiftEnd .. | .overflowForceClear _ => true
  | .directionWrite rq _ v => rq.wf && v.wf
  | .configPropose n map _ => fits 8 n && decide (map ≤ 2)
  | .configAccept n | .configRefuse n | .configCommit n | .configConfirm n => fits 8 n
  | .directionApply _ | .configProposeTimeout | .configCommitRepeat | .configConfirmTimeout => true
  | .failsafeTimeout _ | .newOutputTimerExpiry .. => true
  | .failsafeTimeoutWrite rq v => rq.wf && v.wf
  | .clockMonitorTrip d island | .islandClockRecovered d island | .islandResetRelease d island => islandOk d island
  | .hubClockFailure _ | .counterSample _ => true
  | .crossingTear crossing _ => crossingOk crossing
  | .pairReset rq arg => rq.wf && argOk arg
  | .chainTimeFrame _ t => t.wf
  | .rateSample _ | .servoRateUpdate | .sourceLoss | .stepInstant | .countWrap | .nSyncEdge _ | .fSyncEdge _ => true
  | .syncPulseOutput _ | .holdoverAlarm _ | .rateLimitAlarm => true
  | .manualTime rq v | .manualEra rq v => rq.wf && v.wf
  | .listWrite rq key bytes => rq.wf && fits 16 key && decide (bytes.length ≤ 4096)
  | .armWrite rq _ bytes => rq.wf && decide (bytes.length ≤ 4096)
  | .slotCancel rq _ arg => rq.wf && argOk arg
  | .timedInputWrite rq _ v => rq.wf && v.wf
  | .slotLaunch .. | .endStep .. | .wait .. | .join .. | .joinRelease .. | .loop .. => true
  | .level .. | .forceStep .. | .open_ .. | .close .. | .capture .. | .readkey .. | .writekey .. | .armStep .. | .trig .. => true
  | .beadStep .. | .fportStep .. | .nportStep .. => true
  | .resultRead rq _ _ offset length | .launchRecordRead rq _ offset length => rq.wf && fits 16 offset && fits 16 length
  | .hello _ h => h.wf
  | .helloSend _ | .linkSilence _ | .helloTimeout _ | .disableHoldoffExpiry _ | .chainSettleExpiry => true
  | .chainFrameRelay _ _ frame _ => frame.wf
  | .portReenable rq => rq.wf
  | .pdelayReq .. | .pdelayResp .. | .pdelaySchedule .. => true
  | .discover _ x => x.wf
  | .discoverRelay | .quietTimeExpiry | .rootCollectEnd | .assignRepeat | .noRootTimeout => true
  | .reportFrame r root epoch => r.wf && fits 48 root && fits 8 epoch
  | .assign index rows => fits 7 index && decide (rows.length ≤ 5) && rows.all NodeRow.wf
  | .commit epoch root entries frames => fits 8 epoch && nodeField root && fits 7 entries && fits 7 frames
  | .joinFrame serial configured => fits 48 serial && nodeField configured
  | .rediscover rq arg => rq.wf && argOk arg
  | .rediscoverFrame _ | .repairChoose | .tryFrame _ | .attachOkTimeout | .flip _ => true
  | .repairFrame _ x epoch => nodeField x && fits 8 epoch
  | .candidate x => x.wf
  | .attach _ x m | .attachOk _ x m => nodeField x && nodeField m
  | .topo _ rows => rows.all NodeRow.wf
  | .partitionRepairRetry | .partitionWaitExpiry | .orphanFrameDrop _ | .rootTimeSend | .statusSend => true
  | .statusFrame src can time dev _ => nodeField src && fits 2 can && fits 2 time && fits 3 dev
  | .statusStale node => nodeField node
  | .chainTrigger src _ list => nodeField src && fits 7 list
  | .alert src a => nodeField src && a.wf
  | .alertAck seq origin _ => fits 8 seq && nodeField origin
  | .dapReq rq key op => rq.wf && fits 16 key && op.wf
  | .dapResp src tag bytes => nodeField src && fits 7 tag && decide (bytes.length ≤ 72)
  | .park rq arg => rq.wf && argOk arg
  | .parkEntry | .rendezvousBeaconSend | .listenWindowOpen | .listenWindowMiss | .listeningTimeout | .adriftWindowMiss => true
  | .beacon b _ => b.wf
  | .childAnswerTimeout _ | .holdWindowEnd | .lfCalibration _ => true
  | .wakeAnswer _ w => w.wf
  | .wakeRequest _ dest w => nodeField dest && w.wf
  | .wakeNotice w => w.wf
  | .wakeRequestCmd rq arg => rq.wf && argOk arg
  | .fportTransactionEnd bytes => decide (bytes.length ≤ 4096)
  | .fportNextWork | .statusPoll .. | .programTimeout | .eraseTimeout => true
  | .windowRead rq _ offset length => rq.wf && fits 16 offset && fits 16 length
  | .programJob rq _ bytes => rq.wf && decide (bytes.length ≤ 4096)
  | .erase rq arg | .sfdpQuery rq arg | .adoptProposal rq arg => rq.wf && argOk arg
  | .recoveryPoll target _ => decide (1 ≤ target) && decide (target ≤ 7)
  | .syncNow rq _ => rq.wf
  | .beadFrame .. | .positionWindowExpiry _ | .trainEnd _ | .pullupGrant | .pullupWindowEnd _ | .overcurrentTrip .. => true
  | .lineOffEnd _ | .poweringEnd _ | .openLineFault _ | .pullupLevelFault _ | .psi5Frame .. | .psi5Silence _ => true
  | .baseWindowFault _ base => fits 16 base
  | .beadPortReenable rq => rq.wf
  | .beadModeWrite rq key v | .safeSettingWrite rq key v => rq.wf && fits 16 key && v.wf
  | .safeTick .. | .latchRecordWrite _ => true
  | .releaseForce rq => rq.wf
  | .faultDetection _ _ cause => fits 8 cause
  | .liveStateSample _ | .mergeWindowClose .. | .errPulseEnd _ | .dieResetReaction _ | .clearEntry .. => true
  | .statusClear rq _ v => rq.wf && v.wf
  | .acknowledge rq _ arg => rq.wf && argOk arg
  | .errPinRelease rq _ | .historyClear rq _ | .faultStatusRead rq _ => rq.wf
  | .fSealRelease | .fTrapNotice _ => true
  | .periodicFlush _ | .earlyFlush _ | .tokenGain _ | .flushComplete .. | .loupeFImage _ | .fCopyWrite => true
  | .flushNow rq | .startEpoch rq => rq.wf
  | .deleteEpoch rq arg => rq.wf && argOk arg
  | .cmTransient .. | .pdPulse _ | .pdWindowEnd | .bulkSnapshotTimeout => true
  | .bulkRequest src mask view offset _ => nodeField src && fits 8 mask && fits 8 view && fits 24 offset
  | .bulkAbort src => nodeField src
  | .standby rq => rq.wf
  | .idleStandbyExpiry | .standbyCreditTimeout | .standbyNotice | .wakeTimer | .nWakePin | .chainWake => true
  | .monitorSample .. | .preregFoldback => true
  | .filigreeUnlock rq arg | .filigreeDisarm rq arg => rq.wf && argOk arg
  | .filigreeLock rq => rq.wf
  | .filigreeArm rq bytes => rq.wf && decide (bytes.length ≤ 4096)
  | .filigreeSlotExpiry _ | .filigreeSlotReport .. | .unlockExpiry | .unlockLockoutExpiry => true
  | .nRstAssert | .nSelHigh | .linkFrameSent _ | .errorActiveReturn .. | .busIntegrationEnd | .eventLiveEnd .. => true
  | .canFrameSent cls => decide (cls ≤ 7)
  | .filigreeHoldEnd _ => true

end Sys2Proof
end

