-- ==== Sys2Proof/Tests/Slice0.lean ====
section
/-! SUPPORT. The tests: an ill-formed command for each check of WellFormed, small tests whose expected results are the manual's own
worked examples and rules, and for each statement a state and operands that meet what it assumes. -/

namespace Sys2Proof.Tests

open Sys2Proof Sys2Proof.Machine

/-! Ill-formed commands. -/

theorem test_wf_takes_plain_commands :
    Instr.wf (.read ask 0x0001) = true ∧ Instr.wf (.write canAsk 0x0028 (.word 1)) = true ∧ Instr.wf .nVbatValid = true ∧
      Instr.wf (.txWaitTimeout 7) = true ∧ Instr.wf (.crossingTear 26 3) = true ∧ Instr.wf (.clockMonitorTrip .f 12) = true := by decide

theorem test_wf_refuses_path : Instr.wf (.read ⟨.internal, 0, 0, 5, .good, false⟩ 0x0001) = false := by decide
theorem test_wf_refuses_client : Instr.wf (.read ⟨.can, 128, 1, 5, .good, false⟩ 0x0001) = false := by decide
theorem test_wf_refuses_destination : Instr.wf (.read ⟨.can, 9, 128, 5, .good, false⟩ 0x0001) = false := by decide
theorem test_wf_refuses_request_tag : Instr.wf (.read ⟨.can, 9, 1, 256, .good, false⟩ 0x0001) = false := by decide
theorem test_wf_refuses_key : Instr.wf (.read ask 0x10000) = false := by decide
theorem test_wf_refuses_word : Instr.wf (.write ask 0x0028 (.word 0x1000000)) = false := by decide
theorem test_wf_refuses_pair : Instr.wf (.write ask 0x0028 (.pair 0x1000000000000)) = false := by decide
set_option maxRecDepth 100000 in
theorem test_wf_refuses_string : Instr.wf (.listWrite ask 0x3200 (List.replicate 4097 0)) = false := by decide
theorem test_wf_refuses_offset : Instr.wf (.readBlock ask 0x0019 0x10000 1) = false := by decide
theorem test_wf_refuses_length : Instr.wf (.readBlock ask 0x0019 0 0x10000) = false := by decide
theorem test_wf_refuses_segment_number : Instr.wf (.writeBlock ask 0x0019 ⟨128, false, 0, false, []⟩) = false := by decide
theorem test_wf_refuses_segment_total : Instr.wf (.writeBlock ask 0x0019 ⟨0, true, 4097, true, []⟩) = false := by decide
theorem test_wf_refuses_segment_over_can : Instr.wf (.writeBlock canAsk 0x0019 ⟨1, true, 0, true, List.replicate 61 0⟩) = false := by
  decide
theorem test_wf_refuses_selects : Instr.wf (.selectRead ask [(0x4000, 1), (0x2000, 1), (0x5000, 1)] 0x2018) = false := by decide
theorem test_wf_refuses_no_select : Instr.wf (.selectRead ask [] 0x2018) = false := by decide
theorem test_wf_refuses_select_value : Instr.wf (.selectRead ask [(0x4000, 256)] 0x2018) = false := by decide
theorem test_wf_refuses_argument : Instr.wf (.save ask (some 0x1000000)) = false := by decide
theorem test_wf_refuses_session : Instr.wf (.sessionIdleRelease 7) = false ∧ Instr.wf (.fKeyResult 8 0) = false := by decide
theorem test_wf_refuses_trigger_list : Instr.wf (.triggerFrame 1 127 0 12 0 128 0) = false := by decide
theorem test_wf_refuses_trigger_length : Instr.wf (.triggerFrame 1 127 0 65 0 3 0) = false := by decide
theorem test_wf_refuses_era_byte : Instr.wf (.canTimeFollowUp 1 0 0 256 true) = false := by decide
theorem test_wf_refuses_tunnel_words : Instr.wf (.chainTunnelFrame 1 2 0 0 (List.replicate 22 0)) = false := by decide
theorem test_wf_refuses_tunnel_service : Instr.wf (.chainTunnelFrame 1 2 32 0 []) = false := by decide
theorem test_wf_refuses_can_class : Instr.wf (.txWaitTimeout 0) = false ∧ Instr.wf (.canFrameSent 8) = false := by decide
theorem test_wf_refuses_tunnel_target : Instr.wf (.tunnel 1 0 .good false ⟨256, 0, [], [], 0, [], 0, true⟩) = false := by decide
set_option maxRecDepth 100000 in
theorem test_wf_refuses_tunnel_result : Instr.wf (.tunnelComplete 1 (List.replicate 257 0)) = false := by decide
theorem test_wf_refuses_fine_time : Instr.wf (.edgeWord .n .clean ⟨0, 64, 0⟩ none) = false := by decide
theorem test_wf_refuses_age : Instr.wf (.edgeWord .n .clean ⟨0, 0, 0⟩ (some ⟨1, 0, 7⟩)) = false := by decide
theorem test_wf_refuses_refresh_count : Instr.wf (.refresh .n .clean 8 0 0) = false := by decide
theorem test_wf_refuses_time_fraction : Instr.wf (.timeTriple 0 512) = false := by decide
theorem test_wf_refuses_force_origin : Instr.wf (.forceWord .n 6 0) = false := by decide
theorem test_wf_refuses_act_id : Instr.wf (.act .n 32 0 0 0 true) = false := by decide
theorem test_wf_refuses_act_outcome : Instr.wf (.actAck .n 0 false 4) = false := by decide
theorem test_wf_refuses_event_number : Instr.wf (.faultAcknowledge 0 256) = false := by decide
theorem test_wf_refuses_margin : Instr.wf (.margin .n 8 0 true 0 0) = false ∧ Instr.wf (.marginSend .n 64 0) = false := by decide
theorem test_wf_refuses_credit : Instr.wf (.credit .n 33 false 0) = false := by decide
theorem test_wf_refuses_stream : Instr.wf (.dataFrame .n 16 0 true) = false := by decide
theorem test_wf_refuses_rate_number : Instr.wf (.rateAccept .n 256) = false := by decide
theorem test_wf_refuses_map : Instr.wf (.configPropose 0 3 false) = false := by decide
theorem test_wf_refuses_island : Instr.wf (.clockMonitorTrip .n 8) = false ∧ Instr.wf (.clockMonitorTrip .f 0) = false := by decide
theorem test_wf_refuses_crossing : Instr.wf (.crossingTear 6 0) = false ∧ Instr.wf (.crossingTear 27 0) = false := by decide
theorem test_wf_refuses_correction : Instr.wf (.chainTimeFrame .a ⟨0, 0, 0, 0, 0x1000000, false, false, 0, 0, 0⟩) = false := by decide
theorem test_wf_refuses_hello : Instr.wf (.hello .a ⟨0, 4, false, false, false, 0, 0, 0⟩) = false := by decide
theorem test_wf_refuses_chain_words :
    Instr.wf (.chainFrameRelay .a .none ⟨1, 2, 0, 1, 0, false, 0, 0, List.replicate 25 0⟩ false) = false := by decide
theorem test_wf_refuses_hop : Instr.wf (.chainFrameRelay .a .none ⟨1, 2, 0, 32, 0, false, 0, 0, []⟩ false) = false := by decide
theorem test_wf_refuses_discover : Instr.wf (.discover .a ⟨256, 0, 0, 1⟩) = false := by decide
theorem test_wf_refuses_report : Instr.wf (.reportFrame ⟨1, 128, false, ⟨0, 0, false, false⟩, ⟨0, 0, false, false⟩, ⟨0, 0, false, false⟩⟩ 0 0) =
    false := by decide
theorem test_wf_refuses_assignment : Instr.wf (.assign 0 (List.replicate 6 ⟨1, 1, 0, 0⟩)) = false := by decide
theorem test_wf_refuses_depth : Instr.wf (.assign 0 [⟨1, 1, 0, 32⟩]) = false := by decide
theorem test_wf_refuses_commit : Instr.wf (.commit 0 0 128 0) = false := by decide
theorem test_wf_refuses_candidate : Instr.wf (.candidate ⟨1, true, .a, 2, 64⟩) = false := by decide
theorem test_wf_refuses_status : Instr.wf (.statusFrame 1 4 0 0 false) = false := by decide
theorem test_wf_refuses_alert : Instr.wf (.alert 1 ⟨0, 32, 0, 1, 0, 0, 0⟩) = false := by decide
theorem test_wf_refuses_operation : Instr.wf (.dapReq canAsk 0x7150 (.command (some 0x1000000))) = false := by decide
theorem test_wf_refuses_answer_bytes : Instr.wf (.dapResp 1 0 (List.replicate 73 0)) = false := by decide
theorem test_wf_refuses_beacon : Instr.wf (.beacon ⟨128, 0, 0, 0, false, 0, 0, 0⟩ 0) = false := by decide
theorem test_wf_refuses_wake_word : Instr.wf (.wakeNotice ⟨1, 4, 0, false, 0, 0⟩) = false := by decide
theorem test_wf_refuses_target : Instr.wf (.recoveryPoll 0 0) = false ∧ Instr.wf (.recoveryPoll 8 0) = false := by decide
theorem test_wf_refuses_base : Instr.wf (.baseWindowFault 0 0x10000) = false := by decide
theorem test_wf_refuses_cause : Instr.wf (.faultDetection .n 0 256) = false := by decide
theorem test_wf_refuses_bulk_request : Instr.wf (.bulkRequest 1 256 0 0 true) = false := by decide
set_option maxRecDepth 100000 in
theorem test_wf_refuses_poll_string : Instr.wf (.fportTransactionEnd (List.replicate 4097 0)) = false := by decide

/-! Small tests. Each expects what a worked example or a rule of the manual says. -/

/-- The node after a command, if it completes. -/
def after (c : Instr) (s : Node) : Option Node :=
  match exec c (st s) with
  | .next t => some t.node
  | .fault _ => none
  | .refused _ => none

/-- 00_scope.md: 40 quarter-seconds and 4,194,304 ticks are 10.0625 s. -/
theorem test_ticks_of_the_scope_example : 16 * (0x28 * 16777216 + 0x400000) = 161 * ticksPerSecond := by decide

/-- R482: the default of N source 2 is 0x46 and that of F source 4 is 0x4F. -/
theorem test_default_policies : Node.setting {} .n 2 = 0x46 ∧ Node.setting {} .f 4 = 0x4F := by decide

/-- R9: K:0001 reads 0x002481. -/
theorem test_part_number :
    (after (.read ask 0x0001) running).bind (fun t => t.n.port.out) = some (0x50, 5, [1, 0, 1, 0, 0x81, 0x24, 0]) := by decide

/-- 06_n_port.md, worked example: K:0012 of node 2 under tag 1 is answered 50 01 07 00 01 00 12 00 02 00 00. -/
theorem test_read_of_the_module_controller :
    (after (.read ⟨.nport, 0, 0, 1, .good, false⟩ 0x0012) { running with n := { running.n with number := 2 } }).bind (fun t => t.n.port.out) =
      some (0x50, 1, [1, 0, 0x12, 0, 2, 0, 0]) := by decide

/-- 06_n_port.md, worked example: the tunnel frame is answered DEFERRED, 51 02 01 00 02. -/
theorem test_tunnel_is_deferred :
    (after (.tunnel 2 0 .good false ⟨1, 0, [3], [0x20], 0, [], 6, true⟩) { running with vals := [(slotOf 0x1208 0, 1), (slotOf 0x7010 1, 1)] }).bind
      (fun t => t.n.port.out) = some (0x51, 2, [2]) := by decide

/-- 16_safe_inputs.md, worked example: the 40th disagreeing tick declares it, and K:6020 reads 0xCC0028. -/
theorem test_welded_contact :
    (after (.safeTick false true false false)
      { running with
        vals := [(slotOf 0x6010 0, 1), (slotOf 0x6014 0, 40)]
        f := { running.f with safe0 := { state := .transition, chB := true, count := 39, forcing := true } } }).map
      (fun t => (t.pairStatus 0, t.latched .f 16)) = some (0xCC0028, true) := by decide

/-- 15_bead_ports.md, worked example: position 1 is stored as F0 05 00 00 and position 7 as 00 00 00 30. -/
theorem test_bead_records : recordBytes (0x5F0, recordByte 0 0) = [0xF0, 5, 0, 0] ∧ recordBytes (0, recordByte 3 9) = [0, 0, 0, 0x30] := by
  decide

/-- 15_bead_ports.md, worked example: with position 7 alone failing, K:5033 reads 0x0FBF, and K:5111 for it 0x010030. -/
theorem test_train_of_twelve :
    (after (.trainEnd 0)
      { running with
        vals := [(slotOf 0x5010 0, 1), (slotOf 0x5012 0, 12)]
        f :=
          { running.f with
            beads := [(0, { state := .train, position := 13, answering := 0x0FBF, pos := [(7, { since := 1, byte3 := 0x30 })] })] } }).map
      (fun t => ((t.bead 0).answers, posStatus ((t.bead 0).at_ 7))) = some (0x0FBF, 0x010030) := by decide

set_option maxRecDepth 4000 in
/-- 08_direct_channels.md, worked example: SAFE0 leaves ACTIVE and forces CH1 and CH5 on both dies. -/
theorem test_charge_interlock :
    (after (.safeTick false false false false)
      { running with
        vals := [(slotOf 0x6010 0, 1), (slotOf 0x6011 0, 0x22)]
        f := { running.f with safe0 := { state := .active, chA := true, chB := true } } }).map
      (fun t => (t.f.ch.originMask 0, t.offered .f (.force 0 0x22))) = some (0x22, true) := by decide

/-- 11_timed_actions.md, worked example: 0x040086 waits 134 ticks; the header 0x000010 says action memory and 16 words. -/
theorem test_wait_of_list_3 :
    (after (.wait .f (.slot 0)) (onF [0x040086] { sched := 2 } {})).map
      (fun t => (tget {} t.f.seq.slots 0).run.sched) = some 136 ∧ listLocation [0x10, 0, 0] = 0 ∧ listLength [0x10, 0, 0] = 16 := by decide

/-- R268: a manual set of the time is refused outside its sources; K:3003 = 3 takes it, and the count is set. -/
theorem test_manual_set :
    (after (.manualTime ask (.pair 0x28400000)) { running with vals := [(slotOf 0x3003 0, 3)] }).map (fun t => t.n.hm.count) =
      some 0x28400000 := by decide

/-- R472: the seventeenth history entry pushes out the oldest. -/
theorem test_history_of_sixteen :
    ((after (.faultDetection .n 2 0)
      { running with n := { running.n with faults := { history := List.replicate 16 { source := 1, cls := 1, event := 9 } } } }).map
      fun t => (t.n.faults.history.length, t.n.faults.overflow)) = some (16, 1) := by decide

/-- No row of the table has bits, so no word spells a command. -/
theorem test_no_word_is_a_command : decodeTableWord 24 0x123456 = none := by decide

/-! For each statement, what it assumes is met. -/

/-- What SuppliesAndReadyDies assumes is met, clause by clause. -/
theorem test_SuppliesAndReadyDies_met :
    (let s : State := st running; s.node.n.phase ≠ .unpowered ∧ s.node.n.phase ≠ .standby) ∧
    (let s : State := st running; s.node.f.phase ≠ .unpowered ∧ s.node.f.phase ≠ .standby) ∧
    (let s : State := st running; s.node.n.phase ≠ .unpowered) ∧
    (let s : State := st { running with n := { phase := .held, pow := { rstLow := true } } }; s.node.n.pow.rstLow = true ∧ s.node.n.phase ≠ .unpowered ∧ s.node.n.undervoltage = false) ∧
    (let s : State := Tests.st starting; s.node.n.phase = .starting) ∧
    (let s : State := st starting; s.node.f.phase = .starting) :=
  ⟨by decide, by decide, by decide, by decide, by decide, by decide⟩

/-- What TrainingAndPartnerWait assumes is met, clause by clause. -/
theorem test_TrainingAndPartnerWait_met :
    (let s : State := st apart; s.node.training = true) ∧
    (let s : State := st apart; s.node.nUp = true ∧ s.node.fUp = true ∧ s.node.trained = false) ∧
    (let s : State := st apart; let d : Die := .n; s.node.up d = true ∧ s.node.hasTrained d = false ∧ (s.node.die d).waitExpired = false) ∧
    (let s : State := st apart; let d : Die := .f; s.node.up d = true ∧ s.node.hasTrained d = false ∧ (s.node.die d).waitExpired = false) ∧
    (let s : State := st { running with n := { running.n with runPending := true } }; s.node.n.runPending = true ∧ s.node.n.dev = .setup ∧ s.node.runAllowed = true) :=
  ⟨by decide, by decide, by decide, by decide, by decide⟩

/-- What AdmissionRefusals assumes is met, clause by clause. -/
theorem test_AdmissionRefusals_met :
    (∃ s : State, ∃ rq : Rq, ∃ key : Nat, ∃ op : DapOp, ∃ client : Nat, ∃ tag : Nat, ∃ w : Node,
      (rq.path = .chain ∨ opcodeOf op ≠ 5) ∧ s.node.arrival rq op = some (client, tag, w) ∧ s.node.n.pow.entering.isSome = true) ∧
    (∃ s : State, ∃ rq : Rq, ∃ key : Nat, ∃ op : DapOp, ∃ client : Nat, ∃ tag : Nat, ∃ w : Node,
      (rq.path = .chain ∨ opcodeOf op ≠ 5) ∧ s.node.arrival rq op = some (client, tag, w) ∧ s.node.n.pow.entering = none ∧ w.sessionOf rq.path client = none ∧ w.freeSession = none) ∧
    (∃ s : State, ∃ rq : Rq, ∃ key : Nat, ∃ op : DapOp, ∃ client : Nat, ∃ tag : Nat, ∃ i : Nat, ∃ w : Node,
      (rq.path = .chain ∨ opcodeOf op ≠ 5) ∧ s.node.arrival rq op = some (client, tag, w) ∧ s.node.n.pow.entering = none ∧ w.sessionOf rq.path client = some i ∧ (16 ≤ w.n.dict.txns.length ∨ 4 ≤ (w.flightOf i).length ∨ (w.n.dict.run.isSome = true ∧ DapOp.changes op = true))) :=
  ⟨⟨Tests.st { Tests.running with n := { Tests.running.n with pow := { entering := some 1 } } }, Tests.ask, 0, .read, _, _, _, by decide, rfl, by decide⟩, ⟨Tests.st Tests.crowded, Tests.canAsk, 0, .read, _, _, _,
    by decide, rfl, by decide, by decide, by decide⟩, ⟨Tests.st { Tests.running with n := { Tests.running.n with dict := { Tests.running.n.dict with run := some (.gather 0) } } }, Tests.ask, 0,
    .write (.word 1), _, _, 0, _, by decide, rfl, by decide, by decide, by decide⟩⟩

/-- What WordReadsAndWrites assumes is met, clause by clause. -/
theorem test_WordReadsAndWrites_met :
    (let s : State := Tests.st Tests.running; let rq : Rq := Tests.ask; let key : Nat := 0x0000; let row : KeyRow := Tests.rowOf 0x0000; ∃ u x, s.node.accepts rq key .read = some (u, x) ∧ u.passes x = some row ∧ row.home = .n ∧ sessionValue key = none) ∧
    (let s : State := Tests.st Tests.running; let rq : Rq := Tests.ask; let key : Nat := 0xFFFF; let st : Nat := 0x10; ∃ u x, s.node.accepts rq key .read = some (u, x) ∧ u.refusal x = some st) ∧
    (let s : State := Tests.st Tests.running; let rq : Rq := Tests.ask; let key : Nat := 0x4000; let row : KeyRow := Tests.rowOf 0x4000; ∃ u x, s.node.accepts rq key .read = some (u, x) ∧ u.passes x = some row ∧ (sessionValue key).isSome = true) ∧
    (let s : State := Tests.st Tests.running; let rq : Rq := Tests.ask; let key : Nat := 0x4005; let row : KeyRow := Tests.rowOf 0x4005; ∃ u x, s.node.accepts rq key .read = some (u, x) ∧ u.passes x = some row ∧ row.home = .f ∧ sessionValue key = none) ∧
    (let s : State := Tests.st Tests.running; let rq : Rq := Tests.ask; let key : Nat := 0x0014; let st : Nat := 0x11; let v : Val := .word 1; ∃ u x, s.node.accepts rq key (.write v) = some (u, x) ∧ u.refusal x = some st) ∧
    (let s : State := Tests.st Tests.running; let rq : Rq := Tests.ask; let key : Nat := 0x300B; let st : Nat := 0x12; let v : Val := .word 0; ∃ u x, s.node.accepts rq key (.write v) = some (u, x) ∧ u.refusal x = some st) ∧
    (let s : State := Tests.st Tests.running; let rq : Rq := Tests.ask; let key : Nat := 0x0028; let st : Nat := 0x13; let v : Val := .word 9; let row : KeyRow := Tests.rowOf 0x0028; ∃ u x, s.node.accepts rq key (.write v) = some (u, x) ∧ u.passes x = some row ∧ row.home = .n ∧ sessionValue key = none ∧ u.wordRefusal x row (valNumber v) = some st) ∧
    (let s : State := Tests.st Tests.running; let rq : Rq := Tests.ask; let key : Nat := 0x0028; let n : Nat := 1; let row : KeyRow := Tests.rowOf 0x0028; ∃ u x, s.node.accepts rq key (.write (.word n)) = some (u, x) ∧ (key = 0x0011 ∨ key = 0x0028 ∨ key = 0x0029 ∨ key = 0x002A ∨ key = 0x002C ∨ key = 0x1004) ∧ keyRow key = some row ∧ s.node.n.dev = .setup ∧ within row.lo row.hi (n % 16777216) = true) ∧
    (let s : State := Tests.st Tests.running; let rq : Rq := Tests.ask; let key : Nat := 0x4000; let n : Nat := 2; ∃ u x, s.node.accepts rq key (.write (.word n)) = some (u, x) ∧ (sessionValue key).isSome = true ∧ s.node.n.dev ≠ .boot ∧ s.node.n.dev ≠ .sealed ∧ selectOk key (n % 16777216) = true) ∧
    (let s : State := Tests.st Tests.running; let rq : Rq := Tests.ask; let pairs : List (Nat × Nat) := [(0x4000, 3)]; let key : Nat := 0x0000; let row : KeyRow := Tests.rowOf 0x0000; ∃ u x, s.node.accepts rq key (.selectRead pairs) = some (u, x) ∧ u.passes x = some row ∧ (pairs.all fun p => selectKeys.contains p.1 && selectOk p.1 p.2) = false) ∧
    (let s : State := Tests.st Tests.running; let rq : Rq := Tests.ask; let a : Nat := 0x2000; let v : Nat := 7; let key : Nat := 0x2018; let row : KeyRow := Tests.rowOf 0x2018; ∃ u x, s.node.accepts rq key (.selectRead [(a, v)]) = some (u, x) ∧ u.passes x = some row ∧ row.home = .n ∧ sessionValue key = none ∧ selectKeys.contains a = true ∧ selectOk a v = true) :=
  ⟨⟨_, _, rfl, by decide⟩, ⟨_, _, rfl, by decide⟩, ⟨_, _, rfl, by decide⟩, ⟨_, _, rfl, by decide⟩, ⟨_, _, rfl, by decide⟩, ⟨_, _, rfl, by decide⟩, ⟨_, _, rfl, by decide⟩, ⟨_, _, rfl, by decide⟩, ⟨_, _, rfl, by decide⟩, ⟨_, _, rfl, by decide⟩, ⟨_, _, rfl, by decide⟩⟩

/-- What BlockReadsAndWrites assumes is met, clause by clause. -/
theorem test_BlockReadsAndWrites_met :
    (let s : State := Tests.st Tests.running; let rq : Rq := Tests.ask; let key : Nat := 0x0019; let offset : Nat := 0; let length : Nat := 5; let row : KeyRow := Tests.rowOf 0x0019; ∃ u x, s.node.accepts rq key (.readBlock offset length) = some (u, x) ∧ u.passes x = some row ∧ row.home = .n ∧ row.persist = .s) ∧
    (let s : State := Tests.st Tests.running; let rq : Rq := Tests.ask; let seg : Segment := ⟨0, false, 2, false, [65, 66]⟩; ∃ u x, s.node.accepts rq 0x0019 (.writeBlock seg) = some (u, x) ∧ s.node.n.dev = .setup ∧ seg.number = 0 ∧ seg.more = false ∧ seg.total = seg.data.length ∧ seg.total ≤ 32) ∧
    (let s : State := Tests.st Tests.running; let rq : Rq := Tests.ask; let seg : Segment := ⟨0, true, 3, true, [65, 66]⟩; ∃ u x, s.node.accepts rq 0x0019 (.writeBlock seg) = some (u, x) ∧ s.node.n.dev = .setup ∧ seg.number = 0 ∧ seg.more = true ∧ seg.full = true ∧ seg.data.length ≤ seg.total ∧ seg.total ≤ 32) ∧
    (let s : State := Tests.st Tests.running; let rq : Rq := Tests.ask; let seg : Segment := ⟨1, true, 3, true, [65, 66]⟩; ∃ u x, s.node.accepts rq 0x0019 (.writeBlock seg) = some (u, x) ∧ s.node.n.dev ≠ .boot ∧ ((seg.number ≠ 0 ∨ (seg.more = true ∧ seg.full = false) ∨ seg.total < seg.data.length ∨ 32 < seg.total)) ∧ s.node.n.dev = .setup) ∧
    (∃ s : State, ∃ rq : Rq, ∃ seg : Segment, ∃ client : Nat, ∃ tag : Nat, ∃ total : Nat, ∃ next : Nat, ∃ bytes : List Byte, ∃ w : Node, ∃ x : Txn,
      s.node.wellFormedAt rq (.writeBlock seg) = some (client, tag, w) ∧ w.collecting rq.path client tag = some (x, total, next, bytes) ∧ w.txn x.session x.tag = some x ∧ x.key = 0x0019 ∧ s.node.n.dev = .setup ∧ seg.number = next ∧ seg.more = false ∧ bytes.length + seg.data.length = total) ∧
    (∃ s : State, ∃ rq : Rq, ∃ key : Nat, ∃ seg : Segment, ∃ client : Nat, ∃ tag : Nat, ∃ total : Nat, ∃ next : Nat, ∃ bytes : List Byte, ∃ w : Node, ∃ x : Txn,
      s.node.wellFormedAt rq (.writeBlock seg) = some (client, tag, w) ∧ w.collecting rq.path client tag = some (x, total, next, bytes) ∧ w.txn x.session x.tag = some x ∧ (key ≠ x.key ∨ seg.number ≠ next)) ∧
    (let s : State := Tests.st Tests.midBlock; let session : Nat := 1; let tag : Nat := 5; let total : Nat := 62; let next : Nat := 1; let bytes : List Byte := List.replicate 58 7; let x : Txn := Tests.collectTxn; s.node.nUp = true ∧ s.node.txn session tag = some x ∧ x.stage = .collecting total next bytes ∧ x.path ≠ .chain) :=
  ⟨⟨_, _, rfl, by decide⟩, ⟨_, _, rfl, by decide⟩, ⟨_, _, rfl, by decide⟩, ⟨_, _, rfl, by decide⟩, ⟨Tests.st Tests.midBlock, Tests.canAsk, ⟨1, false, 0, false, [1, 2, 3, 4]⟩, _, _, _, _, _, _, _,
    rfl, rfl, by decide, by decide, by decide, by decide, by decide, by decide⟩, ⟨Tests.st Tests.midBlock, Tests.canAsk, 0x0019, ⟨2, false, 0, false, [1, 2, 3, 4]⟩, _, _, _, _, _, _, _,
    rfl, rfl, by decide, by decide⟩, by decide⟩

/-- What TransactionEvents assumes is met, clause by clause. -/
theorem test_TransactionEvents_met :
    (let s : State := Tests.st Tests.crowded; let i : Nat := 3; s.node.nUp = true ∧ 1 ≤ i ∧ i ≤ 6 ∧ s.node.flightOf i = []) ∧
    (let s : State := Tests.st Tests.farBusy; let x : Txn := Tests.farTxn; s.node.nUp = true ∧ s.node.txn x.session x.tag = some x ∧ ((x.stage = .toF ∨ x.stage = .atF ∨ x.stage = .fromF)) ∧ s.node.partReturned x.session x.tag = false ∧ x.path ≠ .internal) ∧
    (let s : State := Tests.st Tests.farBusy; let x : Txn := Tests.farTxn; let y : Txn := Tests.farTxn; let rest : List (Txn × Bool) := []; let row : KeyRow := Tests.rowOf 0x4005; s.node.f.inbox = (x, true) :: rest ∧ s.node.hubReceives .f = true ∧ s.node.unsent .n (.request x.session x.tag) = false ∧ s.node.trained = true ∧ x.op = .read ∧ keyRow x.key = some row ∧ s.node.txn x.session x.tag = some y) ∧
    (let s : State := Tests.st Tests.farDone; let x : Txn := { Tests.farTxn with stage := .fromF, data := [1, 0, 0] }; s.node.hubReceives .n = true ∧ s.node.unsent .f (.result x.session x.tag) = false ∧ s.node.txn x.session x.tag = some x ∧ x.stage = .fromF ∧ ((x.path = .nport ∨ x.path = .can))) :=
  ⟨by decide, by decide, by decide, by decide⟩

/-- What DeviceStateRequests assumes is met, clause by clause. -/
theorem test_DeviceStateRequests_met :
    (let s : State := Tests.st { Tests.running with n := { Tests.running.n with dev := .boot } }; let rq : Rq := Tests.ask; let arg : Option Nat := some 2; ∃ u x, s.node.accepts rq 0x0015 (.command arg) = some (u, x) ∧ ((s.node.n.dev = .boot ∨ s.node.n.dev = .sealed))) ∧
    (let s : State := Tests.st Tests.running; let rq : Rq := Tests.ask; let a : Nat := 4; ∃ u x, s.node.accepts rq 0x0015 (.command (some a)) = some (u, x) ∧ s.node.n.dev ≠ .boot ∧ s.node.n.dev ≠ .sealed ∧ a < 16777216 ∧ ((a = 0 ∨ 3 < a))) ∧
    (let s : State := Tests.st Tests.running; let rq : Rq := Tests.ask; let a : Nat := 1; ∃ u x, s.node.accepts rq 0x0015 (.command (some a)) = some (u, x) ∧ 1 ≤ a ∧ a ≤ 3 ∧ s.node.n.dev = devOfCode a) ∧
    (let s : State := Tests.st { Tests.running with n := { Tests.running.n with dev := .safeHold, faults := { status := 1, latest := [(0, { cls := 2 })] } } }; let rq : Rq := Tests.ask; ∃ u x, s.node.accepts rq 0x0015 (.command (some 2)) = some (u, x) ∧ ((s.node.n.dev = .setup ∧ s.node.runAllowed = false ∨ s.node.n.dev = .safeHold ∧ u.holdBars = true))) ∧
    (let s : State := Tests.st Tests.running; let rq : Rq := Tests.ask; let a : Nat := 2; ∃ u x, s.node.accepts rq 0x0015 (.command (some a)) = some (u, x) ∧ s.node.n.dev ≠ .boot ∧ s.node.n.dev ≠ .sealed ∧ 1 ≤ a ∧ a ≤ 3 ∧ s.node.n.dev ≠ devOfCode a ∧ ((a = 2 → u.runAllowed = true ∧ (s.node.n.dev = .safeHold → u.holdBars = false)))) ∧
    (let s : State := Tests.st Tests.running; let rq : Rq := Tests.ask; let a : Nat := 3; ∃ u x, s.node.accepts rq 0x0015 (.command (some a)) = some (u, x) ∧ s.node.n.dev ≠ .boot ∧ s.node.n.dev ≠ .sealed ∧ 1 ≤ a ∧ a ≤ 3 ∧ s.node.n.dev ≠ devOfCode a ∧ ((a = 2 → u.runAllowed = true ∧ (s.node.n.dev = .safeHold → u.holdBars = false)))) ∧
    (let s : State := Tests.st Tests.running; s.node.hubReceives .f = true) ∧
    (let s : State := Tests.st Tests.running; let rq : Rq := Tests.ask; ∃ u x, s.node.accepts rq 0x1008 (.command none) = some (u, x) ∧ s.node.n.dev ≠ .boot) ∧
    (let s : State := Tests.st Tests.running; let rq : Rq := Tests.canAsk; ∃ u x, s.node.accepts rq 0x1008 (.command none) = some (u, x) ∧ s.node.n.dev ≠ .boot) ∧
    (let s : State := Tests.st Tests.running; let rq : Rq := Tests.ask; ∃ u x, s.node.accepts rq 0xF003 (.command none) = some (u, x) ∧ s.node.n.dev ≠ .boot) :=
  ⟨⟨_, _, rfl, by decide⟩, ⟨_, _, rfl, by decide⟩, ⟨_, _, rfl, by decide⟩, ⟨_, _, rfl, by decide⟩, ⟨_, _, rfl, by decide⟩, ⟨_, _, rfl, by decide⟩, by decide, ⟨_, _, rfl, by decide⟩, ⟨_, _, rfl, by decide⟩, ⟨_, _, rfl, by decide⟩⟩

/-- What DieResets assumes is met, clause by clause. -/
theorem test_DieResets_met :
    (let s : State := Tests.st Tests.running; let rq : Rq := Tests.ask; let a : Nat := 2; ∃ u x, s.node.accepts rq 0xF002 (.command (some a)) = some (u, x) ∧ s.node.n.dev ≠ .boot ∧ a ≤ 2) ∧
    (let s : State := Tests.st Tests.running; let rq : Rq := Tests.ask; let a : Nat := 3; ∃ u x, s.node.accepts rq 0xF002 (.command (some a)) = some (u, x) ∧ s.node.n.dev ≠ .boot ∧ 2 < a ∧ a < 16777216) ∧
    (let s : State := Tests.st { Tests.running with n := { Tests.running.n with dict := { resetOrder := some 2, resetDue := true } } }; let a : Nat := 2; s.node.n.dict.resetOrder = some a ∧ s.node.nUp = true ∧ s.node.n.dict.resetDue = true) :=
  ⟨⟨_, _, rfl, by decide⟩, ⟨_, _, rfl, by decide⟩, by decide⟩

/-- What SaveCommitsParts assumes is met, clause by clause. -/
theorem test_SaveCommitsParts_met :
    (let s : State := Tests.st Tests.running; let rq : Rq := Tests.ask; let a : Nat := 0; ∃ u x, s.node.accepts rq 0xF000 (.command (some a)) = some (u, x) ∧ s.node.n.dev = .setup ∧ a ≤ 15 ∧ ((namesF (saveMask a) = true → s.node.trained = true))) ∧
    (let s : State := Tests.st Tests.running; let rq : Rq := Tests.ask; let a : Nat := 4; ∃ u x, s.node.accepts rq 0xF000 (.command (some a)) = some (u, x) ∧ s.node.n.dev = .setup ∧ a ≤ 15 ∧ ((namesF (saveMask a) = true → s.node.trained = true))) ∧
    (let s : State := Tests.st { Tests.running with n := { Tests.running.n with dev := .run } }; let rq : Rq := Tests.ask; let a : Nat := 0; ∃ u x, s.node.accepts rq 0xF000 (.command (some a)) = some (u, x) ∧ ((s.node.n.dev = .run ∨ s.node.n.dev = .safeHold))) ∧
    (let s : State := Tests.st Tests.running; let rq : Rq := Tests.ask; let a : Nat := 16; ∃ u x, s.node.accepts rq 0xF000 (.command (some a)) = some (u, x) ∧ s.node.n.dev = .setup ∧ a < 16777216 ∧ ((15 < a ∨ namesF (saveMask a) = true ∧ s.node.trained = false))) ∧
    (let s : State := Tests.st { Tests.running with n := { Tests.running.n with dict := { Tests.running.n.dict with run := some (.saving 15 [] []) } } }; let mask : Nat := 15; let vals : Tab Nat := []; let blobs : Tab (List Byte) := []; s.node.nUp = true ∧ s.node.n.dict.run = some (.saving mask vals blobs) ∧ mask ≤ 15) :=
  ⟨⟨_, _, rfl, by decide⟩, ⟨_, _, rfl, by decide⟩, ⟨_, _, rfl, by decide⟩, ⟨_, _, rfl, by decide⟩, by decide⟩

/-- What RestoreStages assumes is met, clause by clause. -/
theorem test_RestoreStages_met :
    (let s : State := Tests.st Tests.running; let rq : Rq := Tests.ask; let a : Nat := 0; ∃ u x, s.node.accepts rq 0xF001 (.command (some a)) = some (u, x) ∧ s.node.n.dev = .setup ∧ a ≤ 1 ∧ s.node.trained = true) ∧
    (let s : State := Tests.st Tests.running; let rq : Rq := Tests.ask; let a : Nat := 1; ∃ u x, s.node.accepts rq 0xF001 (.command (some a)) = some (u, x) ∧ s.node.n.dev = .setup ∧ a ≤ 1 ∧ s.node.trained = true) ∧
    (let s : State := Tests.st { Tests.running with n := { Tests.running.n with dev := .run } }; let rq : Rq := Tests.ask; let a : Nat := 0; ∃ u x, s.node.accepts rq 0xF001 (.command (some a)) = some (u, x) ∧ ((s.node.n.dev = .run ∨ s.node.n.dev = .safeHold ∨ s.node.n.dev = .setup ∧ a < 16777216 ∧ (1 < a ∨ s.node.trained = false)))) ∧
    (let s : State := Tests.st Tests.running; let rq : Rq := Tests.ask; let a : Nat := 2; ∃ u x, s.node.accepts rq 0xF001 (.command (some a)) = some (u, x) ∧ ((s.node.n.dev = .run ∨ s.node.n.dev = .safeHold ∨ s.node.n.dev = .setup ∧ a < 16777216 ∧ (1 < a ∨ s.node.trained = false)))) ∧
    (let s : State := Tests.st { Tests.apart with n := { Tests.apart.n with dev := .setup } }; let rq : Rq := Tests.ask; let a : Nat := 0; ∃ u x, s.node.accepts rq 0xF001 (.command (some a)) = some (u, x) ∧ ((s.node.n.dev = .run ∨ s.node.n.dev = .safeHold ∨ s.node.n.dev = .setup ∧ a < 16777216 ∧ (1 < a ∨ s.node.trained = false)))) ∧
    (let s : State := Tests.st { Tests.running with n := { Tests.running.n with dict := { Tests.running.n.dict with run := some (.gather 0) } } }; let arg : Nat := 0; s.node.n.dict.run = some (.gather arg) ∧ s.node.hubReceives .n = true) ∧
    (let s : State := Tests.st { Tests.running with n := { Tests.running.n with dict := { Tests.running.n.dict with run := some (.apply 0 false) } } }; let left : Bool := false; let arg : Nat := 0; s.node.nUp = true ∧ s.node.n.dict.run = some (.apply arg left)) ∧
    (let s : State := Tests.st { Tests.running with n := { Tests.running.n with dict := { Tests.running.n.dict with run := some (.apply 1 true) } } }; let left : Bool := true; let arg : Nat := 1; s.node.nUp = true ∧ s.node.n.dict.run = some (.apply arg left)) :=
  ⟨⟨_, _, rfl, by decide⟩, ⟨_, _, rfl, by decide⟩, ⟨_, _, rfl, by decide⟩, ⟨_, _, rfl, by decide⟩, ⟨_, _, rfl, by decide⟩, by decide, by decide, by decide⟩

set_option maxRecDepth 100000 in
/-- What RestoreBringsStoredValues assumes is met, clause by clause. -/
theorem test_RestoreBringsStoredValues_met :
    (let s : State := Tests.st { { Tests.running with n := { Tests.running.n with dict := { Tests.running.n.dict with run := some (.gather 1) } } } with vals := tput [] (slotOf 0x1004 0) 200 }; let arg : Nat := 1; let key : Nat := 0x1004; let row : KeyRow := Tests.rowOf 0x1004; s.node.n.dict.run = some (.gather arg) ∧ s.node.hubReceives .n = true ∧ s.node.settingsOk = true ∧ ((key = 0x0028 ∨ key = 0x1004 ∨ key = 0x0011)) ∧ keyRow key = some row ∧ within row.lo row.hi ((restored arg s.node).val key) = true) ∧
    (let s : State := Tests.st { { Tests.running with n := { Tests.running.n with dict := { Tests.running.n.dict with run := some (.gather 0) } } } with vals := tput [] (slotOf 0x0028 0) 2 }; let arg : Nat := 0; let key : Nat := 0x0028; let row : KeyRow := Tests.rowOf 0x0028; s.node.n.dict.run = some (.gather arg) ∧ s.node.hubReceives .n = true ∧ s.node.settingsOk = true ∧ ((key = 0x0028 ∨ key = 0x1004 ∨ key = 0x0011)) ∧ keyRow key = some row ∧ within row.lo row.hi ((restored arg s.node).val key) = true) :=
  ⟨by decide, by decide⟩

/-- What CanErrorStates assumes is met, clause by clause. -/
theorem test_CanErrorStates_met :
    (let s : State := Tests.st Tests.running; s.node.canOn = true) ∧
    (let s : State := Tests.st Tests.running; s.node.nUp = true ∧ s.node.n.can.state = .active) ∧
    (let s : State := Tests.st { Tests.running with n := { Tests.running.n with can := { state := .passive } } }; s.node.nUp = true ∧ s.node.n.can.state = .passive) ∧
    (let s : State := Tests.st Tests.running; s.node.nUp = true ∧ s.node.n.can.state ≠ .busOff ∧ s.node.n.can.state ≠ .stopped) ∧
    (let s : State := Tests.st { Tests.running with n := { Tests.running.n with can := { state := .busOff, recovering := true } } }; s.node.nUp = true ∧ s.node.n.can.state = .busOff ∧ s.node.n.can.recovering = true) ∧
    (let s : State := Tests.st { Tests.running with n := { Tests.running.n with can := { state := .integrating } } }; s.node.nUp = true ∧ s.node.n.can.state = .integrating) :=
  ⟨by decide, by decide, by decide, by decide, by decide, by decide⟩

/-- What CanTransceiverAndRates assumes is met, clause by clause. -/
theorem test_CanTransceiverAndRates_met :
    (let s : State := Tests.st Tests.running; s.node.nUp = true) ∧
    (let s : State := Tests.st Tests.running; s.node.nUp = true) ∧
    (let s : State := Tests.st Tests.running; let rq : Rq := Tests.ask; let data : Bool := false; let n : Nat := 3; let row : KeyRow := Tests.rowOf 0x1100; ∃ u x, s.node.accepts rq (if data then 0x1101 else 0x1100) (.write (.word n)) = some (u, x) ∧ s.node.n.dev = .setup ∧ keyRow (if data then 0x1101 else 0x1100) = some row ∧ u.wordRefusal x row (n % 16777216) = none) ∧
    (let s : State := Tests.st Tests.running; let rq : Rq := Tests.ask; let data : Bool := true; let n : Nat := 2; let row : KeyRow := Tests.rowOf 0x1101; ∃ u x, s.node.accepts rq (if data then 0x1101 else 0x1100) (.write (.word n)) = some (u, x) ∧ s.node.n.dev = .setup ∧ keyRow (if data then 0x1101 else 0x1100) = some row ∧ u.wordRefusal x row (n % 16777216) = none) ∧
    (let s : State := Tests.st { Tests.running with n := { Tests.running.n with can := { state := .active, rateDue := true } } }; s.node.nUp = true ∧ s.node.n.can.rateDue = true ∧ s.node.keyInFlight 0x1100 = false ∧ s.node.keyInFlight 0x1101 = false ∧ s.node.keyInFlight 0xF001 = false) ∧
    (let s : State := Tests.st Tests.running; let rq : Rq := Tests.ask; ∃ u x, s.node.accepts rq 0x1105 (.command none) = some (u, x) ∧ s.node.n.dev ≠ .boot) ∧
    (let s : State := Tests.st { Tests.running with n := { Tests.running.n with can := { state := .busOff } } }; let rq : Rq := Tests.ask; ∃ u x, s.node.accepts rq 0x1105 (.command none) = some (u, x) ∧ s.node.n.dev ≠ .boot) ∧
    (let s : State := Tests.st Tests.running; let rq : Rq := Tests.ask; ∃ u x, s.node.accepts rq 0x1110 .read = some (u, x)) ∧
    (let s : State := Tests.st { Tests.running with n := { Tests.running.n with can := { state := .active, exception := true } } }; let rq : Rq := Tests.ask; ∃ u x, s.node.accepts rq 0x1110 .read = some (u, x)) ∧
    (let s : State := Tests.st { n := { phase := .standby, pow := { wakes := 4 } }, f := { phase := .dormant } }; s.node.n.phase = .standby ∧ s.node.n.pow.wakes.getLsbD 2 = true) ∧
    (let s : State := Tests.st { n := { phase := .standby }, f := { phase := .dormant } }; s.node.n.phase = .standby ∧ s.node.n.pow.wakes.getLsbD 2 = false) :=
  ⟨by decide, by decide, ⟨_, _, rfl, by decide⟩, ⟨_, _, rfl, by decide⟩, by decide, ⟨_, _, rfl, by decide⟩, ⟨_, _, rfl, by decide⟩, ⟨_, _, rfl⟩, ⟨_, _, rfl⟩, by decide, by decide⟩

/-- What CanTransmitBuffers assumes is met, clause by clause. -/
theorem test_CanTransmitBuffers_met :
    (let s : State := Tests.st { Tests.running with n := { Tests.running.n with can := { state := .active, tx := [⟨4, 9, 0, 5, none, true, []⟩] } } }; let cls : Nat := 4; let f : TxFrame := ⟨4, 9, 0, 5, none, true, []⟩; s.node.nUp = true ∧ cls ≠ 0 ∧ s.node.n.can.tx.find? (fun g => g.cls == cls) = some f) ∧
    (let s : State := Tests.st { Tests.running with n := { Tests.running.n with can := { state := .active, tx := [⟨4, 9, 0, 5, some (1, 5), false, []⟩] }, dict := { txns := [Tests.farTxn] } } }; let client : Nat := 9; let tag : Nat := 5; let f : TxFrame := ⟨4, 9, 0, 5, some (1, 5), false, []⟩; let x : Txn := Tests.farTxn; s.node.canSends = true ∧ s.node.n.can.tx.find? (fun g => g.cls == 4 && g.dest == client && g.tag == tag) = some f ∧ f.txn = some (x.session, x.tag) ∧ s.node.txn x.session x.tag = some x) ∧
    (let s : State := Tests.st { Tests.running with n := { Tests.running.n with can := { state := .active, tx := [⟨3, 127, 0, 5, none, false, []⟩] } } }; let cls : Nat := 3; let f : TxFrame := ⟨3, 127, 0, 5, none, false, []⟩; s.node.canSends = true ∧ cls ≠ 0 ∧ cls ≠ 4 ∧ s.node.n.can.tx.find? (fun g => g.cls == cls) = some f) ∧
    (let s : State := Tests.st { Tests.running with n := { Tests.running.n with can := { state := .active, alerts := [⟨⟨0, 6, 1, 1, 0, 0, 3⟩, 127, [], false, none⟩] } } }; let q : QueuedAlert := ⟨⟨0, 6, 1, 1, 0, 0, 3⟩, 127, [], false, none⟩; s.node.canSends = true ∧ firstAlert s.node.n.can.alerts = some q) :=
  ⟨by decide, by decide, by decide, by decide⟩

/-- What CanTriggersTunnelsAndAlerts assumes is met, clause by clause. -/
theorem test_CanTriggersTunnelsAndAlerts_met :
    (let s : State := Tests.st { Tests.running with n := { Tests.running.n with dev := .run }, blobs := tput [] (slotOf 0x3240 0) [1, 0, 0, 0, 0, 0, 0, 0, 0, 0] }; let src : Nat := 9; let dest : Nat := 1; let tag : Nat := 3; let length : Nat := 8; let launch : T48 := 1000; let list : Nat := 64; let i : Nat := 0; s.node.canOn = true ∧ s.node.canAccepts dest = true ∧ src ≠ s.node.n.number ∧ tag < 128 ∧ 8 ≤ length ∧ list < 128 ∧ listDie list = .n ∧ s.node.n.dev ≠ .boot ∧ s.node.n.dev ≠ .sealed ∧ before launch (s.node.time .n) = false ∧ s.node.listDefined .n list = true ∧ s.node.alreadyArmed .n list launch = false ∧ s.node.freeSlot .n 0 = some i ∧ s.node.seqTorn .n = false) ∧
    (let s : State := Tests.st Tests.running; let dest : Nat := 1; let length : Nat := 7; s.node.canOn = true ∧ s.node.canAccepts dest = true ∧ length < 8) ∧
    (let s : State := Tests.st Tests.running; let dest : Nat := 1; let words : List Nat := [0, 0x040000, 7]; s.node.canOn = true ∧ s.node.n.number ≠ 0 ∧ s.node.canAccepts dest = true ∧ s.node.val 0x1102 = 0 ∧ s.node.trained = true ∧ words.length = 2 + bits (words.getD 1 0) 23 18) ∧
    (let s : State := Tests.st Tests.running; let dest : Nat := 1; s.node.canOn = true ∧ s.node.n.number ≠ 0 ∧ s.node.canAccepts dest = true ∧ s.node.val 0x1102 = 0) ∧
    (let s : State := Tests.st { Tests.running with n := { Tests.running.n with can := { state := .active, tunnelFirst := [(9, 1, 0, [0, 0x080000, 7])] } } }; let src : Nat := 9; let dest : Nat := 1; let tag : Nat := 0; let first : List Nat := [0, 0x080000, 7]; let words : List Nat := [8]; s.node.canOn = true ∧ s.node.n.number ≠ 0 ∧ s.node.canAccepts dest = true ∧ s.node.val 0x1102 = 0 ∧ s.node.trained = true ∧ s.node.n.can.tunnelFirst.find? (firstOf src dest tag) = some (src, dest, tag, first) ∧ (first ++ words).length = 2 + bits ((first ++ words).getD 1 0) 23 18) ∧
    (let s : State := Tests.st { Tests.running with n := { Tests.running.n with can := { state := .active, tunnelFirst := [(9, 1, 0, [0, 0x080000, 7])] } } }; s.node.nUp = true) ∧
    (let s : State := Tests.st Tests.running; s.node.nUp = true ∧ s.node.trained = true ∧ s.node.n.can.alerts.length < 8) ∧
    (let s : State := Tests.st { Tests.running with n := { Tests.running.n with can := { state := .active, alerts := List.replicate 8 ⟨⟨0, 6, 1, 1, 0, 0, 3⟩, 127, [], false, none⟩ } } }; s.node.nUp = true ∧ s.node.trained = true ∧ 8 ≤ s.node.n.can.alerts.length) ∧
    (let s : State := Tests.st { Tests.running with n := { Tests.running.n with can := { state := .active, detour := some (3, 7) } } }; let seq : Nat := 3; let origin : Nat := 1; let k : Nat := 7; s.node.n.can.detour = some (seq, k) ∧ s.node.nUp = true ∧ origin = s.node.n.number ∧ s.node.n.can.state ≠ .busOff) ∧
    (let s : State := Tests.st { Tests.running with n := { Tests.running.n with can := { state := .busOff, detour := some (3, 7), alerts := [⟨⟨0, 6, 1, 1, 0, 0, 3⟩, 127, [7], false, none⟩] } } }; let d : Nat × Nat := (3, 7); s.node.nUp = true ∧ s.node.n.can.detour = some d) ∧
    (let s : State := Tests.st { Tests.running with n := { Tests.running.n with can := { state := .busOff, detour := some (3, 7), alerts := [⟨⟨0, 6, 1, 1, 0, 0, 3⟩, 127, [7], false, none⟩] } }, f := { Tests.running.f with chain := { state := .up, table := [⟨7, 17, 1, 1⟩, ⟨9, 19, 7, 2⟩], nodes := [(7, ⟨0, 0, 2, false, false⟩), (9, ⟨0, 0, 2, false, false⟩)] } } }; let d : Nat × Nat := (3, 7); let q : QueuedAlert := ⟨⟨0, 6, 1, 1, 0, 0, 3⟩, 127, [7], false, none⟩; let k : Nat := 9; s.node.nUp = true ∧ s.node.n.can.detour = some d ∧ s.node.n.can.state = .busOff ∧ s.node.val 0x1122 = 1 ∧ s.node.n.number ≠ 0 ∧ s.node.f.chain.state = .up ∧ firstAlert (s.node.n.can.alerts.filter fun q => q.open_ && (s.node.detourFor q).isSome) = some q ∧ s.node.detourFor q = some k) :=
  ⟨by decide, by decide, by decide, by decide, by decide, by decide, by decide, by decide, by decide, by decide, by decide⟩

/-- What PortFetchRepeatAndErrors assumes is met, clause by clause. -/
theorem test_PortFetchRepeatAndErrors_met :
    (let s : State := Tests.st { Tests.running with n := { Tests.running.n with port := { mode := 1, held := [⟨5, false, true, 0x50, [1, 0]⟩] } } }; let tag : Nat := 5; let dest : Nat := 0; let mode3 : Bool := false; let h : Held := ⟨5, false, true, 0x50, [1, 0]⟩; s.node.portOn = true ∧ s.node.n.port.selLow = false ∧ (selectFrame mode3 6 s.node).portError .good false true tag dest = 0 ∧ s.node.n.port.held.find? (fun g => g.tag == tag) = some h) ∧
    (let s : State := Tests.st Tests.running; let tag : Nat := 5; let dest : Nat := 0; let mode3 : Bool := true; s.node.portOn = true ∧ s.node.n.port.selLow = false ∧ (selectFrame mode3 6 s.node).portError .good false true tag dest = 0 ∧ s.node.n.port.held.find? (fun g => g.tag == tag) = none) ∧
    (let s : State := Tests.st Tests.running; let tag : Nat := 5; let dest : Nat := 127; let code : Nat := 6; let form : Form := .good; let mode3 : Bool := true; s.node.portOn = true ∧ (selectFrame mode3 6 s.node).portError form false true tag dest = code ∧ code ≠ 0) ∧
    (let s : State := Tests.st Tests.running; let tag : Nat := 5; let dest : Nat := 0; let code : Nat := 1; let form : Form := .badCheck; let mode3 : Bool := true; s.node.portOn = true ∧ (selectFrame mode3 6 s.node).portError form false true tag dest = code ∧ code ≠ 0) ∧
    (let s : State := Tests.st Tests.running; let dest : Nat := 0; s.node.portOn = true ∧ dest ≠ 127 ∧ ((dest = 0 ∨ dest = s.node.n.number))) ∧
    (let s : State := Tests.st { Tests.running with n := { Tests.running.n with port := { mode := 1, last := some (0x50, 9, [1, 0]) } } }; let dest : Nat := 1; s.node.portOn = true ∧ dest ≠ 127 ∧ ((dest = 0 ∨ dest = s.node.n.number))) ∧
    (let s : State := Tests.st Tests.running; s.node.portOn = true) ∧
    (let s : State := Tests.st Tests.running; s.node.nUp = true ∧ s.node.n.port.mode = 1) ∧
    (let s : State := Tests.st { Tests.running with n := { Tests.running.n with port := { mode := 1, out := some (0x50, 5, [1, 0, 0, 0]) } } }; let h : Nat := 0x50; let tag : Nat := 5; let body : List Byte := [1, 0, 0, 0]; s.node.portOn = true ∧ s.node.n.port.out = some (h, tag, body)) ∧
    (let s : State := Tests.st { Tests.running with n := { Tests.running.n with port := { mode := 1, out := some (0x50, 5, [1, 2, 0, 0]) } } }; let h : Nat := 0x50; let tag : Nat := 5; let body : List Byte := [1, 2, 0, 0]; s.node.portOn = true ∧ s.node.n.port.out = some (h, tag, body)) ∧
    (let s : State := Tests.st { Tests.running with n := { Tests.running.n with port := { mode := 1, held := [⟨5, false, true, 0x50, [1, 0]⟩] } } }; let tag : Nat := 5; let h : Held := ⟨5, false, true, 0x50, [1, 0]⟩; s.node.nUp = true ∧ s.node.n.port.held.find? (fun g => g.tag == tag) = some h ∧ h.complete = true) :=
  ⟨by decide, by decide, by decide, by decide, by decide, by decide, by decide, by decide, by decide, by decide, by decide⟩

/-- What PortTunnels assumes is met, clause by clause. -/
theorem test_PortTunnels_met :
    (let s : State := Tests.st Tests.running; let tag : Nat := 5; let dest : Nat := 0; let mode3 : Bool := false; let body : TunnelBody := ⟨0, 0, [0x9F], [], 0, [], 3, true⟩; s.node.portOn = true ∧ body.lengthOk = true ∧ s.node.n.port.selLow = false ∧ (selectFrame mode3 8 s.node).portError .good true true tag dest = 0 ∧ s.node.n.port.tunnels.length < 2 ∧ ((s.node.val 0x1208 = 0 ∨ s.node.n.dev = .boot ∨ s.node.n.dev = .sealed ∨ tunnelFieldsOk body = false))) ∧
    (let s : State := Tests.st { Tests.running with vals := tput (tput [] (slotOf 0x1208 0) 1) (slotOf 0x7010 1) 1 }; let tag : Nat := 5; let dest : Nat := 0; let mode3 : Bool := false; let body : TunnelBody := ⟨0, 0, [0x9F], [], 0, [], 3, true⟩; s.node.portOn = true ∧ body.lengthOk = true ∧ s.node.n.port.selLow = false ∧ (selectFrame mode3 8 s.node).portError .good true true tag dest = 0 ∧ s.node.n.port.tunnels.length < 2 ∧ s.node.val 0x1208 ≠ 0 ∧ s.node.n.dev ≠ .boot ∧ s.node.n.dev ≠ .sealed ∧ tunnelFieldsOk body = true ∧ s.node.valAt 0x7010 (if body.target = 0 then selOf (s.node.selectsOf 0) 0x7000 else body.target) ≠ 0 ∧ s.node.trained = true) ∧
    (let s : State := Tests.st { Tests.running with n := { Tests.running.n with port := { mode := 1, tunnels := [⟨1, 1, ⟨0, 0, [0x9F], [], 0, [], 3, true⟩, true⟩, ⟨2, 1, ⟨0, 0, [0x9F], [], 0, [], 3, true⟩, false⟩] } } }; let tag : Nat := 5; let dest : Nat := 0; let mode3 : Bool := false; let body : TunnelBody := ⟨0, 0, [0x9F], [], 0, [], 3, true⟩; s.node.portOn = true ∧ body.lengthOk = true ∧ (selectFrame mode3 8 s.node).portError .good true true tag dest = 0 ∧ 2 ≤ s.node.n.port.tunnels.length) ∧
    (let s : State := Tests.st { Tests.running with vals := tput (tput [] (slotOf 0x1208 0) 1) (slotOf 0x7010 1) 1, n := { Tests.running.n with port := { mode := 1, busy := some (5, ⟨0, 0, [0x9F], [], 0, [], 3, true⟩) } } }; let tag : Nat := 5; let body : TunnelBody := ⟨0, 0, [0x9F], [], 0, [], 3, true⟩; s.node.portOn = true ∧ s.node.n.port.busy = some (tag, body) ∧ s.node.n.port.tunnels.length < 2 ∧ s.node.val 0x1208 ≠ 0 ∧ s.node.n.dev ≠ .boot ∧ s.node.n.dev ≠ .sealed ∧ tunnelFieldsOk body = true ∧ s.node.valAt 0x7010 (if body.target = 0 then selOf (s.node.selectsOf 0) 0x7000 else body.target) ≠ 0 ∧ s.node.trained = true) ∧
    (let s : State := Tests.st { Tests.running with n := { Tests.running.n with port := { mode := 1, tunnels := [⟨5, 1, ⟨0, 0, [0x9F], [], 0, [], 3, true⟩, true⟩], held := [⟨5, true, false, 0x51, []⟩] } } }; let tag : Nat := 5; s.node.nUp = true ∧ s.node.tunnelOpen tag = true) ∧
    (let s : State := Tests.st { Tests.running with n := { Tests.running.n with port := { mode := 1, tunnels := [⟨5, 1, ⟨0, 0, [0x9F], [], 0, [], 3, true⟩, true⟩], held := [⟨5, true, false, 0x51, []⟩] } } }; let tag : Nat := 5; s.node.nUp = true ∧ s.node.tunnelOpen tag = true) :=
  ⟨by decide, by decide, by decide, by decide, by decide, by decide⟩

/-- What PortModesAndMaster assumes is met, clause by clause. -/
theorem test_PortModesAndMaster_met :
    (let s : State := Tests.st Tests.running; let rq : Rq := Tests.ask; let n : Nat := 2; ∃ u x, s.node.accepts rq 0x1200 (.write (.word n)) = some (u, x) ∧ s.node.n.dev = .setup ∧ n ≤ 2) ∧
    (let s : State := Tests.st { Tests.running with n := { Tests.running.n with port := { mode := 1, modeDue := some 2 } } }; let mode : Nat := 2; s.node.nUp = true ∧ s.node.n.port.modeDue = some mode ∧ s.node.keyInFlight 0x1200 = false ∧ s.node.keyInFlight 0xF001 = false ∧ mode ≠ s.node.n.port.mode) ∧
    (let s : State := Tests.st { Tests.running with n := { Tests.running.n with port := { mode := 2, modeDue := some 1 }, dict := {} } }; let mode : Nat := 1; s.node.nUp = true ∧ s.node.n.port.modeDue = some mode ∧ s.node.keyInFlight 0x1200 = false ∧ s.node.keyInFlight 0xF001 = false ∧ mode ≠ s.node.n.port.mode) ∧
    (let s : State := Tests.st { Tests.running with n := { Tests.running.n with port := { mode := 2, master := some ⟨0, [3], ⟨.slot 0, 1⟩, 0⟩ } } }; s.node.nUp = true ∧ s.node.n.port.master.isSome = true ∧ s.node.n.port.starts = []) :=
  ⟨⟨_, _, rfl, by decide⟩, by decide, by decide, by decide⟩

/-- What EdgesOnChannels assumes is met, clause by clause. -/
theorem test_EdgesOnChannels_met :
    (let s : State := Tests.st Tests.running; let d : Die := .n; let c : Fin 8 := 2; s.node.up d = true ∧ s.node.role d c = 1 ∧ (s.node.die d).ch.timed.getLsbD c = false ∧ (s.node.die d).clasp.link = .up) ∧
    (let s : State := Tests.st { Tests.running with n := { Tests.running.n with ch := { rowApplied := true, levels := 0, chans := [(2, { waiting := List.replicate 8 7 })] } } }; let d : Die := .n; let c : Fin 8 := 2; s.node.up d = true ∧ s.node.role d c = 1 ∧ (s.node.die d).ch.timed.getLsbD c = false ∧ (s.node.die d).clasp.link = .up) ∧
    (let s : State := Tests.st Tests.running; let d : Die := .f; let c : Fin 8 := 6; s.node.up d = true ∧ s.node.role d c = 1 ∧ (s.node.die d).ch.timed.getLsbD c = false ∧ (s.node.die d).clasp.link = .up) ∧
    (let s : State := Tests.st { Tests.running with n := { Tests.running.n with clasp := { Tests.half with link := .outage } } }; let d : Die := .n; let c : Fin 8 := 2; s.node.up d = true ∧ s.node.role d c = 1 ∧ (s.node.die d).ch.timed.getLsbD c = false ∧ (s.node.die d).clasp.link = .outage ∧ (s.node.chan d c).overflowed = false) ∧
    (let s : State := Tests.st Tests.running; let d : Die := .f; let check : WordCheck := .clean; s.node.receives d = true ∧ check ≠ .uncorrectable ∧ s.node.readable d 1 = true) ∧
    (let s : State := Tests.st { Tests.running with f := { Tests.running.f with clasp := { Tests.half with farMask := 4 } } }; let d : Die := .f; let check : WordCheck := .clean; s.node.receives d = true ∧ check ≠ .uncorrectable ∧ s.node.readable d 1 = true) ∧
    (let s : State := Tests.st Tests.running; let d : Die := .n; s.node.receives d = true) ∧
    (let s : State := Tests.st { Tests.running with n := { Tests.running.n with ch := { rowApplied := true, levels := 0, chans := [(5, { replay := 2 })] } } }; let d : Die := .n; let c : Fin 8 := 5; 0 < (s.node.chan d c).replay) ∧
    (let s : State := Tests.st { Tests.running with n := { Tests.running.n with ch := { rowApplied := true, levels := 0, chans := [(2, { shifted := true })] } } }; let d : Die := .n; let c : Fin 8 := 2; (s.node.chan d c).shifted = true ∧ (s.node.chan d c).waiting = []) :=
  ⟨by decide, by decide, by decide, by decide, by decide, by decide, by decide, by decide, by decide⟩

/-- What RefreshAndFailSafe assumes is met, clause by clause. -/
theorem test_RefreshAndFailSafe_met :
    (let s : State := Tests.st Tests.running; let d : Die := .f; let check : WordCheck := .clean; s.node.receives d = true ∧ check ≠ .uncorrectable ∧ s.node.readable d 2 = true) ∧
    (let s : State := Tests.st { Tests.running with f := { Tests.running.f with faults := { cond := 0x400 }, ch := { rowApplied := true, levels := 0, timer := true, timedOut := true, chans := [(1, { refreshed := true })] } } }; let d : Die := .f; let check : WordCheck := .corrected; let levels : Mask := 2; s.node.receives d = true ∧ check ≠ .uncorrectable ∧ s.node.readable d 2 = true) ∧
    (let s : State := Tests.st Tests.running; let d : Die := .n; s.node.receives d = true) ∧
    (let s : State := Tests.st Tests.running; let d : Die := .n; s.node.receives d = true ∧ s.node.trained = true) ∧
    (let s : State := Tests.st { Tests.running with f := { Tests.running.f with ch := { rowApplied := true, levels := 0, timer := true } } }; let d : Die := .f; s.node.up d = true ∧ (s.node.die d).ch.timer = true ∧ (s.node.die d).ch.timedOut = false) ∧
    (let s : State := Tests.st { Tests.running with f := { Tests.running.f with ch := { rowApplied := true, levels := 0, chans := [(1, { fresh := true })] } } }; let d : Die := .f; let c : Fin 8 := 1; s.node.up d = true ∧ s.node.role d c = 2 ∧ (s.node.chan d c).fresh = true ∧ (s.node.chan d c).freshExpired = false) ∧
    (let s : State := Tests.st Tests.running; let rq : Rq := Tests.ask; let n : Nat := 7; ∃ u x, s.node.accepts rq 0x2004 (.write (.word n)) = some (u, x) ∧ s.node.lineOpen = true ∧ s.node.n.dev = .setup ∧ 2 ≤ n ∧ n ≤ 64) :=
  ⟨by decide, by decide, by decide, by decide, by decide, by decide, ⟨_, _, rfl, by decide⟩⟩

/-- What ForcedStates assumes is met, clause by clause. -/
theorem test_ForcedStates_met :
    (let s : State := Tests.st Tests.running; let d : Die := .f; let o : Nat := 3; s.node.receives d = true ∧ s.node.readable d 2 = true ∧ o ≤ 5) ∧
    (let s : State := Tests.st Tests.running; let d : Die := .n; let o : Nat := 0; s.node.receives d = true ∧ s.node.readable d 2 = true ∧ o ≤ 5) ∧
    (let s : State := Tests.st { Tests.running with f := { Tests.running.f with ch := { rowApplied := true, levels := 0, own := [(1, 3)] } } }; let d : Die := .f; s.node.receives d = true ∧ s.node.trained = true) ∧
    (let s : State := Tests.st { Tests.running with f := { Tests.running.f with ch := { rowApplied := true, levels := 0, own := [(5, 3)] } } }; let d : Die := .f; s.node.up d = true) :=
  ⟨by decide, by decide, by decide, by decide⟩

/-- What DirectionAgreements assumes is met, clause by clause. -/
theorem test_DirectionAgreements_met :
    (let s : State := Tests.st Tests.running; let rq : Rq := Tests.ask; let upper : Bool := true; let v : Nat := 1; let row : KeyRow := Tests.rowOf 0x2008; ∃ u x, s.node.accepts rq (if upper then 0x2008 else 0x2002) (.write (.word v)) = some (u, x) ∧ s.node.n.dev = .setup ∧ s.node.trained = true ∧ keyRow (if upper then 0x2008 else 0x2002) = some row ∧ u.wordRefusal x row (v % 16777216) = none) ∧
    (let s : State := Tests.st { Tests.running with n := { Tests.running.n with straps := 3 } }; let rq : Rq := Tests.ask; let upper : Bool := false; let v : Nat := 1; let row : KeyRow := Tests.rowOf 0x2002; ∃ u x, s.node.accepts rq (if upper then 0x2008 else 0x2002) (.write (.word v)) = some (u, x) ∧ s.node.n.dev = .setup ∧ s.node.trained = true ∧ keyRow (if upper then 0x2008 else 0x2002) = some row ∧ u.wordRefusal x row (v % 16777216) = none) ∧
    (let s : State := Tests.st Tests.running; s.node.hubReceives .f = true ∧ s.node.trained = true ∧ s.node.readable .f 2 = true) ∧
    (let s : State := Tests.st { Tests.running with n := { Tests.running.n with agree := { phase := .proposed, number := 4, map := 2 } } }; let n : Nat := 4; s.node.hubReceives .n = true ∧ s.node.readable .n 2 = true ∧ s.node.n.agree.phase = .proposed ∧ s.node.n.agree.number = n) ∧
    (let s : State := Tests.st { Tests.running with n := { Tests.running.n with agree := { phase := .proposed, number := 4, map := 2 } } }; let n : Nat := 4; s.node.hubReceives .n = true ∧ s.node.readable .n 2 = true ∧ s.node.n.agree.phase = .proposed ∧ s.node.n.agree.number = n ∧ s.node.n.agree.adoption = false) ∧
    (let s : State := Tests.st { Tests.running with n := { Tests.running.n with agree := { phase := .committed, number := 4, map := 2 } } }; let n : Nat := 4; s.node.hubReceives .f = true ∧ s.node.readable .f 2 = true ∧ s.node.n.agree.phase = .committed ∧ s.node.n.agree.number = n ∧ s.node.trained = true) ∧
    (let s : State := Tests.st { Tests.running with n := { Tests.running.n with agree := { phase := .committed, number := 4, map := 2, fApplied := some 4 } } }; let n : Nat := 4; s.node.hubReceives .f = true ∧ s.node.readable .f 2 = true ∧ s.node.n.agree.phase = .committed ∧ s.node.n.agree.number = n ∧ s.node.trained = true) ∧
    (let s : State := Tests.st { Tests.running with n := { Tests.running.n with agree := { phase := .committed, number := 4, map := 2 } } }; let n : Nat := 4; s.node.hubReceives .n = true ∧ s.node.readable .n 2 = true ∧ s.node.n.agree.phase = .committed ∧ s.node.n.agree.number = n ∧ s.node.n.agree.adoption = false) ∧
    (let s : State := Tests.st { Tests.running with f := { Tests.running.f with ch := { rowApplied := true, levels := 0, changeDue := some (1, true) } } }; let d : Die := .f; let map : Nat := 1; let upper : Bool := true; (s.node.die d).ch.changeDue = some (map, upper)) ∧
    (let s : State := Tests.st { Tests.running with n := { Tests.running.n with ch := { rowApplied := true, levels := 0, changeDue := some (2, false) } } }; let d : Die := .n; let map : Nat := 2; let upper : Bool := false; (s.node.die d).ch.changeDue = some (map, upper)) ∧
    (let s : State := Tests.st { Tests.running with n := { Tests.running.n with agree := { phase := .proposed, number := 4, map := 2, proposes := 1 } } }; s.node.nUp = true ∧ s.node.n.agree.phase = .proposed ∧ s.node.n.agree.adoption = false) ∧
    (let s : State := Tests.st { Tests.running with n := { Tests.running.n with agree := { phase := .proposed, number := 4, map := 2, proposes := 3 } } }; s.node.nUp = true ∧ s.node.n.agree.phase = .proposed ∧ s.node.n.agree.adoption = false) ∧
    (let s : State := Tests.st { Tests.running with n := { Tests.running.n with agree := { phase := .committed, number := 4, map := 2 } } }; s.node.hubReceives .n = true ∧ s.node.n.agree.phase = .committed ∧ s.node.trained = true) ∧
    (let s : State := Tests.st { Tests.running with n := { Tests.running.n with agree := { phase := .committed, number := 4, map := 2, txn := some (0, 5) } } }; s.node.nUp = true ∧ s.node.n.agree.phase = .committed ∧ s.node.n.agree.txn.isSome = true) :=
  ⟨⟨_, _, rfl, by decide⟩, ⟨_, _, rfl, by decide⟩, by decide, by decide, by decide, by decide, by decide, by decide, by decide, by decide, by decide, by decide, by decide, by decide⟩

/-- What SynthesisersOutagesAndLoss assumes is met, clause by clause. -/
theorem test_SynthesisersOutagesAndLoss_met :
    (let s : State := Tests.st Tests.running; let d : Die := .n; s.node.up d = true ∧ (s.node.die d).clasp.synth = .locked) ∧
    (let s : State := Tests.st { Tests.running with n := { Tests.running.n with clasp := { Tests.half with synth := .calibrating } } }; let d : Die := .n; (s.node.die d).clasp.synth = .calibrating) ∧
    (let s : State := Tests.st { Tests.running with n := { Tests.running.n with clasp := { Tests.half with synth := .settling } } }; let d : Die := .n; (s.node.die d).clasp.synth = .settling) ∧
    (let s : State := Tests.st Tests.running; let d : Die := .f; s.node.up d = true ∧ (s.node.die d).clasp.link = .up) ∧
    (let s : State := Tests.st { Tests.running with n := { Tests.running.n with clasp := { Tests.half with link := .outage } } }; let d : Die := .n; (s.node.die d).clasp.link = .outage ∧ (s.node.die d).clasp.synth = .locked) ∧
    (let s : State := Tests.st { Tests.running with n := { Tests.running.n with clasp := { Tests.half with link := .outage }, ch := { rowApplied := true, levels := 0, chans := [(1, { overflowed := true })] } } }; let d : Die := .n; (s.node.die d).clasp.link = .outage ∧ (s.node.die d).clasp.synth = .locked) ∧
    (let s : State := Tests.st { Tests.running with n := { Tests.running.n with clasp := { Tests.half with link := .outage } } }; let d : Die := .n; s.node.up d = true ∧ (s.node.die d).clasp.link = .outage) ∧
    (let s : State := Tests.st { Tests.running with f := { Tests.running.f with clasp := { Tests.half with link := .outage } } }; let d : Die := .f; s.node.up d = true ∧ (s.node.die d).clasp.link = .outage) ∧
    (let s : State := Tests.st Tests.running; let d : Die := .n; s.node.up d = true ∧ (((s.node.die d).clasp.link = .up ∨ (s.node.die d).clasp.link = .outage))) ∧
    (let s : State := Tests.st Tests.running; let d : Die := .f; s.node.up d = true ∧ (((s.node.die d).clasp.link = .up ∨ (s.node.die d).clasp.link = .outage))) :=
  ⟨by decide, by decide, by decide, by decide, by decide, by decide, by decide, by decide, by decide, by decide⟩

/-- What CreditsAndDataFrames assumes is met, clause by clause. -/
theorem test_CreditsAndDataFrames_met :
    (let s : State := Tests.st { Tests.running with n := { Tests.running.n with clasp := { Tests.half with credits := 30, unacked := [⟨0, 7, .timeSample⟩, ⟨0, 8, .timeSample⟩] } } }; let d : Die := .n; s.node.receives d = true ∧ s.node.readable d 2 = true ∧ (s.node.die d).clasp.waiting = []) ∧
    (let s : State := Tests.st { Tests.running with n := { Tests.running.n with clasp := { Tests.half with owed := 3, rxSeq := 3 } } }; let d : Die := .n; s.node.receives d = true ∧ s.node.trained = true ∧ 0 < (s.node.die d).clasp.owed ∧ (s.node.die d).clasp.nakOwed = false) ∧
    (let s : State := Tests.st { Tests.running with n := { Tests.running.n with clasp := { Tests.half with nakOwed := true, nakRun := 3 } } }; let d : Die := .n; s.node.receives d = true ∧ (s.node.die d).clasp.nakOwed = true) ∧
    (let s : State := Tests.st { Tests.running with f := { Tests.running.f with clasp := { Tests.half with nakOwed := true, nakRun := 1 } } }; let d : Die := .f; s.node.receives d = true ∧ (s.node.die d).clasp.nakOwed = true) ∧
    (let s : State := Tests.st Tests.running; let d : Die := .n; let stream : Nat := 2; let seq : Nat := 0; s.node.receives d = true ∧ s.node.readable d 3 = true ∧ (s.node.die (otherDie d)).clasp.unacked = [] ∧ stream ≤ 5 ∧ seq = (s.node.die d).clasp.rxSeq ∧ s.node.claspTorn d = false) ∧
    (let s : State := Tests.st Tests.running; let d : Die := .n; s.node.receives d = true) :=
  ⟨by decide, by decide, by decide, by decide, by decide, by decide⟩

/-- What MarginAndRate assumes is met, clause by clause. -/
theorem test_MarginAndRate_met :
    (let s : State := Tests.st Tests.running; let d : Die := .f; s.node.receives d = true ∧ s.node.readable d 2 = true) ∧
    (let s : State := Tests.st Tests.running; let d : Die := .f; s.node.receives d = true ∧ s.node.trained = true) ∧
    (let s : State := Tests.st Tests.running; let d : Die := .n; s.node.receives d = true ∧ s.node.trained = true) ∧
    (let s : State := Tests.st Tests.running; let d : Die := .f; s.node.hubReceives d = true ∧ s.node.trained = true ∧ s.node.readable d 2 = true) ∧
    (let s : State := Tests.st Tests.running; let d : Die := .n; let n : Nat := 3; s.node.hubReceives d = true ∧ s.node.trained = true ∧ s.node.readable d 2 = true) ∧
    (let s : State := Tests.st { Tests.running with n := { Tests.running.n with clasp := { Tests.half with rateAgreement := some (3, true) } } }; let d : Die := .n; let n : Nat := 3; let toHalf : Bool := true; s.node.hubReceives d = true ∧ s.node.readable d 2 = true ∧ (s.node.die d).clasp.rateAgreement = some (n, toHalf)) ∧
    (let s : State := Tests.st { Tests.running with n := { Tests.running.n with clasp := { Tests.half with rateAgreement := some (3, true) } } }; let d : Die := .n; let n : Nat := 3; let toHalf : Bool := true; s.node.hubReceives d = true ∧ s.node.readable d 2 = true ∧ (s.node.die d).clasp.rateAgreement = some (n, toHalf)) ∧
    (let s : State := Tests.st { Tests.running with n := { Tests.running.n with clasp := { Tests.half with rateRetry := some false } } }; let d : Die := .n; let toHalf : Bool := false; s.node.receives d = true ∧ (s.node.die d).clasp.rateRetry = some toHalf) ∧
    (let s : State := Tests.st { Tests.running with n := { Tests.running.n with clasp := { Tests.half with rateSwitchDue := some true } }, f := { Tests.running.f with clasp := { Tests.half with rateSwitchDue := some true } } }; let toHalf : Bool := true; s.node.n.clasp.rateSwitchDue = some toHalf ∧ s.node.f.clasp.rateSwitchDue = some toHalf ∧ s.node.linkUp = true) ∧
    (let s : State := Tests.st Tests.running; let rq : Rq := Tests.ask; ∃ u x, s.node.accepts rq 0x2107 (.command none) = some (u, x) ∧ s.node.n.dev ≠ .boot ∧ s.node.n.dev ≠ .sealed) ∧
    (let s : State := Tests.st { Tests.running with n := { Tests.running.n with clasp := { Tests.half with half := true } } }; let rq : Rq := Tests.ask; ∃ u x, s.node.accepts rq 0x2107 (.command none) = some (u, x) ∧ s.node.n.dev ≠ .boot ∧ s.node.n.dev ≠ .sealed) :=
  ⟨by decide, by decide, by decide, by decide, by decide, by decide, by decide, by decide, by decide, ⟨_, _, rfl, by decide⟩, ⟨_, _, rfl, by decide⟩⟩

/-- What OrdersAndReports assumes is met, clause by clause. -/
theorem test_OrdersAndReports_met :
    (let s : State := Tests.st { Tests.running with n := { Tests.running.n with dev := .run }, blobs := tput [] (slotOf 0x3240 0) [1, 0, 0, 0, 0, 0, 0, 0, 0, 0] }; let d : Die := .n; let id : Nat := 3; let floor : Nat := 0; let list : Nat := 64; let i : Nat := 0; let launch : T48 := 500; s.node.hubReceives d = true ∧ s.node.readable d 2 = true ∧ (s.node.die d).clasp.answered.find? (fun a => a.1 == id) = none ∧ orderOutcome d floor list s.node = (0, i) ∧ before launch (s.node.time d) = false) ∧
    (let s : State := Tests.st { Tests.running with n := { Tests.running.n with clasp := { Tests.half with answered := [(3, true, 0)] } } }; let d : Die := .n; let id : Nat := 3; let late : Bool := true; let o : Nat := 0; s.node.hubReceives d = true ∧ s.node.readable d 2 = true ∧ s.node.trained = true ∧ (s.node.die d).clasp.answered.find? (fun a => a.1 == id) = some (id, late, o)) ∧
    (let s : State := Tests.st { Tests.running with n := { Tests.running.n with clasp := { Tests.half with orders := [⟨3, 0, 1, 500, none⟩] } } }; let d : Die := .n; s.node.up d = true ∧ s.node.trained = true ∧ s.node.claspTorn d = false) ∧
    (let s : State := Tests.st { Tests.running with n := { Tests.running.n with clasp := { Tests.half with orders := [⟨3, 0, 1, 500, none⟩] } } }; let d : Die := .n; let id : Nat := 3; let o : Order := ⟨3, 0, 1, 500, none⟩; s.node.hubReceives d = true ∧ s.node.readable d 2 = true ∧ (s.node.die d).clasp.orders.find? (fun o => o.id == id) = some o ∧ o.fromStep = none ∧ (s.node.die d).clasp.ordersWaiting = []) ∧
    (let s : State := Tests.st Tests.running; s.node.hubReceives .n = true ∧ s.node.readable .n 2 = true ∧ s.node.trained = true) ∧
    (let s : State := Tests.st Tests.running; s.node.hubReceives .n = true ∧ s.node.readable .n 2 = true ∧ s.node.trained = true) ∧
    (let s : State := Tests.st Tests.running; s.node.hubReceives .f = true ∧ s.node.readable .f 2 = true) ∧
    (let s : State := Tests.st Tests.running; s.node.hubReceives .f = true ∧ s.node.trained = true) ∧
    (let s : State := Tests.st Tests.running; let cls : Fin 4 := 3; s.node.hubReceives .n = true ∧ s.node.f.faults.history = [] ∧ s.node.val 0x1120 ≤ cls ∧ s.node.n.can.alerts.length < 8) :=
  ⟨by decide, by decide, by decide, by decide, by decide, by decide, by decide, by decide, by decide⟩

/-- What TimeFramesOfClaspAndCan assumes is met, clause by clause. -/
theorem test_TimeFramesOfClaspAndCan_met :
    (let s : State := Tests.st Tests.running; s.node.nUp = true ∧ s.node.linkUp = true ∧ s.node.trained = true ∧ s.node.n.hm.set = none) ∧
    (let s : State := Tests.st { Tests.running with n := { Tests.running.n with clasp := { Tests.half with triples := 15 } } }; s.node.nUp = true ∧ s.node.linkUp = true ∧ s.node.trained = true ∧ s.node.n.hm.set = none) ∧
    (let s : State := Tests.st { Tests.running with n := { Tests.running.n with hm := { state := .tracking, source := 2, set := some (-5, some 3), count := 100 } } }; let k : Int := -5; let era : Option Word := some 3; s.node.nUp = true ∧ s.node.linkUp = true ∧ s.node.n.hm.set = some (k, era)) ∧
    (let s : State := Tests.st Tests.running; s.node.receives .f = true ∧ s.node.readable .f 2 = true) ∧
    (let s : State := Tests.st { Tests.running with f := { Tests.running.f with fol := { state := .aligned, seenTriple := true, count := 3 } } }; s.node.receives .f = true ∧ s.node.readable .f 2 = true) ∧
    (let s : State := Tests.st Tests.running; s.node.receives .f = true ∧ s.node.readable .f 2 = true) ∧
    (let s : State := Tests.st { Tests.running with vals := tput [] (slotOf 0x3005 0) 9 }; let src : Nat := 9; s.node.canOn = true ∧ src ≠ 0) ∧
    (let s : State := Tests.st Tests.running; let src : Nat := 3; s.node.canOn = true ∧ src ≠ 0) ∧
    (let s : State := Tests.st { Tests.running with vals := tput [] (slotOf 0x3005 0) 9, n := { Tests.running.n with hm := { state := .tracking, source := 2, count := 1000, eraKnown := true }, can := { state := .active, syncSeen := some (9, 4, 900) } } }; let src : Nat := 9; let tag : Nat := 4; let stamp : T48 := 900; s.node.canOn = true ∧ s.node.n.can.syncSeen = some (src, tag, stamp)) ∧
    (let s : State := Tests.st Tests.running; s.node.canOn = true) ∧
    (let s : State := Tests.st { Tests.running with vals := tput [] (slotOf 0x3004 0) 1 }; s.node.canOn = true ∧ s.node.val 0x3004 = 1 ∧ s.node.n.number ≠ 0) :=
  ⟨by decide, by decide, by decide, by decide, by decide, by decide, by decide, by decide, by decide, by decide, by decide⟩

/-- What ServoAndHoldover assumes is met, clause by clause. -/
theorem test_ServoAndHoldover_met :
    (let s : State := Tests.st { Tests.running with n := { Tests.running.n with hm := { state := .tracking, source := 1, eraKnown := true, slew := 5000000, r := 3 } }, f := { Tests.running.f with fol := { state := .aligned }, linkA := { state := .up, role := .parent } } }; let port : Port := .a; let f : TimeFrame := ⟨1, 0, 100, 0, 0, true, false, 0, 0, 90⟩; s.node.portUp port = true ∧ (s.node.link port).role = .parent ∧ s.node.f.chain.root = false ∧ s.node.trained = true ∧ s.node.nUp = true ∧ s.node.f.fol.state ≠ .unaligned ∧ s.node.n.hm.state = .tracking ∧ s.node.n.hm.set = none ∧ s.node.n.hm.source = 1 ∧ s.node.sourceUsable 1 = true) ∧
    (let s : State := Tests.st Tests.running; let port : Port := .b; (s.node.link port).role ≠ .parent) ∧
    (let s : State := Tests.st { Tests.running with n := { Tests.running.n with hm := { state := .tracking, source := 1, eraKnown := true, slew := 5000000, r := 3 } }, f := { Tests.running.f with fol := { state := .aligned }, linkA := { state := .up, role := .parent } } }; s.node.nUp = true ∧ s.node.fUp = true ∧ s.node.trained = true ∧ s.node.n.hm.source = 1 ∧ s.node.n.hm.state = .tracking ∧ s.node.servoFrozen = false) ∧
    (let s : State := Tests.st { Tests.running with n := { Tests.running.n with hm := { rTarget := 900000000 } } }; s.node.nUp = true ∧ s.node.servoFrozen = false ∧ s.node.n.hm.slew = 0) ∧
    (let s : State := Tests.st { Tests.running with n := { Tests.running.n with hm := { state := .tracking, source := 1, eraKnown := true, slew := 5000000, r := 3 } }, f := { Tests.running.f with fol := { state := .aligned }, linkA := { state := .up, role := .parent } } }; s.node.nUp = true ∧ s.node.servoFrozen = false ∧ s.node.n.hm.slew ≠ 0) ∧
    (let s : State := Tests.st { Tests.running with fil := { slots := [(0, { armed := true, die := .n, code := filServoFreeze, onDie := true })] } }; s.node.servoFrozen = true) ∧
    (let s : State := Tests.st { Tests.running with n := { Tests.running.n with hm := { state := .tracking, source := 1, eraKnown := true, slew := 5000000, r := 3 } }, f := { Tests.running.f with fol := { state := .aligned }, linkA := { state := .up, role := .parent } } }; s.node.nUp = true ∧ s.node.n.hm.state = .tracking ∧ 1 ≤ s.node.n.hm.source ∧ s.node.n.hm.source ≤ 3) ∧
    (let s : State := Tests.st { Tests.running with n := { Tests.running.n with hm := { state := .holdover } } }; s.node.nUp = true ∧ s.node.n.hm.state = .holdover) ∧
    (let s : State := Tests.st { Tests.running with f := { Tests.running.f with fol := { state := .holdover } } }; s.node.fUp = true ∧ s.node.f.fol.state = .holdover) ∧
    (let s : State := Tests.st { Tests.running with n := { Tests.running.n with hm := { rTarget := -2000000000000 } } }; s.node.nUp = true ∧ s.node.n.hm.rTarget.natAbs = 2000000000000) :=
  ⟨by decide, by decide, by decide, by decide, by decide, by decide, by decide, by decide, by decide, by decide⟩

/-- What StepsWrapsAndSyncPins assumes is met, clause by clause. -/
theorem test_StepsWrapsAndSyncPins_met :
    (let s : State := Tests.st { Tests.running with n := { Tests.running.n with hm := { state := .tracking, source := 2, count := 500, step := some ⟨500, 40, true⟩ } } }; let x : TimeStep := ⟨500, 40, true⟩; s.node.nUp = true ∧ s.node.n.hm.step = some x ∧ s.node.f.fol.step = none) ∧
    (let s : State := Tests.st { Tests.running with f := { Tests.running.f with fol := { state := .aligned, count := 500, step := some ⟨500, 40, true⟩ } } }; let x : TimeStep := ⟨500, 40, true⟩; s.node.fUp = true ∧ s.node.f.fol.state ≠ .unaligned ∧ s.node.f.fol.step = some x ∧ s.node.n.hm.step = none) ∧
    (let s : State := Tests.st { Tests.running with n := { Tests.running.n with hm := { count := BitVec.allOnes 48 } } }; s.node.nUp = true ∧ s.node.n.hm.count = BitVec.allOnes 48) ∧
    (let s : State := Tests.st { Tests.running with f := { Tests.running.f with fol := { state := .aligned, count := BitVec.allOnes 48 } } }; s.node.fUp = true ∧ s.node.f.fol.state ≠ .unaligned ∧ s.node.f.fol.count = BitVec.allOnes 48) ∧
    (let s : State := Tests.st { Tests.running with vals := tput [] (slotOf 0x3018 0) 2 }; s.node.nUp = true ∧ s.node.val 0x3018 = 2) ∧
    (let s : State := Tests.st { Tests.running with n := { Tests.running.n with hm := { state := .tracking, source := 3 } }, vals := tput [] (slotOf 0x3018 0) 1 }; s.node.nUp = true ∧ s.node.val 0x3018 = 1 ∧ s.node.n.hm.state = .tracking ∧ s.node.n.hm.set = none ∧ s.node.n.hm.source = 3 ∧ s.node.sourceUsable 3 = true) ∧
    (let s : State := Tests.st { Tests.running with vals := tput [] (slotOf 0x3019 0) 2, f := { Tests.running.f with fol := { state := .aligned } } }; s.node.fUp = true ∧ s.node.val 0x3019 = 2) ∧
    (let s : State := Tests.st { Tests.running with vals := tput [] (slotOf 0x3019 0) 2 }; s.node.fUp = true ∧ s.node.val 0x3019 = 2) ∧
    (let s : State := Tests.st { Tests.running with vals := tput [] (slotOf 0x3018 0) 3 }; let d : Die := .n; s.node.up d = true ∧ s.node.syncMode d = 3) ∧
    (let s : State := Tests.st Tests.running; let rq : Rq := Tests.ask; let v : Nat := 5000000; ∃ u x, s.node.accepts rq 0x300B (.write (.pair v)) = some (u, x) ∧ s.node.n.dev ≠ .boot ∧ s.node.n.dev ≠ .sealed ∧ v < 281474976710656 ∧ s.node.n.hm.state = .free) ∧
    (let s : State := Tests.st { Tests.running with n := { Tests.running.n with hm := { state := .tracking, source := 2 } } }; let rq : Rq := Tests.ask; let v : Nat := 5000000; ∃ u x, s.node.accepts rq 0x300B (.write (.pair v)) = some (u, x) ∧ s.node.n.dev ≠ .boot ∧ s.node.n.dev ≠ .sealed ∧ s.node.manualAllowed = false) ∧
    (let s : State := Tests.st Tests.running; let rq : Rq := Tests.ask; let v : Nat := 12; ∃ u x, s.node.accepts rq 0x300C (.write (.word v)) = some (u, x) ∧ s.node.n.dev ≠ .boot ∧ s.node.n.dev ≠ .sealed ∧ s.node.manualAllowed = true) :=
  ⟨by decide, by decide, by decide, by decide, by decide, by decide, by decide, by decide, by decide, ⟨_, _, rfl, by decide⟩, ⟨_, _, rfl, by decide⟩, ⟨_, _, rfl, by decide⟩⟩

/-- What FlowOfLists assumes is met, clause by clause. -/
theorem test_FlowOfLists_met :
    (let s : State := Tests.st { Tests.running with n := { Tests.running.n with dev := .run, seq := { slots := [(3, { state := .armed, list := 64, launch := 9 })] } } }; let d : Die := .n; let i : Fin 32 := 3; s.node.up d = true ∧ s.node.devOf d = .run ∧ (s.node.slot d i).state = .armed ∧ listLocation (s.node.blob (listKey (s.node.slot d i).list)) = 0) ∧
    (let s : State := Tests.st { Tests.running with n := { Tests.running.n with dev := .run, seq := { slots := [(3, { state := .armed, list := 64, launch := 9, period := 5000, launches := 2 })] } } }; let d : Die := .n; let i : Fin 32 := 3; s.node.up d = true ∧ s.node.devOf d = .run ∧ (s.node.slot d i).state = .armed ∧ listLocation (s.node.blob (listKey (s.node.slot d i).list)) = 0) ∧
    (let s : State := Tests.st { Tests.running with n := { Tests.running.n with seq := { slots := [(3, { state := .armed, list := 64, launch := 9 })] } } }; let d : Die := .n; let i : Fin 32 := 3; s.node.up d = true ∧ s.node.devOf d ≠ .run ∧ (s.node.slot d i).state = .armed ∧ periodTicks (s.node.slot d i).period = 0) ∧
    (let s : State := Tests.st (Tests.onN [0] {} {}); let d : Die := .n; let r : Runner := .slot 0; ∃ run w a b, s.node.stepNow d r 0x00 = some (run, w, a, b) ∧ run.outstanding = 0) ∧
    (let s : State := Tests.st (Tests.onF [0] {} {}); let d : Die := .f; let r : Runner := .slot 0; ∃ run w a b, s.node.stepNow d r 0x00 = some (run, w, a, b) ∧ run.outstanding = 0) ∧
    (let s : State := Tests.st (Tests.onN [0] { outstanding := 2 } {}); let d : Die := .n; let r : Runner := .slot 0; ∃ run w a b, s.node.stepNow d r 0x00 = some (run, w, a, b) ∧ run.outstanding ≠ 0) ∧
    (let s : State := Tests.st (Tests.onN [262844, 0] {} {}); let d : Die := .n; let r : Runner := .slot 0; ∃ run w a b, s.node.stepNow d r 0x01 = some (run, w, a, b) ∧ listLocation (s.node.blob (listKey run.list)) = 0) ∧
    (let s : State := Tests.st (Tests.onN [524288, 0] {} {}); let d : Die := .n; let r : Runner := .slot 0; ∃ run w a b, s.node.stepNow d r 0x02 = some (run, w, a, b) ∧ listLocation (s.node.blob (listKey run.list)) = 0) ∧
    (let s : State := Tests.st (Tests.onN [524288, 0] { outstanding := 1 } {}); let d : Die := .n; let r : Runner := .slot 0; ∃ run w a b, s.node.stepNow d r 0x02 = some (run, w, a, b) ∧ listLocation (s.node.blob (listKey run.list)) = 0) ∧
    (let s : State := Tests.st (Tests.onN [524288, 0] { joining := true } {}); let d : Die := .n; let r : Runner := .slot 0; let run : Run := { joining := true, list := 64 }; s.node.run d r = some run ∧ s.node.up d = true ∧ run.joining = true ∧ run.outstanding = 0 ∧ listLocation (s.node.blob (listKey run.list)) = 0) ∧
    (let s : State := Tests.st (Tests.onN [262151, 794625, 0] { pc := 1 } {}); let d : Die := .n; let r : Runner := .slot 0; ∃ run w a b, s.node.stepNow d r 0x03 = some (run, w, a, b) ∧ listLocation (s.node.blob (listKey run.list)) = 0) ∧
    (let s : State := Tests.st (Tests.onN [262151, 794625, 0] { pc := 1, passes := some (0, 1) } {}); let d : Die := .n; let r : Runner := .slot 0; ∃ run w a b, s.node.stepNow d r 0x03 = some (run, w, a, b) ∧ listLocation (s.node.blob (listKey run.list)) = 0) :=
  ⟨by decide, by decide, by decide, ⟨_, _, _, _, rfl, by decide⟩, ⟨_, _, _, _, rfl, by decide⟩, ⟨_, _, _, _, rfl, by decide⟩, ⟨_, _, _, _, rfl, by decide⟩, ⟨_, _, _, _, rfl, by decide⟩, ⟨_, _, _, _, rfl, by decide⟩, by decide, ⟨_, _, _, _, rfl, by decide⟩, ⟨_, _, _, _, rfl, by decide⟩⟩

/-- What OutputAndObjectSteps assumes is met, clause by clause. -/
theorem test_OutputAndObjectSteps_met :
    (let s : State := (let x := Tests.onN [2098435, 0] {} {}; Tests.st { x with n := { x.n with ch := { x.n.ch with timed := 5 } } }); let d : Die := .n; let r : Runner := .slot 0; ∃ run w a b, s.node.stepNow d r 0x08 = some (run, w, a, b) ∧ BitVec.ofNat 8 (bits w 15 8) &&& ~~~ (s.node.die d).ch.timed = 0 ∧ s.node.strobeLost d (claspIsland d) = false) ∧
    (let s : State := Tests.st (Tests.onN [2098435, 0] {} {}); let d : Die := .n; let r : Runner := .slot 0; ∃ run w a b, s.node.stepNow d r 0x08 = some (run, w, a, b) ∧ ((BitVec.ofNat 8 (bits w 15 8) &&& ~~~ (s.node.die d).ch.timed ≠ 0 ∨ s.node.strobeLost d (claspIsland d) = true))) ∧
    (let s : State := Tests.st (Tests.onN [2425072, 0] {} {}); let d : Die := .n; let r : Runner := .slot 0; ∃ run w a b, s.node.stepNow d r 0x09 = some (run, w, a, b)) ∧
    (let s : State := (let x := Tests.onN [2359312, 0] {} {}; Tests.st { x with n := { x.n with ch := { x.n.ch with own := [(2, 0x30)] } } }); let d : Die := .n; let r : Runner := .slot 0; ∃ run w a b, s.node.stepNow d r 0x09 = some (run, w, a, b)) ∧
    (let s : State := Tests.st (Tests.onN [4194307, 0] {} {}); let d : Die := .n; let r : Runner := .slot 0; ∃ run w a b, s.node.stepNow d r 0x10 = some (run, w, a, b) ∧ (s.node.object d (bits w 2 0)).isOpen = false) ∧
    (let s : State := Tests.st (Tests.onN [4194307, 0] {} { objects := [(3, { isOpen := true })] }); let d : Die := .n; let r : Runner := .slot 0; ∃ run w a b, s.node.stepNow d r 0x10 = some (run, w, a, b) ∧ (s.node.object d (bits w 2 0)).isOpen = true) ∧
    (let s : State := Tests.st (Tests.onN [4456451, 0] {} { objects := [(3, { isOpen := true, work := [7], workTime := 4 })] }); let d : Die := .n; let r : Runner := .slot 0; ∃ run w a b, s.node.stepNow d r 0x11 = some (run, w, a, b) ∧ (s.node.object d (bits w 2 0)).isOpen = true) ∧
    (let s : State := Tests.st (Tests.onN [4456707, 0] {} { objects := [(3, { isOpen := true, work := [7], workTime := 4 })] }); let d : Die := .n; let r : Runner := .slot 0; ∃ run w a b, s.node.stepNow d r 0x11 = some (run, w, a, b) ∧ (s.node.object d (bits w 2 0)).isOpen = true) ∧
    (let s : State := Tests.st (Tests.onN [4718593, 6299648, 0] {} { objects := [(3, { isOpen := true, work := [7] })] }); let d : Die := .n; let r : Runner := .slot 0; ∃ run w a b, s.node.stepNow d r 0x12 = some (run, w, a, b) ∧ (s.node.object d (bits a 23 21)).isOpen = true ∧ bits a 19 11 + (s.node.captured d (bits w 1 0)).length ≤ 512) :=
  ⟨⟨_, _, _, _, rfl, by decide⟩, ⟨_, _, _, _, rfl, by decide⟩, ⟨_, _, _, _, rfl⟩, ⟨_, _, _, _, rfl⟩, ⟨_, _, _, _, rfl, by decide⟩, ⟨_, _, _, _, rfl, by decide⟩, ⟨_, _, _, _, rfl, by decide⟩, ⟨_, _, _, _, rfl, by decide⟩, ⟨_, _, _, _, rfl, by decide⟩⟩

/-- What StepsThatReachOut assumes is met, clause by clause. -/
theorem test_StepsThatReachOut_met :
    (let s : State := Tests.st (Tests.onN [4984836, 6291456, 0] {} { objects := [(3, { isOpen := true, work := [7] })] }); let d : Die := .n; let r : Runner := .slot 0; let row : KeyRow := Tests.rowOf 0x1004; ∃ run w a b, s.node.stepNow d r 0x13 = some (run, w, a, b) ∧ keyRow (bits w 15 0) = some row ∧ row.home = .n ∧ row.persist = .s ∧ row.type.isBlob = false ∧ row.sel = .none ∧ s.node.engineReached d = true ∧ s.node.n.dict.txns.length < 16 ∧ (s.node.flightOf 7).length < 4 ∧ (s.node.object d (bits a 23 21)).isOpen = true ∧ bits a 19 11 + 6 ≤ 512 ∧ run.outstanding = 0) ∧
    (let s : State := Tests.st (Tests.onN [5246980, 250, 0, 0] {} {}); let d : Die := .n; let r : Runner := .slot 0; ∃ run w a b, s.node.stepNow d r 0x14 = some (run, w, a, b) ∧ bits w 15 0 = 0x1004 ∧ 10 ≤ a ∧ a ≤ 2000 ∧ s.node.engineReached d = true ∧ s.node.n.dev = .run ∧ s.node.n.dict.run = none ∧ s.node.n.dict.txns.length < 16 ∧ (s.node.flightOf 7).length < 4 ∧ run.outstanding = 0) ∧
    (let s : State := Tests.st (Tests.onN [6291520, 5000, 0] {} {}); let d : Die := .n; let r : Runner := .slot 0; let i : Nat := 1; ∃ run w a b, s.node.stepNow d r 0x18 = some (run, w, a, b) ∧ bits w 7 0 < 128 ∧ listDie (bits w 7 0) = d ∧ s.node.armsNow d = true ∧ s.node.listDefined d (bits w 7 0) = true ∧ before (addTicks run.sched a) (s.node.time d) = false ∧ s.node.freeSlot d (bits w 12 8) = some i) ∧
    (let s : State := Tests.st (Tests.onN [6291459, 5000, 0] {} {}); let d : Die := .n; let r : Runner := .slot 0; ∃ run w a b, s.node.stepNow d r 0x18 = some (run, w, a, b) ∧ bits w 7 0 < 128 ∧ listDie (bits w 7 0) ≠ d ∧ s.node.seqTorn d = false ∧ (s.node.die d).clasp.orders.length < 8) ∧
    (let s : State := Tests.st (Tests.onN [6813699, 5000, 0] {} {}); let r : Runner := .slot 0; ∃ run w a b, s.node.stepNow .n r 0x19 = some (run, w, a, b) ∧ (s.node.n.can.tx.filter fun f => f.cls == 2).length < 2 ∧ s.node.strobeLost .n 2 = false) ∧
    (let s : State := Tests.st (Tests.onF [6813699, 5000, 0] {} {}); let r : Runner := .slot 0; ∃ run w a b, s.node.stepNow .f r 0x19 = some (run, w, a, b)) ∧
    (let s : State := (let x := Tests.onF [8454145, 0, 0] {} {}; Tests.st { x with f := { x.f with beads := [(1, { state := .idle })] }, vals := tput [] (slotOf 0x5011 1) 2 }); let r : Runner := .slot 0; ∃ run w a b, s.node.stepNow .f r 0x20 = some (run, w, a, b) ∧ bit w 0 = true ∧ s.node.strobeLost .f (6 + bits w 17 16) = false ∧ s.node.torn .f (3 + bits w 17 16) = false ∧ (s.node.bead (bits w 17 16)).state = .idle ∧ s.node.beadMode (bits w 17 16) ≠ 3 ∧ bits w 15 12 + bits w 11 8 + 1 ≤ s.node.beadPositions (bits w 17 16)) ∧
    (let s : State := Tests.st (Tests.onF [8650755, 0, 0] {} {}); let r : Runner := .slot 0; ∃ run w a b, s.node.stepNow .f r 0x21 = some (run, w, a, b) ∧ s.node.strobeLost .f 5 = false ∧ s.node.f.fport.queue.length < 4 ∧ s.node.torn .f 2 = false) ∧
    (let s : State := (let x := Tests.onN [8912899, 0, 0] {} {}; Tests.st { x with n := { x.n with port := { mode := 2 } }, blobs := tput x.blobs (slotOf 0x1213 0) [1] }); let r : Runner := .slot 0; ∃ run w a b, s.node.stepNow .n r 0x22 = some (run, w, a, b) ∧ s.node.strobeLost .n 3 = false ∧ s.node.n.port.mode = 2 ∧ s.node.n.port.master = none ∧ s.node.blob (0x1210 + bits w 2 0) ≠ []) :=
  ⟨⟨_, _, _, _, rfl, by decide⟩, ⟨_, _, _, _, rfl, by decide⟩, ⟨_, _, _, _, rfl, by decide⟩, ⟨_, _, _, _, rfl, by decide⟩, ⟨_, _, _, _, rfl, by decide⟩, ⟨_, _, _, _, rfl⟩, ⟨_, _, _, _, rfl, by decide⟩, ⟨_, _, _, _, rfl, by decide⟩, ⟨_, _, _, _, rfl, by decide⟩⟩

/-- What IslandsAndCrossings assumes is met, clause by clause. -/
theorem test_IslandsAndCrossings_met :
    (let s : State := Tests.st Tests.running; let d : Die := .n; let i : Nat := 2; s.node.up d = true ∧ isIsland d i = true ∧ ((d = .n → i = 3 → s.node.n.port.mode ≠ 1))) ∧
    (let s : State := Tests.st Tests.running; let d : Die := .f; let i : Nat := 10; s.node.up d = true ∧ isIsland d i = true ∧ ((d = .n → i = 3 → s.node.n.port.mode ≠ 1))) ∧
    (let s : State := Tests.st Tests.running; let d : Die := .n; let i : Nat := 5; s.node.up d = true ∧ isIsland d i = true ∧ ((d = .n → i = 3 → s.node.n.port.mode ≠ 1))) ∧
    (let s : State := Tests.st Tests.running; s.node.n.port.mode = 1) ∧
    (let s : State := Tests.st { Tests.running with n := { Tests.running.n with isl := { inReset := [(2, 1)], torn := 1 } } }; let d : Die := .n; let i : Nat := 2; tget? (s.node.die d).isl.inReset i = some 1) ∧
    (let s : State := Tests.st { Tests.running with n := { Tests.running.n with isl := { inReset := [(2, 0)], torn := 1 } } }; let d : Die := .n; let i : Nat := 2; let cause : Nat := 0; tget? (s.node.die d).isl.inReset i = some cause ∧ cause ≠ 1) ∧
    (let s : State := Tests.st Tests.running; let d : Die := .n; s.node.collects d = true) ∧
    (let s : State := Tests.st Tests.running; let d : Die := .f; s.node.collects d = true) ∧
    (let s : State := Tests.st Tests.running; let c : Nat := 0x05; let i : Nat := 4; let d : Die := .n; crossingOf c = some (d, i) ∧ s.node.up d = true ∧ s.node.torn d i = false) ∧
    (let s : State := Tests.st Tests.running; let c : Nat := 0x18; let i : Nat := 7; let d : Die := .f; crossingOf c = some (d, i) ∧ s.node.up d = true ∧ s.node.torn d i = false) ∧
    (let s : State := Tests.st { Tests.running with n := { Tests.running.n with isl := { torn := 1 } } }; let c : Nat := 0x01; let i : Nat := 0; let d : Die := .n; crossingOf c = some (d, i) ∧ s.node.torn d i = true) ∧
    (let s : State := Tests.st { Tests.running with n := { Tests.running.n with isl := { torn := 1, inReset := [(2, 1)] } } }; let rq : Rq := Tests.ask; let a : Nat := 1; ∃ u x, s.node.accepts rq 0xF004 (.command (some a)) = some (u, x) ∧ s.node.n.dev ≠ .boot ∧ 1 ≤ a ∧ a ≤ 5 ∧ a ≠ 3) ∧
    (let s : State := Tests.st Tests.running; let rq : Rq := Tests.ask; let a : Nat := 4; ∃ u x, s.node.accepts rq 0xF004 (.command (some a)) = some (u, x) ∧ s.node.n.dev ≠ .boot ∧ 1 ≤ a ∧ a ≤ 5 ∧ a ≠ 3) ∧
    (let s : State := Tests.st { Tests.running with f := { Tests.running.f with isl := { torn := 8, inReset := [(6, 1)] } } }; let rq : Rq := Tests.ask; let a : Nat := 0x14; ∃ u x, s.node.accepts rq 0xF004 (.command (some a)) = some (u, x) ∧ s.node.lineOpen = true ∧ s.node.n.dev ≠ .boot ∧ 0x14 ≤ a ∧ a ≤ 0x17) ∧
    (let s : State := Tests.st Tests.running; let rq : Rq := Tests.ask; let a : Nat := 6; ∃ u x, s.node.accepts rq 0xF004 (.command (some a)) = some (u, x) ∧ s.node.n.dev ≠ .boot ∧ a < 16777216 ∧ crossingOf a = none) ∧
    (let s : State := Tests.st { Tests.running with n := { Tests.running.n with isl := { unsampled := [(cellOf blkCan 0 0, 3)] } } }; let d : Die := .n; s.node.collects d = true) :=
  ⟨by decide, by decide, by decide, by decide, by decide, by decide, by decide, by decide, by decide, by decide, by decide, ⟨_, _, rfl, by decide⟩, ⟨_, _, rfl, by decide⟩, ⟨_, _, rfl, by decide⟩, ⟨_, _, rfl, by decide⟩, by decide⟩

/-- What ListsArmsAndResults assumes is met, clause by clause. -/
theorem test_ListsArmsAndResults_met :
    (let s : State := Tests.st Tests.running; let rq : Rq := Tests.ask; let l : Nat := 64; let bytes : List Byte := Tests.listBytes [0]; ∃ u x, s.node.accepts rq (0x3200 + l) (wholeBlob bytes) = some (u, x) ∧ l < 128 ∧ s.node.seqTorn (listDie l) = false ∧ ((l < 64 → s.node.lineOpen = true)) ∧ s.node.n.dev = .setup ∧ s.node.f.dev = .setup ∧ bytes.length ≤ 9219) ∧
    (let s : State := Tests.st Tests.running; let rq : Rq := Tests.ask; let l : Nat := 3; let bytes : List Byte := Tests.listBytes [0]; ∃ u x, s.node.accepts rq (0x3200 + l) (wholeBlob bytes) = some (u, x) ∧ l < 128 ∧ s.node.seqTorn (listDie l) = false ∧ ((l < 64 → s.node.lineOpen = true)) ∧ s.node.n.dev = .setup ∧ s.node.f.dev = .setup ∧ bytes.length ≤ 9219) ∧
    (let s : State := Tests.st Tests.running; let rq : Rq := Tests.ask; let l : Nat := 65; let bytes : List Byte := [1, 2]; ∃ u x, s.node.accepts rq (0x3200 + l) (wholeBlob bytes) = some (u, x) ∧ l < 128 ∧ s.node.seqTorn (listDie l) = false ∧ ((l < 64 → s.node.lineOpen = true)) ∧ s.node.n.dev = .setup ∧ s.node.f.dev = .setup ∧ bytes.length ≤ 9219) ∧
    (let s : State := (let x := Tests.onN [0] {} {}; Tests.st { Tests.running with blobs := x.blobs }); let rq : Rq := Tests.ask; let d : Die := .n; let bytes : List Byte := [255, 64, 0x88, 0x13, 0, 0, 0, 0, 0, 0, 0, 0, 0, 0, 0, 0]; let i : Nat := 0; ∃ u x, s.node.accepts rq (0x3048 + 16 * dieCode d) (wholeBlob bytes) = some (u, x) ∧ ((d = .f → s.node.lineOpen = true)) ∧ s.node.n.dev = .setup ∧ s.node.f.dev = .setup ∧ bytes.length ≤ 16 ∧ s.node.seqTorn d = false ∧ armTakes d bytes s.node = some i ∧ before (slotOfBlob bytes).launch (s.node.time d) = false) ∧
    (let s : State := (let x := Tests.onF [0] {} {}; Tests.st { Tests.running with blobs := x.blobs }); let rq : Rq := Tests.ask; let d : Die := .f; let bytes : List Byte := [255, 0, 0x88, 0x13, 0, 0, 0, 0, 0, 0, 0, 0, 0, 0, 0, 0]; let i : Nat := 0; ∃ u x, s.node.accepts rq (0x3048 + 16 * dieCode d) (wholeBlob bytes) = some (u, x) ∧ ((d = .f → s.node.lineOpen = true)) ∧ s.node.n.dev = .setup ∧ s.node.f.dev = .setup ∧ bytes.length ≤ 16 ∧ s.node.seqTorn d = false ∧ armTakes d bytes s.node = some i ∧ before (slotOfBlob bytes).launch (s.node.time d) = false) ∧
    (let s : State := Tests.st Tests.running; let rq : Rq := Tests.ask; let d : Die := .n; let bytes : List Byte := [255, 64, 0x88, 0x13, 0, 0, 0, 0, 0, 0, 0, 0, 0, 0, 0, 0]; let st : Nat := 0x13; ∃ u x, s.node.accepts rq (0x3048 + 16 * dieCode d) (wholeBlob bytes) = some (u, x) ∧ ((d = .f → s.node.lineOpen = true)) ∧ s.node.n.dev = .setup ∧ s.node.f.dev = .setup ∧ bytes.length ≤ 16 ∧ armRefusal d bytes s.node = some st) ∧
    (let s : State := Tests.st (Tests.onN [0] {} {}); let rq : Rq := Tests.ask; let d : Die := .n; let a : Nat := 0; ∃ u x, s.node.accepts rq (0x3049 + 16 * dieCode d) (.command (some a)) = some (u, x) ∧ ((d = .f → s.node.lineOpen = true)) ∧ s.node.devOf d ≠ .boot ∧ s.node.devOf d ≠ .sealed ∧ s.node.seqTorn d = false ∧ a < 16777216) ∧
    (let s : State := Tests.st Tests.running; let rq : Rq := Tests.ask; let d : Die := .f; let a : Nat := 40; ∃ u x, s.node.accepts rq (0x3049 + 16 * dieCode d) (.command (some a)) = some (u, x) ∧ ((d = .f → s.node.lineOpen = true)) ∧ s.node.devOf d ≠ .boot ∧ s.node.devOf d ≠ .sealed ∧ s.node.seqTorn d = false ∧ a < 16777216) ∧
    (let s : State := Tests.st Tests.running; let rq : Rq := Tests.ask; let d : Die := .n; let v : Nat := 5; ∃ u x, s.node.accepts rq (0x3044 + 16 * dieCode d) (.write (.word v)) = some (u, x) ∧ ((d = .f → s.node.lineOpen = true)) ∧ s.node.n.dev = .setup ∧ s.node.f.dev = .setup ∧ v < 256 ∧ s.node.timedRefused d v = false ∧ s.node.claspTorn d = false) ∧
    (let s : State := Tests.st Tests.running; let rq : Rq := Tests.ask; let d : Die := .f; let v : Nat := 0xA0; ∃ u x, s.node.accepts rq (0x3044 + 16 * dieCode d) (.write (.word v)) = some (u, x) ∧ ((d = .f → s.node.lineOpen = true)) ∧ s.node.n.dev = .setup ∧ s.node.f.dev = .setup ∧ v < 256 ∧ s.node.timedRefused d v = false ∧ s.node.claspTorn d = false) ∧
    (let s : State := Tests.st Tests.running; let rq : Rq := Tests.ask; let d : Die := .n; let o : Fin 8 := 3; let offset : Nat := 0; let length : Nat := 32; ∃ u x, s.node.accepts rq (0x3C00 + 16 * dieCode d + o.val) (.readBlock offset length) = some (u, x) ∧ ((d = .f → s.node.lineOpen = true)) ∧ s.node.seqTorn d = false ∧ 1 ≤ length ∧ length ≤ 4096) ∧
    (let s : State := Tests.st { Tests.running with n := { Tests.running.n with seq := { objects := [(3, { tag := 4, data := [9] })] } } }; let rq : Rq := Tests.ask; let d : Die := .n; let o : Fin 8 := 3; let offset : Nat := 0; let length : Nat := 32; ∃ u x, s.node.accepts rq (0x3C00 + 16 * dieCode d + o.val) (.readBlock offset length) = some (u, x) ∧ ((d = .f → s.node.lineOpen = true)) ∧ s.node.seqTorn d = false ∧ 1 ≤ length ∧ length ≤ 4096) ∧
    (let s : State := Tests.st Tests.running; let rq : Rq := Tests.ask; let d : Die := .f; let o : Fin 8 := 1; let offset : Nat := 0; let length : Nat := 12; ∃ u x, s.node.accepts rq (0x3C00 + 16 * dieCode d + o.val) (.readBlock offset length) = some (u, x) ∧ ((d = .f → s.node.lineOpen = true)) ∧ s.node.seqTorn d = false ∧ 1 ≤ length ∧ length ≤ 4096) ∧
    (let s : State := Tests.st Tests.running; let rq : Rq := Tests.ask; let d : Die := .n; let length : Nat := 12; ∃ u x, s.node.accepts rq (0x3D00 + 16 * dieCode d) (.readBlock 0 length) = some (u, x) ∧ ((d = .f → s.node.lineOpen = true)) ∧ s.node.seqTorn d = false ∧ 12 ≤ length ∧ length ≤ 4096) ∧
    (let s : State := Tests.st { Tests.running with n := { Tests.running.n with seq := { records := [⟨1, 64, 2, 5, 6⟩] } } }; let rq : Rq := Tests.ask; let d : Die := .n; let length : Nat := 12; ∃ u x, s.node.accepts rq (0x3D00 + 16 * dieCode d) (.readBlock 0 length) = some (u, x) ∧ ((d = .f → s.node.lineOpen = true)) ∧ s.node.seqTorn d = false ∧ 12 ≤ length ∧ length ≤ 4096) ∧
    (let s : State := Tests.st Tests.running; let rq : Rq := Tests.ask; let d : Die := .f; let length : Nat := 12; ∃ u x, s.node.accepts rq (0x3D00 + 16 * dieCode d) (.readBlock 0 length) = some (u, x) ∧ ((d = .f → s.node.lineOpen = true)) ∧ s.node.seqTorn d = false ∧ 12 ≤ length ∧ length ≤ 4096) :=
  ⟨⟨_, _, rfl, by decide⟩, ⟨_, _, rfl, by decide⟩, ⟨_, _, rfl, by decide⟩, ⟨_, _, rfl, by decide⟩, ⟨_, _, rfl, by decide⟩, ⟨_, _, rfl, by decide⟩, ⟨_, _, rfl, by decide⟩, ⟨_, _, rfl, by decide⟩, ⟨_, _, rfl, by decide⟩, ⟨_, _, rfl, by decide⟩, ⟨_, _, rfl, by decide⟩, ⟨_, _, rfl, by decide⟩, ⟨_, _, rfl, by decide⟩, ⟨_, _, rfl, by decide⟩, ⟨_, _, rfl, by decide⟩, ⟨_, _, rfl, by decide⟩⟩

/-- What ChainPortsAndNeighbours assumes is met, clause by clause. -/
theorem test_ChainPortsAndNeighbours_met :
    (let s : State := Tests.st Tests.inTree; let p : Port := .a; s.node.linkOn p = true ∧ ((s.node.link p).state = .bringup ∨ (s.node.link p).state = .up)) ∧
    (let s : State := Tests.st { Tests.inTree with f := { Tests.inTree.f with inbox := [], linkB := { Tests.inTree.f.linkB with state := .bringup } } }; let p : Port := .b; s.node.linkOn p = true ∧ ((s.node.link p).state = .bringup ∨ (s.node.link p).state = .up)) ∧
    (let s : State := Tests.st { Tests.inTree with f := { Tests.inTree.f with inbox := [], linkC := { Tests.inTree.f.linkC with state := .bringup, role := .none, hellos := 2 } } }; let p : Port := .c; let h : Hello := ⟨14, 1, false, false, true, 1, 4, 11⟩; s.node.linkOn p = true ∧ (s.node.link p).state = .bringup ∧ (s.node.link p).role = .none ∧ (s.node.link p).serial = h.serial ∧ 2 ≤ (s.node.link p).hellos ∧ h.heard = true ∧ s.node.f.chain.number ≠ 0) ∧
    (let s : State := Tests.st { Tests.inTree with f := { Tests.inTree.f with inbox := [], linkC := { Tests.inTree.f.linkC with state := .bringup, role := .none, hellos := 0 } } }; let p : Port := .c; let h : Hello := ⟨14, 1, false, false, true, 1, 4, 11⟩; s.node.linkOn p = true ∧ (s.node.link p).state = .bringup ∧ ((s.node.link p).serial ≠ h.serial ∨ (s.node.link p).hellos < 2 ∨ h.heard = false)) ∧
    (let s : State := Tests.st { Tests.inTree with f := { Tests.inTree.f with inbox := [], linkA := { Tests.inTree.f.linkA with state := .bringup, hellos := 2 } } }; let p : Port := .a; let h : Hello := ⟨14, 1, false, false, true, 1, 4, 11⟩; s.node.linkOn p = true ∧ (s.node.link p).state = .bringup ∧ ((s.node.link p).serial ≠ h.serial ∨ (s.node.link p).hellos < 2 ∨ h.heard = false)) ∧
    (let s : State := Tests.st Tests.inTree; let p : Port := .a; let h : Hello := ⟨11, 1, true, false, false, 1, 1, 11⟩; s.node.portUp p = true ∧ s.node.f.park.state = .none ∧ h.heard = false) ∧
    (let s : State := Tests.st Tests.inTree; let p : Port := .c; let h : Hello := ⟨15, 1, true, false, true, 1, 1, 11⟩; s.node.portUp p = true ∧ s.node.f.park.state = .none ∧ h.heard = true ∧ h.serial ≠ (s.node.link p).serial) ∧
    (let s : State := Tests.st Tests.inTree; let p : Port := .c; let h : Hello := ⟨14, 2, true, true, true, 1, 6, 11⟩; s.node.portUp p = true ∧ s.node.f.park.state = .none ∧ h.heard = true ∧ h.serial = (s.node.link p).serial ∧ s.node.f.chain.number ≠ 0) ∧
    (let s : State := Tests.st Tests.inTree; let p : Port := .a; s.node.portUp p = true) ∧
    (let s : State := Tests.st Tests.inTree; let p : Port := .b; s.node.portUp p = true) ∧
    (let s : State := Tests.st Tests.inTree; let p : Port := .a; s.node.portUp p = true) ∧
    (let s : State := Tests.st { Tests.inTree with f := { Tests.inTree.f with inbox := [], linkC := { Tests.inTree.f.linkC with state := .disabled, disables := 2, cause := 5 } } }; let p : Port := .c; s.node.fUp = true ∧ (s.node.link p).state = .disabled) ∧
    (let s : State := Tests.st { Tests.inTree with f := { Tests.inTree.f with inbox := [], linkA := { Tests.inTree.f.linkA with state := .held, disables := 4, cause := 6 } } }; let rq : Rq := Tests.ask; let p : Port := .a; ∃ u x, s.node.accepts rq 0x4012 (.command none) = some (u, x) ∧ s.node.lineOpen = true ∧ s.node.f.dev ≠ .boot ∧ s.node.f.dev ≠ .sealed ∧ portOf (selOf x.sels 0x4000) = p ∧ ((s.node.link p).state = .disabled ∨ (s.node.link p).state = .held)) ∧
    (let s : State := Tests.st { Tests.inTree with f := { Tests.inTree.f with inbox := [], linkB := { Tests.inTree.f.linkB with busy := true, queue := [⟨3, 2, 17, 31, 0, false, 0, 0, [1]⟩] } } }; let p : Port := .b; (s.node.link p).busy = true ∧ s.node.f.chain.stalled = [] ∧ (s.node.link p).state = .up ∧ s.node.portsParked = false) ∧
    (let s : State := Tests.st { Tests.inTree with f := { Tests.inTree.f with inbox := [], linkA := { Tests.inTree.f.linkA with state := .bringup, orphaned := true, queue := [⟨0, 2, 17, 31, 0, false, 0, 0, [1]⟩] } } }; let p : Port := .a; s.node.fUp = true ∧ (s.node.link p).orphaned = true ∧ (s.node.link p).state ≠ .up) :=
  ⟨by decide, by decide, by decide, by decide, by decide, by decide, by decide, by decide, by decide, by decide, by decide, by decide, ⟨_, _, rfl, by decide⟩, by decide, by decide⟩

/-- What FramesAlongTheChain assumes is met, clause by clause. -/
theorem test_FramesAlongTheChain_met :
    (let s : State := Tests.st Tests.inTree; let p : Port := .a; let err : FrameError := .crc; let frame : ChainFrame := ⟨3, 1, 17, 30, 0, false, 0, 0, [1]⟩; let cause : Nat := 0; let fast : Bool := false; s.node.linkOn p = true ∧ ((s.node.link p).state = .bringup ∨ (s.node.link p).state = .up) ∧ discardCause (s.node.link p) err frame = some cause ∧ (fast = false ∨ 2 ≤ cause)) ∧
    (let s : State := Tests.st Tests.inTree; let p : Port := .c; let err : FrameError := .none; let frame : ChainFrame := ⟨3, 1, 17, 30, 0, false, 0, 0, [1]⟩; let cause : Nat := 4; let fast : Bool := true; s.node.linkOn p = true ∧ ((s.node.link p).state = .bringup ∨ (s.node.link p).state = .up) ∧ discardCause (s.node.link p) err frame = some cause ∧ (fast = false ∨ 2 ≤ cause)) ∧
    (let s : State := Tests.st Tests.inTree; let p : Port := .a; let err : FrameError := .crc; let frame : ChainFrame := ⟨3, 1, 17, 30, 0, false, 0, 0, [1]⟩; let cause : Nat := 0; s.node.portUp p = true ∧ discardCause (s.node.link p) err frame = some cause ∧ cause ≤ 1) ∧
    (let s : State := Tests.st { Tests.inTree with f := { Tests.inTree.f with inbox := [], linkC := { Tests.inTree.f.linkC with disables := 3 } } }; let p : Port := .c; let err : FrameError := .violation; let frame : ChainFrame := ⟨3, 1, 17, 30, 0, false, 0, 0, [1]⟩; let cause : Nat := 1; s.node.portUp p = true ∧ discardCause (s.node.link p) err frame = some cause ∧ cause ≤ 1) ∧
    (let s : State := Tests.st Tests.inTree; let p : Port := .a; let q : Port := .b; let frame : ChainFrame := ⟨3, 1, 17, 30, 0, false, 0, 0, [1]⟩; s.node.portUp p = true ∧ discardCause (s.node.link p) .none frame = none ∧ 4 ≤ frame.type ∧ [9, 12, 13, 14, 16, 23, 24].contains frame.type = false ∧ s.node.routes = true ∧ s.node.cutOff frame.dst = false ∧ 0 < frame.dst ∧ frame.dst < 127 ∧ frame.dst ≠ s.node.f.chain.number ∧ (s.node.tableRow frame.dst).isSome = true ∧ s.node.route frame.dst = .port q ∧ 1 < frame.hop ∧ s.node.queueFull q = false) ∧
    (let s : State := Tests.st Tests.inTree; let p : Port := .a; let frame : ChainFrame := ⟨2, 1, 17, 30, 0, false, 0, 0, [1]⟩; s.node.portUp p = true ∧ discardCause (s.node.link p) .none frame = none ∧ 4 ≤ frame.type ∧ ((frame.dst = s.node.f.chain.number ∧ frame.dst ≠ 0) ∨ (frame.dst = 0 ∧ s.node.f.chain.root = true) ∨ frame.hop ≤ 1)) ∧
    (let s : State := Tests.st Tests.inTree; let p : Port := .a; let frame : ChainFrame := ⟨3, 1, 17, 1, 0, false, 0, 0, [1]⟩; s.node.portUp p = true ∧ discardCause (s.node.link p) .none frame = none ∧ 4 ≤ frame.type ∧ ((frame.dst = s.node.f.chain.number ∧ frame.dst ≠ 0) ∨ (frame.dst = 0 ∧ s.node.f.chain.root = true) ∨ frame.hop ≤ 1)) ∧
    (let s : State := Tests.st Tests.inTree; let p : Port := .a; s.node.portUp p = true) ∧
    (let s : State := Tests.st Tests.inTree; let p : Port := .a; s.node.portUp p = true) ∧
    (let s : State := Tests.st { Tests.inTree with f := { Tests.inTree.f with inbox := [], linkA := { Tests.inTree.f.linkA with t1 := some 5 } } }; let p : Port := .a; s.node.portUp p = true ∧ (s.node.link p).t1.isSome = true) ∧
    (let s : State := Tests.st { Tests.inTree with f := { Tests.inTree.f with inbox := [], linkA := { Tests.inTree.f.linkA with t1 := some 5, delays := [90000], rejections := 3 } } }; let p : Port := .a; s.node.portUp p = true ∧ (s.node.link p).t1.isSome = true) :=
  ⟨by decide, by decide, by decide, by decide, by decide, by decide, by decide, by decide, by decide, by decide, by decide⟩

/-- What DiscoveryOfTheRoot assumes is met, clause by clause. -/
theorem test_DiscoveryOfTheRoot_met :
    (let s : State := Tests.st { Tests.running with f := { Tests.running.f with linkA := { state := .listen }, chain := { settling := true, candidateStrap := true } } }; s.node.fUp = true ∧ s.node.f.chain.settling = true ∧ s.node.f.chain.settled = false ∧ s.node.f.park.around = false) ∧
    (let s : State := Tests.st { Tests.running with f := { Tests.running.f with park := { around := true }, linkA := { state := .listen }, chain := { settling := true, candidateStrap := true } } }; s.node.fUp = true ∧ s.node.f.chain.settling = true ∧ s.node.f.chain.settled = false ∧ s.node.f.park.around = true) ∧
    (let s : State := Tests.st Tests.inTree; let p : Port := .b; let d : Discover := ⟨1, 4, 20, 31⟩; s.node.portUp p = true ∧ (s.node.f.chain.best.all fun b => s.node.adopts ⟨d.priority, d.rootSerial, d.epoch⟩ b) = true) ∧
    (let s : State := Tests.st Tests.inTree; let p : Port := .a; let d : Discover := ⟨2, 5, 11, 30⟩; s.node.portUp p = true ∧ (s.node.f.chain.best.all fun b => s.node.adopts ⟨d.priority, d.rootSerial, d.epoch⟩ b) = true) ∧
    (let s : State := Tests.st { Tests.inTree with f := { Tests.inTree.f with inbox := [], chain := { Tests.inTree.f.chain with best := none } } }; let p : Port := .a; let d : Discover := ⟨2, 5, 11, 30⟩; s.node.portUp p = true ∧ (s.node.f.chain.best.all fun b => s.node.adopts ⟨d.priority, d.rootSerial, d.epoch⟩ b) = true) ∧
    (let s : State := Tests.st Tests.inTree; let p : Port := .b; let d : Discover := ⟨1, 6, 20, 31⟩; let b : Best := ⟨5, 11, 1⟩; s.node.portUp p = true ∧ s.node.f.chain.best = some b ∧ s.node.adopts ⟨d.priority, d.rootSerial, d.epoch⟩ b = false ∧ s.node.f.chain.depth < 31) ∧
    (let s : State := Tests.st Tests.inTree; let p : Port := .b; let d : Discover := ⟨1, 5, 11, 29⟩; let b : Best := ⟨5, 11, 1⟩; s.node.portUp p = true ∧ s.node.f.chain.best = some b ∧ s.node.adopts ⟨d.priority, d.rootSerial, d.epoch⟩ b = false ∧ s.node.f.chain.depth < 31) ∧
    (let s : State := Tests.st { Tests.inTree with f := { Tests.inTree.f with inbox := [], chain := { Tests.inTree.f.chain with relayDue := some .a } } }; let p : Port := .a; let b : Best := ⟨5, 11, 1⟩; s.node.fUp = true ∧ s.node.f.chain.relayDue = some p ∧ s.node.f.chain.best = some b ∧ s.node.f.chain.depth < 31) ∧
    (∃ s : State, ∃ b : Best,
      s.node.fUp = true ∧ s.node.f.chain.state = .discovering ∧ s.node.f.chain.best = some b ∧ b.serial = ownSerial) ∧
    (∃ s : State, ∃ b : Best, ∃ p : Port,
      s.node.fUp = true ∧ s.node.f.chain.state = .discovering ∧ s.node.f.chain.best = some b ∧ b.serial ≠ ownSerial ∧ s.node.f.chain.parentPort = some p ∧ s.node.f.chain.root = false) ∧
    (let s : State := Tests.st { Tests.inTree with f := { Tests.inTree.f with inbox := [], chain := { Tests.inTree.f.chain with state := .discovering, heardAny := false, best := none } } }; s.node.fUp = true ∧ s.node.f.chain.state = .discovering ∧ s.node.f.chain.heardAny = false) ∧
    (let s : State := Tests.st Tests.atRoot; s.node.fUp = true ∧ s.node.f.chain.root = true ∧ s.node.f.chain.candidateStrap = true) ∧
    (let s : State := Tests.st Tests.inTree; s.node.f.chain.root = false) ∧
    (let s : State := Tests.st Tests.atRoot; let rq : Rq := Tests.ask; let a : Nat := 1; ∃ u x, s.node.accepts rq 0x4007 (.command (some a)) = some (u, x) ∧ s.node.lineOpen = true ∧ s.node.f.dev ≠ .boot ∧ s.node.f.dev ≠ .sealed ∧ (a = 0 ∨ (a = 1 ∧ s.node.f.dev = .setup)) ∧ s.node.f.chain.root = true ∧ s.node.f.chain.candidateStrap = true) ∧
    (let s : State := Tests.st Tests.atRoot; let rq : Rq := Tests.ask; let a : Nat := 0; ∃ u x, s.node.accepts rq 0x4007 (.command (some a)) = some (u, x) ∧ s.node.lineOpen = true ∧ s.node.f.dev ≠ .boot ∧ s.node.f.dev ≠ .sealed ∧ (a = 0 ∨ (a = 1 ∧ s.node.f.dev = .setup)) ∧ s.node.f.chain.root = true ∧ s.node.f.chain.candidateStrap = true) ∧
    (let s : State := Tests.st Tests.inTree; let rq : Rq := Tests.ask; let a : Nat := 1; let p : Port := .a; ∃ u x, s.node.accepts rq 0x4007 (.command (some a)) = some (u, x) ∧ s.node.lineOpen = true ∧ s.node.f.dev ≠ .boot ∧ s.node.f.dev ≠ .sealed ∧ (a = 0 ∨ (a = 1 ∧ s.node.f.dev = .setup)) ∧ s.node.f.chain.root = false ∧ s.node.routes = true ∧ s.node.cutOff 0 = false ∧ s.node.f.chain.number ≠ 0 ∧ s.node.f.chain.parentPort = some p ∧ s.node.queueFull p = false) ∧
    (let s : State := Tests.st { Tests.inTree with f := { Tests.inTree.f with dev := .run } }; let rq : Rq := Tests.ask; ∃ u x, s.node.accepts rq 0x4007 (.command (some 1)) = some (u, x) ∧ s.node.lineOpen = true ∧ s.node.f.dev ≠ .setup) :=
  ⟨by decide, by decide, by decide, by decide, by decide, by decide, by decide, by decide, ⟨Tests.st { Tests.atRoot with f := { Tests.atRoot.f with inbox := [], chain := { Tests.atRoot.f.chain with state := .discovering } } }, ⟨5, ownSerial, 1⟩, by decide, rfl, rfl, rfl⟩, ⟨Tests.st { Tests.inTree with f := { Tests.inTree.f with inbox := [], chain := { Tests.inTree.f.chain with state := .discovering, best := some ⟨5, ownSerial + 1, 1⟩ } } }, ⟨5, ownSerial + 1, 1⟩, .a, by decide, rfl, rfl, Nat.succ_ne_self _, rfl, rfl⟩, by decide, by decide, by decide, ⟨_, _, rfl, by decide⟩, ⟨_, _, rfl, by decide⟩, ⟨_, _, rfl, by decide⟩, ⟨_, _, rfl, by decide⟩⟩

/-- What NumbersOfTheNodes assumes is met, clause by clause. -/
theorem test_NumbersOfTheNodes_met :
    (let s : State := Tests.st { Tests.atRoot with f := { Tests.atRoot.f with inbox := [], chain := { Tests.atRoot.f.chain with collecting := true } } }; s.node.fUp = true ∧ s.node.f.chain.root = true ∧ s.node.f.chain.collecting = true) ∧
    (let s : State := Tests.st Tests.inTree; let root : Nat := 0; let epoch : Nat := 0; (s.node.f.chain.root = false ∨ root ≠ ownSerial ∨ epoch ≠ s.node.f.chain.epoch)) ∧
    (let s : State := Tests.st { Tests.atRoot with f := { Tests.atRoot.f with inbox := [], chain := { Tests.atRoot.f.chain with collecting := true, state := .discovering, table := [] } } }; s.node.fUp = true ∧ s.node.f.chain.root = true ∧ s.node.f.chain.collecting = true) ∧
    (let s : State := Tests.st { Tests.atRoot with f := { Tests.atRoot.f with inbox := [], chain := { Tests.atRoot.f.chain with sets := [([⟨2, 12, 1, 1⟩], 2), ([⟨3, 13, 1, 1⟩], 1)] } } }; s.node.fUp = true ∧ s.node.f.chain.root = true) ∧
    (let s : State := Tests.st Tests.inTree; s.node.fUp = true ∧ s.node.f.chain.state ≠ .off) ∧
    (let s : State := Tests.st { Tests.inTree with f := { Tests.inTree.f with inbox := [], chain := { Tests.inTree.f.chain with set := { frames := [(0, [⟨1, 11, 0, 0⟩, ⟨2, 12, 1, 1⟩, ⟨3, 13, 2, 2⟩])] } } } }; let rows : List NodeRow := [⟨1, 11, 0, 0⟩, ⟨2, 12, 1, 1⟩, ⟨3, 13, 2, 2⟩]; let root : Nat := 1; let b : Best := ⟨5, 11, 1⟩; let r : NodeRow := ⟨1, 11, 0, 0⟩; s.node.fUp = true ∧ s.node.f.chain.state ≠ .off ∧ s.node.f.chain.root = false ∧ s.node.f.chain.set.frames.flatMap Prod.snd = rows ∧ s.node.f.chain.best = some b ∧ (rows.find? fun q => q.number == root) = some r ∧ r.serial = b.serial) ∧
    (let s : State := Tests.st Tests.inTree; let epoch : Nat := 2; let root : Nat := 1; let entries : Nat := 1; let frames : Nat := 1; s.node.fUp = true ∧ s.node.f.chain.state ≠ .off ∧ s.node.f.chain.root = false ∧ (epoch ≠ s.node.f.chain.epoch ∨ entries ≠ (s.node.f.chain.set.frames.flatMap Prod.snd).length ∨ frames ≠ s.node.f.chain.set.frames.length)) ∧
    (let s : State := Tests.st Tests.atRoot; let serial : Nat := 12; let r : NodeRow := ⟨2, 12, 1, 1⟩; s.node.fUp = true ∧ s.node.f.chain.root = true ∧ s.node.f.chain.collecting = false ∧ s.node.f.chain.state = .up ∧ (s.node.f.chain.table.find? fun q => q.serial == serial) = some r) ∧
    (let s : State := Tests.st Tests.atRoot; let serial : Nat := 19; let configured : Nat := 0; s.node.fUp = true ∧ s.node.f.chain.root = true ∧ s.node.f.chain.collecting = false ∧ s.node.f.chain.state = .up ∧ (s.node.f.chain.table.find? fun q => q.serial == serial) = none ∧ configured < 127) ∧
    (let s : State := Tests.st Tests.atRoot; let serial : Nat := 19; let configured : Nat := 2; s.node.fUp = true ∧ s.node.f.chain.root = true ∧ s.node.f.chain.collecting = false ∧ s.node.f.chain.state = .up ∧ (s.node.f.chain.table.find? fun q => q.serial == serial) = none ∧ configured < 127) ∧
    (let s : State := Tests.st Tests.atRoot; let serial : Nat := 19; let configured : Nat := 77; s.node.fUp = true ∧ s.node.f.chain.root = true ∧ s.node.f.chain.collecting = false ∧ s.node.f.chain.state = .up ∧ (s.node.f.chain.table.find? fun q => q.serial == serial) = none ∧ configured < 127) :=
  ⟨by decide, by decide, by decide, by decide, by decide, by decide, by decide, by decide, by decide, by decide, by decide⟩

/-- What RepairOfATree assumes is met, clause by clause. -/
theorem test_RepairOfATree_met :
    (let s : State := Tests.st Tests.inTree; let p : Port := .a; let q : Port := .b; s.node.portUp p = true ∧ (s.node.link p).role = .parent ∧ s.node.f.chain.number ≠ 0 ∧ s.node.portUp q = true ∧ (s.node.link q).role = .child) ∧
    (let s : State := Tests.st Tests.inTree; let p : Port := .b; let epoch : Nat := 1; ((s.node.link p).role ≠ .parent ∨ epoch ≠ s.node.f.chain.epoch)) ∧
    (let s : State := Tests.st { Tests.inTree with f := { Tests.inTree.f with inbox := [], chain := { Tests.inTree.f.chain with state := .repairing, repair := some { found := [⟨2, true, .c, 4, 1⟩] } } } }; let c : Candidate := ⟨3, true, .b, 4, 2⟩; let r : Repair := { found := [⟨2, true, .c, 4, 1⟩] }; s.node.fUp = true ∧ s.node.f.chain.repair = some r) ∧
    (let s : State := Tests.st { Tests.inTree with f := { Tests.inTree.f with inbox := [], chain := { Tests.inTree.f.chain with state := .repairing, repair := some { found := [⟨2, true, .c, 4, 1⟩] } } } }; let c : Candidate := ⟨2, true, .c, 4, 1⟩; let r : Repair := { found := [⟨2, true, .c, 4, 1⟩] }; s.node.fUp = true ∧ s.node.f.chain.repair = some r ∧ s.node.bestCandidate s.node.f.chain.number r = some c ∧ c.number = s.node.f.chain.number) ∧
    (let s : State := Tests.st { Tests.inTree with f := { Tests.inTree.f with inbox := [], chain := { Tests.inTree.f.chain with state := .repairing, repair := some { found := [⟨3, true, .c, 4, 1⟩] } } } }; let c : Candidate := ⟨3, true, .c, 4, 1⟩; let r : Repair := { found := [⟨3, true, .c, 4, 1⟩] }; let q : Port := .b; s.node.fUp = true ∧ s.node.f.chain.number ≠ 0 ∧ s.node.f.chain.repair = some r ∧ s.node.bestCandidate s.node.f.chain.number r = some c ∧ c.number ≠ s.node.f.chain.number ∧ 0 < c.number ∧ c.number < 127 ∧ s.node.routes = true ∧ s.node.cutOff c.number = false ∧ (s.node.tableRow c.number).isSome = true ∧ s.node.route c.number = .port q ∧ s.node.queueFull q = false) ∧
    (let s : State := Tests.st { Tests.inTree with f := { Tests.inTree.f with inbox := [], chain := { Tests.inTree.f.chain with state := .repairing, repair := some { found := [⟨2, false, .a, 0, 0⟩] } } } }; let r : Repair := { found := [⟨2, false, .a, 0, 0⟩] }; s.node.fUp = true ∧ s.node.f.chain.repair = some r ∧ s.node.bestCandidate s.node.f.chain.number r = none ∧ s.node.f.chain.state ≠ .partitioned) ∧
    (let s : State := Tests.st { Tests.inTree with f := { Tests.inTree.f with inbox := [], chain := { Tests.inTree.f.chain with state := .repairing, repair := some { found := [⟨2, true, .c, 4, 1⟩], trying := some ⟨2, true, .c, 4, 1⟩ } } } }; let c : Candidate := ⟨2, true, .c, 4, 1⟩; let r : Repair := { found := [⟨2, true, .c, 4, 1⟩], trying := some ⟨2, true, .c, 4, 1⟩ }; s.node.fUp = true ∧ s.node.f.chain.repair = some r ∧ r.trying = some c ∧ s.node.bestCandidate s.node.f.chain.number { r with trying := none, refused := c.number :: r.refused } = none) ∧
    (let s : State := Tests.st { Tests.inTree with f := { Tests.inTree.f with inbox := [], chain := { Tests.inTree.f.chain with state := .repairing, repair := some { found := [⟨2, true, .c, 4, 1⟩, ⟨3, true, .b, 4, 3⟩], trying := some ⟨2, true, .c, 4, 1⟩ } } } }; let c : Candidate := ⟨2, true, .c, 4, 1⟩; let d : Candidate := ⟨3, true, .b, 4, 3⟩; let r : Repair := { found := [⟨2, true, .c, 4, 1⟩, ⟨3, true, .b, 4, 3⟩], trying := some ⟨2, true, .c, 4, 1⟩ }; s.node.fUp = true ∧ s.node.f.chain.repair = some r ∧ r.trying = some c ∧ s.node.bestCandidate s.node.f.chain.number { r with trying := none, refused := c.number :: r.refused } = some d) ∧
    (let s : State := Tests.st Tests.inTree; let p : Port := .c; s.node.portUp p = true ∧ (s.node.link p).role = .standby ∧ s.node.queueFull p = false) ∧
    (let s : State := Tests.st Tests.inTree; let p : Port := .c; let q : Port := .a; let c : Nat := 4; s.node.portUp p = true ∧ s.node.f.chain.number ≠ 0 ∧ s.node.f.chain.root = false ∧ s.node.routes = true ∧ s.node.cutOff 0 = false ∧ s.node.f.chain.parentPort = some q ∧ s.node.queueFull q = false) ∧
    (let s : State := Tests.st Tests.inTree; let p : Port := .b; let q : Port := .a; s.node.portUp p = true ∧ s.node.f.chain.number ≠ 0 ∧ s.node.f.chain.root = false ∧ s.node.routes = true ∧ s.node.cutOff 0 = false ∧ s.node.f.chain.parentPort = some q ∧ s.node.queueFull q = false) ∧
    (let s : State := Tests.st Tests.atRoot; let p : Port := .b; s.node.portUp p = true ∧ s.node.f.chain.number ≠ 0 ∧ s.node.f.chain.root = true) ∧
    (let s : State := Tests.st { Tests.inTree with f := { Tests.inTree.f with inbox := [], chain := { Tests.inTree.f.chain with state := .repairing, repair := some { found := [⟨2, true, .c, 4, 1⟩], trying := some ⟨2, true, .c, 4, 1⟩ } } } }; let p : Port := .c; let c : Candidate := ⟨2, true, .c, 4, 1⟩; let r : Repair := { found := [⟨2, true, .c, 4, 1⟩], trying := some ⟨2, true, .c, 4, 1⟩ }; s.node.portUp p = true ∧ s.node.f.chain.repair = some r ∧ r.trying = some c) ∧
    (let s : State := Tests.st Tests.inTree; let p : Port := .c; s.node.portUp p = true ∧ s.node.f.chain.repair = none) ∧
    (let s : State := Tests.st Tests.inTree; let p : Port := .b; s.node.portUp p = true ∧ s.node.f.chain.repair = none) ∧
    (let s : State := Tests.st Tests.inTree; s.node.fUp = true ∧ s.node.f.chain.state ≠ .off) ∧
    (let s : State := Tests.st Tests.inTree; s.node.fUp = true ∧ s.node.f.chain.state ≠ .off ∧ s.node.f.chain.state ≠ .partitioned) ∧
    (let s : State := Tests.st { Tests.inTree with f := { Tests.inTree.f with inbox := [], chain := { Tests.inTree.f.chain with state := .partitioned, head := true } } }; let q : Port := .b; s.node.fUp = true ∧ s.node.f.chain.state = .partitioned ∧ s.node.f.chain.head = true ∧ s.node.portUp q = true ∧ (s.node.link q).role = .child) ∧
    (let s : State := Tests.st { Tests.inTree with f := { Tests.inTree.f with inbox := [], chain := { Tests.inTree.f.chain with state := .partitioned, candidateStrap := true } } }; s.node.fUp = true ∧ s.node.f.chain.state = .partitioned ∧ s.node.f.chain.candidateStrap = true) :=
  ⟨by decide, by decide, by decide, by decide, by decide, by decide, by decide, by decide, by decide, by decide, by decide, by decide, by decide, by decide, by decide, by decide, by decide, by decide, by decide⟩

/-- What ChainServices assumes is met, clause by clause. -/
theorem test_ChainServices_met :
    (let s : State := Tests.st Tests.inTree; let src : Nat := 3; s.node.fUp = true ∧ 1 ≤ src ∧ src ≤ 126) ∧
    (let s : State := Tests.st Tests.inTree; let q : Port := .b; s.node.fUp = true ∧ s.node.f.chain.number ≠ 0 ∧ s.node.routes = true ∧ q ∈ s.node.treePorts none ∧ s.node.queueFull q = false) ∧
    (let s : State := Tests.st { Tests.inTree with f := { Tests.inTree.f with inbox := [], chain := { Tests.inTree.f.chain with nodes := [(3, ⟨1, 2, 3, false, false⟩)] } } }; let node : Nat := 3; let e : NodeStatus := ⟨1, 2, 3, false, false⟩; s.node.fUp = true ∧ tget? s.node.f.chain.nodes node = some e) ∧
    (let s : State := Tests.st Tests.atRoot; let q : Port := .b; s.node.fUp = true ∧ s.node.f.chain.root = true ∧ s.node.routes = true ∧ s.node.f.fol.state ≠ .unaligned ∧ q ∈ s.node.rolePorts .child ∧ s.node.queueFull q = false) ∧
    (let s : State := (let y := Tests.onF [0] {} {}; Tests.st { Tests.inTree with blobs := y.blobs }); let src : Nat := 1; let list : Nat := 0; let i : Nat := 0; let launch : T48 := 50; s.node.fUp = true ∧ src ≠ s.node.f.chain.number ∧ list < 64 ∧ s.node.listDefined .f list = true ∧ s.node.tooLate .f launch = false ∧ s.node.devOf .f ≠ .boot ∧ s.node.devOf .f ≠ .sealed ∧ s.node.alreadyArmed .f list launch = false ∧ s.node.freeSlot .f 0 = some i ∧ s.node.seqTorn .f = false ∧ before launch (s.node.time .f) = false) ∧
    (let s : State := Tests.st Tests.inTree; let src : Nat := 2; let list : Nat := 0; (src = s.node.f.chain.number ∨ 128 ≤ list)) ∧
    (let s : State := Tests.st Tests.inTree; let src : Nat := 1; let list : Nat := 128; (src = s.node.f.chain.number ∨ 128 ≤ list)) ∧
    (let s : State := Tests.st Tests.inTree; let rq : Rq := ⟨.chain, 9, 2, 5, .good, false⟩; let key : Nat := 0x0000; let row : KeyRow := Tests.rowOf 0x0000; ∃ u x, s.node.accepts rq key .read = some (u, x) ∧ rq.path = .chain ∧ u.passes x = some row ∧ row.home = .n ∧ sessionValue key = none) ∧
    (let s : State := Tests.st Tests.inTree; let rq : Rq := ⟨.chain, 9, 2, 5, .good, false⟩; let key : Nat := 0xFFFF; let st : Nat := 0x10; let op : DapOp := .read; ∃ u x, s.node.accepts rq key op = some (u, x) ∧ rq.path = .chain ∧ u.refusal x = some st ∧ opcodeOf op ≠ 4) ∧
    (let s : State := Tests.st Tests.inTree; let rq : Rq := ⟨.chain, 9, 2, 5, .good, false⟩; let key : Nat := 0x0000; let st : Nat := 0x11; let op : DapOp := .write (.word 1); ∃ u x, s.node.accepts rq key op = some (u, x) ∧ rq.path = .chain ∧ u.refusal x = some st ∧ opcodeOf op ≠ 4) ∧
    (let s : State := Tests.st Tests.inTree; let rq : Rq := ⟨.chain, 9, 2, 5, .good, false⟩; let key : Nat := 0x4005; let row : KeyRow := Tests.rowOf 0x4005; let op : DapOp := .read; ∃ u x, s.node.accepts rq key op = some (u, x) ∧ rq.path = .chain ∧ u.passes x = some row ∧ row.home = .f ∧ sessionValue key = none ∧ (op = .read ∨ op = .command none)) ∧
    (∃ s : State, ∃ src : Nat, ∃ tag : Nat, ∃ status : Nat, ∃ data : List Byte, ∃ t0 : Txn,
      (s.node.n.dict.txns.find? fun y => (match y.stage with | .remote node g _ => node == src && g == tag | _ => false)) = some t0 ∧ s.node.hubReceives .n = true ∧ s.node.txn t0.session t0.tag = some t0 ∧ t0.op = .read ∧ status < 256) ∧
    (let s : State := Tests.st { Tests.inTree with n := { Tests.inTree.n with dict := { sessions := [(0, { path := .nport, client := 0, epoch := 1 })], txns := [⟨0, 5, .nport, 0, 0x0011, .read, [], .remote 3 7 [], 2, [], none⟩] } } }; let src : Nat := 4; let tag : Nat := 7; (s.node.n.dict.txns.any fun y => (match y.stage with | .remote node g _ => node == src && g == tag | _ => false)) = false) :=
  ⟨by decide, by decide, by decide, by decide, by decide, by decide, by decide, ⟨_, _, rfl, by decide⟩, ⟨_, _, rfl, by decide⟩, ⟨_, _, rfl, by decide⟩, ⟨_, _, rfl, by decide⟩, ⟨Tests.st { Tests.inTree with n := { Tests.inTree.n with dict := { sessions := [(0, { path := .nport, client := 0, epoch := 1 })], txns := [⟨0, 5, .nport, 0, 0x0011, .read, [], .remote 3 7 [], 2, [], none⟩] } } }, 3, 7, 0, [1, 0, 0], _, rfl, by decide, by decide, by decide, by decide⟩, by decide⟩

/-- What ParkingAndRendezvous assumes is met, clause by clause. -/
theorem test_ParkingAndRendezvous_met :
    (let s : State := (let y := tput [] (slotOf 0x4042 0) 127; Tests.st { Tests.atRoot with vals := y }); let rq : Rq := Tests.ask; let a : Nat := 10; let q : Port := .b; ∃ u x, s.node.accepts rq 0x4041 (.command (some a)) = some (u, x) ∧ s.node.lineOpen = true ∧ s.node.f.dev ≠ .boot ∧ s.node.f.dev ≠ .sealed ∧ parkRefusal a s.node = none ∧ (s.node.link q).role = .child ∧ (s.node.link q).state = .up) ∧
    (let s : State := Tests.st Tests.inTree; let rq : Rq := Tests.ask; let a : Nat := 10; let st : Nat := 0x14; ∃ u x, s.node.accepts rq 0x4041 (.command (some a)) = some (u, x) ∧ s.node.lineOpen = true ∧ s.node.f.dev ≠ .boot ∧ s.node.f.dev ≠ .sealed ∧ a < 16777216 ∧ parkRefusal a s.node = some st) ∧
    (let s : State := Tests.st Tests.atRoot; let rq : Rq := Tests.ask; let a : Nat := 61; let st : Nat := 0x13; ∃ u x, s.node.accepts rq 0x4041 (.command (some a)) = some (u, x) ∧ s.node.lineOpen = true ∧ s.node.f.dev ≠ .boot ∧ s.node.f.dev ≠ .sealed ∧ a < 16777216 ∧ parkRefusal a s.node = some st) ∧
    (let s : State := Tests.st { Tests.inTree with f := { Tests.inTree.f with park := { parking := true, window := true } } }; s.node.fUp = true ∧ s.node.f.park.parking = true) ∧
    (let s : State := Tests.st { Tests.inTree with n := { Tests.inTree.n with phase := .standby }, f := { Tests.inTree.f with park := { parking := true } } }; s.node.fUp = true ∧ s.node.f.park.parking = true) ∧
    (let s : State := Tests.st Tests.inTree; let b : Beacon := ⟨0, 5000, 0, 10, false, 20, 0, 4990⟩; let p : Port := .a; (s.node.filFind .f filMissRdv fun _ => true) = none ∧ s.node.fUp = true ∧ s.node.f.chain.root = false ∧ s.node.f.chain.state = .up ∧ s.node.treeRole .parent = [p] ∧ s.node.f.park.state = .none ∧ s.node.f.park.parking = false ∧ b.rendezvous = 0) ∧
    (let s : State := Tests.st { Tests.inTree with f := { Tests.inTree.f with park := { state := .listening } } }; let p : Port := .a; (s.node.filFind .f filMissRdv fun _ => true) = none ∧ s.node.attends = true ∧ s.node.f.chain.root = false ∧ s.node.treeRole .parent = [p] ∧ (s.node.f.park.state = .listening ∨ (s.node.f.park.window = true ∧ (s.node.f.park.state = .adrift ∨ (s.node.f.park.state = .parked ∧ s.node.f.park.acquired = false))))) ∧
    (let s : State := Tests.st { Tests.inTree with f := { Tests.inTree.f with park := { state := .parked, window := true } } }; let p : Port := .a; (s.node.filFind .f filMissRdv fun _ => true) = none ∧ s.node.attends = true ∧ s.node.f.chain.root = false ∧ s.node.treeRole .parent = [p] ∧ (s.node.f.park.state = .listening ∨ (s.node.f.park.window = true ∧ (s.node.f.park.state = .adrift ∨ (s.node.f.park.state = .parked ∧ s.node.f.park.acquired = false))))) ∧
    (let s : State := Tests.st Tests.atRoot; let b : Beacon := ⟨0, 5000, 0, 10, false, 20, 0, 4990⟩; (s.node.filFind .f filMissRdv fun _ => true) = none ∧ (s.node.fUp = false ∨ s.node.treeRole .parent ≠ [] ∨ s.node.f.chain.root = true ∨ (ports.all fun q => (s.node.link q).state != .listen) = true) ∧ (s.node.attends = false ∨ s.node.f.chain.root = true ∨ (s.node.f.park.state = .none ∧ (b.rendezvous ≠ 0 ∨ s.node.f.park.parking = true)) ∨ (s.node.f.park.state = .parked ∧ s.node.f.park.window = false))) ∧
    (let s : State := Tests.st { Tests.running with f := { Tests.running.f with linkA := { state := .listen } } }; let q : Port := .a; (s.node.filFind .f filMissRdv fun _ => true) = none ∧ s.node.fUp = true ∧ s.node.f.chain.root = false ∧ s.node.treeRole .parent = [] ∧ s.node.f.park.state = .none ∧ (s.node.link q).state = .listen) ∧
    (let s : State := Tests.st { Tests.inTree with f := { Tests.inTree.f with park := { state := .parked, window := true, acquired := true } } }; let q : Port := .b; s.node.attends = true ∧ s.node.f.chain.root = false ∧ s.node.f.park.window = true ∧ s.node.f.park.acquired = true ∧ (s.node.link q).role = .child ∧ (s.node.link q).state = .up ∧ s.node.f.park.givenUp.getLsbD (portCode q) = false) ∧
    (let s : State := Tests.st { Tests.atRoot with f := { Tests.atRoot.f with park := { state := .parked, interval := 10 } } }; s.node.scheduled = true ∧ s.node.f.chain.root = true) ∧
    (let s : State := Tests.st { Tests.inTree with f := { Tests.inTree.f with park := { state := .parked } } }; s.node.scheduled = true ∧ s.node.f.chain.root = false ∧ s.node.f.park.state ≠ .listening) ∧
    (let s : State := Tests.st { Tests.inTree with f := { Tests.inTree.f with park := { state := .parked, window := true } } }; s.node.attends = true ∧ s.node.f.chain.root = false ∧ s.node.f.park.state = .parked ∧ s.node.f.park.window = true ∧ s.node.f.park.acquired = false) ∧
    (let s : State := Tests.st { Tests.inTree with f := { Tests.inTree.f with park := { state := .listening } } }; s.node.attends = true ∧ s.node.f.park.state = .listening) ∧
    (let s : State := Tests.st { Tests.inTree with f := { Tests.inTree.f with park := { state := .parked, window := true } } }; s.node.scheduled = true ∧ s.node.f.park.window = true ∧ (s.node.f.park.state = .parked ∨ s.node.f.park.state = .adrift)) ∧
    (let s : State := Tests.st Tests.atRoot; s.node.fUp = true ∧ s.node.f.fol.state = .aligned) :=
  ⟨⟨_, _, rfl, by decide⟩, ⟨_, _, rfl, by decide⟩, ⟨_, _, rfl, by decide⟩, by decide, by decide, by decide, by decide, by decide, by decide, by decide, by decide, by decide, by decide, by decide, by decide, by decide, by decide⟩

/-- What AdriftChildrenAndWaking assumes is met, clause by clause. -/
theorem test_AdriftChildrenAndWaking_met :
    (let s : State := Tests.st { Tests.inTree with f := { Tests.inTree.f with park := { state := .adrift, window := true, misses := 62 } } }; s.node.attends = true ∧ s.node.f.park.state = .adrift ∧ s.node.f.park.window = true ∧ s.node.f.park.acquired = false ∧ s.node.f.park.misses < 63) ∧
    (let s : State := Tests.st { Tests.inTree with f := { Tests.inTree.f with park := { state := .adrift, window := true, misses := 63 } } }; s.node.attends = true ∧ s.node.f.park.state = .adrift ∧ s.node.f.park.window = true ∧ s.node.f.park.acquired = false ∧ 63 ≤ s.node.f.park.misses) ∧
    (let s : State := Tests.st { Tests.inTree with f := { Tests.inTree.f with park := { state := .parked } } }; let p : Port := .b; s.node.scheduled = true ∧ (s.node.link p).role = .child ∧ s.node.f.park.givenUp.getLsbD (portCode p) = false) ∧
    (let s : State := Tests.st { Tests.inTree with f := { Tests.inTree.f with park := { state := .parked, silent := [(1, 66)] } } }; let p : Port := .b; s.node.scheduled = true ∧ (s.node.link p).role = .child ∧ s.node.f.park.givenUp.getLsbD (portCode p) = false) ∧
    (let s : State := Tests.st { Tests.inTree with f := { Tests.inTree.f with park := { state := .parked, adrift := 2, silent := [(1, 3)] } } }; let p : Port := .b; let w : WakeWord := ⟨3, 1, 2, false, 0, 0⟩; s.node.scheduled = true ∧ (s.node.link p).role = .child ∧ w.cause = 0) ∧
    (let s : State := Tests.st { Tests.inTree with f := { Tests.inTree.f with park := { state := .parked, window := true } } }; let p : Port := .a; s.node.portsParked = true ∧ s.node.attends = true ∧ (s.node.f.park.window = true ∨ s.node.f.park.state = .listening) ∧ ((s.node.link p).role = .parent ∨ (s.node.link p).role = .child) ∧ s.node.torn .f (linkCrossing p) = false) ∧
    (let s : State := Tests.st { Tests.inTree with f := { Tests.inTree.f with park := { state := .parked, window := true } } }; s.node.portsParked = true ∧ s.node.attends = true ∧ (s.node.f.park.window = true ∨ s.node.f.park.state = .listening) ∧ s.node.f.chain.number ≠ 0) ∧
    (let s : State := Tests.st { Tests.inTree with f := { Tests.inTree.f with park := { state := .parked, window := true } } }; let q : Port := .b; let dest : Nat := 3; s.node.attends = true ∧ (s.node.f.park.window = true ∨ s.node.f.park.state = .listening) ∧ 0 < dest ∧ dest < 127 ∧ dest ≠ s.node.f.chain.number ∧ s.node.route dest = .port q ∧ (s.node.link q).state = .up) ∧
    (let s : State := Tests.st { Tests.atRoot with f := { Tests.atRoot.f with park := { state := .parked } } }; s.node.attends = true ∧ s.node.f.chain.root = true) ∧
    (let s : State := Tests.st { Tests.inTree with f := { Tests.inTree.f with park := { state := .parked } } }; let q : Port := .a; s.node.attends = true ∧ s.node.f.chain.root = false ∧ (s.node.link q).role = .parent ∧ (s.node.link q).state = .up) ∧
    (let s : State := Tests.st { Tests.inTree with f := { Tests.inTree.f with park := { state := .parked } } }; let rq : Rq := Tests.ask; let a : Nat := 3; ∃ u x, s.node.accepts rq 0x4047 (.command (some a)) = some (u, x) ∧ s.node.lineOpen = true ∧ s.node.f.dev ≠ .boot ∧ s.node.f.dev ≠ .sealed ∧ 1 ≤ a ∧ a ≤ 127 ∧ s.node.portsParked = true ∧ s.node.f.park.state ≠ .fallback) ∧
    (let s : State := Tests.st { Tests.inTree with f := { Tests.inTree.f with park := { state := .parked, window := true } } }; let rq : Rq := Tests.ask; let a : Nat := 127; ∃ u x, s.node.accepts rq 0x4047 (.command (some a)) = some (u, x) ∧ s.node.lineOpen = true ∧ s.node.f.dev ≠ .boot ∧ s.node.f.dev ≠ .sealed ∧ 1 ≤ a ∧ a ≤ 127 ∧ s.node.portsParked = true ∧ s.node.f.park.state ≠ .fallback) ∧
    (let s : State := Tests.st Tests.inTree; let rq : Rq := Tests.ask; let a : Nat := 0; ∃ u x, s.node.accepts rq 0x4047 (.command (some a)) = some (u, x) ∧ s.node.lineOpen = true ∧ s.node.f.dev ≠ .boot ∧ s.node.f.dev ≠ .sealed ∧ a < 16777216 ∧ (a = 0 ∨ 127 < a)) ∧
    (let s : State := Tests.st Tests.inTree; let rq : Rq := Tests.ask; let a : Nat := 128; ∃ u x, s.node.accepts rq 0x4047 (.command (some a)) = some (u, x) ∧ s.node.lineOpen = true ∧ s.node.f.dev ≠ .boot ∧ s.node.f.dev ≠ .sealed ∧ a < 16777216 ∧ (a = 0 ∨ 127 < a)) ∧
    (let s : State := Tests.st { Tests.inTree with f := { Tests.inTree.f with park := { state := .unparking, window := true, unparked := 2 }, linkB := { state := .bringup, role := .child } } }; let q : Port := .b; s.node.attends = true ∧ s.node.fUp = true ∧ s.node.f.park.state = .unparking ∧ s.node.f.park.window = true ∧ 2 ≤ s.node.f.park.unparked ∧ ((s.node.link q).role = .parent ∨ (s.node.link q).role = .child) ∧ (s.node.link q).state ≠ .up) :=
  ⟨by decide, by decide, by decide, by decide, by decide, by decide, by decide, by decide, by decide, by decide, ⟨_, _, rfl, by decide⟩, ⟨_, _, rfl, by decide⟩, ⟨_, _, rfl, by decide⟩, ⟨_, _, rfl, by decide⟩, by decide⟩

set_option maxRecDepth 100000 in
/-- What FlashWindowsAndJobs assumes is met, clause by clause. -/
theorem test_FlashWindowsAndJobs_met :
    (let s : State := Tests.st { Tests.running with f := { Tests.running.f with fport := {  } }, vals := (tput (tput (tput (tput (tput [] (slotOf 0x7010 2) 1) (slotOf 0x7100 0) 1) (slotOf 0x7101 0) 2) (slotOf 0x710C 0) 1) (slotOf 0x7103 0) 16) }; let rq : Rq := Tests.ask; let w : Fin 2 := 0; let offset : Nat := 0; let length : Nat := 9; ∃ u x, s.node.accepts rq (windowKey w.val 0x710E) (.readBlock offset length) = some (u, x) ∧ s.node.lineOpen = true ∧ 1 ≤ length ∧ length ≤ 4096 ∧ s.node.windowReadCheck w.val = 0x00 ∧ offset < s.node.windowLength w.val (selOf x.sels (windowKey w.val 0x710D))) ∧
    (let s : State := Tests.st Tests.running; let rq : Rq := Tests.ask; let w : Fin 2 := 0; let offset : Nat := 0; let length : Nat := 9; ∃ u x, s.node.accepts rq (windowKey w.val 0x710E) (.readBlock offset length) = some (u, x) ∧ s.node.lineOpen = true ∧ 1 ≤ length ∧ length ≤ 4096 ∧ offset ≤ s.node.windowLength w.val (selOf x.sels (windowKey w.val 0x710D)) ∧ s.node.windowReadCheck w.val ≠ 0x00) ∧
    (let s : State := Tests.st { Tests.running with f := { Tests.running.f with fport := {  } }, vals := (tput (tput (tput (tput [] (slotOf 0x7010 2) 1) (slotOf 0x7100 0) 1) (slotOf 0x7101 0) 2) (slotOf 0x710C 0) 1) }; let rq : Rq := Tests.ask; let w : Fin 2 := 0; let bytes : List Byte := [1, 2]; ∃ u x, s.node.accepts rq (windowKey w.val 0x710E) (wholeBlob bytes) = some (u, x) ∧ s.node.lineOpen = true ∧ s.node.n.dev = .setup ∧ s.node.f.dev = .setup ∧ bytes.length ≤ 4096 ∧ s.node.windowLocked (windowKey w.val 0x710E) 0 = false) ∧
    (let s : State := Tests.st { Tests.running with f := { Tests.running.f with fport := {  } }, vals := (tput (tput (tput (tput [] (slotOf 0x7010 2) 1) (slotOf 0x7100 0) 1) (slotOf 0x7101 0) 2) (slotOf 0x710C 0) 1) }; let rq : Rq := Tests.ask; let a : Nat := 0; ∃ u x, s.node.accepts rq 0x7140 (.command (some a)) = some (u, x) ∧ s.node.lineOpen = true ∧ s.node.n.dev = .setup ∧ s.node.f.dev = .setup ∧ a < 16777216 ∧ s.node.windowLocked 0x7140 a = false) ∧
    (let s : State := Tests.st { Tests.running with blobs := tput [] (slotOf 0x7301 0) [2, 0, 0, 0, 0, 0, 0, 3, 0], vals := (tput (tput (tput (tput [] (slotOf 0x7010 2) 1) (slotOf 0x7100 0) 1) (slotOf 0x7101 0) 2) (slotOf 0x710C 0) 1), f := { Tests.running.f with fport := { queue := [.stored ⟨.slot 0, 0⟩ 1 0] } } }; let r : RunRef := ⟨.slot 0, 0⟩; let index : Nat := 1; let dest : Nat := 0; let rest : List FWork := []; s.node.fportOn = true ∧ s.node.f.fport.current = none ∧ s.node.f.fport.queue = .stored r index dest :: rest ∧ s.node.blob (0x7300 + index) ≠ [] ∧ s.node.targetOn (blobTarget (s.node.blob (0x7300 + index))) = true) ∧
    (let s : State := Tests.st { Tests.farBusy with n := { Tests.farBusy.n with dict := { Tests.farBusy.n.dict with txns := [{ Tests.farTxn with stage := .atF }] } }, f := { Tests.farBusy.f with inbox := [], fport := { current := some ⟨.windowRead 1 5 0 0 300 [], 2, 256⟩ } } }; let q : Nat := 1; let tag : Nat := 5; let w : Nat := 0; let addr : Nat := 0; let left : Nat := 300; let target : Nat := 2; let sofar : List Byte := []; let bytes : List Byte := List.replicate 256 7; s.node.fportOn = true ∧ s.node.trained = true ∧ s.node.f.fport.current = some ⟨.windowRead q tag w addr left sofar, target, min 256 left⟩ ∧ s.node.servedByF q tag = true ∧ bytes.length = min 256 left ∧ 256 < left) ∧
    (let s : State := Tests.st { Tests.running with f := { Tests.running.f with fport := { current := some ⟨.sfdp 0, 2, 80⟩ } } }; let w : Nat := 0; let target : Nat := 2; let read : Nat := 80; s.node.fportOn = true ∧ s.node.f.fport.current = some ⟨.sfdp w, target, read⟩) ∧
    (let s : State := Tests.st { Tests.running with f := { Tests.running.f with fport := { current := some ⟨.page true, 2, 0⟩, job := some ⟨0, 2, 256, [1, 2, 3], false, false⟩ } } }; let j : Job := ⟨0, 2, 256, [1, 2, 3], false, false⟩; let target : Nat := 2; let read : Nat := 0; s.node.fportOn = true ∧ s.node.f.fport.job = some j ∧ s.node.f.fport.current = some ⟨.page true, target, read⟩) ∧
    (let s : State := Tests.st { Tests.running with f := { Tests.running.f with fport := { job := some ⟨0, 2, 256, [1, 2, 3], false, true⟩ } }, vals := (tput (tput (tput (tput [] (slotOf 0x7010 2) 1) (slotOf 0x7100 0) 1) (slotOf 0x7101 0) 2) (slotOf 0x710C 0) 1) }; let j : Job := ⟨0, 2, 256, [1, 2, 3], false, true⟩; s.node.fportOn = true ∧ s.node.f.fport.current = none ∧ s.node.f.fport.job = some j ∧ j.polling = true) ∧
    (let s : State := Tests.st { Tests.running with f := { Tests.running.f with fport := { job := some ⟨0, 2, 256, [1, 2, 3], false, true⟩ } } }; let j : Job := ⟨0, 2, 256, [1, 2, 3], false, true⟩; s.node.fportOn = true ∧ s.node.f.fport.job = some j ∧ j.polling = true ∧ j.target < 8) ∧
    (let s : State := Tests.st { Tests.running with f := { Tests.running.f with fport := { erase := some ⟨0, 2, 0, false, false, true, none⟩ } } }; let e : EraseJob := ⟨0, 2, 0, false, false, true, none⟩; s.node.fportOn = true ∧ s.node.f.fport.erase = some e ∧ e.polling = true ∧ e.target < 8) ∧
    (let s : State := Tests.st { Tests.running with f := { Tests.running.f with fport := { recovering := 4 } }, vals := (tput (tput (tput (tput [] (slotOf 0x7010 2) 1) (slotOf 0x7100 0) 1) (slotOf 0x7101 0) 2) (slotOf 0x710C 0) 1) }; let target : Nat := 2; s.node.fportOn = true ∧ s.node.f.fport.current = none ∧ s.node.recovers target = true ∧ target ≤ 7) ∧
    (let s : State := Tests.st Tests.running; let rq : Rq := Tests.ask; let a : Nat := 0; ∃ u x, s.node.accepts rq 0x7141 (.command (some a)) = some (u, x) ∧ s.node.lineOpen = true ∧ s.node.f.dev ≠ .boot ∧ s.node.f.dev ≠ .sealed ∧ a < 16777216) ∧
    (let s : State := Tests.st Tests.running; let rq : Rq := Tests.ask; let a : Nat := 2; ∃ u x, s.node.accepts rq 0x7141 (.command (some a)) = some (u, x) ∧ s.node.lineOpen = true ∧ s.node.f.dev ≠ .boot ∧ s.node.f.dev ≠ .sealed ∧ a < 16777216) ∧
    (let s : State := Tests.st Tests.running; let rq : Rq := Tests.ask; let a : Nat := 0; ∃ u x, s.node.accepts rq 0x7142 (.command (some a)) = some (u, x) ∧ s.node.lineOpen = true ∧ s.node.n.dev = .setup ∧ s.node.f.dev = .setup ∧ a < 16777216) ∧
    (let s : State := Tests.st { Tests.running with f := { Tests.running.f with fport := { proposals := [(1, [0, 0, 3, 0, 0, 2, 0, 32, 0, 8, 16, 0, 1, 16, 0, 0])] } } }; let rq : Rq := Tests.ask; let a : Nat := 1; ∃ u x, s.node.accepts rq 0x7142 (.command (some a)) = some (u, x) ∧ s.node.lineOpen = true ∧ s.node.n.dev = .setup ∧ s.node.f.dev = .setup ∧ a < 16777216) :=
  ⟨⟨_, _, rfl, by decide⟩, ⟨_, _, rfl, by decide⟩, ⟨_, _, rfl, by decide⟩, ⟨_, _, rfl, by decide⟩, by decide, by decide, by decide, by decide, by decide, by decide, by decide, by decide, ⟨_, _, rfl, by decide⟩, ⟨_, _, rfl, by decide⟩, ⟨_, _, rfl, by decide⟩, ⟨_, _, rfl, by decide⟩⟩

/-- What BeadTrainsAndRecords assumes is met, clause by clause. -/
theorem test_BeadTrainsAndRecords_met :
    (let s : State := Tests.st { Tests.running with f := { Tests.running.f with beads := [(0, { state := .idle })] }, vals := (tput (tput [] (slotOf 0x5010 0) 1) (slotOf 0x5010 2) 1) }; let rq : Rq := Tests.ask; let p : Fin 4 := 0; ∃ u x, s.node.accepts rq 0x5021 (.command none) = some (u, x) ∧ s.node.lineOpen = true ∧ s.node.f.dev ≠ .boot ∧ s.node.f.dev ≠ .sealed ∧ selOf x.sels 0x5000 = p.val) ∧
    (let s : State := Tests.st Tests.running; let rq : Rq := Tests.ask; let p : Fin 4 := 0; ∃ u x, s.node.accepts rq 0x5021 (.command none) = some (u, x) ∧ s.node.lineOpen = true ∧ s.node.f.dev ≠ .boot ∧ s.node.f.dev ≠ .sealed ∧ selOf x.sels 0x5000 = p.val) ∧
    (let s : State := Tests.st { Tests.running with f := { Tests.running.f with beads := [(0, { state := .train })] }, vals := (tput (tput [] (slotOf 0x5010 0) 1) (slotOf 0x5010 2) 1) }; let rq : Rq := Tests.ask; let p : Fin 4 := 0; ∃ u x, s.node.accepts rq 0x5021 (.command none) = some (u, x) ∧ s.node.lineOpen = true ∧ s.node.f.dev ≠ .boot ∧ s.node.f.dev ≠ .sealed ∧ selOf x.sels 0x5000 = p.val) ∧
    (let s : State := Tests.st { Tests.running with f := { Tests.running.f with beads := [(0, { state := .train, position := 1 })] }, vals := (tput (tput [] (slotOf 0x5010 0) 1) (slotOf 0x5010 2) 1) }; let p : Fin 4 := 0; let j : BeadJudgement := .valid; let status : BitVec 4 := 0; let o : Nat := 0; s.node.judging p.val = true ∧ (s.node.filFind .f filBeadErr fun a => a == p.val * 16 + ((s.node.bead p.val).position - 1)) = none ∧ (s.node.bead p.val).step = none ∧ s.node.frameOutcome p.val j status.toNat = o) ∧
    (let s : State := Tests.st { Tests.running with f := { Tests.running.f with beads := [(2, { state := .train, position := 1 })] }, vals := (tput (tput [] (slotOf 0x5010 0) 1) (slotOf 0x5010 2) 1) }; let p : Fin 4 := 2; let j : BeadJudgement := .badCrc; let status : BitVec 4 := 0; let o : Nat := 3; s.node.judging p.val = true ∧ (s.node.filFind .f filBeadErr fun a => a == p.val * 16 + ((s.node.bead p.val).position - 1)) = none ∧ (s.node.bead p.val).step = none ∧ s.node.frameOutcome p.val j status.toNat = o) ∧
    (let s : State := Tests.st { Tests.running with f := { Tests.running.f with beads := [(1, { state := .train, position := 1 })] } }; let p : Fin 4 := 1; s.node.judging p.val = true ∧ (s.node.filFind .f filBeadErr fun a => a == p.val * 16 + ((s.node.bead p.val).position - 1)) = none ∧ (s.node.bead p.val).step = none) ∧
    (let s : State := Tests.st { Tests.running with f := { Tests.running.f with beads := [(1, { state := .train, position := 2, answering := 1 })] } }; let p : Fin 4 := 1; s.node.beadOn p.val = true ∧ (s.node.bead p.val).state = .train ∧ s.node.beadPositions p.val < (s.node.bead p.val).position ∧ (s.node.beadMode p.val ≠ 2 ∨ (s.node.bead p.val).request = false ∨ (s.node.bead p.val).waiting = true)) ∧
    (let s : State := Tests.st { Tests.running with f := { Tests.running.f with beads := [(1, { state := .train, position := 2, answering := 1, request := true })] }, vals := tput [] (slotOf 0x5010 1) 2 }; let p : Fin 4 := 1; s.node.beadOn p.val = true ∧ (s.node.bead p.val).state = .train ∧ s.node.beadPositions p.val < (s.node.bead p.val).position ∧ s.node.beadMode p.val = 2 ∧ (s.node.bead p.val).request = true ∧ (s.node.bead p.val).waiting = false ∧ p.val ∉ s.node.f.pullQueue) ∧
    (let s : State := Tests.st { Tests.running with f := { Tests.running.f with beads := [(1, { state := .idle, waiting := true })], pullQueue := [1] } }; let p : Fin 4 := 1; let rest : List Nat := []; s.node.beadOn p.val = true ∧ s.node.f.pullQueue = p.val :: rest ∧ (s.node.bead p.val).state = .idle ∧ s.node.pullFits p.val = true) ∧
    (let s : State := Tests.st { Tests.running with f := { Tests.running.f with beads := [(1, { state := .train, waiting := true })], pullQueue := [1] } }; let p : Fin 4 := 1; let rest : List Nat := []; s.node.f.pullQueue = p.val :: rest ∧ ((s.node.bead p.val).state ≠ .idle ∨ s.node.pullFits p.val = false)) ∧
    (let s : State := Tests.st { Tests.running with f := { Tests.running.f with beads := [(1, { state := .pullup, episode := 64 })] } }; let p : Fin 4 := 1; s.node.beadOn p.val = true ∧ (s.node.bead p.val).state = .pullup) ∧
    (let s : State := Tests.st { Tests.running with f := { Tests.running.f with beads := [(1, { state := .powering })] } }; let p : Fin 4 := 1; s.node.beadOn p.val = true ∧ (s.node.bead p.val).state = .powering) ∧
    (let s : State := Tests.st Tests.running; let rq : Rq := Tests.ask; let key : Nat := 0x5010; let v : Nat := 1; let p : Fin 4 := 0; ∃ u x, s.node.accepts rq key (.write (.word v)) = some (u, x) ∧ s.node.lineOpen = true ∧ s.node.n.dev = .setup ∧ s.node.f.dev = .setup ∧ (key = 0x5010 ∨ key = 0x5011) ∧ selOf x.sels 0x5000 = p.val ∧ v ≤ (if key = 0x5010 then 3 else 1) ∧ (key = 0x5010 → v = 3 → s.node.beadPositions p.val = 1) ∧ (s.node.bead p.val).state ≠ .train ∧ (s.node.bead p.val).episode = 0) ∧
    (let s : State := Tests.st { Tests.running with f := { Tests.running.f with beads := [(0, { state := .idle })] }, vals := (tput (tput [] (slotOf 0x5010 0) 1) (slotOf 0x5010 2) 1) }; let rq : Rq := Tests.ask; let key : Nat := 0x5010; let v : Nat := 0; let p : Fin 4 := 0; ∃ u x, s.node.accepts rq key (.write (.word v)) = some (u, x) ∧ s.node.lineOpen = true ∧ s.node.n.dev = .setup ∧ s.node.f.dev = .setup ∧ (key = 0x5010 ∨ key = 0x5011) ∧ selOf x.sels 0x5000 = p.val ∧ v ≤ (if key = 0x5010 then 3 else 1) ∧ (key = 0x5010 → v = 3 → s.node.beadPositions p.val = 1) ∧ (s.node.bead p.val).state ≠ .train ∧ (s.node.bead p.val).episode = 0) ∧
    (let s : State := Tests.st Tests.running; let rq : Rq := Tests.ask; let v : Nat := 4; let p : Fin 4 := 0; ∃ u x, s.node.accepts rq 0x5010 (.write (.word v)) = some (u, x) ∧ s.node.lineOpen = true ∧ s.node.n.dev = .setup ∧ s.node.f.dev = .setup ∧ selOf x.sels 0x5000 = p.val ∧ v < 16777216 ∧ (3 < v ∨ (v = 3 ∧ s.node.beadPositions p.val ≠ 1))) ∧
    (let s : State := Tests.st { Tests.running with f := { Tests.running.f with beads := [(0, { state := .faultOff, trips := 3, episode := 2 })] }, vals := (tput (tput [] (slotOf 0x5010 0) 1) (slotOf 0x5010 2) 1) }; let rq : Rq := Tests.ask; let p : Fin 4 := 0; ∃ u x, s.node.accepts rq 0x5032 (.command none) = some (u, x) ∧ s.node.lineOpen = true ∧ s.node.f.dev ≠ .boot ∧ s.node.f.dev ≠ .sealed ∧ selOf x.sels 0x5000 = p.val) ∧
    (let s : State := Tests.st Tests.running; let rq : Rq := Tests.ask; let p : Fin 4 := 0; ∃ u x, s.node.accepts rq 0x5032 (.command none) = some (u, x) ∧ s.node.lineOpen = true ∧ s.node.f.dev ≠ .boot ∧ s.node.f.dev ≠ .sealed ∧ selOf x.sels 0x5000 = p.val) :=
  ⟨⟨_, _, rfl, by decide⟩, ⟨_, _, rfl, by decide⟩, ⟨_, _, rfl, by decide⟩, by decide, by decide, by decide, by decide, by decide, by decide, by decide, by decide, by decide, ⟨_, _, rfl, by decide⟩, ⟨_, _, rfl, by decide⟩, ⟨_, _, rfl, by decide⟩, ⟨_, _, rfl, by decide⟩, ⟨_, _, rfl, by decide⟩⟩

/-- What BeadLineFaults assumes is met, clause by clause. -/
theorem test_BeadLineFaults_met :
    (let s : State := Tests.st { Tests.running with f := { Tests.running.f with beads := [(0, { state := .idle, trips := 2 })] }, vals := (tput (tput [] (slotOf 0x5010 0) 1) (slotOf 0x5010 2) 1) }; let p : Fin 4 := 0; s.node.beadOn p.val = true ∧ ((s.node.bead p.val).state = .powering ∨ (s.node.bead p.val).state = .idle) ∧ (s.node.beadMode p.val = 1 ∨ s.node.beadMode p.val = 3) ∧ (s.node.bead p.val).episode = 0) ∧
    (let s : State := Tests.st { Tests.running with f := { Tests.running.f with beads := [(0, { state := .idle, trips := 2 })] }, vals := (tput (tput [] (slotOf 0x5010 0) 1) (slotOf 0x5010 2) 1) }; let p : Fin 4 := 0; s.node.beadOn p.val = true ∧ ((s.node.bead p.val).state = .powering ∨ (s.node.bead p.val).state = .idle) ∧ (s.node.beadMode p.val = 1 ∨ s.node.beadMode p.val = 3) ∧ (s.node.bead p.val).episode = 0) ∧
    (let s : State := Tests.st { Tests.running with f := { Tests.running.f with beads := [(0, { tripped := true, trips := 1, episode := 2 })] }, vals := (tput (tput [] (slotOf 0x5010 0) 1) (slotOf 0x5010 2) 1) }; let p : Fin 4 := 0; s.node.beadOn p.val = true ∧ (s.node.bead p.val).tripped = true) ∧
    (let s : State := Tests.st { Tests.running with f := { Tests.running.f with beads := [(0, { state := .idle })] } }; let p : Fin 4 := 0; let base : Nat := 5; s.node.beadLine p.val = true ∧ s.node.beadMode p.val ≠ 2 ∧ base < 65536 ∧ (base < s.node.valAt 0x5016 p.val % 256 ∨ s.node.valAt 0x5016 p.val / 256 < base) ∧ (s.node.bead p.val).episode = 0 ∧ s.node.valAt 0x5014 p.val = 0) ∧
    (let s : State := Tests.st { Tests.running with f := { Tests.running.f with beads := [(0, { state := .idle })] }, vals := (tput (tput (tput [] (slotOf 0x5016 0) 0xC814) (slotOf 0x5015 0) 50) (slotOf 0x5014 0) 1) }; let p : Fin 4 := 0; let base : Nat := 71; s.node.beadLine p.val = true ∧ s.node.beadMode p.val ≠ 2 ∧ base < 65536 ∧ s.node.valAt 0x5016 p.val % 256 ≤ base ∧ base ≤ s.node.valAt 0x5016 p.val / 256 ∧ s.node.valAt 0x5014 p.val = 1 ∧ 20 < baseApart base (s.node.valAt 0x5015 p.val) ∧ (s.node.bead p.val).episode = 0) ∧
    (let s : State := Tests.st { Tests.running with f := { Tests.running.f with beads := [(0, { state := .idle, episode := 4 })] }, vals := (tput [] (slotOf 0x5016 0) 0xC814) }; let p : Fin 4 := 0; let base : Nat := 60; s.node.beadLine p.val = true ∧ s.node.beadMode p.val ≠ 2 ∧ base < 65536 ∧ s.node.valAt 0x5016 p.val % 256 ≤ base ∧ base ≤ s.node.valAt 0x5016 p.val / 256 ∧ (s.node.valAt 0x5014 p.val = 0 ∨ baseApart base (s.node.valAt 0x5015 p.val) ≤ 10)) ∧
    (let s : State := Tests.st { Tests.running with f := { Tests.running.f with beads := [(0, { state := .idle })] } }; let p : Fin 4 := 0; s.node.beadLine p.val = true ∧ (s.node.bead p.val).episode.getLsbD 3 = false) ∧
    (let s : State := Tests.st { Tests.running with f := { Tests.running.f with beads := [(0, { state := .idle, episode := 8 })] } }; let p : Fin 4 := 0; (s.node.bead p.val).episode.getLsbD 3 = true) ∧
    (let s : State := Tests.st { Tests.running with f := { Tests.running.f with beads := [(0, { state := .pullup })] } }; let p : Fin 4 := 0; s.node.beadOn p.val = true ∧ (s.node.bead p.val).state = .pullup ∧ (s.node.bead p.val).episode.getLsbD 6 = false) ∧
    (let s : State := Tests.st { Tests.running with f := { Tests.running.f with beads := [(0, { state := .idle, badFrames := 2 })] }, vals := tput [] (slotOf 0x5010 0) 3 }; let p : Fin 4 := 0; s.node.psi5On p.val = true) ∧
    (let s : State := Tests.st { Tests.running with f := { Tests.running.f with beads := [(0, { state := .idle, badFrames := 2 })] }, vals := tput [] (slotOf 0x5010 0) 3 }; let p : Fin 4 := 0; let j : BeadJudgement := .badCrc; s.node.psi5On p.val = true ∧ j ≠ .valid ∧ (s.node.bead p.val).episode.getLsbD 4 = false) ∧
    (let s : State := Tests.st { Tests.running with f := { Tests.running.f with beads := [(0, { state := .idle })] }, vals := tput [] (slotOf 0x5010 0) 3 }; let p : Fin 4 := 0; s.node.psi5On p.val = true ∧ (s.node.bead p.val).episode.getLsbD 4 = false) :=
  ⟨by decide, by decide, by decide, by decide, by decide, by decide, by decide, by decide, by decide, by decide, by decide, by decide⟩

/-- What SafePairs assumes is met, clause by clause. -/
theorem test_SafePairs_met :
    (let s : State := Tests.st { Tests.running with f := { Tests.running.f with safe0 := { state := .active } }, vals := (tput [] (slotOf 0x6010 0) 1) }; let p : Fin 2 := 0; let a : Bool := false; let b : Bool := false; s.node.fUp = true ∧ s.node.portsParked = false ∧ pairSample (s.node.valAt 0x6010 p.val) a b = .bothSafe ∧ (s.node.pair p.val).state ≠ .off ∧ (s.node.pair p.val).state ≠ .discrepancy) ∧
    (let s : State := Tests.st { Tests.running with f := { Tests.running.f with safe1 := { state := .transition, count := 3 } }, vals := (tput [] (slotOf 0x6010 1) 1) }; let p : Fin 2 := 1; let a : Bool := false; let b : Bool := false; s.node.fUp = true ∧ s.node.portsParked = false ∧ pairSample (s.node.valAt 0x6010 p.val) a b = .bothSafe ∧ (s.node.pair p.val).state ≠ .off ∧ (s.node.pair p.val).state ≠ .discrepancy) ∧
    (let s : State := Tests.st { Tests.running with f := { Tests.running.f with safe0 := { state := .safe, forcing := true } }, vals := (tput [] (slotOf 0x6010 0) 1) }; let p : Fin 2 := 0; let a : Bool := true; let b : Bool := true; s.node.fUp = true ∧ s.node.portsParked = false ∧ pairSample (s.node.valAt 0x6010 p.val) a b = .bothActive ∧ ((s.node.pair p.val).state = .safe ∨ ((s.node.pair p.val).state = .transition ∧ (s.node.pair p.val).permit = true) ∨ ((s.node.pair p.val).state = .starting ∧ s.node.valAt 0x6013 p.val = 0))) ∧
    (let s : State := Tests.st { Tests.running with f := { Tests.running.f with safe0 := { state := .transition } }, vals := (tput [] (slotOf 0x6010 0) 1) }; let p : Fin 2 := 0; let a : Bool := true; let b : Bool := true; s.node.fUp = true ∧ s.node.portsParked = false ∧ pairSample (s.node.valAt 0x6010 p.val) a b = .bothActive ∧ (((s.node.pair p.val).state = .transition ∧ (s.node.pair p.val).permit = false) ∨ ((s.node.pair p.val).state = .starting ∧ s.node.valAt 0x6013 p.val ≠ 0))) ∧
    (let s : State := Tests.st { Tests.running with f := { Tests.running.f with safe0 := { state := .safe } }, vals := (tput [] (slotOf 0x6010 0) 1) }; let p : Fin 2 := 0; let a : Bool := true; let b : Bool := false; s.node.fUp = true ∧ s.node.portsParked = false ∧ pairSample (s.node.valAt 0x6010 p.val) a b = .disagree ∧ ((s.node.pair p.val).state = .safe ∨ (s.node.pair p.val).state = .active ∨ (s.node.pair p.val).state = .blocked)) ∧
    (let s : State := Tests.st { Tests.running with f := { Tests.running.f with safe0 := { state := .active } }, vals := (tput [] (slotOf 0x6010 0) 1) }; let p : Fin 2 := 0; let a : Bool := true; let b : Bool := false; s.node.fUp = true ∧ s.node.portsParked = false ∧ pairSample (s.node.valAt 0x6010 p.val) a b = .disagree ∧ ((s.node.pair p.val).state = .safe ∨ (s.node.pair p.val).state = .active ∨ (s.node.pair p.val).state = .blocked)) ∧
    (let s : State := Tests.st { Tests.running with f := { Tests.running.f with safe0 := { state := .transition, count := 9, forcing := true } }, vals := (tput [] (slotOf 0x6010 0) 1) }; let p : Fin 2 := 0; let a : Bool := true; let b : Bool := false; s.node.fUp = true ∧ s.node.portsParked = false ∧ pairSample (s.node.valAt 0x6010 p.val) a b = .disagree ∧ (s.node.pair p.val).state = .transition) ∧
    (let s : State := Tests.st { Tests.running with f := { Tests.running.f with safe0 := { state := .transition, count := 2000, forcing := true } }, vals := (tput [] (slotOf 0x6010 0) 1) }; let p : Fin 2 := 0; let a : Bool := true; let b : Bool := false; s.node.fUp = true ∧ s.node.portsParked = false ∧ pairSample (s.node.valAt 0x6010 p.val) a b = .disagree ∧ (s.node.pair p.val).state = .transition) ∧
    (let s : State := Tests.st { Tests.running with f := { Tests.running.f with safe0 := { state := .discrepancy, clear := 3, record := true } }, vals := (tput [] (slotOf 0x6010 0) 1) }; let p : Fin 2 := 0; s.node.fUp = true ∧ s.node.portsParked = false ∧ (s.node.pair p.val).state = .discrepancy) ∧
    (let s : State := Tests.st { Tests.running with f := { Tests.running.f with safe0 := { state := .discrepancy, clear := 2 } }, vals := (tput [] (slotOf 0x6010 0) 1) }; let p : Fin 2 := 0; s.node.fUp = true ∧ s.node.portsParked = false ∧ (s.node.pair p.val).state = .discrepancy) ∧
    (let s : State := Tests.st { Tests.running with f := { Tests.running.f with safe0 := {  } }, vals := (tput [] (slotOf 0x6010 0) 1) }; let p : Fin 2 := 0; s.node.fUp = true ∧ s.node.portsParked = false ∧ (s.node.pair p.val).state = .off) ∧
    (let s : State := Tests.st { Tests.running with f := { Tests.running.f with safe0 := { state := .discrepancy, recordDue := true } } }; let p : Fin 2 := 0; s.node.safeTicks = true ∧ (s.node.pair p.val).recordDue = true) ∧
    (let s : State := Tests.st Tests.running; let rq : Rq := Tests.ask; let p : Fin 2 := 0; ∃ u x, s.node.accepts rq 0x6017 (.command none) = some (u, x) ∧ s.node.lineOpen = true ∧ s.node.f.dev ≠ .boot ∧ s.node.f.dev ≠ .sealed ∧ selOf x.sels 0x6000 = p.val) ∧
    (let s : State := Tests.st { Tests.running with f := { Tests.running.f with safe0 := { state := .active, forcing := true, releasePending := true } } }; let rq : Rq := Tests.ask; let p : Fin 2 := 0; ∃ u x, s.node.accepts rq 0x6017 (.command none) = some (u, x) ∧ s.node.lineOpen = true ∧ s.node.f.dev ≠ .boot ∧ s.node.f.dev ≠ .sealed ∧ selOf x.sels 0x6000 = p.val) ∧
    (let s : State := Tests.st { Tests.running with f := { Tests.running.f with safe0 := { state := .safe } }, vals := (tput [] (slotOf 0x6010 0) 1) }; let rq : Rq := Tests.ask; let p : Fin 2 := 0; let key : Nat := 0x6010; let v : Nat := 2; let row : KeyRow := Tests.rowOf 0x6010; ∃ u x, s.node.accepts rq key (.write (.word v)) = some (u, x) ∧ s.node.lineOpen = true ∧ s.node.n.dev = .setup ∧ s.node.f.dev = .setup ∧ selOf x.sels 0x6000 = p.val ∧ (key = 0x6010 ∨ key = 0x6012 ∨ key = 0x6013 ∨ key = 0x6015) ∧ keyRow key = some row ∧ within row.lo row.hi (v % 16777216) = true ∧ (key = 0x6010 → v % 16777216 ≠ 0) ∧ s.node.valAt 0x6010 p.val ≠ 0 ∧ s.node.portsParked = false) ∧
    (let s : State := Tests.st { Tests.running with f := { Tests.running.f with safe0 := { state := .active } }, vals := (tput [] (slotOf 0x6010 0) 1) }; let rq : Rq := Tests.ask; let p : Fin 2 := 0; let key : Nat := 0x6013; let v : Nat := 1; let row : KeyRow := Tests.rowOf 0x6013; ∃ u x, s.node.accepts rq key (.write (.word v)) = some (u, x) ∧ s.node.lineOpen = true ∧ s.node.n.dev = .setup ∧ s.node.f.dev = .setup ∧ selOf x.sels 0x6000 = p.val ∧ (key = 0x6010 ∨ key = 0x6012 ∨ key = 0x6013 ∨ key = 0x6015) ∧ keyRow key = some row ∧ within row.lo row.hi (v % 16777216) = true ∧ (key = 0x6010 → v % 16777216 ≠ 0) ∧ s.node.valAt 0x6010 p.val ≠ 0 ∧ s.node.portsParked = false) :=
  ⟨by decide, by decide, by decide, by decide, by decide, by decide, by decide, by decide, by decide, by decide, by decide, by decide, ⟨_, _, rfl, by decide⟩, ⟨_, _, rfl, by decide⟩, ⟨_, _, rfl, by decide⟩, ⟨_, _, rfl, by decide⟩⟩

/-- What DetectionsAndReactions assumes is met, clause by clause. -/
theorem test_DetectionsAndReactions_met :
    (let s : State := Tests.st { Tests.running with n := { Tests.running.n with faults := { latest := [(5, { event := 3, openWin := true })], history := [{ event := 3, source := 5 }] } } }; let d : Die := .n; let src : Fin 24 := 5; s.node.collects d = true ∧ (tget {} (s.node.die d).faults.latest src).openWin = true ∧ (src.val ≠ 22 ∨ d = .f)) ∧
    (let s : State := Tests.st Tests.running; let d : Die := .n; let src : Fin 24 := 5; s.node.collects d = true ∧ (tget {} (s.node.die d).faults.latest src).openWin = false ∧ (s.node.die d).faults.history.length < 15) ∧
    (let s : State := Tests.st Tests.running; let d : Die := .f; let src : Fin 24 := 12; s.node.collects d = true ∧ (tget {} (s.node.die d).faults.latest src).openWin = false ∧ (s.node.die d).faults.history.length < 15) ∧
    (let s : State := Tests.st { Tests.running with vals := (tput [] (slotOf (0x8020 + 12) 0) 16) }; let d : Die := .n; let src : Fin 24 := 12; let island : Nat := 2; s.node.collects d = true ∧ (tget {} (s.node.die d).faults.latest src).openWin = false ∧ sourceIsland d src.val = some island ∧ bit (s.node.inForce d src.val none).2 2 = true) ∧
    (let s : State := Tests.st { Tests.running with n := { Tests.running.n with faults := { cond := 4 } } }; let d : Die := .n; s.node.collects d = true ∧ ((∀ i ∈ List.range 24, (s.node.die d).faults.cond.getLsbD i = true → (tget {} (s.node.die d).faults.latest i).openWin = true ∨ sourceIsland d i = none))) ∧
    (let s : State := Tests.st Tests.running; let d : Die := .f; (s.node.die d).faults.cond = 0) ∧
    (let s : State := Tests.st { Tests.running with n := { Tests.running.n with faults := { latest := [(5, { event := 3, openWin := true })] } } }; let d : Die := .n; let src : Fin 24 := 5; (tget {} (s.node.die d).faults.latest src).openWin = true ∧ bit (tget {} (s.node.die d).faults.latest src).mask 0 = false ∧ s.node.reactionsDone d src.val = true) ∧
    (let s : State := Tests.st Tests.running; let d : Die := .n; let src : Fin 24 := 5; ((tget {} (s.node.die d).faults.latest src).openWin = false ∨ bit (tget {} (s.node.die d).faults.latest src).mask 0 = true ∨ s.node.reactionsDone d src.val = false)) ∧
    (let s : State := Tests.st { Tests.running with n := { Tests.running.n with faults := { pin := true, pulseRunning := true, releasePending := true } } }; let d : Die := .n; (s.node.die d).faults.pulseRunning = true) ∧
    (let s : State := Tests.st { Tests.running with n := { Tests.running.n with faults := { pulse := 32 } } }; let d : Die := .n; let src : Fin 24 := 5; (s.node.die d).faults.pulse.getLsbD src.val = true) ∧
    (let s : State := Tests.st { Tests.running with n := { Tests.running.n with faults := { resetWaiting := some 4 } } }; let d : Die := .n; let src : Nat := 4; (s.node.die d).faults.resetWaiting = some src) ∧
    (let s : State := Tests.st { Tests.running with f := { Tests.running.f with faults := { resetWaiting := some 4 } } }; let d : Die := .f; let src : Nat := 4; (s.node.die d).faults.resetWaiting = some src) ∧
    (let s : State := Tests.st Tests.running; let d : Die := .n; (s.node.die d).faults.resetWaiting = none) ∧
    (let s : State := Tests.st Tests.running; s.node.hubReceives .n = true ∧ (s.node.n.dev = .setup ∨ s.node.n.dev = .run)) ∧
    (let s : State := Tests.st { Tests.running with n := { Tests.running.n with dev := .safeHold } }; s.node.n.dev ≠ .setup ∧ s.node.n.dev ≠ .run) ∧
    (let s : State := Tests.st { Tests.running with n := { Tests.running.n with dev := .sealed, fSeals := 8 } }; s.node.nUp = true ∧ s.node.n.dev = .sealed ∧ s.node.n.ret.seals = 0 ∧ s.node.trained = true ∧ s.node.n.sealReported = false) ∧
    (let s : State := Tests.st Tests.running; (s.node.n.dev ≠ .sealed ∨ s.node.n.ret.seals ≠ 0 ∨ s.node.n.sealReported = true)) :=
  ⟨by decide, by decide, by decide, by decide, by decide, by decide, by decide, by decide, by decide, by decide, by decide, by decide, by decide, by decide, by decide, by decide, by decide⟩

/-- What ClearingFaults assumes is met, clause by clause. -/
theorem test_ClearingFaults_met :
    (let s : State := Tests.st { Tests.running with n := { Tests.running.n with faults := { status := 36, cond := 4 } } }; let rq : Rq := Tests.ask; let d : Die := .n; let m : Nat := 36; ∃ u x, s.node.accepts rq (faultKey d 0x8002) (.write (.word m)) = some (u, x) ∧ ((d = .f → s.node.lineOpen = true)) ∧ s.node.devOf d ≠ .boot ∧ m < 16777216) ∧
    (let s : State := Tests.st { Tests.running with f := { Tests.running.f with faults := { status := 36 } } }; let rq : Rq := Tests.ask; let d : Die := .f; let m : Nat := 0xFFFFFF; ∃ u x, s.node.accepts rq (faultKey d 0x8002) (.write (.word m)) = some (u, x) ∧ ((d = .f → s.node.lineOpen = true)) ∧ s.node.devOf d ≠ .boot ∧ m < 16777216) ∧
    (let s : State := Tests.st { Tests.running with n := { Tests.running.n with faults := { latest := [(5, { event := 3, mask := 1, openWin := true })], unack := 32, history := [{ event := 3, source := 5 }] } } }; let rq : Rq := Tests.ask; let d : Die := .n; let m : Nat := 32; ∃ u x, s.node.accepts rq (faultKey d 0x8003) (.command (some m)) = some (u, x) ∧ ((d = .f → s.node.lineOpen = true)) ∧ s.node.devOf d ≠ .boot ∧ m < 16777216) ∧
    (let s : State := Tests.st { Tests.running with n := { Tests.running.n with faults := { pin := true } } }; let rq : Rq := Tests.ask; let d : Die := .n; ∃ u x, s.node.accepts rq (faultKey d 0x8004) (.command none) = some (u, x) ∧ ((d = .f → s.node.lineOpen = true)) ∧ s.node.devOf d ≠ .boot) ∧
    (let s : State := Tests.st { Tests.running with n := { Tests.running.n with faults := { pin := true, pulseRunning := true } } }; let rq : Rq := Tests.ask; let d : Die := .n; ∃ u x, s.node.accepts rq (faultKey d 0x8004) (.command none) = some (u, x) ∧ ((d = .f → s.node.lineOpen = true)) ∧ s.node.devOf d ≠ .boot) ∧
    (let s : State := Tests.st { Tests.running with n := { Tests.running.n with faults := { history := [{ event := 3, source := 5 }, { event := 2, cls := 3 }] } } }; let rq : Rq := Tests.ask; let d : Die := .n; ∃ u x, s.node.accepts rq (faultKey d 0x800A) (.command none) = some (u, x) ∧ ((d = .f → s.node.lineOpen = true)) ∧ s.node.devOf d ≠ .boot) ∧
    (let s : State := Tests.st { Tests.running with n := { Tests.running.n with faults := { status := 36, latest := [(5, { event := 3 })] } } }; let rq : Rq := Tests.ask; let d : Die := .n; ∃ u x, s.node.accepts rq (faultKey d 0x8000) .read = some (u, x) ∧ ((d = .f → s.node.lineOpen = true))) ∧
    (let s : State := Tests.st Tests.running; let rq : Rq := Tests.ask; let d : Die := .f; ∃ u x, s.node.accepts rq (faultKey d 0x8000) .read = some (u, x) ∧ ((d = .f → s.node.lineOpen = true))) ∧
    (let s : State := Tests.st { Tests.running with n := { Tests.running.n with faults := { latest := [(7, { event := 3 })] } }, vals := (tput [] (slotOf 0x8008 0) 1) }; let d : Die := .n; let src : Fin 24 := 7; let o : OpenEvent := { event := 3 }; tget? (s.node.die d).faults.latest src.val = some o ∧ s.node.collects d = true ∧ isCondition d src.val = true ∧ s.node.val (clearRecording d) = 1 ∧ o.cleared = false ∧ (s.node.live d).getLsbD src.val = false ∧ (s.node.die d).faults.history.length < 16) ∧
    (let s : State := Tests.st Tests.running; let d : Die := .n; let src : Fin 24 := 5; (isCondition d src.val = false ∨ s.node.val (clearRecording d) = 0 ∨ (s.node.live d).getLsbD src.val = true)) :=
  ⟨⟨_, _, rfl, by decide⟩, ⟨_, _, rfl, by decide⟩, ⟨_, _, rfl, by decide⟩, ⟨_, _, rfl, by decide⟩, ⟨_, _, rfl, by decide⟩, ⟨_, _, rfl, by decide⟩, ⟨_, _, rfl, by decide⟩, ⟨_, _, rfl, by decide⟩, by decide, by decide⟩

/-- What FlushesImagesAndEpochs assumes is met, clause by clause. -/
theorem test_FlushesImagesAndEpochs_met :
    (let s : State := Tests.st { Tests.running with n := { Tests.running.n with loupe := { tokens := 3, cells := [(9, 4)] } } }; let d : Die := .n; (s.node.die d).loupe.writing = none ∧ s.node.n.dict.run = none ∧ s.node.collects d = true ∧ 0 < (s.node.die d).loupe.tokens) ∧
    (let s : State := Tests.st { Tests.running with f := { Tests.running.f with loupe := { cells := [(9, 4)] } } }; let d : Die := .f; s.node.collects d = true ∧ ((s.node.die d).loupe.tokens = 0 ∨ (s.node.die d).loupe.writing.isSome = true ∨ s.node.n.dict.run.isSome = true)) ∧
    (let s : State := Tests.st { Tests.running with f := { Tests.running.f with loupe := { tokens := 3, due := true } } }; let d : Die := .f; (s.node.die d).loupe.writing = none ∧ s.node.n.dict.run = none ∧ s.node.collects d = true ∧ 0 < (s.node.die d).loupe.tokens ∧ (s.node.die d).loupe.due = true) ∧
    (let s : State := Tests.st Tests.running; let d : Die := .f; ((s.node.die d).loupe.due = false ∨ (s.node.die d).loupe.tokens = 0)) ∧
    (let s : State := Tests.st { Tests.running with f := { Tests.running.f with loupe := { tokens := 16 } } }; let d : Die := .f; s.node.collects d = true ∧ (s.node.die d).loupe.due = false) ∧
    (let s : State := Tests.st { Tests.running with n := { Tests.running.n with loupe := { tokens := 16 } } }; let d : Die := .n; s.node.collects d = true ∧ (s.node.die d).loupe.due = false) ∧
    (let s : State := Tests.st { Tests.running with f := { Tests.running.f with loupe := { tokens := 16, writing := some ([(3, 4)], 70) } } }; let d : Die := .f; let image : Tab Nat := [(3, 4)]; let time : T48 := 70; s.node.collects d = true ∧ (s.node.die d).loupe.writing = some (image, time) ∧ (s.node.die d).loupe.due = false ∧ s.node.n.bar.flushWaits = []) ∧
    (let s : State := Tests.st { Tests.running with f := { Tests.running.f with loupe := { slots := 20, writing := some ([(3, 4)], 70) } } }; let d : Die := .f; let image : Tab Nat := [(3, 4)]; let time : T48 := 70; s.node.collects d = true ∧ (s.node.die d).loupe.writing = some (image, time) ∧ (s.node.die d).loupe.tokens = 0) ∧
    (let s : State := Tests.st { Tests.running with n := { Tests.running.n with loupe := { tokens := 2 } }, f := { Tests.running.f with loupe := { tokens := 1 } } }; let rq : Rq := Tests.ask; ∃ u x, s.node.accepts rq 0xA010 (.command none) = some (u, x) ∧ s.node.n.dev ≠ .boot ∧ flushRefusal s.node = none ∧ s.node.n.dict.run = none ∧ s.node.n.loupe.writing = none ∧ s.node.f.loupe.writing = none ∧ s.node.collects .n = true ∧ s.node.collects .f = true) ∧
    (let s : State := Tests.st Tests.running; let rq : Rq := Tests.ask; let st : Nat := 0x01; ∃ u x, s.node.accepts rq 0xA010 (.command none) = some (u, x) ∧ s.node.n.dev ≠ .boot ∧ flushRefusal s.node = some st) ∧
    (let s : State := Tests.st { Tests.apart with n := { Tests.apart.n with dev := .setup } }; let rq : Rq := Tests.ask; let st : Nat := 0x30; ∃ u x, s.node.accepts rq 0xA010 (.command none) = some (u, x) ∧ s.node.n.dev ≠ .boot ∧ flushRefusal s.node = some st) ∧
    (let s : State := Tests.st { Tests.running with n := { Tests.running.n with loupe := { tokens := 2 } }, f := { Tests.running.f with loupe := { tokens := 1 } } }; let rq : Rq := Tests.ask; ∃ u x, s.node.accepts rq 0xA020 (.command none) = some (u, x) ∧ epochRefusal s.node = none ∧ s.node.n.dict.run = none) ∧
    (let s : State := Tests.st Tests.running; let rq : Rq := Tests.ask; let st : Nat := 0x01; ∃ u x, s.node.accepts rq 0xA020 (.command none) = some (u, x) ∧ s.node.n.dev ≠ .boot ∧ s.node.n.dev ≠ .sealed ∧ epochRefusal s.node = some st) ∧
    (let s : State := Tests.st { Tests.running with n := { Tests.running.n with dev := .run } }; let rq : Rq := Tests.ask; let st : Nat := 0x14; ∃ u x, s.node.accepts rq 0xA020 (.command none) = some (u, x) ∧ s.node.n.dev ≠ .boot ∧ s.node.n.dev ≠ .sealed ∧ epochRefusal s.node = some st) ∧
    (let s : State := Tests.st { Tests.running with n := { Tests.running.n with bar := { flushWaits := [(0, 5, true)] } }, f := { Tests.running.f with loupe := { writing := some ([(3, 4)], 70) } } }; let image : Tab Nat := [(3, 4)]; let time : T48 := 70; s.node.collects .f = true ∧ s.node.f.loupe.writing = some (image, time) ∧ s.node.f.loupe.due = false ∧ s.node.n.loupe.due = false ∧ s.node.n.loupe.writing = none ∧ s.node.n.bar.flushWaits = [(0, 5, true)] ∧ s.node.n.bar.epochs.length < 8) ∧
    (let s : State := Tests.st { Tests.running with n := { Tests.running.n with bar := { epochs := [⟨2, 0, 0, 0, [], [], []⟩] } } }; let rq : Rq := Tests.ask; let a : Nat := 2; ∃ u x, s.node.accepts rq 0xA022 (.command (some a)) = some (u, x) ∧ s.node.n.dev ≠ .boot ∧ s.node.n.dev ≠ .sealed ∧ a < 16777216) ∧
    (let s : State := Tests.st Tests.running; let rq : Rq := Tests.ask; let a : Nat := 1; ∃ u x, s.node.accepts rq 0xA022 (.command (some a)) = some (u, x) ∧ s.node.n.dev ≠ .boot ∧ s.node.n.dev ≠ .sealed ∧ a < 16777216) ∧
    (let s : State := Tests.st { Tests.running with f := { Tests.running.f with loupe := { stored := [(3, 4)], tokens := 2, slots := 9 } } }; s.node.nUp = true ∧ s.node.trained = true) ∧
    (let s : State := Tests.st { Tests.running with n := { Tests.running.n with loupe := {  }, bar := { fImage := some ([(3, 4)], 7), fImageNew := true } } }; s.node.nUp = true ∧ s.node.n.bar.fImageNew = true) :=
  ⟨by decide, by decide, by decide, by decide, by decide, by decide, by decide, by decide, ⟨_, _, rfl, by decide⟩, ⟨_, _, rfl, by decide⟩, ⟨_, _, rfl, by decide⟩, ⟨_, _, rfl, by decide⟩, ⟨_, _, rfl, by decide⟩, ⟨_, _, rfl, by decide⟩, by decide, ⟨_, _, rfl, by decide⟩, ⟨_, _, rfl, by decide⟩, by decide, by decide⟩

/-- What BarrierAndBulkReadout assumes is met, clause by clause. -/
theorem test_BarrierAndBulkReadout_met :
    (let s : State := Tests.st Tests.running; let peak : Nat := 2600; s.node.nUp = true ∧ s.node.monitorTorn = false ∧ 2500 ≤ peak) ∧
    (let peak : Nat := 2499; peak < 2500) ∧
    (let s : State := Tests.st { Tests.running with n := { Tests.running.n with isl := { torn := 16 } } }; let peak : Nat := 2600; s.node.monitors = true ∧ s.node.monitorTorn = true ∧ 50 ≤ peak) ∧
    (let s : State := Tests.st Tests.running; let charge : Nat := 30; s.node.monitors = true ∧ s.node.monitorTorn = false ∧ 5 ≤ charge) ∧
    (let s : State := Tests.st Tests.running; let charge : Nat := 5; s.node.monitors = true ∧ s.node.monitorTorn = false ∧ 5 ≤ charge) ∧
    (let s : State := Tests.st { Tests.running with n := { Tests.running.n with loupe := {  }, bar := { window := 100 } } }; s.node.nUp = true ∧ s.node.monitorTorn = false) ∧
    (let s : State := Tests.st { Tests.running with n := { Tests.running.n with loupe := {  }, bar := { window := 49, alarm := true } } }; s.node.nUp = true ∧ s.node.monitorTorn = false) ∧
    (∃ s : State, ∃ src : Nat, ∃ mask : Nat, ∃ view : Nat, ∃ offset : Nat,
      s.node.canOn = true ∧ s.node.val 0x1102 = 0 ∧ s.node.n.number ≠ 0 ∧ 1 ≤ mask ∧ mask ≤ 31 ∧ (s.node.n.bar.bulk.all fun b => b.client == src) = true ∧ s.node.viewOk view = true ∧ offset ≤ (s.node.transferImage mask view).length) ∧
    (let s : State := Tests.st Tests.running; let src : Nat := 9; let mask : Nat := 0; let view : Nat := 0; let ok : Bool := true; s.node.canOn = true ∧ s.node.val 0x1102 = 0 ∧ s.node.n.number ≠ 0 ∧ (ok = false ∨ mask = 0 ∨ 32 ≤ mask ∨ (s.node.n.bar.bulk.any fun b => b.client != src) = true ∨ s.node.viewOk view = false)) ∧
    (let s : State := Tests.st Tests.running; let src : Nat := 9; let mask : Nat := 4; let view : Nat := 3; let ok : Bool := true; s.node.canOn = true ∧ s.node.val 0x1102 = 0 ∧ s.node.n.number ≠ 0 ∧ (ok = false ∨ mask = 0 ∨ 32 ≤ mask ∨ (s.node.n.bar.bulk.any fun b => b.client != src) = true ∨ s.node.viewOk view = false)) ∧
    (let s : State := Tests.st { Tests.running with n := { Tests.running.n with loupe := {  }, bar := { bulk := some ⟨9, 4, 0, 0, 0, [1], 0, false⟩ } } }; let b : Bulk := ⟨9, 4, 0, 0, 0, [1], 0, false⟩; s.node.canOn = true ∧ s.node.n.bar.bulk = some b ∧ b.dropped = false ∧ s.node.n.can.state ≠ .busOff) ∧
    (let s : State := Tests.st { Tests.running with n := { Tests.running.n with loupe := {  }, bar := { bulk := some ⟨9, 4, 0, 0, 0, [1], 0, false⟩ } } }; let b : Bulk := ⟨9, 4, 0, 0, 0, [1], 0, false⟩; s.node.nUp = true ∧ s.node.n.bar.bulk = some b ∧ b.dropped = false ∧ s.node.n.can.state ≠ .busOff) :=
  ⟨by decide, by decide, by decide, by decide, by decide, by decide, by decide, ⟨Tests.st Tests.running, 9, 4, 0, 0, by decide, by decide, by decide, by decide, by decide, by decide, by decide, Nat.zero_le _⟩, by decide, by decide, by decide, by decide⟩

/-- What StandbyAndMonitors assumes is met, clause by clause. -/
theorem test_StandbyAndMonitors_met :
    (let s : State := Tests.st Tests.running; let rq : Rq := Tests.ask; ∃ u x, s.node.accepts rq 0x9010 (.command none) = some (u, x) ∧ s.node.n.dev ≠ .boot ∧ s.node.trained = true) ∧
    (let s : State := Tests.st Tests.apart; let rq : Rq := Tests.ask; ∃ u x, s.node.accepts rq 0x9010 (.command none) = some (u, x) ∧ s.node.n.dev = .boot) ∧
    (let s : State := Tests.st { Tests.running with vals := (tput [] (slotOf 0x9011 0) 60) }; s.node.nUp = true ∧ s.node.val 0x9011 ≠ 0 ∧ (s.node.n.seq.slots.any fun e => e.2.state == .armed) = false ∧ s.node.n.dict.run = none ∧ standbyRefusal s.node = none ∧ s.node.trained = true) ∧
    (let s : State := Tests.st Tests.running; (s.node.val 0x9011 = 0 ∨ (s.node.n.seq.slots.any fun e => e.2.state == .armed) = true ∨ (standbyRefusal s.node).isSome = true)) ∧
    (let s : State := Tests.st { Tests.running with n := { Tests.running.n with pow := { entering := some 2, notified := true } } }; s.node.nUp = true ∧ s.node.n.pow.entering.isSome = true ∧ s.node.n.pow.latched = none) ∧
    (let s : State := Tests.st { Tests.running with n := { Tests.running.n with pow := { entering := some 1, notified := true } } }; s.node.hubReceives .f = true ∧ s.node.n.pow.entering.isSome = true ∧ s.node.n.pow.notified = true ∧ s.node.n.pow.latched = none ∧ (s.node.f.chain.state = .off ∨ s.node.f.chain.state = .noRoot) ∧ s.node.portsParked = false) ∧
    (let s : State := Tests.st { Tests.running with n := { Tests.running.n with pow := { entering := some 1, notified := true } }, f := { Tests.running.f with chain := Tests.inTree.f.chain } }; s.node.hubReceives .f = true ∧ s.node.n.pow.entering.isSome = true ∧ s.node.n.pow.notified = true ∧ s.node.n.pow.latched = none ∧ s.node.f.chain.state = .up ∧ s.node.portsParked = false) ∧
    (let s : State := Tests.st { Tests.running with n := { Tests.running.n with phase := .standby, pow := { wakes := 15, kept := some (5, 90000) } } }; s.node.n.phase = .standby ∧ s.node.n.pow.wakes.getLsbD 0 = true) ∧
    (let s : State := Tests.st { Tests.running with n := { Tests.running.n with pow := { entering := some 1 } }, vals := (tput (tput [] (slotOf 0x9013 0) 7) (slotOf 0x9014 0) 60) }; s.node.nUp = true ∧ s.node.n.pow.entering.isSome = true ∧ s.node.wakeSources.getLsbD 0 = true) ∧
    (let s : State := Tests.st Tests.running; ((s.node.n.phase = .standby ∧ s.node.n.pow.wakes.getLsbD 0 = false) ∨ (s.node.n.phase = .ready ∧ s.node.n.pow.entering = none))) ∧
    (let s : State := Tests.st { Tests.running with n := { Tests.running.n with phase := .standby, pow := { wakes := 15, kept := some (5, 90000) } } }; s.node.n.phase = .standby ∧ s.node.n.pow.wakes.getLsbD 1 = true) ∧
    (let s : State := Tests.st { Tests.running with n := { Tests.running.n with pow := { entering := some 1 } }, vals := (tput (tput [] (slotOf 0x9013 0) 7) (slotOf 0x9014 0) 60) }; s.node.nUp = true ∧ s.node.n.pow.entering.isSome = true ∧ s.node.wakeSources.getLsbD 1 = true) ∧
    (let s : State := Tests.st Tests.running; ((s.node.n.phase = .standby ∧ s.node.n.pow.wakes.getLsbD 1 = false) ∨ (s.node.n.phase = .ready ∧ s.node.n.pow.entering = none))) ∧
    (let s : State := Tests.st { Tests.running with n := { Tests.running.n with phase := .standby, pow := { wakes := 15, kept := some (5, 90000) } }, f := { Tests.running.f with park := { wakeN := true } } }; s.node.n.phase = .standby ∧ s.node.n.pow.wakes.getLsbD 3 = true ∧ s.node.f.park.wakeN = true) ∧
    (let s : State := Tests.st { Tests.running with n := { Tests.running.n with pow := { entering := some 1 } }, f := { Tests.running.f with park := { wakeN := true } }, vals := (tput (tput [] (slotOf 0x9013 0) 7) (slotOf 0x9014 0) 60) }; s.node.nUp = true ∧ s.node.n.pow.entering.isSome = true ∧ s.node.wakeSources.getLsbD 3 = true ∧ s.node.f.park.wakeN = true) ∧
    (let s : State := Tests.st Tests.running; ((s.node.n.phase = .standby ∧ s.node.n.pow.wakes.getLsbD 3 = false) ∨ (s.node.n.phase = .ready ∧ s.node.n.pow.entering = none))) ∧
    (let s : State := Tests.st Tests.running; s.node.f.park.wakeN = false) ∧
    (let s : State := Tests.st { Tests.running with vals := (tput (tput (tput (tput (tput [] (slotOf 0x8021 0) 0) (slotOf 0x8022 0) 0) (slotOf 0x9006 0) 90) (slotOf 0x9007 0) 160) (slotOf 0x9009 0) 110) }; s.node.nUp = true ∧ s.node.val 0x9006 + 4 ≤ s.node.val 0x9007 ∧ (s.node.inForce .n 1 none).2 = 0 ∧ (s.node.inForce .n 2 none).2 = 0 ∧ (s.node.inForce .n 1 none).1 ≠ 3 ∧ (s.node.inForce .n 2 none).1 ≠ 3) ∧
    (let s : State := Tests.st { Tests.running with n := {}, vals := (tput (tput (tput [] (slotOf 0x8121 0) 0) (slotOf 0x8122 0) 0) (slotOf 0x900A 0) 110) }; s.node.nUp = false ∧ s.node.fUp = true ∧ (s.node.inForce .f 1 none).2 = 0 ∧ (s.node.inForce .f 2 none).2 = 0 ∧ (s.node.inForce .f 1 none).1 ≠ 3 ∧ (s.node.inForce .f 2 none).1 ≠ 3) ∧
    (let s : State := Tests.st Tests.running; (s.node.n.phase = .ready ∨ s.node.n.phase = .starting)) ∧
    (let s : State := Tests.st Tests.starting; (s.node.n.phase = .ready ∨ s.node.n.phase = .starting)) :=
  ⟨⟨_, _, rfl, by decide⟩, ⟨_, _, rfl, by decide⟩, by decide, by decide, by decide, by decide, by decide, by decide, by decide, by decide, by decide, by decide, by decide, by decide, by decide, by decide, by decide, by decide, by decide, by decide, by decide⟩

/-- What FiligreeSlots assumes is met, clause by clause. -/
theorem test_FiligreeSlots_met :
    (∃ s : State, ∃ rq : Rq, ∃ u : Node, ∃ x : Txn,
      s.node.accepts rq 0xE000 (.command (some unlockCode)) = some (u, x) ∧ s.node.n.dev = .setup ∧ s.node.fil.lockout = false) ∧
    (∃ s : State, ∃ rq : Rq, ∃ a : Nat, ∃ u : Node, ∃ x : Txn,
      s.node.accepts rq 0xE000 (.command (some a)) = some (u, x) ∧ s.node.n.dev = .setup ∧ a < 16777216 ∧ s.node.fil.lockout = false ∧ a ≠ unlockCode) ∧
    (let s : State := Tests.st { Tests.running with n := { Tests.running.n with dev := .run }, fil := {  } }; let rq : Rq := Tests.ask; let a : Nat := 5; ∃ u x, s.node.accepts rq 0xE000 (.command (some a)) = some (u, x) ∧ (s.node.n.dev = .run ∨ s.node.n.dev = .safeHold ∨ (s.node.n.dev = .setup ∧ s.node.fil.lockout = true))) ∧
    (let s : State := Tests.st { Tests.running with fil := { lockout := true, wrong := 3 } }; let rq : Rq := Tests.ask; let a : Nat := 5; ∃ u x, s.node.accepts rq 0xE000 (.command (some a)) = some (u, x) ∧ (s.node.n.dev = .run ∨ s.node.n.dev = .safeHold ∨ (s.node.n.dev = .setup ∧ s.node.fil.lockout = true))) ∧
    (let s : State := Tests.st { Tests.running with fil := { unlocked := true } }; let rq : Rq := Tests.ask; ∃ u x, s.node.accepts rq 0xE001 (.command none) = some (u, x) ∧ s.node.n.dev ≠ .boot) ∧
    (let s : State := Tests.st { Tests.running with fil := { unlocked := true } }; s.node.nUp = true) ∧
    (let s : State := Tests.st { Tests.running with fil := { lockout := true, wrong := 3 } }; s.node.nUp = true ∧ s.node.fil.lockout = true) ∧
    (let s : State := Tests.st { Tests.running with fil := { unlocked := true } }; let rq : Rq := Tests.ask; let bytes : List Byte := [2, 0, 5, 0, 0, 0, 0, 0, 9, 0, 0, 0]; let i : Nat := 0; ∃ u x, s.node.accepts rq 0xE010 (wholeBlob bytes) = some (u, x) ∧ bytes.length ≤ 12 ∧ s.node.fil.unlocked = true ∧ armFilTakes bytes s.node = some i ∧ (filOfBlob bytes).die = .n ∧ (filOfBlob bytes).code ≠ filRecal ∧ (filOfBlob bytes).code ≠ filServoFreeze) ∧
    (let s : State := Tests.st { Tests.running with fil := { unlocked := true } }; let rq : Rq := Tests.ask; let bytes : List Byte := [5, 3, 5, 0, 0, 0, 0, 0, 9, 0, 0, 0]; let i : Nat := 0; ∃ u x, s.node.accepts rq 0xE010 (wholeBlob bytes) = some (u, x) ∧ bytes.length ≤ 12 ∧ s.node.fil.unlocked = true ∧ armFilTakes bytes s.node = some i ∧ (filOfBlob bytes).die = .f) ∧
    (let s : State := Tests.st { Tests.running with fil := { unlocked := true } }; let rq : Rq := Tests.ask; let bytes : List Byte := [2, 0, 0, 0, 0, 0, 0, 0, 9, 0, 0, 0]; let st : Nat := 0x13; ∃ u x, s.node.accepts rq 0xE010 (wholeBlob bytes) = some (u, x) ∧ bytes.length ≤ 12 ∧ s.node.fil.unlocked = true ∧ armFilRefusal bytes s.node = some st ∧ s.node.n.dev = .setup) ∧
    (let s : State := Tests.st { Tests.running with fil := { unlocked := true } }; let rq : Rq := Tests.ask; let bytes : List Byte := [2, 0]; let st : Nat := 0x12; ∃ u x, s.node.accepts rq 0xE010 (wholeBlob bytes) = some (u, x) ∧ bytes.length ≤ 12 ∧ s.node.fil.unlocked = true ∧ armFilRefusal bytes s.node = some st ∧ s.node.n.dev = .setup) ∧
    (let s : State := Tests.st Tests.running; let rq : Rq := Tests.ask; let bytes : List Byte := [7, 0, 0, 0, 0, 0, 0, 0, 9, 0, 0, 0]; ∃ u x, s.node.accepts rq 0xE010 (wholeBlob bytes) = some (u, x) ∧ bytes.length ≤ 12 ∧ s.node.fil.unlocked = false) ∧
    (let s : State := Tests.st { Tests.running with n := { Tests.running.n with faults := { cond := 8388608 } }, fil := { unlocked := true, slots := [(2, { armed := true, onDie := true, code := 9, a := 3, duration := 5 })] } }; let rq : Rq := Tests.ask; let i : Nat := 2; ∃ u x, s.node.accepts rq 0xE011 (.command (some i)) = some (u, x) ∧ s.node.n.dev ≠ .boot ∧ i < 8 ∧ (s.node.filSlot i).armed = true ∧ (s.node.filSlot i).onDie = true ∧ (s.node.filSlot i).die = .n ∧ (s.node.filSlot i).code ≠ filClaspDelay) ∧
    (let s : State := Tests.st Tests.running; let rq : Rq := Tests.ask; let a : Nat := 8; ∃ u x, s.node.accepts rq 0xE011 (.command (some a)) = some (u, x) ∧ s.node.n.dev ≠ .boot ∧ 8 ≤ a ∧ a < 16777216 ∧ a ≠ 255) ∧
    (let s : State := Tests.st { Tests.running with fil := { slots := [(2, { armed := true, onDie := true, code := 9, a := 3, duration := 5 })] } }; let slot : Fin 8 := 2; (s.node.filSlot slot).onDie = true ∧ s.node.collects (s.node.filSlot slot).die = true ∧ (s.node.filSlot slot).code ≠ filClaspDelay) ∧
    (let s : State := Tests.st { Tests.running with fil := { slots := [(2, { armed := true, onDie := true, code := 5, a := 3, duration := 5, die := .f })] } }; let slot : Fin 8 := 2; (s.node.filSlot slot).onDie = true ∧ s.node.collects (s.node.filSlot slot).die = true ∧ (s.node.filSlot slot).code ≠ filClaspDelay) ∧
    (let s : State := Tests.st Tests.running; let slot : Fin 8 := 2; (s.node.filSlot slot).onDie = false) ∧
    (let s : State := Tests.st { Tests.running with fil := { slots := [(2, { armed := true, code := 5, a := 3, duration := 5, die := .f })] } }; let slot : Fin 8 := 2; let armed : Bool := false; s.node.nUp = true ∧ s.node.trained = true ∧ (s.node.filSlot slot).die = .f ∧ tget? s.node.fil.waits slot = none) ∧
    (∃ s : State, ∃ slot : Fin 8, ∃ q : Nat, ∃ tag : Nat, ∃ x : Txn,
      s.node.nUp = true ∧ s.node.trained = true ∧ (s.node.filSlot slot).die = .f ∧ tget? s.node.fil.waits slot = some (q, tag) ∧ s.node.txn q tag = some x ∧ x.session = q ∧ x.tag = tag ∧ x.path = .nport) ∧
    (let s : State := Tests.st { Tests.running with n := { Tests.running.n with clasp := { Tests.half with heldCredits := 2 } }, fil := { slots := [(2, { onDie := true, code := 2, a := 3 })] } }; let slot : Fin 8 := 2; (s.node.filSlot slot).code = filCreditHold ∧ 0 < (s.node.die (s.node.filSlot slot).die).clasp.heldCredits) ∧
    (let s : State := Tests.st { Tests.apart with fil := { slots := [(2, { onDie := true, code := 1, a := 3 })] }, n := { Tests.apart.n with clasp := { delayed := [⟨0, 3, .standby⟩] } } }; let slot : Fin 8 := 2; let g : DataFrame := ⟨0, 3, .standby⟩; let rest : List DataFrame := []; (s.node.filSlot slot).code = filClaspDelay ∧ (s.node.die (s.node.filSlot slot).die).clasp.delayed = g :: rest) ∧
    (let s : State := Tests.st Tests.running; let slot : Fin 8 := 2; (s.node.filSlot slot).code ≠ filClaspDelay ∧ (s.node.filSlot slot).code ≠ filCreditHold) :=
  ⟨⟨Tests.st Tests.running, Tests.ask, _, _, if_pos rfl, by decide, by decide⟩, (if h : unlockCode = 1 then ⟨Tests.st Tests.running, Tests.ask, 2, _, _, rfl, by decide, by decide, rfl, by omega⟩
    else ⟨Tests.st Tests.running, Tests.ask, 1, _, _, rfl, by decide, by decide, rfl, by omega⟩), ⟨_, _, rfl, by decide⟩, ⟨_, _, rfl, by decide⟩, ⟨_, _, rfl, by decide⟩, by decide, by decide, ⟨_, _, rfl, by decide⟩, ⟨_, _, rfl, by decide⟩, ⟨_, _, rfl, by decide⟩, ⟨_, _, rfl, by decide⟩, ⟨_, _, rfl, by decide⟩, ⟨_, _, rfl, by decide⟩, ⟨_, _, rfl, by decide⟩, by decide, by decide, by decide, by decide, ⟨Tests.st { Tests.running with n := { Tests.running.n with dict := { sessions := [(0, { path := .nport, client := 0, epoch := 1 })], txns := [⟨0, 5, .nport, 0, 0xE010, .writeBlock ⟨0, false, 12, false, []⟩, [], .running, 0, [], none⟩] } }, fil := { slots := [(2, { armed := true, code := 5, a := 3, duration := 5, die := .f })], waits := [(2, (0, 5))] } }, 2, 0, 5, _, by decide, by decide, by decide, by decide, rfl, by decide, by decide, by decide⟩, by decide, by decide, by decide⟩

/-- The rows of K:5030 and K:6020 exist. -/
theorem test_BeadAndPairStatusLayouts_met : (∃ row, keyRow 0x5030 = some row) ∧ ∃ row, keyRow 0x6020 = some row :=
  ⟨⟨_, rfl⟩, _, rfl⟩

/-- Commands that may not set: a Chain frame, a detection. -/
theorem test_SettingsChangeOnlyWhereNamed_met : maySet (.hello .a ⟨1, 0, false, false, true, 0, 0, 0⟩) = false := by decide

end Sys2Proof.Tests
end

section
/-! PROOFS. The statements of the package and its pins: supplies and N_RST# (R35, R70, R357), the direction agreement (R204 to
R206). -/

namespace Sys2Proof.Machine

open Sys2Proof

/-- What a command gives whose meaning is one change of the node: the property, of the changed node. -/
theorem gives_iff_of_exec_eq_run {c : Instr} {s : State} {g : Node → Node} {P : Node → Prop} (h : exec c s = s.run g) :
    Gives c s P ↔ P (g s.node) := by
  constructor
  · rintro ⟨t, ht, -, hP⟩
    cases h.symm.trans ht
    exact hP
  · exact fun hP => ⟨_, h, rfl, hP⟩

/-! N_RST# on a parked node. Only a fall of its supply takes the F-die's partner away (R357, R70). -/

/-- Steps of F lists that a restart of the N-die fails leave the F-die in its phase. -/
theorem restartN_f_phase (phase : Phase) (cause : Nat) (s : Node) : (restartN phase cause s).f.phase = s.f.phase := by
  have step (t : Txn) (s : Node) : (endKeyStep t none s).f.phase = s.f.phase :=
    congrArg (fun x => x.f.phase) (endKeyStep_core t none s)
  unfold restartN
  dsimp only
  rw [forEach_keeps (fun x => x.f.phase) step, dropVals_f]

theorem doNRstAssert_f_phase (s : Node) : (doNRstAssert s).f.phase = s.f.phase := by
  unfold doNRstAssert
  dsimp only
  split
  · rfl
  · exact restartN_f_phase ..

theorem doNRstRelease_f_phase (s : Node) : (doNRstRelease s).f.phase = s.f.phase := by
  unfold doNRstRelease
  dsimp only
  split
  · rfl
  · exact restartN_f_phase ..

/-- A node whose link ports are parked: its F-die stays ready beside a ready N-die (R357). -/
def portsParkedNode : Node := { n := { phase := .ready }, f := { phase := .ready, park := { state := .parked } } }

/-- Refutes O7: N_RST# goes low and high again on a parked node. The release restarts the N-die, whose supply never fell, and leaves
the F-die ready, where the statement asks for PARKED. -/
theorem not_suppliesAndReadyDies : ¬ Obligations.SuppliesAndReadyDies := by
  unfold Obligations.SuppliesAndReadyDies
  rintro ⟨-, -, -, -, -, hRelease, -, -⟩
  have hGives := hRelease { node := doNRstAssert portsParkedNode } (by decide) (by decide) (by decide)
  obtain ⟨-, -, -, -, -, -, hParked⟩ := (gives_iff_of_exec_eq_run (g := doNRstRelease) rfl).1 hGives
  obtain ⟨hPhase, -⟩ := hParked (by decide) (by decide)
  rw [doNRstRelease_f_phase, doNRstAssert_f_phase] at hPhase
  cases hPhase

/-! A refused direction write of a list. Its answer fails the WRITEKEY step, and the failed step raises the sequencer's source. -/

/-- A Clasp half that is trained and up. -/
def trainedHalf : ClaspHalf := { link := .up, synth := .locked, trained := true, credits := 32 }

/-- A trained node in SETUP whose N-die runs its trap list, a single WRITEKEY of 1 to K:2008 (R278, R281). Under K:8032 = 9 the
sequencer's source 18 reacts with TRAP (R465, R481). -/
def trapListWritesUpper : Node :=
  { vals := tput [] (slotOf 0x8032 0) 9
    blobs := tput [] (slotOf (listKey (trapList .n)) 0) ([3, 0x14 * 2 ^ 18 + 0x2008, 1, 0].flatMap (leBytes 3))
    n := { phase := .ready, clasp := trainedHalf, dev := .setup, seq := { trap := some { list := trapList .n } } }
    f := { phase := .ready, clasp := trainedHalf, dev := .setup } }

/-- The same node once that step has been issued: its agreement is proposed. -/
def trapListProposed : Node := doWritekey .n .trap 0 trapListWritesUpper

set_option maxRecDepth 2000 in
/-- The refusal of that propose fails the step (R287), whose TRAP takes the node to SAFE_HOLD (R477), which holds the outputs of the
N-die (R101). -/
theorem refusal_starts_hold : (ctrlWord .n (doConfigRefuse 1) trapListProposed).n.ch.hold = true := by decide

/-- Refutes O28: the refusal of a direction write that a list has made need not leave the channels of the N-die as they are. -/
theorem not_directionAgreements : ¬ Obligations.DirectionAgreements := by
  unfold Obligations.DirectionAgreements
  rintro ⟨-, -, -, hRefuse, -⟩
  have hGives := hRefuse { node := trapListProposed } 1 (by decide) (by decide) (by decide) (by decide) (by decide)
  obtain ⟨-, -, -, hCh, -⟩ := (gives_iff_of_exec_eq_run (g := ctrlWord .n (doConfigRefuse 1)) rfl).1 hGives
  dsimp only at hCh
  have hHold : trapListProposed.n.ch.hold = true := hCh ▸ refusal_starts_hold
  exact absurd hHold (by decide)

end Sys2Proof.Machine
end

section
/-! PROOFS. The settings and ledgers: which commands leave them alone, that every step keeps them in canonical form with default rows
that carry their check words (R72, R103), and the factory row of a new part (R76). -/

namespace Sys2Proof.Machine

open Sys2Proof

/-! Settings in order. -/

set_option maxRecDepth 20000 in
theorem rowOk_factoryRow (d : Die) : rowOk d factoryRow = true := by cases d <;> decide

theorem rowCheck_factoryRow : rowCheck factoryRow = true := by
  have h := rowOk_factoryRow .n
  simp only [rowOk, Bool.and_eq_true] at h
  exact h.1.1

theorem Ledger.ok_iff (l : Ledger) : l.ok = true ↔ twf l.area.vals = true ∧ twf l.area.blobs = true ∧ rowCheck l.row = true := by
  simp [Ledger.ok, and_assoc]

/-- Settings in canonical form, whose two default rows carry their check words. -/
def StoredOk (x : Tab Nat × Tab (List Byte) × Ledger × Ledger) : Prop :=
  twf x.1 = true ∧ twf x.2.1 = true ∧ x.2.2.1.ok = true ∧ x.2.2.2.ok = true

theorem settingsOk_iff_storedOk (s : Node) : s.settingsOk = true ↔ StoredOk s.stored := settingsOk_iff s

/-- A change under which settings in order stay so, in terms of what is stored. -/
theorem storedOk_of_settingsOk {g : Node → Node} (hg : ∀ {s : Node}, s.settingsOk = true → (g s).settingsOk = true) {s : Node}
    (h : StoredOk s.stored) : StoredOk (g s).stored :=
  (settingsOk_iff_storedOk _).1 (hg ((settingsOk_iff_storedOk s).2 h))

/-! What keeps the settings in order: one lemma for each operation that may change a setting. -/

section
variable {s : Node} (h : StoredOk s.stored)
include h

@[simp] theorem onlyIf_storedOk {g : Node → Node} (hg : ∀ s, StoredOk s.stored → StoredOk (g s).stored) (c : Bool) :
    StoredOk (onlyIf c g s).stored := by
  cases c
  · exact h
  · exact hg s h
@[simp] theorem forEach_storedOk {α : Type} {g : α → Node → Node}
    (hg : ∀ a s, StoredOk s.stored → StoredOk (g a s).stored) (l : List α) :
    StoredOk (forEach l g s).stored := by
  induction l generalizing s with
  | nil => exact h
  | cons a l ih => exact ih (hg a s h)
@[simp] theorem setVal_storedOk (key sel v : Nat) : StoredOk (setVal key sel v s).stored :=
  storedOk_of_settingsOk (setVal_settingsOk key sel v) h
@[simp] theorem setBlob_storedOk (key : Nat) (v : List Byte) : StoredOk (setBlob key v s).stored :=
  storedOk_of_settingsOk (setBlob_settingsOk key v) h
@[simp] theorem dropVals_storedOk (d : Die) : StoredOk (dropVals d s).stored := storedOk_of_settingsOk (dropVals_settingsOk d) h
@[simp] theorem loadArea_storedOk (a : Area) : StoredOk (loadArea a s).stored := storedOk_of_settingsOk (loadArea_settingsOk a) h
@[simp] theorem rewriteMap_storedOk (map : Nat) (upper : Bool) : StoredOk (rewriteMap map upper s).stored :=
  storedOk_of_settingsOk (rewriteMap_settingsOk map upper) h
@[simp] theorem commitPart_storedOk (vals : Tab Nat) (blobs : Tab (List Byte)) (part : Nat) :
    StoredOk (commitPart vals blobs part s).stored :=
  storedOk_of_settingsOk (commitPart_settingsOk vals blobs part) h
@[simp] theorem rowValsN_storedOk (row fRow : List Word) : StoredOk (rowValsN row fRow s).stored := by
  unfold rowValsN
  refine forEach_storedOk ?_ (fun c s hs => setVal_storedOk (setVal_storedOk hs ..) ..) _
  apply_rules [setVal_storedOk]
@[simp] theorem rowValsPair_storedOk (p w : Nat) : StoredOk (rowValsPair p w s).stored := by
  exact setVal_storedOk (setVal_storedOk (setVal_storedOk (setVal_storedOk h ..) ..) ..) ..
@[simp] theorem rowValsBead_storedOk (p w : Nat) : StoredOk (rowValsBead p w s).stored := by
  exact setVal_storedOk (setVal_storedOk (setVal_storedOk h ..) ..) ..
@[simp] theorem rowValsF_storedOk (row : List Word) : StoredOk (rowValsF row s).stored := by
  exact rowValsBead_storedOk (rowValsBead_storedOk (rowValsBead_storedOk (rowValsBead_storedOk
    (rowValsPair_storedOk (rowValsPair_storedOk h ..) ..) ..) ..) ..) ..

/-! Restarts (R70). -/

@[simp] theorem restartN_storedOk (phase : Phase) (cause : Nat) : StoredOk (restartN phase cause s).stored := by
  unfold restartN
  dsimp only
  rw [forEach_stored fun t s => endKeyStep_stored t none s]
  exact dropVals_storedOk h .n
@[simp] theorem restartF_storedOk (phase : Phase) (cause : Nat) : StoredOk (restartF phase cause s).stored :=
  dropVals_storedOk h .f
@[simp] theorem startN_storedOk (cause : Nat) : StoredOk (startN cause s).stored := restartN_storedOk h _ cause
@[simp] theorem doNVbatValid_storedOk : StoredOk (doNVbatValid s).stored := by
  unfold doNVbatValid; split <;> simp [h]
@[simp] theorem doVddfValid_storedOk : StoredOk (doVddfValid s).stored := by
  unfold doVddfValid
  split
  · exact restartF_storedOk h ..
  · exact restartF_storedOk (by simpa using h) ..
@[simp] theorem partnerLost_storedOk : StoredOk (partnerLost s).stored := by
  unfold partnerLost; split <;> simp [h]
@[simp] theorem doSupplyUndervoltage_storedOk (d : Die) : StoredOk (doSupplyUndervoltage d s).stored := by
  unfold doSupplyUndervoltage
  split
  · cases d <;> simp [h]
  · exact h
@[simp] theorem doNRstAssert_storedOk : StoredOk (doNRstAssert s).stored := by
  simp only [doNRstAssert]
  split
  · exact h
  · exact restartN_storedOk (by simpa using h) ..
@[simp] theorem doNRstRelease_storedOk : StoredOk (doNRstRelease s).stored := by
  simp only [doNRstRelease]
  split
  · exact h
  · exact restartN_storedOk (by simpa using h) ..
@[simp] theorem doDieResetBegin_storedOk : StoredOk (doDieResetBegin s).stored := by
  unfold doDieResetBegin
  split
  · exact h
  · split
    · rename_i arg _ _
      have ht : StoredOk (modDict (fun d => { d with resetOrder := none, resetDue := false }) s).stored := h
      have hF : StoredOk (if arg = 0 then modDict (fun d => { d with resetOrder := none, resetDue := false }) s
          else restartF .starting 2 (modDict (fun d => { d with resetOrder := none, resetDue := false }) s)).stored := by
        split
        · exact ht
        · exact restartF_storedOk ht ..
      dsimp only
      split
      · exact hF
      · exact restartN_storedOk hF ..
    · exact h
@[simp] theorem doDieResetReaction_storedOk (d : Die) : StoredOk (doDieResetReaction d s).stored := by
  unfold doDieResetReaction
  split
  · exact h
  · cases d <;> simp [h]
@[simp] theorem doHubClockFailure_storedOk (d : Die) : StoredOk (doHubClockFailure d s).stored := by
  unfold doHubClockFailure
  split
  · cases d <;> simp [h]
  · exact h
@[simp] theorem doPreregFoldback_storedOk : StoredOk (doPreregFoldback s).stored := by
  unfold doPreregFoldback
  split
  · rw [bump_stored]
    exact restartN_storedOk (by simpa using h) ..
  · exact h

/-! Standby (R521 to R525). -/

@[simp] theorem removeCore_storedOk : StoredOk (removeCore s).stored := by
  unfold removeCore; simp [h]
@[simp] theorem wake_storedOk (cause : Nat) : StoredOk (wake cause s).stored := by
  unfold wake; simp [h]
@[simp] theorem completeStandby_storedOk : StoredOk (completeStandby s).stored := by
  simp only [completeStandby]; split <;> simp [h]
@[simp] theorem startStandby_storedOk (cause : Nat) : StoredOk (startStandby cause s).stored := by
  simp only [startStandby]; split <;> simp [h]
@[simp] theorem doIdleStandbyExpiry_storedOk : StoredOk (doIdleStandbyExpiry s).stored := by
  simp only [doIdleStandbyExpiry]; split <;> simp [h]
@[simp] theorem doStandbyCreditTimeout_storedOk : StoredOk (doStandbyCreditTimeout s).stored := by
  unfold doStandbyCreditTimeout
  split
  · exact completeStandby_storedOk (by simpa using h)
  · exact h
@[simp] theorem doStandbyNotice_storedOk : StoredOk (doStandbyNotice s).stored := by
  unfold doStandbyNotice; split <;> simp [h]
@[simp] theorem wakeEvent_storedOk (enabled : BitVec 4 → Bool) (cause : Nat) : StoredOk (wakeEvent enabled cause s).stored := by
  unfold wakeEvent; (repeat' split) <;> simp [h]
@[simp] theorem doCanWakeWup_storedOk : StoredOk (doCanWakeWup s).stored := by
  simp only [doCanWakeWup]; split <;> simp [h]
@[simp] theorem doChainWake_storedOk : StoredOk (doChainWake s).stored := by
  unfold doChainWake; split <;> simp [h]

/-! Readiness, training and direction agreements (R55, R56, R58, R204). -/

end

@[simp] theorem countStart_stored (d : Die) (restored recovered : Bool) (readyTime : Nat) (s : Node) :
    (countStart d restored recovered readyTime s).stored = s.stored := by
  unfold countStart; simp
@[simp] theorem startSources_stored (d : Die) (restored : Bool) (s : Node) : (startSources d restored s).stored = s.stored := by
  simp only [startSources]; split <;> simp

section
variable {s : Node} (h : StoredOk s.stored)
include h

@[simp] theorem dieReady_storedOk (d : Die) (row : List Word) (map readyTime : Nat) (ledgerCut : Bool) :
    StoredOk (dieReady d row map readyTime ledgerCut s).stored := by
  unfold dieReady; cases d <;> simp [h]
@[simp] theorem doNDieReady_storedOk (readyTime : Nat) (crystalOk ledgerCut : Bool) (failed : BitVec 2) (straps floating : BitVec 4) :
    StoredOk (doNDieReady readyTime crystalOk ledgerCut failed straps floating s).stored := by
  simp only [doNDieReady]; split <;> simp [h]
@[simp] theorem doFDieReady_storedOk (readyTime : Nat) (ledgerCut : Bool) : StoredOk (doFDieReady readyTime ledgerCut s).stored := by
  simp only [doFDieReady]; split <;> simp [h]
@[simp] theorem exchange_storedOk (first : Bool) : StoredOk (exchange first s).stored := by
  unfold exchange
  dsimp only
  rw [syncNumber_stored, modFol_stored]
  exact onlyIf_storedOk (by simpa using h) (fun s hs => setVal_storedOk hs ..) _
@[simp] theorem doTrainingComplete_storedOk (duration : Nat) : StoredOk (doTrainingComplete duration s).stored := by
  simp only [doTrainingComplete]; (repeat' split) <;> simp [h]
@[simp] theorem agreedValues_storedOk : StoredOk (agreedValues s).stored := by
  simp only [agreedValues]
  split
  · exact h
  · split <;> exact setVal_storedOk (by simpa using h) ..
@[simp] theorem doConfigAccept_storedOk (n : Nat) : StoredOk (doConfigAccept n s).stored := by
  simp only [doConfigAccept]; split <;> simp [h]
@[simp] theorem doDirectionApply_storedOk (d : Die) : StoredOk (doDirectionApply d s).stored := by
  unfold doDirectionApply
  split
  · exact h
  · cases d <;> simp +contextual [h]

/-! Saves and restores (R103 to R105). -/

@[simp] theorem endSave_storedOk (failed : Nat) : StoredOk (endSave failed s).stored := by
  simp only [endSave]; (repeat' split) <;> simp +contextual [h]
@[simp] theorem factoryPart_storedOk (part : Nat) : StoredOk (factoryPart part s).stored := by
  obtain ⟨hVals, hBlobs, hN, hF⟩ := h
  obtain ⟨hNVals, hNBlobs, hNRow⟩ := (Ledger.ok_iff _).1 hN
  obtain ⟨hFVals, hFBlobs, hFRow⟩ := (Ledger.ok_iff _).1 hF
  have hFactory := rowCheck_factoryRow
  unfold factoryPart
  split
  · exact ⟨hVals, hBlobs, (Ledger.ok_iff _).2 ⟨rfl, rfl, hNRow⟩, hF⟩
  · exact ⟨hVals, hBlobs, hN, (Ledger.ok_iff _).2 ⟨rfl, rfl, hFRow⟩⟩
  · exact ⟨hVals, hBlobs, (Ledger.ok_iff _).2 ⟨hNVals, hNBlobs, hFactory⟩, hF⟩
  · exact ⟨hVals, hBlobs, hN, (Ledger.ok_iff _).2 ⟨hFVals, hFBlobs, hFactory⟩⟩
@[simp] theorem endRestore_storedOk (failed : Nat) (fReported : Bool) : StoredOk (endRestore failed fReported s).stored := by
  unfold endRestore
  split
  · simp only [finishRun_stored, bump_stored, clearUnsaved_stored, freeLedgers_stored]
    split
    · rw [failParts_stored]
      exact forEach_storedOk h (fun p s hs => factoryPart_storedOk hs p) _
    · exact h
  · exact h
omit h in
theorem storedOk_ite {c : Prop} [Decidable c] {a b : Node} (ha : StoredOk a.stored) (hb : StoredOk b.stored) :
    StoredOk (if c then a else b).stored := by
  split
  · exact ha
  · exact hb
@[simp] theorem applyWord_storedOk (key sel v : Nat) : StoredOk (applyWord key sel v s).stored := by
  unfold applyWord
  dsimp only
  repeat' with_reducible apply storedOk_ite
  all_goals simp [h]
@[simp] theorem writeList_storedOk (key : Nat) (bs : List Byte) : StoredOk (writeList key bs s).1.stored := by
  simp only [writeList]; (repeat' split) <;> simp [h]
@[simp] theorem writeBlob_storedOk (sels : Tab Nat) (key : Nat) (bs : List Byte) : StoredOk (writeBlob sels key bs s).1.stored := by
  simp only [writeBlob]; (repeat' split) <;> simp [h]
@[simp] theorem restoreValue_storedOk (from_ : Node) (e : KeyRow × Nat × Nat) : StoredOk (restoreValue from_ e s).stored := by
  simp only [restoreValue]; (repeat' split) <;> simp [h]
@[simp] theorem applyRestore_storedOk (arg : Nat) : StoredOk (applyRestore arg s).stored := by
  have hValues (from_ : Node) (s : Node) (hs : StoredOk s.stored) :
      StoredOk (agreeRestored (forEach restoreKeys (restoreValue from_) s)).stored := by
    rw [agreeRestored_stored]
    exact forEach_storedOk hs (fun e s hs => restoreValue_storedOk hs from_ e) _
  simp only [applyRestore]
  split
  · exact hValues _ _ (by simpa using h)
  · rw [onlyIf_stored fun s => by simp, onlyIf_stored fun s => by simp]
    exact hValues _ _ (by simpa using h)
@[simp] theorem applyProposal_storedOk (w : Nat) : StoredOk (applyProposal w s).stored := by
  simp only [applyProposal]
  rw [bump_stored]
  refine forEach_storedOk h (fun f s h => ?_) _
  split <;> simp [h]

/-! The dictionary. -/

@[simp] theorem adoptCommand_storedOk (arg : Nat) : StoredOk (adoptCommand arg s).1.stored := by
  unfold adoptCommand
  split
  · simpa using h
  · rw [endsWith_stored, modDict_stored]
    exact applyProposal_storedOk h arg
omit h in
/-- Every command of the F-die but the adoption of a proposal (K:7142) leaves the settings alone. -/
theorem commandF_stored (session tag : Nat) (sels : Tab Nat) {key : Nat} (hKey : key ≠ 0x7142) (arg : Nat) (waits : Bool) (now : T48)
    (s : Node) : (commandF session tag sels key arg waits now s).1.stored = s.stored := by
  unfold commandF
  split
  case h_5 => exact checked_stored fun t ht => requestWake_stored arg s t ht
  case h_8 => exact checked_stored fun t ht => releasePair_stored _ s t ht
  case h_11 => exact absurd rfl hKey
  case h_15 => split <;> simp
  all_goals simp

@[simp] theorem commandF_storedOk (session tag : Nat) (sels : Tab Nat) (key arg : Nat) (waits : Bool) (now : T48) :
    StoredOk (commandF session tag sels key arg waits now s).1.stored := by
  by_cases hKey : key = 0x7142
  · subst hKey
    exact adoptCommand_storedOk h arg
  · rwa [commandF_stored session tag sels hKey]
@[simp] theorem executeWord_storedOk (t : Txn) (row : KeyRow) (v : Nat) (waits : Bool) (now : T48) :
    StoredOk (executeWord t row v waits now s).1.stored := by
  unfold executeWord; (repeat' split) <;> simp [h]
@[simp] theorem executeBlob_storedOk (t : Txn) (row : KeyRow) (bs : List Byte) : StoredOk (executeBlob t row bs s).1.stored := by
  simp only [executeBlob]; (repeat' split) <;> simp [h]
@[simp] theorem executeKey_storedOk (t : Txn) (row : KeyRow) (waits : Bool) (now : T48) :
    StoredOk (executeKey t row waits now s).1.stored := by
  unfold executeKey; (repeat' split) <;> simp [h]


omit h in
@[simp] theorem conclude_storedOk {r : Outcome} (h : StoredOk r.1.stored) (t : Txn) : StoredOk (conclude t r).stored := by
  simp only [conclude]; (repeat' split) <;> simp [h]
@[simp] theorem dispatchTxn_storedOk (t : Txn) (row : KeyRow) (now : T48) : StoredOk (dispatchTxn t row now s).stored := by
  unfold dispatchTxn
  split
  · (repeat' split) <;> simp [h]
  · exact conclude_storedOk (executeKey_storedOk h ..) t
@[simp] theorem executeInbox_storedOk (now : T48) : StoredOk (executeInbox now s).stored := by
  unfold executeInbox
  split
  · exact h
  · rename_i t waits rest _
    dsimp only
    split
    · simpa using h
    · rename_i row _
      have hu : StoredOk (executeKey t row waits now (modF (fun f => { f with inbox := rest }) s)).1.stored :=
        executeKey_storedOk (by simpa using h) ..
      (repeat' split) <;> simp [hu]
@[simp] theorem runFar_storedOk (now : T48) : StoredOk (runFar now s).stored := by
  simp only [runFar]; (repeat' split) <;> simp [h]
@[simp] theorem serveKey_storedOk (t : Txn) (row : KeyRow) (now : T48) : StoredOk (serveKey t row now s).stored := by
  simp only [serveKey]; (repeat' split) <;> simp [h]
@[simp] theorem beginTxn_storedOk (t : Txn) (form : Form) (now : T48) : StoredOk (beginTxn t form now s).stored := by
  unfold beginTxn; split <;> simp [h]
@[simp] theorem finishBlock_storedOk (t : Txn) (bs : List Byte) (now : T48) : StoredOk (finishBlock t bs now s).stored := by
  simp only [finishBlock]
  split
  · exact dispatchTxn_storedOk (by simpa using h) ..
  · simpa using h
@[simp] theorem takeSegment_storedOk (t : Txn) (key total next : Nat) (bytes : List Byte) (seg : Segment) (now : T48) :
    StoredOk (takeSegment t key total next bytes seg now s).stored := by
  simp only [takeSegment]; (repeat' split) <;> simp [h]
@[simp] theorem beginBlock_storedOk (t : Txn) (form : Form) (seg : Segment) (now : T48) :
    StoredOk (beginBlock t form seg now s).stored := by
  simp only [beginBlock]; (repeat' split) <;> simp [h]
@[simp] theorem engine_storedOk (path : Path) (client tag : Nat) (form : Form) (key : Nat) (op : DapOp) (now : T48) :
    StoredOk (engine path client tag form key op now s).stored := by
  have hEnter {u : Node} {o : Option Txn} (he : enterFlight path client tag op key s = (u, o)) : StoredOk u.stored := by
    have hu : u.stored = s.stored := by rw [← enterFlight_stored path client tag op key s, he]
    exact hu ▸ h
  unfold engine
  split
  · split <;> simp [h]
  · split
    · exact hEnter (by assumption)
    · exact beginBlock_storedOk (hEnter (by assumption)) ..
  · split
    · exact hEnter (by assumption)
    · exact beginTxn_storedOk (hEnter (by assumption)) ..
@[simp] theorem serveCan_storedOk (rq : Rq) (key : Nat) (op : DapOp) (now : T48) : StoredOk (serveCan rq key op now s).stored := by
  simp only [serveCan]; (repeat' split) <;> simp [h]
@[simp] theorem serveChain_storedOk (rq : Rq) (key : Nat) (op : DapOp) (now : T48) : StoredOk (serveChain rq key op now s).stored := by
  simp only [serveChain]; (repeat' split) <;> simp [h]
@[simp] theorem servePort_storedOk (rq : Rq) (key : Nat) (op : DapOp) (now : T48) : StoredOk (servePort rq key op now s).stored := by
  simp only [servePort]; (repeat' split) <;> simp [h]
@[simp] theorem serve_storedOk (rq : Rq) (key : Nat) (op : DapOp) (now : T48) : StoredOk (serve rq key op now s).stored := by
  unfold serve; split <;> simp [h]
@[simp] theorem serveAt_storedOk (now : T48) (rq : Rq) (key : Nat) (op : DapOp) : StoredOk (serveAt now rq key op s).stored :=
  onlyIf_storedOk (serve_storedOk h ..) (fun _ hs => runFar_storedOk hs now) _
@[simp] theorem serveNow_storedOk (rq : Rq) (key : Nat) (op : DapOp) : StoredOk (serveNow rq key op s).stored := serveAt_storedOk h ..
@[simp] theorem keyStep_storedOk (d : Die) (r : Runner) (run : Run) (op key w dest late : Nat) (dop : DapOp) :
    StoredOk (keyStep d r run op key w dest late dop s).stored := by
  simp only [keyStep]; (repeat' split) <;> simp [h]


@[simp] theorem doReadkey_storedOk (d : Die) (r : Runner) (late : Nat) : StoredOk (doReadkey d r late s).stored := by
  unfold doReadkey; split <;> simp [h]
@[simp] theorem doWritekey_storedOk (d : Die) (r : Runner) (late : Nat) : StoredOk (doWritekey d r late s).stored := by
  unfold doWritekey; split <;> simp [h]
@[simp] theorem doFKeyTransaction_storedOk (session tag : Nat) : StoredOk (doFKeyTransaction session tag s).stored := by
  unfold doFKeyTransaction; (repeat' split) <;> simp [h]
@[simp] theorem doRestoreApplyAck_storedOk : StoredOk (doRestoreApplyAck s).stored := by
  unfold doRestoreApplyAck; (repeat' split) <;> simp [h]
@[simp] theorem ctrlWord_storedOk (d : Die) {g : Node → Node} (hg : ∀ {s : Node}, StoredOk s.stored → StoredOk (g s).stored) :
    StoredOk (ctrlWord d g s).stored := by
  unfold ctrlWord
  split
  · have hr : StoredOk (perturbed d 2 s).1.stored := by simpa using h
    dsimp only
    split
    · exact hg hr
    · exact hg (by simpa using h)
    · simpa using h
  · exact hg h

end

/-! Every command. -/

theorem gives_of_kept {c : Instr} {s : State} {g : Node → Node} (hRun : exec c s = s.run g) (hKept : (g s.node).stored = s.node.stored) :
    Gives c s fun t => t.stored = s.node.stored := (gives_iff_of_exec_eq_run hRun).2 hKept

/-- Settles O60, by cases of the command: one that `maySet` does not name runs one operation, whose law says that it leaves what is
stored alone. -/
theorem settingsChangeOnlyWhereNamed : Obligations.SettingsChangeOnlyWhereNamed := by
  unfold Obligations.SettingsChangeOnlyWhereNamed
  intro c s hNot
  cases c with
  | trainingAttemptTimeout | partnerWaitExpiry | deferredRunEntry => exact gives_of_kept rfl (by simp)
  | blockWriteTimeout | sessionIdleRelease | remoteAnswerTimeout | fKeyResult | deviceStateFrame | dapResp =>
    exact gives_of_kept rfl (by simp)
  | triggerFrame | chainTunnelFrame | tunnelPairTimeout | protocolException | errorPassiveEntry | busOffEntry |
    detourConfirmTimeout | busOffRecovered | transceiverFault | transceiverReenable | txWaitTimeout | dapResponseAcked | rateApply |
    alert | alertAck | errorActiveReturn | busIntegrationEnd => exact gives_of_kept rfl (by simp)
  | canTimeSync | canTimeFollowUp | canTimeSend | timeTriple | timeTripleSend | eraPair | chainTimeFrame | rateSample |
    servoRateUpdate | sourceLoss | stepInstant | countWrap | nSyncEdge | fSyncEdge | syncPulseOutput | holdoverAlarm |
    rateLimitAlarm | rootTimeSend => exact gives_of_kept rfl (by simp)
  | fetch | repeatResponse | tunnel | tunnelAdmitAfterWait | tunnelComplete | tunnelTimeout | abortedFrame | responseClockedOut |
    heldResponseDiscard | nportModeApply | nportMasterEnd | nSelHigh => exact gives_of_kept rfl (by simp)
  | edgeCapture | edgeWord | edgeReplay | refresh | refreshSend | forceWord | forceRepeat | configPropose | configCommit |
    configCommitRepeat | configConfirmTimeout | failsafeTimeout | newOutputTimerExpiry => exact gives_of_kept rfl (by simp)
  | act | actRepeat | actAck | margin | marginSend | credit | creditSend | rateRequestHalf | rateAccept | rateRefuse |
    rateRequestFull | rateRequestRetry | rateSwitch | synthLockLoss | synthCalibrationDone | synthLockReached | outageDetect |
    outageResume | outageLost | lostStep0Received | shiftEnd | overflowForceClear => exact gives_of_kept rfl (by simp)
  | faultReport | faultAcknowledge | faultReportRepeat | faultEntryFrame | faultDetection | liveStateSample | mergeWindowClose |
    errPulseEnd | clearEntry | fSealRelease | fTrapNotice | eventLiveEnd => exact gives_of_kept rfl (by simp)
  | dataFrame => exact gives_of_kept rfl (by simp)
  | configRefuse | configConfirm | configProposeTimeout => exact gives_of_kept rfl (by simp)
  | clockMonitorTrip | islandClockRecovered | islandResetRelease | crossingTear => exact gives_of_kept rfl (by simp)
  | counterSample | periodicFlush | earlyFlush | tokenGain | flushComplete | loupeFImage | fCopyWrite | cmTransient | pdPulse |
    pdWindowEnd | bulkRequest | bulkAbort | bulkSnapshotTimeout | canFrameSent => exact gives_of_kept rfl (by simp)
  | slotLaunch | endStep | wait | join | joinRelease | loop | level | forceStep | close | capture | armStep | trig | nportStep =>
    exact gives_of_kept rfl (by simp)
  | beadStep | beadFrame | positionWindowExpiry | trainEnd | pullupGrant | pullupWindowEnd | overcurrentTrip | lineOffEnd |
    poweringEnd | baseWindowFault | openLineFault | pullupLevelFault | psi5Frame | psi5Silence => exact gives_of_kept rfl (by simp)
  | fportStep | fportTransactionEnd | fportNextWork | statusPoll | programTimeout | eraseTimeout | recoveryPoll =>
    exact gives_of_kept rfl (by simp)
  | hello | parkEntry | beacon | rendezvousBeaconSend | listenWindowOpen | listenWindowMiss | listeningTimeout | adriftWindowMiss
    | childAnswerTimeout | holdWindowEnd | wakeAnswer | wakeRequest | wakeNotice | lfCalibration => exact gives_of_kept rfl (by simp)
  | helloSend | linkSilence | helloTimeout | chainFrameRelay | disableHoldoffExpiry | chainSettleExpiry | pdelayReq | pdelayResp |
    pdelaySchedule | discover | discoverRelay | quietTimeExpiry | reportFrame | rootCollectEnd | assignRepeat | assign | commit |
    noRootTimeout | joinFrame | rediscoverFrame | repairFrame | candidate | repairChoose | tryFrame | attach | attachOk |
    attachOkTimeout | flip | topo | partitionRepairRetry | partitionWaitExpiry | orphanFrameDrop | statusFrame | statusSend |
    statusStale | chainTrigger | linkFrameSent => exact gives_of_kept rfl (by simp)
  | safeTick | latchRecordWrite => exact gives_of_kept rfl (by simp)
  | monitorSample => exact gives_of_kept rfl (by simp)
  | filigreeSlotExpiry | filigreeSlotReport | unlockExpiry | unlockLockoutExpiry | filigreeHoldEnd => exact gives_of_kept rfl (by simp)
  | _ => cases hNot

theorem gives_of_storedOk {c : Instr} {s : State} {g : Node → Node} (hRun : exec c s = s.run g) (hOk : StoredOk (g s.node).stored) :
    Gives c s fun t => StoredOk t.stored := (gives_iff_of_exec_eq_run hRun).2 hOk

/-- Settings in order stay so under every command. -/
theorem exec_gives_storedOk (c : Instr) {s : State} (h : StoredOk s.node.stored) : Gives c s fun t => StoredOk t.stored := by
  by_cases hNot : maySet c = false
  · obtain ⟨t, ht, hPending, hStored⟩ := settingsChangeOnlyWhereNamed c s hNot
    refine ⟨t, ht, hPending, ?_⟩
    dsimp only at hStored ⊢
    rwa [hStored]
  · cases c with
    | read | write | readBlock | writeBlock | selectRead | dapReq => exact gives_of_storedOk rfl (serve_storedOk h ..)
    | stateRequest | releaseOwnSession | save | restore | dieReset | sealQuery | recoverNow | rateWrite | canStatusRead
    | nportModeWrite | fullRateRequest | directionWrite | failsafeTimeoutWrite | pairReset | manualTime | manualEra | armWrite
    | slotCancel | timedInputWrite | resultRead | launchRecordRead | portReenable | rediscover | park | wakeRequestCmd | windowRead
    | programJob | erase | sfdpQuery | adoptProposal | beadPortReenable | releaseForce | statusClear | acknowledge | errPinRelease
    | historyClear | faultStatusRead | flushNow | startEpoch | deleteEpoch | standby | filigreeUnlock | filigreeLock | filigreeArm
    | filigreeDisarm => exact gives_of_storedOk rfl (serveNow_storedOk h ..)
    | syncNow => exact gives_of_storedOk rfl (serveAt_storedOk h ..)
    | listWrite => exact gives_of_storedOk rfl (storedOk_ite (serveNow_storedOk h ..) h)
    | beadModeWrite => exact gives_of_storedOk rfl (storedOk_ite (serveNow_storedOk h ..) h)
    | safeSettingWrite => exact gives_of_storedOk rfl (storedOk_ite (serveNow_storedOk h ..) h)
    | readkey => exact gives_of_storedOk rfl (doReadkey_storedOk h ..)
    | writekey => exact gives_of_storedOk rfl (doWritekey_storedOk h ..)
    | fKeyTransaction => exact gives_of_storedOk rfl (doFKeyTransaction_storedOk h ..)
    | saveComplete => exact gives_of_storedOk rfl (storedOk_ite (endSave_storedOk h _) h)
    | restoreApplyAck => exact gives_of_storedOk rfl (doRestoreApplyAck_storedOk h)
    | restoreComplete => exact gives_of_storedOk rfl (storedOk_ite (endRestore_storedOk h ..) h)
    | nVbatValid => exact gives_of_storedOk rfl (doNVbatValid_storedOk h)
    | vddfValid => exact gives_of_storedOk rfl (doVddfValid_storedOk h)
    | supplyUndervoltage d => exact gives_of_storedOk rfl (doSupplyUndervoltage_storedOk h d)
    | nRstAssert => exact gives_of_storedOk rfl (doNRstAssert_storedOk h)
    | nRstRelease => exact gives_of_storedOk rfl (doNRstRelease_storedOk h)
    | nDieReady => exact gives_of_storedOk rfl (doNDieReady_storedOk h ..)
    | fDieReady => exact gives_of_storedOk rfl (doFDieReady_storedOk h ..)
    | trainingComplete => exact gives_of_storedOk rfl (doTrainingComplete_storedOk h _)
    | dieResetBegin => exact gives_of_storedOk rfl (doDieResetBegin_storedOk h)
    | dieResetReaction d => exact gives_of_storedOk rfl (doDieResetReaction_storedOk h d)
    | hubClockFailure d => exact gives_of_storedOk rfl (doHubClockFailure_storedOk h d)
    | preregFoldback => exact gives_of_storedOk rfl (doPreregFoldback_storedOk h)
    | configAccept n => exact gives_of_storedOk rfl (ctrlWord_storedOk h .n fun hs => doConfigAccept_storedOk hs n)
    | directionApply d => exact gives_of_storedOk rfl (doDirectionApply_storedOk h d)
    | idleStandbyExpiry => exact gives_of_storedOk rfl (doIdleStandbyExpiry_storedOk h)
    | standbyCreditTimeout => exact gives_of_storedOk rfl (doStandbyCreditTimeout_storedOk h)
    | standbyNotice => exact gives_of_storedOk rfl (doStandbyNotice_storedOk h)
    | wakeTimer | nWakePin => exact gives_of_storedOk rfl (wakeEvent_storedOk h ..)
    | canWakeWup => exact gives_of_storedOk rfl (doCanWakeWup_storedOk h)
    | chainWake => exact gives_of_storedOk rfl (doChainWake_storedOk h)
    | open_ => exact gives_of_storedOk rfl (by simpa using h)
    | _ => exact absurd rfl hNot

/-- Settles O6: the front command keeps the settings in order, and a tick of time changes none. -/
theorem settingsStayCanonical : Obligations.SettingsStayCanonical := by
  unfold Obligations.SettingsStayCanonical
  intro s t hOk hStep
  rw [settingsOk_iff_storedOk] at hOk ⊢
  unfold step at hStep
  split at hStep
  · cases hStep
    simpa using hOk
  · rename_i c rest _
    obtain ⟨u, hu, -, hStored⟩ := exec_gives_storedOk c (s := { s with pending := rest }) hOk
    cases hu.symm.trans hStep
    exact hStored

/-! The new part (R76). -/

theorem factoryLedger_ok : Ledger.ok {} = true := (Ledger.ok_iff _).2 ⟨rfl, rfl, rowCheck_factoryRow⟩

/-- Settles O5: the tables of a new part are empty, and both ledgers hold the factory row. -/
theorem settingsCanonicalAtReset : Obligations.SettingsCanonicalAtReset :=
  (settingsOk_iff _).2 ⟨rfl, rfl, factoryLedger_ok, factoryLedger_ok⟩

/-- Settles O4: both ledgers hold the factory row, whose fields are read off. -/
theorem factoryRowAtReset : Obligations.FactoryRowAtReset := by
  unfold Obligations.FactoryRowAtReset
  intro d
  have hRow : (State.reset.node.ledger d).row = factoryRow := by cases d <;> rfl
  have hOk := rowOk_factoryRow d
  rw [hRow]
  exact ⟨by decide, by decide, by decide, by decide, by decide, by decide, by decide, by decide, by decide, by decide, by decide,
    by decide, by decide, by decide, hOk, if_pos hOk⟩

end Sys2Proof.Machine
end

section
/-! PROOFS. K:0015 and K:F002 do write the F-die (R98, R107): the answer ends the wait of every transaction in the F-die's inbox that
carries the same session and tag, so "the F-die is as before" fails over all states. -/

namespace Sys2Proof.Machine

open Sys2Proof

/-- A command of the N-port host under tag 5. -/
def hostCommand : Rq := ⟨.nport, 0, 0, 5, .good, false⟩

/-- A transaction of session 0 under that tag: a read of an F-die key. -/
def inboxTxn : Txn := ⟨0, 5, .nport, 0, 0x4005, .read, [], .toF, 0, [], none⟩

/-- A node in SETUP whose F-die holds that transaction and waits for nothing of it. -/
def waitedInbox (waits : Bool) : Node :=
  { n :=
      { phase := .ready
        dev := .setup
        port := { mode := 1 }
        dict := { sessions := [(0, { path := .nport, client := 0, epoch := 1 })] } }
    f := { inbox := [(inboxTxn, waits)] } }

theorem waitedInbox_accepts_dieReset : ∃ u x, (waitedInbox true).accepts hostCommand 0xF002 (.command (some 0)) = some (u, x) :=
  ⟨_, _, rfl⟩

theorem waitedInbox_accepts_stateRequest : ∃ u x, (waitedInbox true).accepts hostCommand 0x0015 (.command (some 3)) = some (u, x) :=
  ⟨_, _, rfl⟩

/-- The response to K:F002 ends the wait in the inbox. -/
theorem waitedInbox_dieReset_f : (doDieReset hostCommand (some 0) (waitedInbox true)).f = (waitedInbox false).f := by decide

/-- The response to K:0015 ends the wait in the inbox. -/
theorem waitedInbox_stateRequest_f : (doStateRequest hostCommand (some 3) (waitedInbox true)).f = (waitedInbox false).f := by decide

theorem waitedInbox_f_ne : (waitedInbox false).f ≠ (waitedInbox true).f := by decide

/-- Refutes O14: an accepted K:F002 need not leave the F-die as it was. Its response ends the wait of a transaction of the same session
and tag in the F-die's inbox. The statement is over every state; that this one is reached is not claimed. -/
theorem not_dieResets : ¬ Obligations.DieResets := by
  unfold Obligations.DieResets
  rintro ⟨hOrder, -⟩
  obtain ⟨u, x, hAccepts⟩ := waitedInbox_accepts_dieReset
  have hGives := hOrder { node := waitedInbox true } hostCommand 0 u x hAccepts (by decide) (by decide)
  obtain ⟨-, -, -, hF, -⟩ := (gives_iff_of_exec_eq_run (g := doDieReset hostCommand (some 0)) rfl).1 hGives
  exact waitedInbox_f_ne (waitedInbox_dieReset_f.symm.trans hF)

/-- Refutes O13: an accepted K:0015 that changes the state need not leave the F-die as it was, for the reason that refutes O14. -/
theorem not_deviceStateRequests : ¬ Obligations.DeviceStateRequests := by
  unfold Obligations.DeviceStateRequests
  rintro ⟨-, -, -, -, hEnters, -⟩
  obtain ⟨u, x, hAccepts⟩ := waitedInbox_accepts_stateRequest
  have hGives := hEnters { node := waitedInbox true } hostCommand 3 u x hAccepts (by decide) (by decide) (by decide) (by decide)
    (by decide) fun h => absurd h (by decide)
  obtain ⟨-, -, -, -, -, hF⟩ := (gives_iff_of_exec_eq_run (g := doStateRequest hostCommand (some 3)) rfl).1 hGives
  exact waitedInbox_f_ne (waitedInbox_stateRequest_f.symm.trans hF)

end Sys2Proof.Machine
end

section
/-! PROOFS. Training, the partner wait and the pending entry into RUN (R58, R62, R65): what the status and live words of the
collectors and the credits of the Clasp halves do under what a die sends and detects. -/

namespace Sys2Proof.Machine

open Sys2Proof

/-! The gauges of a node: the words and numbers that a detection and a frame move, and nothing else of these operations does. -/

/-- A die's status word, its live conditions, and the credits and the next sequence of its Clasp half. -/
def Node.gauge (s : Node) (d : Die) : Word × Word × Nat × Nat :=
  ((s.die d).faults.status, (s.die d).faults.cond, (s.die d).clasp.credits, (s.die d).clasp.txSeq)

theorem modDie_gauge (d : Die) {g : DieState → DieState}
    (h : ∀ x, (g x).faults.status = x.faults.status ∧ (g x).faults.cond = x.faults.cond ∧
      (g x).clasp.credits = x.clasp.credits ∧ (g x).clasp.txSeq = x.clasp.txSeq) (s : Node) : (modDie d g s).gauge = s.gauge := by
  funext e
  obtain ⟨hStatus, hCond, hCredits, hSeq⟩ := h (s.die d)
  cases d <;> cases e <;> simp_all [Node.gauge]

theorem modFaults_gauge (d : Die) {g : Collector → Collector} (h : ∀ c, (g c).status = c.status ∧ (g c).cond = c.cond) (s : Node) :
    (modFaults d g s).gauge = s.gauge := by
  rw [modFaults_eq, modDie_gauge]
  exact fun x => ⟨(h x.faults).1, (h x.faults).2, rfl, rfl⟩

theorem modClasp_gauge (d : Die) {g : ClaspHalf → ClaspHalf} (h : ∀ x, (g x).credits = x.credits ∧ (g x).txSeq = x.txSeq) (s : Node) :
    (modClasp d g s).gauge = s.gauge := by
  rw [modClasp_eq, modDie_gauge]
  exact fun x => ⟨rfl, rfl, h x.clasp⟩

@[simp] theorem modCh_gauge (d : Die) (g : Channels → Channels) (s : Node) : (modCh d g s).gauge = s.gauge := by
  rw [modCh_eq, modDie_gauge]
  exact fun _ => ⟨rfl, rfl, rfl, rfl⟩
@[simp] theorem modSeq_gauge (d : Die) (g : Sequencer → Sequencer) (s : Node) : (modSeq d g s).gauge = s.gauge := by
  rw [modSeq_eq, modDie_gauge]
  exact fun _ => ⟨rfl, rfl, rfl, rfl⟩
@[simp] theorem modLoupe_gauge (d : Die) (g : Loupe → Loupe) (s : Node) : (modLoupe d g s).gauge = s.gauge := by
  rw [modLoupe_eq, modDie_gauge]
  exact fun _ => ⟨rfl, rfl, rfl, rfl⟩
@[simp] theorem modIsl_gauge (d : Die) (g : Islands → Islands) (s : Node) : (modIsl d g s).gauge = s.gauge := by
  rw [modIsl_eq, modDie_gauge]
  exact fun _ => ⟨rfl, rfl, rfl, rfl⟩
@[simp] theorem modChan_gauge (d : Die) (c : Nat) (g : Chan → Chan) (s : Node) : (modChan d c g s).gauge = s.gauge := modCh_gauge ..

theorem modN_gauge {g : NDie → NDie} (h : ∀ n, (g n).toDieState = n.toDieState) (s : Node) : (modN g s).gauge = s.gauge := by
  funext e
  cases e <;> simp [Node.gauge, h]
theorem modF_gauge {g : FDie → FDie} (h : ∀ f, (g f).toDieState = f.toDieState) (s : Node) : (modF g s).gauge = s.gauge := by
  funext e
  cases e <;> simp [Node.gauge, h]
@[simp] theorem modDict_gauge (g : Dict → Dict) (s : Node) : (modDict g s).gauge = s.gauge := modN_gauge (fun _ => rfl) s
@[simp] theorem modCan_gauge (g : Can → Can) (s : Node) : (modCan g s).gauge = s.gauge := modN_gauge (fun _ => rfl) s
@[simp] theorem modPort_gauge (g : NPort → NPort) (s : Node) : (modPort g s).gauge = s.gauge := modN_gauge (fun _ => rfl) s
@[simp] theorem modFol_gauge (g : Follower → Follower) (s : Node) : (modFol g s).gauge = s.gauge := modF_gauge (fun _ => rfl) s
@[simp] theorem modChain_gauge (g : Chain → Chain) (s : Node) : (modChain g s).gauge = s.gauge := modF_gauge (fun _ => rfl) s
@[simp] theorem modFPort_gauge (g : FPort → FPort) (s : Node) : (modFPort g s).gauge = s.gauge := modF_gauge (fun _ => rfl) s
@[simp] theorem modFil_gauge (i : Nat) (g : FilSlot → FilSlot) (s : Node) : (modFil i g s).gauge = s.gauge := rfl
@[simp] theorem setVal_gauge (key sel v : Nat) (s : Node) : (setVal key sel v s).gauge = s.gauge := rfl

@[simp] theorem onlyIf_gauge {g : Node → Node} (h : ∀ s, (g s).gauge = s.gauge) (c : Bool) (s : Node) :
    (onlyIf c g s).gauge = s.gauge := onlyIf_keeps Node.gauge h c s
@[simp] theorem forEach_gauge {α : Type} {g : α → Node → Node} (h : ∀ a s, (g a s).gauge = s.gauge) (l : List α) (s : Node) :
    (forEach l g s).gauge = s.gauge := forEach_keeps Node.gauge h l s

/-! What moves no gauge. -/

@[simp] theorem filEffect_gauge (i : Nat) (s : Node) : (filEffect i s).gauge = s.gauge := modFil_gauge ..
@[simp] theorem countBy_gauge (d : Die) (blk idx cell n : Nat) (s : Node) : (countBy d blk idx cell n s).gauge = s.gauge := by
  unfold countBy; split <;> simp
@[simp] theorem bump_gauge (d : Die) (blk idx cell : Nat) (s : Node) : (bump d blk idx cell s).gauge = s.gauge := countBy_gauge ..
@[simp] theorem sendCtrl_gauge (d : Die) (w : Ctrl) (s : Node) : (sendCtrl d w s).gauge = s.gauge := by
  unfold sendCtrl
  apply onlyIf_gauge
  intro s
  apply modClasp_gauge
  exact fun _ => ⟨rfl, rfl⟩
@[simp] theorem sendConfig_gauge (d : Die) (phase : Nat) (s : Node) : (sendConfig d phase s).gauge = s.gauge := sendCtrl_gauge ..
@[simp] theorem offerForces_gauge (d : Die) (s : Node) : (offerForces d s).gauge = s.gauge :=
  forEach_gauge (fun _ _ => sendCtrl_gauge ..) ..
@[simp] theorem repeatOrders_gauge (d : Die) (s : Node) : (repeatOrders d s).gauge = s.gauge :=
  forEach_gauge (fun _ _ => sendCtrl_gauge ..) ..

@[simp] theorem keepLevel_gauge (d : Die) (before : Node) (c : Nat) (s : Node) : (keepLevel d before c s).gauge = s.gauge := by
  unfold keepLevel; split <;> simp
theorem settlePins_gauge (d : Die) (g : Node → Node) (s : Node) : (settlePins d g s).gauge = (g s).gauge := by
  simp [settlePins]
@[simp] theorem settleCh_gauge (d : Die) (g : Channels → Channels) (s : Node) : (settlePins d (modCh d g) s).gauge = s.gauge := by
  simp [settlePins_gauge]
@[simp] theorem setForce_gauge (d : Die) (o : Nat) (m : Mask) (s : Node) : (setForce d o m s).gauge = s.gauge := by
  unfold setForce; split <;> simp
@[simp] theorem enterHold_gauge (d : Die) (s : Node) : (enterHold d s).gauge = s.gauge := by
  unfold enterHold; split <;> simp
@[simp] theorem leaveHold_gauge (d : Die) (s : Node) : (leaveHold d s).gauge = s.gauge := by
  unfold leaveHold; split <;> simp
@[simp] theorem sealChannels_gauge (d : Die) (s : Node) : (sealChannels d s).gauge = s.gauge := settleCh_gauge ..

@[simp] theorem modRun_gauge (d : Die) (r : Runner) (g : Run → Run) (s : Node) : (modRun d r g s).gauge = s.gauge := by
  unfold modRun; (repeat' split) <;> simp
@[simp] theorem modRef_gauge (d : Die) (r : RunRef) (g : Run → Run) (s : Node) : (modRef d r g s).gauge = s.gauge := by
  unfold modRef; split <;> simp
@[simp] theorem modObject_gauge (d : Die) (o : Nat) (g : ResultObject → ResultObject) (s : Node) :
    (modObject d o g s).gauge = s.gauge := modSeq_gauge ..
@[simp] theorem closeObject_gauge (d : Die) (o : Nat) (run : Run) (incomplete : Bool) (s : Node) :
    (closeObject d o run incomplete s).gauge = s.gauge := by
  simp [closeObject]
@[simp] theorem addRecord_gauge (d : Die) (rec : LaunchRecord) (s : Node) : (addRecord d rec s).gauge = s.gauge := by
  unfold addRecord; split <;> simp
@[simp] theorem record_gauge (d : Die) (slot list flags : Nat) (time : T48) (lateness : Nat) (s : Node) :
    (record d slot list flags time lateness s).gauge = s.gauge := by
  simp [record]
@[simp] theorem freeRunner_gauge (d : Die) (r : Runner) (s : Node) : (freeRunner d r s).gauge = s.gauge := by
  simp only [freeRunner]; (repeat' split) <;> simp
@[simp] theorem endRun_gauge (d : Die) (r : Runner) (incomplete : Bool) (s : Node) : (endRun d r incomplete s).gauge = s.gauge := by
  unfold endRun
  split
  · rfl
  · simp only [freeRunner_gauge, record_gauge]
    split
    · exact forEach_gauge (fun o s => by split <;> simp) _ s
    · rfl
@[simp] theorem stopLists_gauge (d : Die) (s : Node) : (stopLists d s).gauge = s.gauge := forEach_gauge (fun _ _ => endRun_gauge ..) ..
@[simp] theorem fetchAhead_gauge (d : Die) (r : Runner) (s : Node) : (fetchAhead d r s).gauge = s.gauge := by
  unfold fetchAhead; dsimp only; (repeat' split) <;> simp
@[simp] theorem startTrap_gauge (d : Die) (s : Node) : (startTrap d s).gauge = s.gauge := by
  unfold startTrap; (repeat' split) <;> simp
@[simp] theorem endOutstanding_gauge (d : Die) (r : RunRef) (s : Node) : (endOutstanding d r s).gauge = s.gauge := by
  unfold endOutstanding; dsimp only; (repeat' split) <;> simp
@[simp] theorem storeData_gauge (d : Die) (dest : Nat) (bs : List Byte) (deferred : Bool) (s : Node) :
    (storeData d dest bs deferred s).1.gauge = s.gauge := by
  unfold storeData; dsimp only; split <;> simp

@[simp] theorem leaveState_gauge (d : Die) (prev st : DevState) (s : Node) : (leaveState d prev st s).gauge = s.gauge := by
  unfold leaveState; dsimp only; split <;> simp
@[simp] theorem enterStateN_gauge (st : DevState) (cause : Nat) (s : Node) : (enterStateN st cause s).gauge = s.gauge := by
  unfold enterStateN; split <;> simp [holdForce]
@[simp] theorem setDevF_gauge (st : DevState) (s : Node) : (setDevF st s).gauge = s.gauge := by
  have hLeft : (modF (fun f => { f with dev := st }) (leaveState .f s.f.dev st s)).gauge = s.gauge :=
    (modF_gauge (fun _ => rfl) _).trans (leaveState_gauge ..)
  unfold setDevF
  dsimp only
  split <;> simp [hLeft]

@[simp] theorem writeEntry_gauge (d : Die) (e : HistEntry) (s : Node) : (writeEntry d e s).gauge = s.gauge := by
  simp [writeEntry, modFaults_gauge]
@[simp] theorem modEntry_gauge (d : Die) (event : Nat) (g : HistEntry → HistEntry) (s : Node) : (modEntry d event g s).gauge = s.gauge := by
  simp [modEntry, modFaults_gauge]
@[simp] theorem assertPin_gauge (d : Die) (s : Node) : (assertPin d s).gauge = s.gauge := by
  unfold assertPin; split <;> simp [modFaults_gauge]
@[simp] theorem condFell_gauge (d : Die) (src : Nat) (s : Node) : (condFell d src s).gauge = s.gauge := by
  unfold condFell; dsimp only; split <;> simp

@[simp] theorem afterFlight_gauge (t : Txn) (s : Node) : (afterFlight t s).gauge = s.gauge := by
  unfold afterFlight; dsimp only; (repeat' split) <;> simp [dropSession]
@[simp] theorem leaveFlight_gauge (session tag : Nat) (s : Node) : (leaveFlight session tag s).gauge = s.gauge := by
  unfold leaveFlight; split <;> simp
@[simp] theorem modTxn_gauge (session tag : Nat) (g : Txn → Txn) (s : Node) : (modTxn session tag g s).gauge = s.gauge :=
  modDict_gauge ..
@[simp] theorem waitsNoMore_gauge (session tag : Nat) (s : Node) : (waitsNoMore session tag s).gauge = s.gauge :=
  modF_gauge (fun _ => rfl) s
@[simp] theorem completePort_gauge (tag header : Nat) (body : List Byte) (s : Node) : (completePort tag header body s).gauge = s.gauge :=
  modPort_gauge ..
@[simp] theorem pushTx_gauge (frames : List TxFrame) (s : Node) : (pushTx frames s).gauge = s.gauge := modCan_gauge ..

end Sys2Proof.Machine
end

section
/-! The gauges under what a die sends and detects: a status bit and a live condition that are set stay set, and each frame sent takes
one credit and one sequence (R184, R456, R461). -/

namespace Sys2Proof.Machine

open Sys2Proof

/-- The credits are those of a training less one for each sequence used since. -/
def CreditsCounted (x : Word × Word × Nat × Nat) : Prop := x.2.2.1 ≤ 32 ∧ x.2.2.2 = 32 - x.2.2.1

/-- How the gauges of a node may move from one reading to a later one. -/
structure Advances (a b : Die → Word × Word × Nat × Nat) : Prop where
  status : ∀ d i, (a d).1.getLsbD i = true → (b d).1.getLsbD i = true
  cond : ∀ d i, (a d).2.1.getLsbD i = true → (b d).2.1.getLsbD i = true
  counted : ∀ d, CreditsCounted (a d) → CreditsCounted (b d)

theorem Advances.refl (a : Die → Word × Word × Nat × Nat) : Advances a a := ⟨fun _ _ => id, fun _ _ => id, fun _ => id⟩

theorem Advances.of_eq {a b : Die → Word × Word × Nat × Nat} (h : b = a) : Advances a b := h ▸ .refl _

section
variable {a : Die → Word × Word × Nat × Nat} {s : Node}

theorem Advances.trans {b c : Die → Word × Word × Nat × Nat} (h : Advances a b) (k : Advances b c) : Advances a c :=
  ⟨fun d i => k.status d i ∘ h.status d i, fun d i => k.cond d i ∘ h.cond d i, fun d => k.counted d ∘ h.counted d⟩

theorem onlyIf_advances {g : Node → Node} (hg : ∀ s, Advances s.gauge (g s).gauge) (c : Bool) (h : Advances a s.gauge) :
    Advances a (onlyIf c g s).gauge := by
  cases c
  · exact h
  · exact h.trans (hg s)

theorem forEach_advances {α : Type} {g : α → Node → Node} (hg : ∀ i s, Advances s.gauge (g i s).gauge) (l : List α)
    (h : Advances a s.gauge) : Advances a (forEach l g s).gauge := by
  induction l generalizing s with
  | nil => exact h
  | cons i l ih => exact ih (h.trans (hg i s))

/-! A set bit stays set. -/

theorem setSrc_true_self {src : Nat} (h : src < 24) (w : Word) : (setSrc w src true).getLsbD src = true := by
  have hBit : (srcBit src).getLsbD src = true := by
    rw [srcBit, BitVec.getLsbD_ofNat, Nat.testBit_two_pow_self]
    simpa using h
  rw [setSrc, if_pos rfl, BitVec.getLsbD_or, hBit, Bool.or_true]

theorem setSrc_true_of_set {w : Word} {i : Nat} (h : w.getLsbD i = true) (src : Nat) : (setSrc w src true).getLsbD i = true := by
  simp [setSrc, h]

/-- A collector may set status bits and live conditions. -/
theorem modFaults_advances (d : Die) {g : Collector → Collector}
    (hg : ∀ c i, (c.status.getLsbD i = true → (g c).status.getLsbD i = true) ∧ (c.cond.getLsbD i = true → (g c).cond.getLsbD i = true))
    (h : Advances a s.gauge) : Advances a (modFaults d g s).gauge := by
  refine h.trans ⟨fun e i hi => ?_, fun e i hi => ?_, fun e hi => ?_⟩
  · have := (hg (s.die e).faults i).1 hi
    cases d <;> cases e <;> assumption
  · have := (hg (s.die e).faults i).2 hi
    cases d <;> cases e <;> assumption
  · cases d <;> cases e <;> exact hi

/-! What a die sends. -/

/-- A Clasp half that has a credit may use it, with its next sequence. -/
theorem modClasp_advances (d : Die) {g : ClaspHalf → ClaspHalf}
    (hg : ∀ x, (g x).credits = x.credits - 1 ∧ (g x).txSeq = (x.txSeq + 1) % 256) (hCredit : (s.gauge d).2.2.1 ≠ 0) :
    Advances s.gauge (modClasp d g s).gauge := by
  have hUse : ∀ x : ClaspHalf, x.credits ≠ 0 → x.credits ≤ 32 → x.txSeq = 32 - x.credits →
      (g x).credits ≤ 32 ∧ (g x).txSeq = 32 - (g x).credits := by
    intro x h1 h2 h3
    rw [(hg x).1, (hg x).2]
    omega
  refine ⟨fun e i hi => ?_, fun e i hi => ?_, fun e hi => ?_⟩
  · cases d <;> cases e <;> exact hi
  · cases d <;> cases e <;> exact hi
  · cases d with
    | n =>
      cases e with
      | n => exact hUse _ hCredit hi.1 hi.2
      | f => exact hi
    | f =>
      cases e with
      | n => exact hi
      | f => exact hUse _ hCredit hi.1 hi.2

theorem sendFrame_advances (d : Die) (h : Advances a s.gauge) : Advances a (sendFrame d s).gauge := by
  refine h.trans ?_
  unfold sendFrame
  dsimp only
  split
  · exact .refl _
  · next hCredits =>
    split
    · exact .refl _
    · rw [← bump_gauge d blkClasp 8 0 s]
      exact modClasp_advances d (fun _ => ⟨rfl, rfl⟩) (by rwa [bump_gauge])

theorem pumpData_advances (d : Die) (h : Advances a s.gauge) : Advances a (pumpData d s).gauge := by
  unfold pumpData
  split
  · exact forEach_advances (g := fun _ => sendFrame d) (fun _ s => sendFrame_advances d (.refl _)) _ h
  · exact h

theorem sendData_advances (d : Die) (stream : Nat) (m : Msg) (h : Advances a s.gauge) : Advances a (sendData d stream m s).gauge := by
  unfold sendData
  split
  · split
    · simpa [modClasp_gauge] using h
    · exact pumpData_advances d (by simpa [modClasp_gauge] using h)
  · exact h

theorem chainFromN_advances (dst type : Nat) (urgent : Bool) (typeField : Nat) (bs : List Byte) (h : Advances a s.gauge) :
    Advances a (chainFromN dst type urgent typeField bs s).gauge := sendData_advances _ _ _ h

/-! Changes of the device state. -/

theorem setDev_advances (st : DevState) (cause source session : Nat) (h : Advances a s.gauge) :
    Advances a (setDev st cause source session s).gauge := by
  refine sendData_advances _ _ _ ?_
  simpa [modN_gauge] using h

theorem trapState_advances (cause source : Nat) (h : Advances a s.gauge) : Advances a (trapState cause source s).gauge := by
  unfold trapState
  split
  · exact setDev_advances _ _ _ _ h
  · exact h

theorem sealState_advances (cause source : Nat) (h : Advances a s.gauge) : Advances a (sealState cause source s).gauge := by
  unfold sealState
  split
  · exact h
  · exact setDev_advances _ _ _ _ h

theorem leaveBoot_advances (h : Advances a s.gauge) : Advances a (leaveBoot s).gauge := by
  have hAbsent : Advances a (modN (fun n => { n with fAbsent := !s.trained }) s).gauge := by
    simpa [modN_gauge] using h
  unfold leaveBoot
  dsimp only
  split
  · split
    · exact setDev_advances _ _ _ _ hAbsent
    · split
      · exact setDev_advances _ _ _ _ hAbsent
      · simpa [modN_gauge] using setDev_advances .setup 0 0 0 hAbsent
  · exact h

/-! Alerts. -/

theorem detourNext_advances (h : Advances a s.gauge) : Advances a (detourNext s).gauge := by
  unfold detourNext
  dsimp only
  split
  · split
    · simpa using h
    · exact sendData_advances _ _ _ (by simpa using h)
  · exact h

theorem pushAlert_advances (q : QueuedAlert) (h : Advances a s.gauge) : Advances a (pushAlert q s).gauge := by
  unfold pushAlert
  dsimp only
  split
  · exact detourNext_advances (by simpa using h)
  · split
    · exact detourNext_advances (by simpa using h)
    · simpa using h

theorem queueAlert_advances (die source cls : Nat) (detected : T48) (status : Word) (h : Advances a s.gauge) :
    Advances a (queueAlert die source cls detected status s).gauge := by
  unfold queueAlert
  split
  · exact pushAlert_advances _ (by simpa using h)
  · exact h

/-! Detections. -/

theorem forwardEvent_advances (e : HistEntry) (h : Advances a s.gauge) : Advances a (forwardEvent e s).gauge := by
  unfold forwardEvent
  split
  · simpa using sendData_advances .f 3 (.faultEntry e.event e.fresh) (by simpa using h)
  · exact h

theorem sealDie_advances (d : Die) (src : Nat) (h : Advances a s.gauge) : Advances a (sealDie d src s).gauge := by
  unfold sealDie
  cases d with
  | n => exact sealState_advances _ _ (by simpa [modDie_gauge] using h)
  | f => simpa [modDie_gauge] using h

theorem trapReaction_advances (d : Die) (src : Nat) (h : Advances a s.gauge) : Advances a (trapReaction d src s).gauge := by
  unfold trapReaction
  dsimp only
  split
  · exact h
  · cases d with
    | n => exact trapState_advances _ _ (by simpa using h)
    | f =>
      dsimp only
      split
      · exact sendData_advances _ _ _ (by simpa [modFaults_gauge] using h)
      · simpa [modFaults_gauge] using h

theorem reactions_advances (d : Die) (src cls mask : Nat) (e : HistEntry) (h : Advances a s.gauge) :
    Advances a (reactions d src cls mask e s).gauge := by
  refine onlyIf_advances (fun s => forwardEvent_advances e (.refl _)) _ (onlyIf_advances (fun s => ?_) _ ?_)
  · simpa using trapReaction_advances d src (.refl s.gauge)
  · simpa [modFaults_gauge] using h

theorem startEvent_advances (d : Die) (src cls mask detail fSource : Nat) (seals fresh : Bool) (h : Advances a s.gauge) :
    Advances a (startEvent d src cls mask detail fSource seals fresh s).gauge := by
  refine onlyIf_advances (fun s => sealDie_advances d src (.refl _)) _ ?_
  rw [onlyIf_gauge fun s => by simp [requestFlush], onlyIf_gauge fun s => by simp [modFaults_gauge]]
  exact reactions_advances d src cls mask _ (by simpa [modFaults_gauge] using h)

/-- A collector that runs sets the status bit; what a detection then brings with it only advances. -/
theorem detectCore_advances_of_latched {d : Die} {src : Nat} (hCollects : s.collects d = true)
    (h : ∀ pulse : Collector → Word,
      Advances a (modFaults d (fun c => { c with status := setSrc c.status src true, pulse := pulse c }) s).gauge)
    (detail fSource : Nat) (cls : Option Nat) : Advances a (detectCore d src detail fSource cls s).gauge := by
  unfold detectCore
  dsimp only
  rw [if_pos hCollects]
  refine onlyIf_advances (fun s => queueAlert_advances _ _ _ _ _ (.refl _)) _ ?_
  split
  · rw [bump_gauge, modEntry_gauge]
    exact h _
  · exact startEvent_advances _ _ _ _ _ _ _ _ (h _)

theorem detectCore_advances (d : Die) (src detail fSource : Nat) (cls : Option Nat) (h : Advances a s.gauge) :
    Advances a (detectCore d src detail fSource cls s).gauge := by
  by_cases hCollects : s.collects d = true
  · exact detectCore_advances_of_latched hCollects
      (fun _ => modFaults_advances d (fun c i => ⟨fun hi => setSrc_true_of_set hi src, id⟩) h) detail fSource cls
  · rw [detectCore, if_neg hCollects]
    exact h

theorem tear_advances (d : Die) (i entries : Nat) (h : Advances a s.gauge) : Advances a (tear d i entries s).gauge := by
  refine detectCore_advances _ _ _ _ _ (modFaults_advances d (fun c i => ⟨id, fun hi => setSrc_true_of_set hi _⟩) ?_)
  simpa using h

theorem resetIsland_advances (d : Die) (island cause : Nat) (h : Advances a s.gauge) :
    Advances a (resetIsland d island cause s).gauge := by
  unfold resetIsland
  dsimp only
  split
  · split
    · simpa using h
    · exact tear_advances _ _ _ (by simpa using h)
  · simpa using h

/-- After its part on the collector, a detection only advances. -/
theorem detect_advances_of_detectCore (d : Die) (src detail : Nat) (h : Advances a (detectCore d src detail 0 none s).gauge) :
    Advances a (detect d src detail s).gauge := by
  unfold detect
  dsimp only
  split
  · split
    · simpa using resetIsland_advances d _ 0 h
    · exact h
  · exact h

theorem detect_advances (d : Die) (src detail : Nat) (h : Advances a s.gauge) : Advances a (detect d src detail s).gauge :=
  detect_advances_of_detectCore d src detail (detectCore_advances d src detail 0 none h)

/-! Steps, answers and reports. -/

theorem failStep_advances (d : Die) (r : RunRef) (op : Nat) (h : Advances a s.gauge) : Advances a (failStep d r op s).gauge :=
  detect_advances _ _ _ (by simpa using h)

theorem stepData_advances (d : Die) (r : RunRef) (op dest : Nat) (data : Option (List Byte)) (deferred : Bool)
    (h : Advances a s.gauge) : Advances a (stepData d r op dest data deferred s).gauge := by
  unfold stepData
  cases data with
  | none => simpa using failStep_advances d r op h
  | some bs =>
    dsimp only
    rw [endOutstanding_gauge]
    split
    · simpa using h
    · exact failStep_advances d r op (by simpa using h)

theorem endKeyStep_advances (t : Txn) (data : Option (List Byte)) (h : Advances a s.gauge) :
    Advances a (endKeyStep t data s).gauge := by
  unfold endKeyStep
  split
  · exact h
  · split
    · simpa using h
    · exact stepData_advances _ _ _ _ _ _ h

theorem respond_advances (t : Txn) (status : Nat) (data : List Byte) (h : Advances a s.gauge) :
    Advances a (respond t status data s).gauge := by
  unfold respond
  split
  · simpa using h
  · simpa using h
  · split
    · exact forEach_advances (fun bs s => chainFromN_advances _ _ _ _ bs (.refl _)) _ h
    · simpa using h
  · exact endKeyStep_advances _ _ (by simpa using h)

theorem finish_advances (session tag status : Nat) (data : List Byte) (h : Advances a s.gauge) :
    Advances a (finish session tag status data s).gauge := by
  unfold finish
  split
  · exact h
  · exact respond_advances _ _ _ (by simpa using h)

theorem forwardPending_advances (h : Advances a s.gauge) : Advances a (forwardPending s).gauge := by
  have hReports := forEach_advances (g := fun e s => bump .f blkFault 10 1 (forwardEvent e s))
    (fun e s => by simpa using forwardEvent_advances e (.refl s.gauge)) s.pendingEntries h
  unfold forwardPending
  dsimp only
  split
  · exact sendData_advances _ _ _ (by simpa [modFaults_gauge] using hReports)
  · simpa using hReports

end

end Sys2Proof.Machine
end

section
/-! The partner wait and the pending entry into RUN (R62, R64, R65). -/

namespace Sys2Proof.Machine

open Sys2Proof

/-! A detection latches its source, and a condition that rises is live. -/

theorem detect_status (d : Die) {src : Nat} (hSrc : src < 24) (detail : Nat) {s : Node} (h : s.collects d = true) :
    ((detect d src detail s).die d).faults.status.getLsbD src = true := by
  have hPulse : ∀ pulse : Collector → Word,
      (modFaults d (fun c => { c with status := setSrc c.status src true, pulse := pulse c }) s).gauge =
        (modFaults d (fun c => { c with status := setSrc c.status src true }) s).gauge := by
    intro pulse
    funext e
    cases d <;> cases e <;> rfl
  have hAdvances := detect_advances_of_detectCore d src detail
    (detectCore_advances_of_latched h (fun pulse => .of_eq (hPulse pulse)) detail 0 none)
  refine hAdvances.status d src ?_
  cases d <;> exact setSrc_true_self hSrc _

theorem setCond_cond (d : Die) {src : Nat} (hSrc : src < 24) (detail : Nat) (s : Node) :
    ((setCond d src true detail s).die d).faults.cond.getLsbD src = true := by
  unfold setCond
  dsimp only
  split
  · next hLive => simpa using hLive.symm
  · rw [if_pos rfl]
    refine (detect_advances d src detail (.refl _)).cond d src ?_
    cases d <;> exact setSrc_true_self hSrc _

theorem setCond_status (d : Die) {src : Nat} (hSrc : src < 24) (detail : Nat) {s : Node} (hUp : s.collects d = true)
    (hFallen : (s.die d).faults.cond.getLsbD src = false) : ((setCond d src true detail s).die d).faults.status.getLsbD src = true := by
  unfold setCond
  dsimp only
  rw [hFallen, if_neg (by decide), if_pos rfl]
  refine detect_status d hSrc detail ?_
  cases d <;> exact hUp

theorem collects_of_up {s : Node} {d : Die} (h : s.up d = true) : s.collects d = true := by
  simp [Node.collects, h]

theorem up_of_core {s t : Node} (h : t.core = s.core) (d : Die) : t.up d = s.up d := by
  cases d with
  | n => exact congrArg (fun x => x.n.phase == .ready) h
  | f => exact congrArg (fun x => x.f.phase == .ready) h

/-! What a die stands in: the device state, the last transition and the pending entry into RUN. -/

/-- The device state with its last transition, and the pending entry into RUN with its cancellation. -/
def Node.standing (s : Node) : DevState × Word × Bool × Bool := (s.n.dev, s.n.lastTransition, s.n.runPending, s.n.runCancelled)

@[simp] theorem modDie_standing (d : Die) (g : DieState → DieState) (s : Node) : (modDie d g s).standing = s.standing := by
  simp [Node.standing]
@[simp] theorem countBy_standing (d : Die) (blk idx cell n : Nat) (s : Node) : (countBy d blk idx cell n s).standing = s.standing := by
  unfold countBy
  split
  · rw [modLoupe_eq, modDie_standing]
  · rw [modIsl_eq, modDie_standing]
@[simp] theorem bump_standing (d : Die) (blk idx cell : Nat) (s : Node) : (bump d blk idx cell s).standing = s.standing :=
  countBy_standing ..
theorem sendFrame_standing (d : Die) (s : Node) : (sendFrame d s).standing = s.standing := by
  unfold sendFrame
  dsimp only
  (repeat' split) <;> simp [modClasp_eq]
theorem pumpData_standing (d : Die) (s : Node) : (pumpData d s).standing = s.standing := by
  unfold pumpData
  split
  · exact foldl_keeps Node.standing (fun s _ => sendFrame_standing d s) _ s
  · rfl
@[simp] theorem sendData_standing (d : Die) (stream : Nat) (m : Msg) (s : Node) : (sendData d stream m s).standing = s.standing := by
  unfold sendData
  split
  · split
    · exact (modDie_standing ..)
    · rw [pumpData_standing, modClasp_eq, modDie_standing, onlyIf_keeps Node.standing fun s => bump_standing ..]
  · rfl
theorem keepLevel_standing (d : Die) (before : Node) (c : Nat) (s : Node) : (keepLevel d before c s).standing = s.standing := by
  unfold keepLevel onlyIf
  (repeat' split) <;> simp [modChan, modCh_eq]
@[simp] theorem sealChannels_standing (d : Die) (s : Node) : (sealChannels d s).standing = s.standing := by
  unfold sealChannels settlePins
  rw [forEach_keeps Node.standing fun c s => keepLevel_standing ..]
  simp [modCh_eq]

theorem setDev_dev {st : DevState} (hSt : st ≠ .safeHold) (cause source session : Nat) (s : Node) :
    (setDev st cause source session s).n.dev = st := by
  have hEntered : ∀ t : Node, (enterStateN st cause t).standing = t.standing := by
    intro t
    cases st with
    | safeHold => exact absurd rfl hSt
    | sealed => exact (bump_standing ..).trans (sealChannels_standing ..)
    | boot | setup | run => rfl
  have hStanding : (setDev st cause source session s).standing.1 = st := by
    unfold setDev
    rw [sendData_standing, hEntered]
    rfl
  exact hStanding

/-- The node is out of BOOT once it leaves it (R64 to R66). -/
theorem leaveBoot_dev_ne_boot (s : Node) : (leaveBoot s).n.dev ≠ .boot := by
  have hLeft : ∀ {st : DevState} (t : Node), st ≠ .safeHold → st ≠ .boot → (setDev st 0 0 0 t).n.dev ≠ .boot := by
    intro st t hHold hBoot
    rwa [setDev_dev hHold]
  unfold leaveBoot
  dsimp only
  split
  · split
    · exact hLeft _ (by decide) (by decide)
    · split
      · exact hLeft _ (by decide) (by decide)
      · exact hLeft _ (by decide) (by decide)
  · next hOther => simpa using hOther

/-- The entry into RUN from SETUP (R65). -/
theorem setDev_run_standing (cause source session : Nat) {s : Node} (h : s.n.dev = .setup) :
    (setDev .run cause source session s).standing =
      (.run, transitionWord .setup cause source session, false, s.n.runCancelled || s.n.runPending && cause != 6) := by
  unfold setDev
  rw [sendData_standing, h]
  rfl

/-! The clauses. -/

/-- A training attempt that times out (R59, R80). -/
theorem doTrainingAttemptTimeout_gives {s : Node} (hN : s.nUp = true) (hF : s.fUp = true) (hUntrained : s.trained = false) :
    let t := doTrainingAttemptTimeout s
    t.n.failedAttempts = (if s.n.attemptsFrozen then 1 else min 15 (s.n.failedAttempts + 1)) ∧
    t.n.attemptsFrozen = false ∧ t.n.dict = s.n.dict ∧ t.f = s.f := by
  let counted := modN (fun n =>
    { n with failedAttempts := if n.attemptsFrozen then 1 else satAdd 15 n.failedAttempts 1, attemptsFrozen := false }) s
  have hRun : doTrainingAttemptTimeout s = bump .n blkStartup 5 0 counted := if_pos (by simp [hN, hF, hUntrained])
  have hCore : (doTrainingAttemptTimeout s).core = counted.core := hRun ▸ bump_core ..
  exact ⟨congrArg (fun x => x.n.failedAttempts) hCore, congrArg (fun x => x.n.attemptsFrozen) hCore,
    congrArg (fun x => x.n.dict) hCore, (congrArg Node.f hRun).trans (bump_f ..)⟩

/-- The pending entry into RUN (R65). -/
theorem doDeferredRunEntry_standing {s : Node} (hPending : s.n.runPending = true) (hSetup : s.n.dev = .setup)
    (hAllowed : s.runAllowed = true) :
    (doDeferredRunEntry s).standing = (.run, transitionWord .setup 6 0 0, false, s.n.runCancelled) := by
  unfold doDeferredRunEntry
  rw [if_pos (by simp [hPending, hSetup, hAllowed]), setDev_run_standing _ _ _ hSetup, hPending]
  simp

/-- The N-die apart from its device state and what that brings, which leaving BOOT keeps. -/
theorem leaveBoot_keeps (s : Node) : (leaveBoot s).n.dict = s.n.dict ∧ (leaveBoot s).n.waitExpired = s.n.waitExpired ∧
    (leaveBoot s).n.clasp.lossSeen = s.n.clasp.lossSeen := by
  unfold leaveBoot
  dsimp only
  (repeat' split) <;> simp

/-- What an expired partner wait leaves of a node before it leaves BOOT (R62). -/
structure WaitExpired (d : Die) (s t : Node) : Prop where
  waitExpired : (t.die d).waitExpired = true
  lossSeen : (t.die d).clasp.lossSeen = true
  live : (t.die d).faults.cond.getLsbD 8 = true
  latched : (s.die d).faults.cond.getLsbD 8 = false → (t.die d).faults.status.getLsbD 8 = true
  dict : t.n.dict = s.n.dict

theorem WaitExpired.leaveBoot {s t : Node} (h : WaitExpired .n s t) : WaitExpired .n s (leaveBoot t) := by
  obtain ⟨hDict, hExpired, hLoss⟩ := leaveBoot_keeps t
  have hAdvances := leaveBoot_advances (Advances.refl t.gauge)
  exact ⟨hExpired.trans h.waitExpired, hLoss.trans h.lossSeen, hAdvances.cond .n 8 h.live,
    fun hFallen => hAdvances.status .n 8 (h.latched hFallen), hDict.trans h.dict⟩

/-- The partner wait of a die that has not trained expires (R62). -/
theorem doPartnerWaitExpiry_gives {s : Node} {d : Die} (hUp : s.up d = true) (hUntrained : s.hasTrained d = false)
    (hWaits : (s.die d).waitExpired = false) :
    WaitExpired d s (doPartnerWaitExpiry d s) ∧ (d = .n → (doPartnerWaitExpiry d s).n.dev ≠ .boot) := by
  let marked := modClasp d (fun x => { x with lossSeen := true }) (modDie d (fun x => { x with waitExpired := true }) s)
  let expired := settlePins d (fun s =>
    forEach (eight.filter fun c => s.role d c == 2) (fun c s => modChan d c (fun k => { k with waitExpired := true }) s) s) marked
  let raised := setCond d 8 true 0 (bump d blkStartup 6 0 expired)
  have hBumped : (bump d blkStartup 6 0 expired).core = marked.core := by
    rw [bump_core]
    exact settlePins_core d (fun s => forEach_core (fun c s => modChan_core ..) _ s) marked
  have hCore : raised.core = marked.core := (setCond_core ..).trans hBumped
  have hCollects : (bump d blkStartup 6 0 expired).collects d = true := by
    refine collects_of_up ((up_of_core hBumped d).trans ?_)
    cases d <;> exact hUp
  have hFallen : ((bump d blkStartup 6 0 expired).die d).faults.cond = (s.die d).faults.cond := by
    have hGauge : (bump d blkStartup 6 0 expired).gauge = marked.gauge := by
      simp [expired, settlePins_gauge]
    refine (congrArg (fun g => (g d).2.1) hGauge).trans ?_
    cases d <;> rfl
  have hRaised : WaitExpired d s raised := by
    refine ⟨?_, ?_, setCond_cond d (by decide) 0 _, fun h => setCond_status d (by decide) 0 hCollects (by rwa [hFallen]), ?_⟩
    · cases d with
      | n => exact congrArg (fun x => x.n.waitExpired) hCore
      | f => exact congrArg (fun x => x.f.waitExpired) hCore
    · cases d with
      | n => exact congrArg (fun x => x.n.clasp.lossSeen) hCore
      | f => exact congrArg (fun x => x.f.clasp.lossSeen) hCore
    · refine (congrArg (fun x => x.n.dict) hCore).trans ?_
      cases d <;> rfl
  unfold doPartnerWaitExpiry
  rw [if_pos (by simp [hUp, hUntrained, hWaits])]
  cases d with
  | n => exact ⟨hRaised.leaveBoot, fun _ => leaveBoot_dev_ne_boot _⟩
  | f => exact ⟨hRaised, fun h => nomatch h⟩

end Sys2Proof.Machine
end

section
/-! What a training brings (R58, R184, R192). -/

namespace Sys2Proof.Machine

open Sys2Proof

/-! The lines, the count of trainings, the number that the F-die learns, and the ledgers. -/

/-- How a Clasp half stands: its link state, whether it has trained, its rate and the sequence that it expects. -/
def ClaspHalf.line (x : ClaspHalf) : LinkState × Bool × Bool × Nat := (x.link, x.trained, x.half, x.rxSeq)

/-- What a training sets for good: both lines, the count and the length of the trainings, the number the F-die has learnt, and the
ledgers, which it leaves. -/
def Node.brought (s : Node) :
    (LinkState × Bool × Bool × Nat) × (LinkState × Bool × Bool × Nat) × Nat × Nat × Nat × Ledger × Ledger :=
  (s.n.clasp.line, s.f.clasp.line, s.n.trainings, s.n.trainDuration, s.f.chain.configured, s.nLedger, s.fLedger)

theorem brought_of_core {s t : Node} (h : t.core = s.core) : t.brought = s.brought := by
  have hBrought : t.core.brought = s.core.brought := congrArg Node.brought h
  exact hBrought

theorem vals_of_core {s t : Node} (h : t.core = s.core) : t.vals = s.vals := by
  have hVals : t.core.vals = s.core.vals := congrArg Node.vals h
  exact hVals

theorem vals_of_stored {s t : Node} (h : t.stored = s.stored) : t.vals = s.vals := congrArg Prod.fst h

theorem freshHalf_line (cap farCap : Nat) (x : ClaspHalf) : (freshHalf cap farCap x).line = (.up, true, false, 0) := rfl
theorem modClasp_n_brought (g : ClaspHalf → ClaspHalf) (s : Node) :
    (modClasp .n g s).brought = ((g s.n.clasp).line, s.brought.2) := rfl
theorem modClasp_f_brought (g : ClaspHalf → ClaspHalf) (s : Node) :
    (modClasp .f g s).brought = (s.brought.1, (g s.f.clasp).line, s.brought.2.2) := rfl
theorem modCh_brought (d : Die) (g : Channels → Channels) (s : Node) : (modCh d g s).brought = s.brought := by
  cases d <;> rfl
theorem modChan_brought (d : Die) (c : Nat) (g : Chan → Chan) (s : Node) : (modChan d c g s).brought = s.brought := modCh_brought ..
theorem keepLevel_brought (d : Die) (before : Node) (c : Nat) (s : Node) : (keepLevel d before c s).brought = s.brought :=
  brought_of_core (keepLevel_core ..)
theorem settlePins_brought (d : Die) (g : Node → Node) (s : Node) : (settlePins d g s).brought = (g s).brought := by
  unfold settlePins
  rw [forEach_keeps Node.brought fun c s => keepLevel_brought .., modCh_brought]

theorem trainDie_brought (d : Die) (s : Node) :
    (trainDie d s).brought = (modClasp d (freshHalf (s.swingCap d) (s.swingCap (otherDie d))) s).brought := by
  unfold trainDie
  rw [settlePins_brought, forEach_keeps Node.brought fun c s => modChan_brought .., modCh_brought]

theorem trainDie_gauge (d : Die) (s : Node) :
    (trainDie d s).gauge = (modClasp d (freshHalf (s.swingCap d) (s.swingCap (otherDie d))) s).gauge := by
  unfold trainDie
  rw [settlePins_gauge, forEach_gauge fun c s => modChan_gauge .., modCh_gauge]

/-! The end of an agreement and its answer. -/

theorem modDict_brought (g : Dict → Dict) (s : Node) : (modDict g s).brought = s.brought := rfl
theorem afterFlight_brought (t : Txn) (s : Node) : (afterFlight t s).brought = s.brought := by
  unfold afterFlight dropSession
  dsimp only
  (repeat' split) <;> simp only [modDict_brought]
theorem leaveFlight_brought (session tag : Nat) (s : Node) : (leaveFlight session tag s).brought = s.brought := by
  unfold leaveFlight
  split
  · rfl
  · rw [afterFlight_brought, modDict_brought]
theorem respond_brought (t : Txn) (status : Nat) (data : List Byte) (s : Node) : (respond t status data s).brought = s.brought := by
  unfold respond
  split
  · rfl
  · rfl
  · split
    · exact brought_of_core (forEach_core (fun _ _ => chainFromN_core ..) _ s)
    · exact leaveFlight_brought ..
  · exact (brought_of_core (endKeyStep_core ..)).trans (leaveFlight_brought ..)
theorem finish_brought (session tag status : Nat) (data : List Byte) (s : Node) :
    (finish session tag status data s).brought = s.brought := by
  unfold finish
  split
  · rfl
  · rw [respond_brought]
    exact (brought_of_core (onlyIf_core (fun s => bump_core ..) _ _)).trans rfl
theorem answerAgreement_brought (status : Nat) (s : Node) : (answerAgreement status s).brought = s.brought := by
  unfold answerAgreement
  split
  · exact (finish_brought ..).trans rfl
  · rfl
theorem endAgreement_brought (outcome : Nat) (s : Node) : (endAgreement outcome s).brought = s.brought :=
  (brought_of_core (bump_core ..)).trans rfl
theorem startAgreement_brought (key map : Nat) (upper adoption : Bool) (txn : Option (Nat × Nat)) (s : Node) :
    (startAgreement key map upper adoption txn s).brought = s.brought := (brought_of_core (sendConfig_core ..)).trans rfl
theorem agreeDirection_brought (first : Bool) (s : Node) : (agreeDirection first s).brought = s.brought := by
  unfold agreeDirection
  dsimp only
  split
  case h_1 =>
    split
    · exact (startAgreement_brought ..).trans rfl
    · rfl
  case h_2 =>
    split
    · exact (startAgreement_brought ..).trans ((answerAgreement_brought ..).trans ((endAgreement_brought ..).trans rfl))
    · rfl
  case h_3 =>
    split
    · exact (startAgreement_brought ..).trans rfl
    · exact (answerAgreement_brought ..).trans ((endAgreement_brought ..).trans rfl)
theorem leaveBoot_brought (s : Node) : (leaveBoot s).brought = s.brought := by
  unfold leaveBoot
  dsimp only
  split
  · split
    · exact (brought_of_core (setDev_core ..)).trans rfl
    · split
      · exact (brought_of_core (setDev_core ..)).trans rfl
      · exact (brought_of_core (setDev_core .setup 0 0 0 (modN (fun n => { n with fAbsent := !s.trained }) s))).trans rfl
  · rfl

/-! The credits. -/

/-- Both Clasp halves count their credits. -/
def AllCounted (s : Node) : Prop := ∀ d, CreditsCounted (s.gauge d)

theorem AllCounted.advance {s t : Node} (h : AllCounted s) (k : Advances s.gauge t.gauge) : AllCounted t :=
  fun d => k.counted d (h d)

theorem AllCounted.of_gauge {s t : Node} (h : AllCounted s) (k : t.gauge = s.gauge) : AllCounted t := h.advance (.of_eq k)

theorem modClasp_gauge_self (d : Die) (g : ClaspHalf → ClaspHalf) (s : Node) : (modClasp d g s).gauge d =
    ((s.gauge d).1, (s.gauge d).2.1, (g (s.die d).clasp).credits, (g (s.die d).clasp).txSeq) := by
  cases d <;> rfl

theorem trainDie_counted (d : Die) (s : Node) : CreditsCounted ((trainDie d s).gauge d) := by
  rw [trainDie_gauge, modClasp_gauge_self]
  exact ⟨Nat.le_refl 32, rfl⟩

theorem trainDies_counted (s : Node) : AllCounted (trainDie .f (trainDie .n s)) := by
  intro d
  cases d with
  | n =>
    have hOther : (trainDie .f (trainDie .n s)).gauge .n = (trainDie .n s).gauge .n := by
      simp only [Node.gauge, die_n, trainDie_n]
    rw [hOther]
    exact trainDie_counted .n s
  | f => exact trainDie_counted .f _

theorem setCond_counted (d : Die) (src : Nat) (on : Bool) (detail : Nat) {s : Node} (h : AllCounted s) :
    AllCounted (setCond d src on detail s) := by
  have hSet : AllCounted (modFaults d (fun c => { c with cond := setSrc c.cond src on }) s) := by
    intro e
    have hWas := h e
    cases d <;> cases e <;> exact hWas
  unfold setCond
  dsimp only
  split
  · exact h
  · split
    · exact hSet.advance (detect_advances _ _ _ (.refl _))
    · split
      · exact hSet
      · exact hSet.of_gauge (condFell_gauge ..)

theorem reportSlots_counted {s : Node} (h : AllCounted s) : AllCounted (reportSlots s) :=
  setCond_counted .n 23 _ 0 (h.of_gauge (forEach_gauge (fun _ _ => modFil_gauge ..) _ s))

theorem startAgreement_gauge (key map : Nat) (upper adoption : Bool) (txn : Option (Nat × Nat)) (s : Node) :
    (startAgreement key map upper adoption txn s).gauge = s.gauge :=
  (sendConfig_gauge ..).trans (modN_gauge (fun _ => rfl) s)

theorem endAgreement_gauge (outcome : Nat) (s : Node) : (endAgreement outcome s).gauge = s.gauge :=
  (bump_gauge ..).trans (modN_gauge (fun _ => rfl) s)

theorem answerAgreement_advances {a : Die → Word × Word × Nat × Nat} (status : Nat) {s : Node} (h : Advances a s.gauge) :
    Advances a (answerAgreement status s).gauge := by
  unfold answerAgreement
  split
  · exact finish_advances _ _ _ _ (by simpa [modN_gauge] using h)
  · exact h

theorem agreeDirection_advances {a : Die → Word × Word × Nat × Nat} (first : Bool) {s : Node} (h : Advances a s.gauge) :
    Advances a (agreeDirection first s).gauge := by
  unfold agreeDirection
  dsimp only
  split
  case h_1 =>
    split
    · simpa [startAgreement_gauge, modN_gauge] using h
    · simpa [modN_gauge] using h
  case h_2 =>
    split
    · rw [startAgreement_gauge]
      exact answerAgreement_advances _ (by simpa [endAgreement_gauge, modN_gauge] using h)
    · simpa [modN_gauge] using h
  case h_3 =>
    split
    · simpa [startAgreement_gauge, modN_gauge] using h
    · exact answerAgreement_advances _ (by simpa [endAgreement_gauge, modN_gauge] using h)

/-- An N-die that keeps its status word, its conditions and its Clasp half keeps its gauges. -/
theorem modN_gauge_of_faults {g : NDie → NDie}
    (h : ∀ n, (g n).faults.status = n.faults.status ∧ (g n).faults.cond = n.faults.cond ∧ (g n).clasp = n.clasp) (s : Node) :
    (modN g s).gauge = s.gauge := by
  funext d
  cases d <;> simp [Node.gauge, h]

theorem exchange_gauge (first : Bool) (s : Node) : (exchange first s).gauge = s.gauge := by
  unfold exchange syncNumber onlyIf
  dsimp only
  split <;> simp [modN_gauge_of_faults]

/-! The training as a whole. -/

/-- The node once both dies have trained, before they tell each other anything. -/
def trainBoth (s : Node) : Node := setCond .f 8 false 0 (setCond .n 8 false 0 (trainDie .f (trainDie .n s)))

/-- That node with the masks of its forces and its device state under way. -/
def trainAnnounced (s : Node) : Node :=
  sendData .n 3 (.devState s.n.dev) (offerForces .f (offerForces .n (trainBoth s)))

/-- The training counted on the N-die, with its length. -/
def countTraining (duration : Nat) : Node → Node :=
  modN fun n => { n with trainings := satAdd 255 n.trainings 1, attemptsFrozen := true, trainDuration := min duration 511 }

theorem countTraining_gauge (duration : Nat) (s : Node) : (countTraining duration s).gauge = s.gauge :=
  modN_gauge (fun _ => rfl) s

theorem countTraining_brought (duration : Nat) (s : Node) : (countTraining duration s).brought =
    (s.brought.1, s.brought.2.1, satAdd 255 s.brought.2.2.1 1, min duration 511, s.brought.2.2.2.2) := rfl

/-- That node once the exchange has been made and the training counted. -/
def trainExchanged (duration : Nat) (s : Node) : Node :=
  bump .n blkStartup 4 0 (countTraining duration (exchange (!s.f.chain.settling) (trainAnnounced s)))

/-- That node with everything offered again that must not be lost, and the direction agreed. -/
def trainAgreed (duration : Nat) (s : Node) : Node :=
  agreeDirection (!s.f.chain.settling)
    (repeatOrders .f (repeatOrders .n (reportSlots (forwardPending (trainExchanged duration s)))))

/-- A node that has trained leaves BOOT, unless an adoption keeps it there (R64). -/
theorem doTrainingComplete_cases (duration : Nat) {s : Node} (h : s.training = true) :
    doTrainingComplete duration s = trainAgreed duration s ∨ doTrainingComplete duration s = leaveBoot (trainAgreed duration s) := by
  simp only [doTrainingComplete, if_pos h, trainAgreed, trainExchanged, trainAnnounced, trainBoth, countTraining]
  split
  · exact .inl rfl
  · exact .inr rfl

theorem trainAnnounced_core (s : Node) : (trainAnnounced s).core = (trainDie .f (trainDie .n s)).core := by
  simp [trainAnnounced, trainBoth]

theorem trainAnnounced_val (s : Node) (key : Nat) : (trainAnnounced s).val key = s.val key := by
  have hVals : (trainAnnounced s).vals = s.vals :=
    (vals_of_core (trainAnnounced_core s)).trans (vals_of_stored (by simp))
  simp [Node.val, Node.valAt, hVals]

theorem trainAnnounced_brought (s : Node) : (trainAnnounced s).brought =
    ((.up, true, false, 0), (.up, true, false, 0), s.n.trainings, s.n.trainDuration, s.f.chain.configured, s.nLedger, s.fLedger) := by
  rw [brought_of_core (trainAnnounced_core s), trainDie_brought, modClasp_f_brought, freshHalf_line, trainDie_brought,
    modClasp_n_brought, freshHalf_line]
  rfl

theorem exchange_brought (first : Bool) (s : Node) : (exchange first s).brought =
    (s.brought.1, s.brought.2.1, s.brought.2.2.1, s.brought.2.2.2.1, s.val 0x0011, s.brought.2.2.2.2.2) := by
  unfold exchange syncNumber onlyIf
  dsimp only
  split <;> rfl

theorem trainExchanged_brought (duration : Nat) (s : Node) : (trainExchanged duration s).brought =
    ((.up, true, false, 0), (.up, true, false, 0), satAdd 255 s.n.trainings 1, min duration 511, s.val 0x0011, s.nLedger, s.fLedger) := by
  rw [trainExchanged, brought_of_core (bump_core ..), countTraining_brought, exchange_brought, trainAnnounced_brought,
    trainAnnounced_val]

theorem trainAgreed_brought (duration : Nat) (s : Node) : (trainAgreed duration s).brought =
    ((.up, true, false, 0), (.up, true, false, 0), satAdd 255 s.n.trainings 1, min duration 511, s.val 0x0011, s.nLedger, s.fLedger) := by
  have hCore : ∀ t : Node, (repeatOrders .f (repeatOrders .n (reportSlots (forwardPending t)))).core = t.core := by simp
  rw [trainAgreed, agreeDirection_brought, brought_of_core (hCore _), trainExchanged_brought]

theorem trainAgreed_counted (duration : Nat) (s : Node) : AllCounted (trainAgreed duration s) := by
  have hBoth : AllCounted (trainBoth s) := setCond_counted .f 8 false 0 (setCond_counted .n 8 false 0 (trainDies_counted s))
  have hAnnounced : AllCounted (trainAnnounced s) := hBoth.advance (sendData_advances _ _ _ (.of_eq (by simp)))
  have hExchanged : AllCounted (trainExchanged duration s) := by
    refine hAnnounced.of_gauge ?_
    rw [trainExchanged, bump_gauge, countTraining_gauge, exchange_gauge]
  have hReported := reportSlots_counted (hExchanged.advance (forwardPending_advances (.refl _)))
  exact hReported.advance (agreeDirection_advances _ (.of_eq (by simp)))

/-- A training (R58, R184, R192). -/
theorem doTrainingComplete_gives (duration : Nat) {s : Node} (h : s.training = true) :
    AllCounted (doTrainingComplete duration s) ∧ (doTrainingComplete duration s).brought =
      ((.up, true, false, 0), (.up, true, false, 0), satAdd 255 s.n.trainings 1, min duration 511, s.val 0x0011, s.nLedger, s.fLedger) := by
  obtain hStays | hLeaves := doTrainingComplete_cases duration h
  · rw [hStays]
    exact ⟨trainAgreed_counted duration s, trainAgreed_brought duration s⟩
  · rw [hLeaves]
    exact ⟨(trainAgreed_counted duration s).advance (leaveBoot_advances (.refl _)),
      (leaveBoot_brought _).trans (trainAgreed_brought duration s)⟩

/-- Settles O8, clause by clause: training, a timed-out attempt, an expired partner wait, and the pending entry into RUN. -/
theorem trainingAndPartnerWait : Obligations.TrainingAndPartnerWait := by
  unfold Obligations.TrainingAndPartnerWait
  refine ⟨fun s dur hTraining => ?_, fun s hN hF hUntrained => ?_, fun s d hUp hUntrained hWaits => ?_,
    fun s hPending hSetup hAllowed => ?_⟩
  · refine (gives_iff_of_exec_eq_run (g := doTrainingComplete dur) rfl).2 ?_
    obtain ⟨hCounted, hBrought⟩ := doTrainingComplete_gives dur hTraining
    generalize doTrainingComplete dur s.node = t at hCounted hBrought
    simp only [Node.brought, ClaspHalf.line, Prod.mk.injEq] at hBrought
    obtain ⟨⟨hLinkN, hTrainedN, hHalfN, hSeqN⟩, ⟨hLinkF, hTrainedF, hHalfF, hSeqF⟩, hTrainings, hDuration, hNumber, hLedgers⟩ := hBrought
    refine ⟨fun d => ?_, hTrainings, hDuration, hNumber, hLedgers⟩
    obtain ⟨hCredits, hSent⟩ := hCounted d
    cases d with
    | n => exact ⟨hLinkN, hTrainedN, hHalfN, hCredits, hSent, hSeqN⟩
    | f => exact ⟨hLinkF, hTrainedF, hHalfF, hCredits, hSent, hSeqF⟩
  · refine (gives_iff_of_exec_eq_run (g := doTrainingAttemptTimeout) rfl).2 ?_
    obtain ⟨hFailed, hFrozen, hDict, hFDie⟩ := doTrainingAttemptTimeout_gives hN hF hUntrained
    exact ⟨hFailed, hFrozen, doTrainingAttemptTimeout_stored _, hDict, hFDie⟩
  · refine (gives_iff_of_exec_eq_run (g := doPartnerWaitExpiry d) rfl).2 ?_
    obtain ⟨hExpired, hLeft⟩ := doPartnerWaitExpiry_gives hUp hUntrained hWaits
    exact ⟨hExpired.waitExpired, hExpired.latched, hExpired.lossSeen, hExpired.live, fun hd _ => hLeft hd, hExpired.dict,
      doPartnerWaitExpiry_stored d _⟩
  · refine (gives_iff_of_exec_eq_run (g := doDeferredRunEntry) rfl).2 ?_
    have hStanding := doDeferredRunEntry_standing hPending hSetup hAllowed
    simp only [Node.standing, Prod.mk.injEq] at hStanding
    obtain ⟨hDev, hTransition, hPendingEnds, hCancelled⟩ := hStanding
    exact ⟨hDev, hTransition, hPendingEnds, hCancelled, doDeferredRunEntry_stored _⟩

end Sys2Proof.Machine
end

section
/-! PROOFS. The N-port: what its operations do to the port, and what they leave of the node (R147 to R171). -/

namespace Sys2Proof.Machine

open Sys2Proof

/-! Counters leave the collectors and the Clasp halves alone, and so does the port. -/

@[simp] theorem countBy_faults (d e : Die) (blk idx cell n : Nat) (s : Node) :
    ((countBy d blk idx cell n s).die e).faults = (s.die e).faults := by
  unfold countBy
  split <;> cases d <;> cases e <;> rfl
@[simp] theorem bump_faults (d e : Die) (blk idx cell : Nat) (s : Node) : ((bump d blk idx cell s).die e).faults = (s.die e).faults :=
  countBy_faults ..
@[simp] theorem countBy_clasp (d e : Die) (blk idx cell n : Nat) (s : Node) :
    ((countBy d blk idx cell n s).die e).clasp = (s.die e).clasp := by
  unfold countBy
  split <;> cases d <;> cases e <;> rfl
@[simp] theorem bump_clasp (d e : Die) (blk idx cell : Nat) (s : Node) : ((bump d blk idx cell s).die e).clasp = (s.die e).clasp :=
  countBy_clasp ..
@[simp] theorem modClasp_faults (d e : Die) (g : ClaspHalf → ClaspHalf) (s : Node) :
    ((modClasp d g s).die e).faults = (s.die e).faults := by
  cases d <;> cases e <;> rfl
@[simp] theorem modClasp_clasp (d : Die) (g : ClaspHalf → ClaspHalf) (s : Node) :
    ((modClasp d g s).die d).clasp = g (s.die d).clasp := by
  cases d <;> rfl
@[simp] theorem modPort_n (g : NPort → NPort) (s : Node) : (modPort g s).n = { s.n with port := g s.n.port } := rfl

/-! What the operations of the port do to it. -/

@[simp] theorem answerPort_n_port (header tag : Nat) (body : List Byte) (s : Node) :
    (answerPort header tag body s).n.port = { s.n.port with out := some (header, tag, body) } := rfl
@[simp] theorem unhold_n_port (tag : Nat) (s : Node) :
    (unhold tag s).n.port = { s.n.port with held := s.n.port.held.filter fun h => h.tag != tag } := rfl
@[simp] theorem endTunnel_n_port (tag : Nat) (s : Node) :
    (endTunnel tag s).n.port = { s.n.port with tunnels := s.n.port.tunnels.filter fun k => k.tag != tag } := rfl
@[simp] theorem finishTunnel_n_port (tag status : Nat) (bytes : List Byte) (s : Node) :
    (finishTunnel tag status bytes s).n.port = (completePort tag 0x51 (leBytes 1 status ++ bytes) s).n.port := bump_n_port ..
@[simp] theorem frameError_n_port (code tag : Nat) (s : Node) :
    (frameError code tag s).n.port = { s.n.port with lastError := code, out := some (0x5E, tag, leBytes 1 code) } := by
  simp [frameError]

/-- A DEFERRED answer holds a place for its transaction, unless it has one (R154). -/
theorem answerDeferred_n_port (header tag : Nat) (body : List Byte) (s : Node) : (answerDeferred header tag body s).n.port =
    { s.n.port with
      out := some (header, tag, body)
      held := if (s.n.port.held.any fun h => h.tag == tag) = true then s.n.port.held
        else s.n.port.held ++ [⟨tag, header == 0x51, false, header, []⟩] } := by
  rw [answerDeferred, bump_n_port, answerPort_n_port, modPort_n]
  dsimp only
  split <;> rfl

/-- A complete response replaces those held under its tag; without one it is clocked out next (R151, R154). -/
theorem completePort_n_port (tag header : Nat) (body : List Byte) (s : Node) : (completePort tag header body s).n.port =
    { s.n.port with
      held := if (s.n.port.held.any fun h => h.tag == tag) = true then s.n.port.held.map fun h =>
          if h.tag == tag then { h with complete := true, header := header, body := body } else h
        else s.n.port.held
      out := if (s.n.port.held.any fun h => h.tag == tag) = true then s.n.port.out else some (header, tag, body) } := by
  rw [completePort, modPort_n]
  dsimp only
  split <;> rfl

/-! A select period. -/

/-- The held responses with the final one that was not clocked out to its end (R154). -/
def Node.heldFinal (s : Node) : List Held :=
  match s.n.port.out with
  | some (h, tag, body) =>
    if isFinal h body && !(s.n.port.held.any fun x => x.tag == tag) then s.n.port.held ++ [⟨tag, h == 0x51, true, h, body⟩]
    else s.n.port.held
  | none => s.n.port.held

/-- The held responses after N_SEL# has risen: also one for each transaction that has not answered yet (R154). -/
def Node.heldAtRise (s : Node) : List Held :=
  s.heldFinal ++ ((s.flightOf 0).filter fun t => t.stage != .done && !(s.heldFinal.any fun x => x.tag == t.tag)).map fun t =>
    ⟨t.tag, false, false, 0x50, []⟩

theorem selectEnds_n_port (s : Node) :
    (selectEnds s).n.port = { s.n.port with out := none, busy := none, selLow := false, held := s.heldAtRise } := by
  unfold selectEnds
  exact onlyIf_keeps (fun s => s.n.port) (fun s => bump_n_port ..) _ _

theorem mem_heldFinal {s : Node} {g : Held} (h : g ∈ s.n.port.held) : g ∈ s.heldFinal := by
  unfold Node.heldFinal
  split
  · split
    · exact List.mem_append_left _ h
    · exact h
  · exact h

theorem mem_heldAtRise {s : Node} {g : Held} (h : g ∈ s.n.port.held) : g ∈ s.heldAtRise :=
  List.mem_append_left _ (mem_heldFinal h)

/-- A final response that was being clocked out is held under its tag, unless one is already (R154). -/
theorem exists_heldAtRise {s : Node} {h tag : Nat} {body : List Byte} (hOut : s.n.port.out = some (h, tag, body))
    (hFinal : isFinal h body = true) : ∃ g ∈ s.heldAtRise, g.tag = tag := by
  by_cases hHeld : (s.n.port.held.any fun x => x.tag == tag) = true
  · obtain ⟨g, hg, hTag⟩ := List.any_eq_true.1 hHeld
    exact ⟨g, mem_heldAtRise hg, by simpa using hTag⟩
  · refine ⟨⟨tag, h == 0x51, true, h, body⟩, List.mem_append_left _ ?_, rfl⟩
    simp [Node.heldFinal, hOut, hFinal, hHeld]

/-- A select period that was open ends when a new frame begins. -/
def endOpenSelect (s : Node) : Node := if s.n.port.selLow then selectEnds s else s

theorem selectFrame_n_port (mode3 : Bool) (kind : Nat) (s : Node) :
    (selectFrame mode3 kind s).n.port = { (endOpenSelect s).n.port with selLow := true, spi3 := mode3 } := by
  rw [selectFrame, bump_n_port]
  rfl

theorem endOpenSelect_of_high {s : Node} (h : s.n.port.selLow = false) : endOpenSelect s = s := by
  simp [endOpenSelect, h]

theorem selectFrame_n_port_of_high {s : Node} (h : s.n.port.selLow = false) (mode3 : Bool) (kind : Nat) :
    (selectFrame mode3 kind s).n.port = { s.n.port with selLow := true, spi3 := mode3 } := by
  rw [selectFrame_n_port, endOpenSelect_of_high h]

@[simp] theorem selectFrame_last (mode3 : Bool) (kind : Nat) (s : Node) :
    (selectFrame mode3 kind s).n.port.last = s.n.port.last := by
  rw [selectFrame_n_port, endOpenSelect]
  split
  · rw [selectEnds_n_port]
  · rfl
@[simp] theorem selectFrame_tunnels (mode3 : Bool) (kind : Nat) (s : Node) :
    (selectFrame mode3 kind s).n.port.tunnels = s.n.port.tunnels := by
  rw [selectFrame_n_port, endOpenSelect]
  split
  · rw [selectEnds_n_port]
  · rfl

/-! What the operations of the port leave of the node. -/

/-- A node but for its N-port and what the N-die counts. -/
def Node.besidePort (s : Node) : Node := { s with n := { s.n with port := {}, loupe := {}, isl := {} } }

@[simp] theorem bump_besidePort (blk idx cell : Nat) (s : Node) : (bump .n blk idx cell s).besidePort = s.besidePort := by
  unfold bump countBy
  split <;> rfl
@[simp] theorem modPort_besidePort (g : NPort → NPort) (s : Node) : (modPort g s).besidePort = s.besidePort := rfl
@[simp] theorem onlyIf_besidePort {g : Node → Node} (h : ∀ s, (g s).besidePort = s.besidePort) (c : Bool) (s : Node) :
    (onlyIf c g s).besidePort = s.besidePort := onlyIf_keeps Node.besidePort h c s
@[simp] theorem selectEnds_besidePort (s : Node) : (selectEnds s).besidePort = s.besidePort := by
  simp [selectEnds]
@[simp] theorem endOpenSelect_besidePort (s : Node) : (endOpenSelect s).besidePort = s.besidePort := by
  unfold endOpenSelect
  split <;> simp
@[simp] theorem selectFrame_besidePort (mode3 : Bool) (kind : Nat) (s : Node) :
    (selectFrame mode3 kind s).besidePort = s.besidePort := by
  rw [selectFrame, bump_besidePort]
  exact endOpenSelect_besidePort s
@[simp] theorem answerPort_besidePort (header tag : Nat) (body : List Byte) (s : Node) :
    (answerPort header tag body s).besidePort = s.besidePort := rfl
@[simp] theorem answerDeferred_besidePort (header tag : Nat) (body : List Byte) (s : Node) :
    (answerDeferred header tag body s).besidePort = s.besidePort := by
  simp [answerDeferred]
@[simp] theorem unhold_besidePort (tag : Nat) (s : Node) : (unhold tag s).besidePort = s.besidePort := rfl
@[simp] theorem endTunnel_besidePort (tag : Nat) (s : Node) : (endTunnel tag s).besidePort = s.besidePort := rfl
@[simp] theorem finishTunnel_besidePort (tag status : Nat) (bytes : List Byte) (s : Node) :
    (finishTunnel tag status bytes s).besidePort = s.besidePort := bump_besidePort ..

section
variable {s t : Node} (h : t.besidePort = s.besidePort)
include h

theorem dict_of_besidePort : t.n.dict = s.n.dict := congrArg (fun x => x.n.dict) h
theorem faults_of_besidePort : t.n.faults = s.n.faults := congrArg (fun x => x.n.faults) h
theorem stored_of_besidePort : t.stored = s.stored := congrArg (fun x => x.stored) h
theorem f_of_besidePort : t.f = s.f := congrArg (fun x => x.f) h
theorem nUp_of_besidePort : t.nUp = s.nUp := congrArg (fun x => x.nUp) h
theorem trained_of_besidePort : t.trained = s.trained := congrArg (fun x => x.trained) h

end

theorem nUp_of_portOn {s : Node} (h : s.portOn = true) : s.nUp = true := by
  simp only [Node.portOn, Bool.and_eq_true] at h
  exact h.1.1

/-! A transaction leaves flight. -/

@[simp] theorem afterFlight_n_port (x : Txn) (s : Node) : (afterFlight x s).n.port = s.n.port := by
  unfold afterFlight
  dsimp only
  (repeat' split) <;> rfl
@[simp] theorem afterFlight_txns (x : Txn) (s : Node) : (afterFlight x s).n.dict.txns = s.n.dict.txns := by
  unfold afterFlight
  dsimp only
  (repeat' split) <;> rfl
@[simp] theorem leaveFlight_n_port (session tag : Nat) (s : Node) : (leaveFlight session tag s).n.port = s.n.port := by
  unfold leaveFlight
  split
  · rfl
  · exact afterFlight_n_port ..

/-- A transaction in flight leaves it, alone (R90). -/
theorem leaveFlight_txns_length {session tag : Nat} {s : Node} (h : (s.txn session tag).isSome = true) :
    (leaveFlight session tag s).n.dict.txns.length + 1 = s.n.dict.txns.length := by
  obtain ⟨x, hx⟩ := Option.isSome_iff_exists.1 h
  have hMem : x ∈ s.n.dict.txns := List.mem_of_find?_eq_some hx
  have hErased : (s.n.dict.txns.erase x).length + 1 = s.n.dict.txns.length := by
    rw [List.length_erase_of_mem hMem]
    exact Nat.sub_add_cancel (List.length_pos_of_mem hMem)
  rw [leaveFlight, hx, afterFlight_txns]
  exact hErased

end Sys2Proof.Machine
end

section
/-! PROOFS. FETCH, REPEAT, frame errors and the ways in which a response leaves the N-port (R151 to R159). -/

namespace Sys2Proof.Machine

open Sys2Proof

/-! Errors latch N source 16. -/

theorem detect_latched {s : Node} (h : s.nUp = true) : (detect .n 16 0 s).latched .n 16 = true :=
  detect_status .n (by decide) 0 (collects_of_up h)

theorem frameError_latched {s : Node} (h : s.nUp = true) (code tag : Nat) : (frameError code tag s).latched .n 16 = true :=
  detect_latched ((bump_nUp ..).trans h)

theorem frameError_n_dict (code tag : Nat) (s : Node) : (frameError code tag s).n.dict = s.n.dict := by
  simp [frameError]

theorem leaveFlight_latched (session tag : Nat) (d : Die) (src : Nat) (s : Node) :
    (leaveFlight session tag s).latched d src = s.latched d src :=
  congrArg (fun g => (g d).1.getLsbD src) (leaveFlight_gauge session tag s)

/-! What each command does. -/

section
variable {s : Node} {tag dest : Nat} {mode3 : Bool}

theorem doFetch_of_error {form : Form} {code : Nat} (hOn : s.portOn = true)
    (hCode : (selectFrame mode3 6 s).portError form false true tag dest = code) (hError : code ≠ 0) :
    doFetch tag dest form mode3 s = frameError code tag (selectFrame mode3 6 s) := by
  unfold doFetch
  dsimp only
  rw [if_pos hOn, hCode, if_neg hError]

theorem doFetch_of_held {h : Held} (hOn : s.portOn = true)
    (hCode : (selectFrame mode3 6 s).portError .good false true tag dest = 0)
    (hHeld : (selectFrame mode3 6 s).n.port.held.find? (fun g => g.tag == tag) = some h) :
    doFetch tag dest .good mode3 s =
      if h.complete then answerPort h.header tag h.body (selectFrame mode3 6 s)
      else answerDeferred (if h.tunnel then 0x51 else 0x50) tag ((selectFrame mode3 6 s).deferredBody h) (selectFrame mode3 6 s) := by
  unfold doFetch
  dsimp only
  rw [if_pos hOn, hCode, if_pos rfl, hHeld]

theorem doFetch_of_none (hOn : s.portOn = true) (hCode : (selectFrame mode3 6 s).portError .good false true tag dest = 0)
    (hHeld : (selectFrame mode3 6 s).n.port.held.find? (fun g => g.tag == tag) = none) :
    doFetch tag dest .good mode3 s = bump .n blkPort 4 0 (answerPort 0x5C tag [] (selectFrame mode3 6 s)) := by
  unfold doFetch
  dsimp only
  rw [if_pos hOn, hCode, if_pos rfl, hHeld]

/-- The body of a DEFERRED answer rests on the transactions alone. -/
theorem selectFrame_deferredBody (mode3 : Bool) (kind : Nat) (s : Node) (h : Held) :
    (selectFrame mode3 kind s).deferredBody h = s.deferredBody h :=
  congrArg (fun x => x.deferredBody h) (selectFrame_besidePort mode3 kind s)

theorem doFetch_besidePort (hOn : s.portOn = true) (hCode : (selectFrame mode3 6 s).portError .good false true tag dest = 0) :
    (doFetch tag dest .good mode3 s).besidePort = s.besidePort := by
  cases hHeld : (selectFrame mode3 6 s).n.port.held.find? (fun g => g.tag == tag) with
  | none =>
    rw [doFetch_of_none hOn hCode hHeld]
    simp
  | some h =>
    rw [doFetch_of_held hOn hCode hHeld]
    split <;> simp

/-- A frame that errs in nothing, is addressed to this node and needs no free tag (R159). -/
theorem portError_good {s : Node} {dest : Nat} (hAll : dest ≠ 127) (hHere : dest = 0 ∨ dest = s.n.number) (tag : Nat) :
    s.portError .good false true tag dest = 0 := by
  unfold Node.portError
  dsimp only
  rw [Bool.false_and, if_neg Bool.false_ne_true, if_neg]
  rintro (h | ⟨-, h0, hNumber⟩)
  · exact hAll h
  · exact hHere.elim h0 hNumber

/-- What REPEAT answers (R156): the response that left flight last, or 0x5C. -/
def Node.repeated (s : Node) (tag : Nat) : Nat × Nat × List Byte :=
  match s.n.port.last with
  | some (h, k, body) => (h + 8, k, body)
  | none => (0x5C, tag, [])

theorem doRepeatResponse_eq (hOn : s.portOn = true) (hAll : dest ≠ 127) (hHere : dest = 0 ∨ dest = s.n.number) :
    doRepeatResponse tag dest .good mode3 s =
      answerPort (s.repeated tag).1 (s.repeated tag).2.1 (s.repeated tag).2.2 (bump .n blkPort 5 0 (selectFrame mode3 7 s)) := by
  have hBeside : (bump .n blkPort 5 0 (selectFrame mode3 7 s)).besidePort = s.besidePort := by simp
  have hNumber : (bump .n blkPort 5 0 (selectFrame mode3 7 s)).n.number = s.n.number := congrArg (fun x => x.n.number) hBeside
  have hLast : (bump .n blkPort 5 0 (selectFrame mode3 7 s)).n.port.last = s.n.port.last := by simp
  unfold doRepeatResponse Node.repeated
  dsimp only
  rw [if_pos hOn, if_pos (portError_good hAll (hNumber ▸ hHere) tag), hLast]
  cases s.n.port.last <;> rfl

theorem doAbortedFrame_eq (hOn : s.portOn = true) : doAbortedFrame mode3 s =
    detect .n 16 0 (bump .n blkPort 2 0 (modPort (fun p => { p with lastError := 5, spi3 := mode3 }) (endOpenSelect s))) :=
  if_pos hOn

/-- The transaction of a response is in flight: for one of a tunnel, among the outstanding ones (R155). -/
def Node.answered (s : Node) (header tag : Nat) : Bool :=
  if header = 0x51 then s.n.port.tunnels.any fun k => k.tag == tag else (s.txn 0 tag).isSome

/-- A final response has been clocked out: it is what REPEAT returns, if its transaction was in flight, and is held no longer. -/
def clockedOutFinal (header tag : Nat) (body : List Byte) (s : Node) : Node :=
  unhold tag (onlyIf (s.answered header tag) (modPort fun p => { p with last := some (header, tag, body) })
    (modPort (fun p => { p with out := none }) s))

theorem doResponseClockedOut_eq {header : Nat} {body : List Byte} (hOn : s.portOn = true)
    (hOut : s.n.port.out = some (header, tag, body)) : doResponseClockedOut s =
      if isFinal header body = false then modPort (fun p => { p with out := none }) s
      else if header = 0x51 then endTunnel tag (clockedOutFinal header tag body s)
      else leaveFlight 0 tag (clockedOutFinal header tag body s) := by
  unfold doResponseClockedOut
  rw [hOut]
  dsimp only
  rw [if_pos hOn]
  cases isFinal header body <;> rfl

theorem clockedOutFinal_n_port (header tag : Nat) (body : List Byte) (s : Node) : (clockedOutFinal header tag body s).n.port =
    { s.n.port with
      out := none
      held := s.n.port.held.filter fun h => h.tag != tag
      last := if s.answered header tag = true then some (header, tag, body) else s.n.port.last } := by
  unfold clockedOutFinal
  cases s.answered header tag <;> rfl

theorem clockedOutFinal_besidePort (header tag : Nat) (body : List Byte) (s : Node) :
    (clockedOutFinal header tag body s).besidePort = s.besidePort :=
  (unhold_besidePort ..).trans (onlyIf_besidePort (fun _ => modPort_besidePort ..) ..)

/-- A held response is given up: N source 16 is raised. -/
def givenUp (tag : Nat) (s : Node) : Node := detect .n 16 0 (bump .n blkPort 6 0 (unhold tag s))

theorem doHeldResponseDiscard_eq {h : Held} (hUp : s.nUp = true)
    (hHeld : s.n.port.held.find? (fun g => g.tag == tag) = some h) (hComplete : h.complete = true) : doHeldResponseDiscard tag s =
      if h.tunnel = true then endTunnel tag (givenUp tag s) else leaveFlight 0 tag (givenUp tag s) := by
  unfold doHeldResponseDiscard
  rw [hHeld]
  dsimp only
  rw [if_pos (by simp [hUp, hComplete])]
  rfl

theorem givenUp_n_port (tag : Nat) (s : Node) :
    (givenUp tag s).n.port = { s.n.port with held := s.n.port.held.filter fun h => h.tag != tag } := by
  simp [givenUp]

theorem givenUp_n_dict (tag : Nat) (s : Node) : (givenUp tag s).n.dict = s.n.dict := by
  simp [givenUp, unhold]

theorem givenUp_latched (hUp : s.nUp = true) (tag : Nat) : (givenUp tag s).latched .n 16 = true :=
  detect_latched ((bump_nUp ..).trans hUp)

end

/-! The clauses. -/

/-- A complete response held under the tag is clocked out, or DEFERRED is answered (R154). -/
theorem doFetch_held_gives {s : Node} {tag dest : Nat} {mode3 : Bool} {h : Held} (hOn : s.portOn = true)
    (hHigh : s.n.port.selLow = false) (hCode : (selectFrame mode3 6 s).portError .good false true tag dest = 0)
    (hHeld : s.n.port.held.find? (fun g => g.tag == tag) = some h) :
    (doFetch tag dest .good mode3 s).n.port.out = (if h.complete then some (h.header, tag, h.body) else
      some (if h.tunnel then 0x51 else 0x50, tag, s.deferredBody h)) ∧
    (doFetch tag dest .good mode3 s).n.port.held = s.n.port.held := by
  have hPort := selectFrame_n_port_of_high hHigh mode3 6
  have hAny : (s.n.port.held.any fun g => g.tag == tag) = true := by
    rw [List.any_eq_true]
    exact ⟨h, List.mem_of_find?_eq_some hHeld, List.find?_some (p := fun g : Held => g.tag == tag) hHeld⟩
  rw [doFetch_of_held hOn hCode (by rw [hPort]; exact hHeld), selectFrame_deferredBody]
  split
  · rw [answerPort_n_port, hPort]
    exact ⟨rfl, rfl⟩
  · rw [answerDeferred_n_port, hPort]
    exact ⟨rfl, if_pos hAny⟩

/-- Nothing is held under the tag: 0x5C (R154). -/
theorem doFetch_none_gives {s : Node} {tag dest : Nat} {mode3 : Bool} (hOn : s.portOn = true) (hHigh : s.n.port.selLow = false)
    (hCode : (selectFrame mode3 6 s).portError .good false true tag dest = 0)
    (hHeld : s.n.port.held.find? (fun g => g.tag == tag) = none) :
    (doFetch tag dest .good mode3 s).n.port.out = some (0x5C, tag, []) ∧
    (doFetch tag dest .good mode3 s).n.port.held = s.n.port.held := by
  have hPort := selectFrame_n_port_of_high hHigh mode3 6
  rw [doFetch_of_none hOn hCode (by rw [hPort]; exact hHeld), bump_n_port, answerPort_n_port, hPort]
  exact ⟨rfl, rfl⟩

/-- An aborted frame is recorded as code 5 (R159). -/
theorem doAbortedFrame_gives {s : Node} (hOn : s.portOn = true) (mode3 : Bool) : let t := doAbortedFrame mode3 s
    t.n.port.lastError = 5 ∧ t.n.port.spi3 = mode3 ∧ t.latched .n 16 = true ∧ t.n.dict = s.n.dict := by
  have hUp : (endOpenSelect s).nUp = true := (nUp_of_besidePort (endOpenSelect_besidePort s)).trans (nUp_of_portOn hOn)
  have hDict : (endOpenSelect s).n.dict = s.n.dict := dict_of_besidePort (endOpenSelect_besidePort s)
  rw [doAbortedFrame_eq hOn]
  exact ⟨by simp, by simp, detect_latched ((bump_nUp ..).trans hUp), by simp [hDict]⟩

/-- A response has been clocked out to its end (R155, R156). -/
theorem doResponseClockedOut_gives {s : Node} {h tag : Nat} {body : List Byte} (hOn : s.portOn = true)
    (hOut : s.n.port.out = some (h, tag, body)) : let t := doResponseClockedOut s
    t.n.port.out = none ∧ (isFinal h body = false → t.n.port.held = s.n.port.held ∧ t.n.dict = s.n.dict) ∧
    (isFinal h body = true → (t.n.port.held.any fun g => g.tag == tag) = false ∧
      (h = 0x51 → (t.n.port.tunnels.any fun k => k.tag == tag) = false ∧ t.n.dict = s.n.dict) ∧
      (h ≠ 0x51 → (s.txn 0 tag).isSome = true → t.n.port.last = some (h, tag, body) ∧
        t.n.dict.txns.length + 1 = s.n.dict.txns.length)) ∧ t.f = s.f := by
  have hPort := clockedOutFinal_n_port h tag body s
  have hBeside := clockedOutFinal_besidePort h tag body s
  rw [doResponseClockedOut_eq hOn hOut]
  split
  case isTrue hFinal => exact ⟨rfl, fun _ => ⟨rfl, rfl⟩, fun hYes => (nomatch hFinal.symm.trans hYes), rfl⟩
  case isFalse hFinal =>
    split
    case isTrue hTunnel =>
      have hDict : (clockedOutFinal h tag body s).n.dict = s.n.dict := dict_of_besidePort hBeside
      exact ⟨by simp [hPort], fun hNo => absurd hNo hFinal,
        fun _ => ⟨by simp [hPort], fun _ => ⟨by simp, hDict⟩, fun hOther => absurd hTunnel hOther⟩, f_of_besidePort hBeside⟩
    case isFalse hOther =>
      have hTxn : (clockedOutFinal h tag body s).txn 0 tag = s.txn 0 tag := congrArg (fun x => x.txn 0 tag) hBeside
      refine ⟨by simp [hPort], fun hNo => absurd hNo hFinal,
        fun _ => ⟨by simp [hPort], fun hTunnel => absurd hTunnel hOther, fun _ hSome => ⟨?_, ?_⟩⟩, ?_⟩
      · rw [leaveFlight_n_port, hPort]
        exact if_pos ((if_neg hOther).trans hSome)
      · rw [leaveFlight_txns_length (hTxn ▸ hSome), dict_of_besidePort hBeside]
      · exact (leaveFlight_f ..).trans (f_of_besidePort hBeside)

/-- A held response is given up after 1 s (R157). -/
theorem doHeldResponseDiscard_gives {s : Node} {tag : Nat} {h : Held} (hUp : s.nUp = true)
    (hHeld : s.n.port.held.find? (fun g => g.tag == tag) = some h) (hComplete : h.complete = true) : let t := doHeldResponseDiscard tag s
    (t.n.port.held.any fun g => g.tag == tag) = false ∧ t.latched .n 16 = true ∧
    (h.tunnel = true → (t.n.port.tunnels.any fun k => k.tag == tag) = false ∧ t.n.dict = s.n.dict) ∧
    (h.tunnel = false → (s.txn 0 tag).isSome = true → t.n.dict.txns.length + 1 = s.n.dict.txns.length) := by
  have hPort := givenUp_n_port tag s
  have hDict := givenUp_n_dict tag s
  have hLatched := givenUp_latched hUp tag
  rw [doHeldResponseDiscard_eq hUp hHeld hComplete]
  split
  case isTrue hTunnel =>
    exact ⟨by simp [hPort], hLatched, fun _ => ⟨by simp, hDict⟩, fun hNo => (nomatch hTunnel.symm.trans hNo)⟩
  case isFalse hOther =>
    refine ⟨by simp [hPort], (leaveFlight_latched ..).trans hLatched, fun hTunnel => absurd hTunnel hOther, fun _ hSome => ?_⟩
    have hTxn : (givenUp tag s).txn 0 tag = s.txn 0 tag := by rw [Node.txn, hDict]; rfl
    rw [leaveFlight_txns_length (hTxn ▸ hSome), hDict]

/-- Settles O22, clause by clause: FETCH with and without a held response, a frame error, REPEAT, an aborted frame, a rise of N_SEL#, a
response clocked out, and one given up. -/
theorem portFetchRepeatAndErrors : Obligations.PortFetchRepeatAndErrors := by
  unfold Obligations.PortFetchRepeatAndErrors
  refine ⟨fun s tag dest mode3 h hOn hHigh hCode hHeld => ?_, fun s tag dest mode3 hOn hHigh hCode hHeld => ?_,
    fun s tag dest code form mode3 hOn hCode hError => ?_, fun s tag dest mode3 hOn hAll hHere => ?_, fun s mode3 hOn => ?_,
    fun s hUp hMode => ?_, fun s h tag body hOn hOut => ?_, fun s tag h hUp hHeld hComplete => ?_⟩
  · refine (gives_iff_of_exec_eq_run (g := doFetch tag dest .good mode3) rfl).2 ?_
    have hBeside := doFetch_besidePort hOn hCode
    obtain ⟨hOut, hStays⟩ := doFetch_held_gives hOn hHigh hCode hHeld
    exact ⟨hOut, hStays, dict_of_besidePort hBeside, stored_of_besidePort hBeside, f_of_besidePort hBeside⟩
  · refine (gives_iff_of_exec_eq_run (g := doFetch tag dest .good mode3) rfl).2 ?_
    have hBeside := doFetch_besidePort hOn hCode
    obtain ⟨hOut, hStays⟩ := doFetch_none_gives hOn hHigh hCode hHeld
    exact ⟨hOut, hStays, dict_of_besidePort hBeside, stored_of_besidePort hBeside, f_of_besidePort hBeside⟩
  · refine (gives_iff_of_exec_eq_run (g := doFetch tag dest form mode3) rfl).2 ?_
    have hBeside := selectFrame_besidePort mode3 6 s.node
    rw [doFetch_of_error hOn hCode hError, frameError_n_port, frameError_n_dict, frameError_stored]
    exact ⟨rfl, rfl, frameError_latched ((nUp_of_besidePort hBeside).trans (nUp_of_portOn hOn)) code tag,
      dict_of_besidePort hBeside, stored_of_besidePort hBeside⟩
  · refine (gives_iff_of_exec_eq_run (g := doRepeatResponse tag dest .good mode3) rfl).2 ?_
    have hBeside : (bump .n blkPort 5 0 (selectFrame mode3 7 s.node)).besidePort = s.node.besidePort := by simp
    rw [doRepeatResponse_eq hOn hAll hHere]
    refine ⟨?_, by simp, dict_of_besidePort hBeside, stored_of_besidePort hBeside, f_of_besidePort hBeside⟩
    rw [answerPort_n_port]
    rfl
  · refine (gives_iff_of_exec_eq_run (g := doAbortedFrame mode3) rfl).2 ?_
    obtain ⟨hCode, hMode, hLatched, hDict⟩ := doAbortedFrame_gives hOn mode3
    exact ⟨hCode, hMode, hLatched, hDict, doAbortedFrame_stored ..⟩
  · refine (gives_iff_of_exec_eq_run (g := doNSelHigh) rfl).2 ?_
    have hBeside := selectEnds_besidePort s.node
    rw [doNSelHigh, if_pos (by simp [hUp, hMode]), selectEnds_n_port]
    exact ⟨rfl, rfl, rfl, fun g hg => mem_heldAtRise hg, fun h tag body hOut hFinal => exists_heldAtRise hOut hFinal,
      dict_of_besidePort hBeside, faults_of_besidePort hBeside, stored_of_besidePort hBeside, f_of_besidePort hBeside⟩
  · refine (gives_iff_of_exec_eq_run (g := doResponseClockedOut) rfl).2 ?_
    obtain ⟨hGone, hOther, hFinal, hF⟩ := doResponseClockedOut_gives hOn hOut
    exact ⟨hGone, hOther, hFinal, doResponseClockedOut_stored _, hF⟩
  · refine (gives_iff_of_exec_eq_run (g := doHeldResponseDiscard tag) rfl).2 ?_
    obtain ⟨hGone, hLatched, hTunnel, hOther⟩ := doHeldResponseDiscard_gives hUp hHeld hComplete
    exact ⟨hGone, hLatched, hTunnel, hOther, doHeldResponseDiscard_stored ..⟩

end Sys2Proof.Machine
end

section
/-! PROOFS. TUNNEL frames (R162 to R165), and what becomes of a DATA frame that a die offers (R184, R189, R535). -/

namespace Sys2Proof.Machine

open Sys2Proof

/-! A frame that is offered is on its way. -/

theorem nextFrame_mem {sinceLoupe : Nat} {l : List DataFrame} {f : DataFrame} (h : nextFrame sinceLoupe l = some f) : f ∈ l := by
  unfold nextFrame at h
  dsimp only at h
  split at h <;> exact List.mem_of_find?_eq_some h

/-- A frame of a stream with a message is on its way if it waits, is held back, or has been sent and not accepted. -/
theorem sent_iff {s : Node} {d : Die} {stream : Nat} {m : Msg} : s.sent d stream m = true ↔
    ∃ f, (f ∈ (s.die d).clasp.waiting ∨ f ∈ (s.die d).clasp.delayed ∨ f ∈ (s.die d).clasp.unacked) ∧ f.stream = stream ∧ f.msg = m := by
  simp only [Node.sent, List.any_eq_true, List.mem_append, or_assoc, Bool.and_eq_true, beq_iff_eq]

/-- A frame that is sent goes from those that wait to those that are not accepted yet; the others stay. -/
theorem sendFrame_sent {s : Node} {d : Die} {stream : Nat} {m : Msg} (h : s.sent d stream m = true) :
    (sendFrame d s).sent d stream m = true := by
  unfold sendFrame
  dsimp only
  split
  · exact h
  · split
    · exact h
    · next f hNext =>
      obtain ⟨g, hg, hStream, hMsg⟩ := sent_iff.1 h
      rw [sent_iff, modClasp_clasp, bump_clasp]
      dsimp only
      by_cases hSame : g = f
      · exact ⟨{ f with seq := (s.die d).clasp.txSeq }, .inr (.inr (by simp)), hSame ▸ hStream, hSame ▸ hMsg⟩
      · exact ⟨g, hg.imp (List.mem_erase_of_ne hSame).2 (.imp_right (List.mem_append_left _)), hStream, hMsg⟩

theorem pumpData_sent {s : Node} {d : Die} {stream : Nat} {m : Msg} (h : s.sent d stream m = true) :
    (pumpData d s).sent d stream m = true := by
  unfold pumpData
  split
  · exact List.foldlRecOn (motive := fun t : Node => t.sent d stream m = true) _ _ h fun _ ht _ _ => sendFrame_sent ht
  · exact h

theorem filEffect_die (i : Nat) (d : Die) (s : Node) : (filEffect i s).die d = s.die d := by
  cases d <;> rfl

/-- While the Clasp is trained a DATA frame that is offered is on its way. -/
theorem sendData_sent {s : Node} (hTrained : s.trained = true) (d : Die) (stream : Nat) (m : Msg) :
    (sendData d stream m s).sent d stream m = true := by
  unfold sendData
  rw [if_pos hTrained]
  split
  · refine sent_iff.2 ⟨⟨stream, 0, m⟩, .inr (.inl ?_), rfl, rfl⟩
    rw [filEffect_die, modClasp_clasp]
    simp
  · refine pumpData_sent (sent_iff.2 ⟨⟨stream, 0, m⟩, .inl ?_, rfl, rfl⟩)
    simp

/-! Sending leaves the collectors alone. -/

@[simp] theorem sendFrame_faults (d e : Die) (s : Node) : ((sendFrame d s).die e).faults = (s.die e).faults := by
  unfold sendFrame
  dsimp only
  (repeat' split) <;> simp
@[simp] theorem pumpData_faults (d e : Die) (s : Node) : ((pumpData d s).die e).faults = (s.die e).faults := by
  unfold pumpData
  split
  · exact foldl_keeps (fun s => (s.die e).faults) (fun s _ => sendFrame_faults d e s) _ s
  · rfl
@[simp] theorem sendData_faults (d e : Die) (stream : Nat) (m : Msg) (s : Node) :
    ((sendData d stream m s).die e).faults = (s.die e).faults := by
  unfold sendData
  split
  · split
    · exact modClasp_faults ..
    · rw [pumpData_faults, modClasp_faults, onlyIf_keeps (fun s => (s.die e).faults) fun s => bump_faults ..]
  · rfl

/-- A frame that the N-die offers changes neither the dictionary, the collector of the N-die, a setting nor the F-die. -/
theorem sendData_keeps {s t : Node} (h : t.besidePort = s.besidePort) (stream : Nat) (m : Msg) :
    (sendData .n stream m t).n.dict = s.n.dict ∧ (sendData .n stream m t).n.faults = s.n.faults ∧
    (sendData .n stream m t).stored = s.stored ∧ (sendData .n stream m t).f = s.f := by
  have hFaults : (sendData .n stream m t).n.faults = t.n.faults := sendData_faults .n .n stream m t
  rw [sendData_n_dict, hFaults, sendData_stored, sendData_f]
  exact ⟨dict_of_besidePort h, faults_of_besidePort h, stored_of_besidePort h, f_of_besidePort h⟩

/-! Admission. -/

/-- The tunnel transaction of a TUNNEL frame: target 0 is the value of K:7000 in session 0 (R162). -/
def Node.tunnelOf (s : Node) (tag : Nat) (b : TunnelBody) : TunnelTxn :=
  ⟨tag, if b.target = 0 then selOf (s.selectsOf 0) 0x7000 else b.target, b, false⟩

/-- A TUNNEL frame passes the checks of R163, and the Clasp is up. -/
def Node.takesTunnel (s : Node) (tag : Nat) (b : TunnelBody) : Prop :=
  s.val 0x1208 ≠ 0 ∧ s.n.dev ≠ .boot ∧ s.n.dev ≠ .sealed ∧ tunnelFieldsOk b = true ∧ s.valAt 0x7010 (s.tunnelOf tag b).target ≠ 0 ∧
    s.trained = true

/-- The status with which a TUNNEL frame is refused (R163). -/
def Node.tunnelRefusal (s : Node) : Nat :=
  if s.val 0x1208 = 0 then stAccess else if s.n.dev = .boot ∨ s.n.dev = .sealed then stState else stRange

/-- A TUNNEL frame that is admitted is outstanding and answered DEFERRED (R164). -/
def tunnelAnswered (tag : Nat) (b : TunnelBody) (s : Node) : Node :=
  answerDeferred 0x51 tag (leBytes 1 stDeferred) (modPort (fun p => { p with tunnels := p.tunnels ++ [s.tunnelOf tag b] }) s)

/-- It is sent to the F-die on stream 1 (R164). -/
def tunnelTaken (tag : Nat) (b : TunnelBody) (s : Node) : Node := sendData .n 1 (.tunnel tag) (tunnelAnswered tag b s)

theorem tunnelAnswered_besidePort (tag : Nat) (b : TunnelBody) (s : Node) : (tunnelAnswered tag b s).besidePort = s.besidePort :=
  answerDeferred_besidePort ..

/-- A TUNNEL frame is refused for the key, the device state or a field (R163). -/
def Node.refusesTunnel (s : Node) (b : TunnelBody) : Prop :=
  s.val 0x1208 = 0 ∨ s.n.dev = .boot ∨ s.n.dev = .sealed ∨ tunnelFieldsOk b = false

theorem admitTunnel_of_refused {s : Node} {b : TunnelBody} (h : s.refusesTunnel b) (tag : Nat) :
    admitTunnel tag b s = finishTunnel tag s.tunnelRefusal [] s := by
  unfold Node.refusesTunnel at h
  unfold admitTunnel Node.tunnelRefusal
  dsimp only
  split
  · rfl
  · next hOn =>
    split
    · next hDev => rw [if_pos (by simpa using hDev)]
    · next hDev =>
      have hOther : ¬(s.n.dev = .boot ∨ s.n.dev = .sealed) := by simpa using hDev
      have hFields : tunnelFieldsOk b = false :=
        ((h.resolve_left hOn).resolve_left fun hBoot => hOther (.inl hBoot)).resolve_left fun hSealed => hOther (.inr hSealed)
      rw [if_neg hOther, if_pos (by simp [hFields])]

theorem admitTunnel_of_taken {s : Node} {tag : Nat} {b : TunnelBody} (h : s.takesTunnel tag b) :
    admitTunnel tag b s = tunnelTaken tag b s := by
  obtain ⟨hOn, hBoot, hSealed, hFields, hTarget, hTrained⟩ := h
  unfold admitTunnel
  dsimp only
  rw [if_neg hOn, if_neg (by simp [hBoot, hSealed]), if_neg (by simpa [hFields, Node.tunnelOf] using hTarget), if_pos hTrained]
  rfl

theorem refusesTunnel_of_besidePort {s t : Node} (h : t.besidePort = s.besidePort) (b : TunnelBody) :
    t.refusesTunnel b ↔ s.refusesTunnel b := Iff.of_eq (congrArg (fun x => x.refusesTunnel b) h)

theorem takesTunnel_of_besidePort {s t : Node} (h : t.besidePort = s.besidePort) (tag : Nat) (b : TunnelBody) :
    t.takesTunnel tag b ↔ s.takesTunnel tag b := Iff.of_eq (congrArg (fun x => x.takesTunnel tag b) h)

theorem tunnelOf_of_besidePort {s t : Node} (h : t.besidePort = s.besidePort) (tag : Nat) (b : TunnelBody) :
    t.tunnelOf tag b = s.tunnelOf tag b := congrArg (fun x => x.tunnelOf tag b) h

theorem tunnelRefusal_of_besidePort {s t : Node} (h : t.besidePort = s.besidePort) : t.tunnelRefusal = s.tunnelRefusal :=
  congrArg (fun x => x.tunnelRefusal) h

theorem tunnelTaken_n_port (tag : Nat) (b : TunnelBody) (s : Node) : (tunnelTaken tag b s).n.port =
    { s.n.port with
      out := some (0x51, tag, [2])
      tunnels := s.n.port.tunnels ++ [s.tunnelOf tag b]
      held := if (s.n.port.held.any fun h => h.tag == tag) = true then s.n.port.held
        else s.n.port.held ++ [⟨tag, true, false, 0x51, []⟩] } := by
  rw [tunnelTaken, sendData_n_port, tunnelAnswered, answerDeferred_n_port]
  rfl

theorem tunnelTaken_sent {s : Node} (hTrained : s.trained = true) (tag : Nat) (b : TunnelBody) :
    (tunnelTaken tag b s).sent .n 1 (.tunnel tag) = true :=
  sendData_sent ((trained_of_besidePort (tunnelAnswered_besidePort tag b s)).trans hTrained) .n 1 (.tunnel tag)

/-- An admitted TUNNEL frame changes the port and the Clasp half alone. -/
theorem tunnelTaken_keeps (tag : Nat) (b : TunnelBody) (s : Node) : (tunnelTaken tag b s).n.dict = s.n.dict ∧
    (tunnelTaken tag b s).n.faults = s.n.faults ∧ (tunnelTaken tag b s).stored = s.stored ∧ (tunnelTaken tag b s).f = s.f :=
  sendData_keeps (tunnelAnswered_besidePort tag b s) 1 (.tunnel tag)

/-- An admitted TUNNEL frame whose tag was free is open (R164). -/
theorem tunnelTaken_tunnelOpen {s : Node} {tag : Nat} (hFree : (s.n.port.held.any fun h => h.tag == tag) = false) (b : TunnelBody) :
    (tunnelTaken tag b s).tunnelOpen tag = true := by
  rw [Node.tunnelOpen, tunnelTaken_n_port]
  dsimp only
  rw [if_neg (by rw [hFree]; exact Bool.false_ne_true)]
  simp [Node.tunnelOf]

/-- A tagged frame that errs in nothing has a free tag (R159, code 4). -/
theorem held_free_of_portError {s : Node} {here : Bool} {tag dest : Nat} (h : s.portError .good true here tag dest = 0) :
    (s.n.port.held.any fun g => g.tag == tag) = false := by
  unfold Node.portError at h
  dsimp only at h
  split at h
  · cases h
  · next hFree =>
    rw [Bool.true_and, Node.tagUsed, Bool.or_eq_true, not_or] at hFree
    exact (Bool.not_eq_true _).mp hFree.2

section
variable {s : Node} {tag dest : Nat} {mode3 : Bool} {body : TunnelBody}

theorem doTunnel_of_room (hOn : s.portOn = true) (hLength : body.lengthOk = true)
    (hCode : (selectFrame mode3 8 s).portError .good true true tag dest = 0) (hRoom : s.n.port.tunnels.length < 2) :
    doTunnel tag dest .good mode3 body s = admitTunnel tag body (selectFrame mode3 8 s) := by
  unfold doTunnel
  dsimp only
  rw [if_pos hOn, if_pos hLength, if_pos hCode, selectFrame_tunnels, if_neg (by omega)]

theorem doTunnel_of_full (hOn : s.portOn = true) (hLength : body.lengthOk = true)
    (hCode : (selectFrame mode3 8 s).portError .good true true tag dest = 0) (hFull : 2 ≤ s.n.port.tunnels.length) :
    doTunnel tag dest .good mode3 body s = modPort (fun p => { p with busy := some (tag, body) }) (selectFrame mode3 8 s) := by
  unfold doTunnel
  dsimp only
  rw [if_pos hOn, if_pos hLength, if_pos hCode, selectFrame_tunnels, if_pos hFull]

theorem doTunnelAdmitAfterWait_of_room (hOn : s.portOn = true) (hBusy : s.n.port.busy = some (tag, body))
    (hRoom : s.n.port.tunnels.length < 2) :
    doTunnelAdmitAfterWait s = admitTunnel tag body (modPort (fun p => { p with busy := none }) s) := by
  unfold doTunnelAdmitAfterWait
  rw [hBusy]
  dsimp only
  rw [if_pos (by simp [hOn, hRoom])]

end

/-! The end of a tunnel transaction. -/

/-- An open tunnel transaction that ends has its response complete in its place, and is open no longer (R164). -/
theorem finishTunnel_gives {s : Node} {tag : Nat} (hOpen : s.tunnelOpen tag = true) (status : Nat) (bytes : List Byte) :
    let t := finishTunnel tag status bytes s
    (t.n.port.held.any fun h => h.tag == tag && h.complete && h.body == leBytes 1 status ++ bytes) = true ∧
    t.tunnelOpen tag = false ∧ t.n.port.tunnels = s.n.port.tunnels ∧ t.n.dict = s.n.dict ∧ t.stored = s.stored ∧ t.f = s.f := by
  have hBeside := finishTunnel_besidePort tag status bytes s
  obtain ⟨-, hHeld⟩ := Bool.and_eq_true_iff.1 hOpen
  obtain ⟨g, hg, hTag⟩ : ∃ g ∈ s.n.port.held, g.tag = tag := by
    obtain ⟨g, hg, hIs⟩ := List.any_eq_true.1 hHeld
    simp only [Bool.and_eq_true, beq_iff_eq] at hIs
    exact ⟨g, hg, hIs.1.1⟩
  have hAny : (s.n.port.held.any fun h => h.tag == tag) = true := List.any_eq_true.2 ⟨g, hg, by simpa using hTag⟩
  have hPort := finishTunnel_n_port tag status bytes s
  rw [completePort_n_port] at hPort
  refine ⟨?_, ?_, ?_, dict_of_besidePort hBeside, stored_of_besidePort hBeside, f_of_besidePort hBeside⟩
  · rw [hPort]
    dsimp only
    rw [if_pos hAny, List.any_eq_true]
    exact ⟨_, List.mem_map_of_mem hg, by simp [hTag]⟩
  · rw [Node.tunnelOpen, hPort]
    dsimp only
    rw [if_pos hAny, List.any_map, Bool.and_eq_false_iff]
    refine .inr (List.any_eq_false.2 fun g _ => ?_)
    by_cases hTag : g.tag = tag <;> simp [hTag]
  · rw [hPort]

/-- Settles O23, clause by clause: a TUNNEL frame refused, admitted, kept busy and admitted after its wait; a transaction completed and
timed out. -/
theorem portTunnels : Obligations.PortTunnels := by
  unfold Obligations.PortTunnels
  refine ⟨fun s tag dest mode3 body hOn hLength hHigh hCode hRoom hRefused => ?_,
    fun s tag dest mode3 body hOn hLength hHigh hCode hRoom hKey hBoot hSealed hFields hTarget hTrained => ?_,
    fun s tag dest mode3 body hOn hLength hCode hFull => ?_,
    fun s tag body hOn hBusy hRoom hKey hBoot hSealed hFields hTarget hTrained => ?_,
    fun s tag bytes hUp hOpen => ?_, fun s tag hUp hOpen => ?_⟩
  · refine (gives_iff_of_exec_eq_run (g := doTunnel tag dest .good mode3 body) rfl).2 ?_
    have hFrame := selectFrame_besidePort mode3 8 s.node
    have hBeside := (finishTunnel_besidePort tag s.node.tunnelRefusal [] (selectFrame mode3 8 s.node)).trans hFrame
    have hRefusedThen := (refusesTunnel_of_besidePort hFrame body).2 hRefused
    rw [doTunnel_of_room hOn hLength hCode hRoom, admitTunnel_of_refused hRefusedThen, tunnelRefusal_of_besidePort hFrame]
    refine ⟨?_, ?_, dict_of_besidePort hBeside, faults_of_besidePort hBeside, stored_of_besidePort hBeside, f_of_besidePort hBeside⟩
    · rw [finishTunnel_n_port, completePort_n_port, held_free_of_portError hCode, List.append_nil]
      rfl
    · rw [finishTunnel_n_port, completePort_n_port]
      exact selectFrame_tunnels mode3 8 s.node
  · refine (gives_iff_of_exec_eq_run (g := doTunnel tag dest .good mode3 body) rfl).2 ?_
    have hFrame := selectFrame_besidePort mode3 8 s.node
    have hTakes : s.node.takesTunnel tag body := ⟨hKey, hBoot, hSealed, hFields, hTarget, hTrained⟩
    have hUp := (trained_of_besidePort hFrame).trans hTrained
    obtain ⟨hDict, hFaults, hStored, hF⟩ := tunnelTaken_keeps tag body (selectFrame mode3 8 s.node)
    have hPort := tunnelTaken_n_port tag body (selectFrame mode3 8 s.node)
    have hTunnels := congrArg NPort.tunnels hPort
    dsimp only at hTunnels
    rw [selectFrame_tunnels, tunnelOf_of_besidePort hFrame] at hTunnels
    rw [doTunnel_of_room hOn hLength hCode hRoom, admitTunnel_of_taken ((takesTunnel_of_besidePort hFrame tag body).2 hTakes)]
    exact ⟨congrArg NPort.out hPort, tunnelTaken_sent hUp tag body, hTunnels,
      tunnelTaken_tunnelOpen (held_free_of_portError hCode) body, hDict.trans (dict_of_besidePort hFrame),
      hFaults.trans (faults_of_besidePort hFrame), hStored.trans (stored_of_besidePort hFrame), hF.trans (f_of_besidePort hFrame)⟩
  · refine (gives_iff_of_exec_eq_run (g := doTunnel tag dest .good mode3 body) rfl).2 ?_
    have hFrame := selectFrame_besidePort mode3 8 s.node
    rw [doTunnel_of_full hOn hLength hCode hFull]
    exact ⟨rfl, selectFrame_tunnels mode3 8 s.node, dict_of_besidePort hFrame, stored_of_besidePort hFrame, f_of_besidePort hFrame⟩
  · refine (gives_iff_of_exec_eq_run (g := doTunnelAdmitAfterWait) rfl).2 ?_
    let freed := modPort (fun p => { p with busy := none }) s.node
    have hTakes : freed.takesTunnel tag body := ⟨hKey, hBoot, hSealed, hFields, hTarget, hTrained⟩
    have hUp : freed.trained = true := hTrained
    obtain ⟨hDict, -, hStored, hF⟩ := tunnelTaken_keeps tag body freed
    have hPort := tunnelTaken_n_port tag body freed
    rw [doTunnelAdmitAfterWait_of_room hOn hBusy hRoom, admitTunnel_of_taken hTakes]
    exact ⟨congrArg NPort.busy hPort, congrArg NPort.out hPort, tunnelTaken_sent hUp tag body, congrArg NPort.tunnels hPort,
      hDict, hStored, hF⟩
  · refine (gives_iff_of_exec_eq_run (g := doTunnelComplete tag bytes) rfl).2 ?_
    rw [doTunnelComplete, if_pos (by simp [hUp, hOpen])]
    exact finishTunnel_gives hOpen stOk (bytes.take (s.node.tunnelRead tag))
  · refine (gives_iff_of_exec_eq_run (g := doTunnelTimeout tag) rfl).2 ?_
    rw [doTunnelTimeout, if_pos (by simp [hUp, hOpen])]
    exact finishTunnel_gives hOpen stRemote []

end Sys2Proof.Machine
end

section
/-! PROOFS. Four statements of the Clasp that fail over all states: outages and loss (R187 to R191), credits and DATA frames (R183 to
R185), margin and rate (R193 to R196), orders and fault reports (R296, R297, R469 to R471). -/

namespace Sys2Proof.Machine

open Sys2Proof

/-! The end of a RECAL slot. N source 23 is live while any slot is in use (R537), and the slot that recalibrated the synthesiser ends
when the link resumes (R536). -/

/-- A node whose N-die is in the outage of its own RECAL slot, with the synthesiser locked again. -/
def recalibratedNode : Node :=
  { fil := { slots := [(0, { armed := true, onDie := true, die := .n, code := filRecal })] }
    n := { phase := .ready, clasp := { link := .outage, synth := .locked, trained := true }, faults := { cond := srcBit 23 } }
    f := { phase := .ready, clasp := { link := .up, synth := .locked, trained := true } } }

/-- Its resumption ends the slot, and N source 23 is no longer live. -/
theorem resumption_ends_recal : (doOutageResume .n 20 recalibratedNode).n.faults.cond = 0 := by decide

/-- Refutes O29: the resumption of a half need not leave the collector of its die as it is. -/
theorem not_synthesisersOutagesAndLoss : ¬ Obligations.SynthesisersOutagesAndLoss := by
  unfold Obligations.SynthesisersOutagesAndLoss
  rintro ⟨-, -, -, -, hResume, -⟩
  have hGives := hResume { node := recalibratedNode } .n 20 (by decide) (by decide)
  obtain ⟨-, -, -, hFaults, -⟩ := (gives_iff_of_exec_eq_run (g := doOutageResume .n 20) rfl).1 hGives
  have hCond : recalibratedNode.n.faults.cond = 0 := (congrArg Collector.cond hFaults).symm.trans resumption_ends_recal
  exact absurd hCond (by decide)

/-! The count of frames sent again. It saturates at 4095 (R200), also where nothing is added to it. -/

/-- A trained N-die whose count of repeats lies above the value at which it saturates. -/
def overfullRepeats : Node :=
  { n := { phase := .ready, clasp := { trainedHalf with repeats := 4096 } }, f := { phase := .ready, clasp := trainedHalf } }

theorem credit_saturates_repeats : (ctrlWord .n (doCredit .n 1 false 0) overfullRepeats).n.clasp.repeats = 4095 := by decide

/-- Refutes O30: a CREDIT without NAK need not leave the count of repeats as it is. The statement is over every state; that a run
brings the count above 4095 is not claimed. -/
theorem not_creditsAndDataFrames : ¬ Obligations.CreditsAndDataFrames := by
  unfold Obligations.CreditsAndDataFrames
  rintro ⟨hCredit, -⟩
  have hGives := hCredit { node := overfullRepeats } .n 1 0 (by decide) (by decide) (by decide)
  obtain ⟨-, -, -, hRepeats, -⟩ := (gives_iff_of_exec_eq_run (g := ctrlWord .n (doCredit .n 1 false 0)) rfl).1 hGives
  exact absurd (hRepeats.symm.trans credit_saturates_repeats) (by decide)

/-! K:2107 does write the F-die: its answer ends the wait of a transaction of the same session and tag in the F-die's inbox. -/

theorem waitedInbox_accepts_fullRateRequest : ∃ u x, (waitedInbox true).accepts hostCommand 0x2107 (.command none) = some (u, x) :=
  ⟨_, _, rfl⟩

theorem waitedInbox_fullRateRequest_f : (doFullRateRequest hostCommand (waitedInbox true)).f = (waitedInbox false).f := by decide

/-- Refutes O31: an accepted K:2107 need not leave the F-die as it was, for the reason that refutes O14. The statement is over every
state; that this one is reached is not claimed. -/
theorem not_marginAndRate : ¬ Obligations.MarginAndRate := by
  unfold Obligations.MarginAndRate
  rintro ⟨-, -, -, -, -, -, -, -, hFull⟩
  obtain ⟨u, x, hAccepts⟩ := waitedInbox_accepts_fullRateRequest
  have hGives := hFull { node := waitedInbox true } hostCommand u x hAccepts (by decide) (by decide)
  obtain ⟨-, -, -, -, hF, -⟩ := (gives_iff_of_exec_eq_run (g := doFullRateRequest hostCommand) rfl).1 hGives
  exact waitedInbox_f_ne (waitedInbox_fullRateRequest_f.symm.trans hF)

/-! A SEAL report in BOOT. A SEAL moves the node to SEALED from any state but BOOT (R98). -/

/-- A trained node that is still in BOOT. -/
def bootingNode : Node := { n := { phase := .ready, clasp := trainedHalf, dev := .boot }, f := { phase := .ready, clasp := trainedHalf } }

theorem seal_report_stays_in_boot : (ctrlWord .n (doFaultReport 5 3 true 1) bootingNode).n.dev = .boot := by decide

/-- Refutes O32: a SEAL report that comes in BOOT is noted, and leaves the node in BOOT. -/
theorem not_ordersAndReports : ¬ Obligations.OrdersAndReports := by
  unfold Obligations.OrdersAndReports
  rintro ⟨-, -, -, -, -, hReport, -⟩
  have hGives := hReport { node := bootingNode } 5 3 true 1 (by decide) (by decide) (by decide)
  obtain ⟨-, -, -, hSeals, -⟩ := (gives_iff_of_exec_eq_run (g := ctrlWord .n (doFaultReport 5 3 true 1)) rfl).1 hGives
  obtain ⟨-, hSealed⟩ := hSeals rfl
  exact absurd (hSealed.symm.trans seal_report_stays_in_boot) (by decide)

end Sys2Proof.Machine
end

section
/-! PROOFS. The direct channels: what one update of a channel does to the others, and what a detection and a counter leave of every
channel (R178 to R191, R203, R210, R217). -/

namespace Sys2Proof.Machine

open Sys2Proof

/-! One channel of one die. -/

theorem chan_modChan_same (d : Die) (c : Nat) (g : Chan → Chan) (s : Node) : (modChan d c g s).chan d c = g (s.chan d c) := by
  simp only [Node.chan, modChan, modCh_eq, modDie_die, tget_tmod_same]

theorem chan_modChan_other (d : Die) {c e : Nat} (h : c ≠ e) (g : Chan → Chan) (s : Node) : (modChan d c g s).chan d e = s.chan d e := by
  simp only [Node.chan, modChan, modCh_eq, modDie_die, tget_tmod_other _ _ _ h]

@[simp] theorem modDie_otherDie (d : Die) (g : DieState → DieState) (s : Node) :
    (modDie d g s).die (otherDie d) = s.die (otherDie d) := by
  cases d <;> rfl
@[simp] theorem modDie_otherDie_die (d : Die) (g : DieState → DieState) (s : Node) : (modDie (otherDie d) g s).die d = s.die d := by
  cases d <;> rfl
@[simp] theorem modChan_otherDie (d : Die) (c : Nat) (g : Chan → Chan) (s : Node) :
    (modChan d c g s).die (otherDie d) = s.die (otherDie d) := modDie_otherDie ..
@[simp] theorem modChan_otherDie_die (d : Die) (c : Nat) (g : Chan → Chan) (s : Node) : (modChan (otherDie d) c g s).die d = s.die d :=
  modDie_otherDie_die ..
@[simp] theorem modChan_faults (d e : Die) (c : Nat) (g : Chan → Chan) (s : Node) :
    ((modChan d c g s).die e).faults = (s.die e).faults := by
  cases d <;> cases e <;> rfl
@[simp] theorem modChan_clasp (d e : Die) (c : Nat) (g : Chan → Chan) (s : Node) :
    ((modChan d c g s).die e).clasp = (s.die e).clasp := by
  cases d <;> cases e <;> rfl

theorem chan_of_ch {s t : Node} {d : Die} (h : (t.die d).ch = (s.die d).ch) : t.chan d = s.chan d :=
  funext fun c => congrArg (fun x : Channels => tget ({} : Chan) x.chans c) h

@[simp] theorem countBy_ch (d e : Die) (blk idx cell n : Nat) (s : Node) : ((countBy d blk idx cell n s).die e).ch = (s.die e).ch := by
  unfold countBy
  split <;> cases d <;> cases e <;> rfl
@[simp] theorem bump_ch (d e : Die) (blk idx cell : Nat) (s : Node) : ((bump d blk idx cell s).die e).ch = (s.die e).ch := countBy_ch ..
@[simp] theorem countBy_chan (d e : Die) (blk idx cell n : Nat) (s : Node) : (countBy d blk idx cell n s).chan e = s.chan e :=
  chan_of_ch (countBy_ch ..)
@[simp] theorem bump_chan (d e : Die) (blk idx cell : Nat) (s : Node) : (bump d blk idx cell s).chan e = s.chan e := countBy_chan ..

/-! The signals of a node: its channels but for the levels that HOLD keeps, which are all that a change of the pins moves (R217). -/

/-- A channel of a die but for the level kept for HOLD. -/
def Node.signal (s : Node) (d : Die) (c : Nat) : Chan := { s.chan d c with kept := none }

theorem signal_of_ch {s t : Node} (h : ∀ d, (t.die d).ch = (s.die d).ch) : t.signal = s.signal := by
  funext d c
  rw [Node.signal, chan_of_ch (h d)]
  rfl

theorem modDie_signal (d : Die) {g : DieState → DieState} (h : ∀ x, (g x).ch.chans = x.ch.chans) (s : Node) :
    (modDie d g s).signal = s.signal := by
  funext e c
  cases d <;> cases e <;> simp [Node.signal, Node.chan, h]
theorem modCh_signal (d : Die) {g : Channels → Channels} (h : ∀ x, (g x).chans = x.chans) (s : Node) :
    (modCh d g s).signal = s.signal := modDie_signal d (fun x => h x.ch) s
@[simp] theorem modFaults_signal (d : Die) (g : Collector → Collector) (s : Node) : (modFaults d g s).signal = s.signal :=
  signal_of_ch fun e => by cases d <;> cases e <;> rfl
@[simp] theorem modClasp_signal (d : Die) (g : ClaspHalf → ClaspHalf) (s : Node) : (modClasp d g s).signal = s.signal :=
  signal_of_ch fun e => by cases d <;> cases e <;> rfl
@[simp] theorem modSeq_signal (d : Die) (g : Sequencer → Sequencer) (s : Node) : (modSeq d g s).signal = s.signal :=
  signal_of_ch fun e => by cases d <;> cases e <;> rfl
@[simp] theorem modLoupe_signal (d : Die) (g : Loupe → Loupe) (s : Node) : (modLoupe d g s).signal = s.signal :=
  signal_of_ch fun e => by cases d <;> cases e <;> rfl
@[simp] theorem modIsl_signal (d : Die) (g : Islands → Islands) (s : Node) : (modIsl d g s).signal = s.signal :=
  signal_of_ch fun e => by cases d <;> cases e <;> rfl
@[simp] theorem modCan_signal (g : Can → Can) (s : Node) : (modCan g s).signal = s.signal :=
  signal_of_ch fun d => by cases d <;> rfl
@[simp] theorem modFPort_signal (g : FPort → FPort) (s : Node) : (modFPort g s).signal = s.signal :=
  signal_of_ch fun d => by cases d <;> rfl
@[simp] theorem modFil_signal (i : Nat) (g : FilSlot → FilSlot) (s : Node) : (modFil i g s).signal = s.signal :=
  signal_of_ch fun d => by cases d <;> rfl

/-- A channel that takes a level for HOLD, or drops it, keeps its signal. -/
theorem modChan_signal_of_kept (d : Die) (c : Nat) {g : Chan → Chan} (h : ∀ k, { g k with kept := none } = { k with kept := none })
    (s : Node) : (modChan d c g s).signal = s.signal := by
  funext e i
  by_cases hDie : e = d
  · subst hDie
    by_cases hChan : c = i
    · subst hChan
      rw [Node.signal, chan_modChan_same, h]
      rfl
    · rw [Node.signal, chan_modChan_other _ hChan]
      rfl
  · have hCh : ((modChan d c g s).die e).ch = (s.die e).ch := by
      cases d with
      | n =>
        cases e with
        | n => exact absurd rfl hDie
        | f => rfl
      | f =>
        cases e with
        | n => rfl
        | f => exact absurd rfl hDie
    rw [Node.signal, chan_of_ch hCh]
    rfl

@[simp] theorem onlyIf_signal {g : Node → Node} (h : ∀ s, (g s).signal = s.signal) (c : Bool) (s : Node) :
    (onlyIf c g s).signal = s.signal := onlyIf_keeps Node.signal h c s
@[simp] theorem forEach_signal {α : Type} {g : α → Node → Node} (h : ∀ a s, (g a s).signal = s.signal) (l : List α) (s : Node) :
    (forEach l g s).signal = s.signal := forEach_keeps Node.signal h l s

/-! What moves no signal. -/

@[simp] theorem filEffect_signal (i : Nat) (s : Node) : (filEffect i s).signal = s.signal := modFil_signal ..
@[simp] theorem countBy_signal (d : Die) (blk idx cell n : Nat) (s : Node) : (countBy d blk idx cell n s).signal = s.signal :=
  signal_of_ch fun _ => countBy_ch ..
@[simp] theorem bump_signal (d : Die) (blk idx cell : Nat) (s : Node) : (bump d blk idx cell s).signal = s.signal := countBy_signal ..
@[simp] theorem sendCtrl_signal (d : Die) (w : Ctrl) (s : Node) : (sendCtrl d w s).signal = s.signal :=
  onlyIf_signal (fun _ => modClasp_signal ..) ..
@[simp] theorem sendFrame_signal (d : Die) (s : Node) : (sendFrame d s).signal = s.signal := by
  unfold sendFrame
  dsimp only
  (repeat' split) <;> simp
@[simp] theorem pumpData_signal (d : Die) (s : Node) : (pumpData d s).signal = s.signal := by
  unfold pumpData
  split
  · exact foldl_keeps Node.signal (fun s _ => sendFrame_signal d s) _ s
  · rfl
@[simp] theorem sendData_signal (d : Die) (stream : Nat) (m : Msg) (s : Node) : (sendData d stream m s).signal = s.signal := by
  unfold sendData
  (repeat' split) <;> simp

@[simp] theorem keepLevel_signal (d : Die) (before : Node) (c : Nat) (s : Node) : (keepLevel d before c s).signal = s.signal := by
  unfold keepLevel
  split
  · rw [onlyIf_signal]
    intro s
    rw [modChan_signal_of_kept]
    exact fun _ => rfl
  · rw [modChan_signal_of_kept]
    exact fun _ => rfl
@[simp] theorem settlePins_signal (d : Die) (g : Node → Node) (s : Node) : (settlePins d g s).signal = (g s).signal := by
  unfold settlePins
  rw [forEach_signal fun c s => keepLevel_signal .., modCh_signal]
  exact fun x => by split <;> rfl
@[simp] theorem setForce_signal (d : Die) (o : Nat) (m : Mask) (s : Node) : (setForce d o m s).signal = s.signal := by
  unfold setForce
  split <;> simp [modCh_signal]
@[simp] theorem enterHold_signal (d : Die) (s : Node) : (enterHold d s).signal = s.signal := by
  unfold enterHold
  split <;> simp [modCh_signal]
@[simp] theorem leaveHold_signal (d : Die) (s : Node) : (leaveHold d s).signal = s.signal := by
  unfold leaveHold
  split <;> simp [modCh_signal]
@[simp] theorem sealChannels_signal (d : Die) (s : Node) : (sealChannels d s).signal = s.signal := by
  simp [sealChannels, modCh_signal]

@[simp] theorem modRun_signal (d : Die) (r : Runner) (g : Run → Run) (s : Node) : (modRun d r g s).signal = s.signal := by
  unfold modRun
  (repeat' split) <;> simp
@[simp] theorem closeObject_signal (d : Die) (o : Nat) (run : Run) (incomplete : Bool) (s : Node) :
    (closeObject d o run incomplete s).signal = s.signal := by
  simp [closeObject, modObject]
@[simp] theorem addRecord_signal (d : Die) (rec : LaunchRecord) (s : Node) : (addRecord d rec s).signal = s.signal := by
  unfold addRecord
  split <;> simp
@[simp] theorem record_signal (d : Die) (slot list flags : Nat) (time : T48) (lateness : Nat) (s : Node) :
    (record d slot list flags time lateness s).signal = s.signal := by
  simp [record]
@[simp] theorem freeRunner_signal (d : Die) (r : Runner) (s : Node) : (freeRunner d r s).signal = s.signal := by
  simp only [freeRunner]
  (repeat' split) <;> simp
@[simp] theorem endRun_signal (d : Die) (r : Runner) (incomplete : Bool) (s : Node) : (endRun d r incomplete s).signal = s.signal := by
  unfold endRun
  split
  · rfl
  · rw [freeRunner_signal, record_signal]
    split
    · exact forEach_signal (fun o s => by split <;> simp) _ s
    · rfl
@[simp] theorem stopLists_signal (d : Die) (s : Node) : (stopLists d s).signal = s.signal := forEach_signal (fun _ _ => endRun_signal ..) ..
@[simp] theorem fetchAhead_signal (d : Die) (r : Runner) (s : Node) : (fetchAhead d r s).signal = s.signal := by
  unfold fetchAhead
  dsimp only
  (repeat' split) <;> simp
@[simp] theorem startTrap_signal (d : Die) (s : Node) : (startTrap d s).signal = s.signal := by
  unfold startTrap
  (repeat' split) <;> simp

@[simp] theorem leaveState_signal (d : Die) (prev st : DevState) (s : Node) : (leaveState d prev st s).signal = s.signal := by
  unfold leaveState
  dsimp only
  split <;> simp
@[simp] theorem enterStateN_signal (st : DevState) (cause : Nat) (s : Node) : (enterStateN st cause s).signal = s.signal := by
  unfold enterStateN
  split <;> simp [holdForce]
@[simp] theorem setDev_signal (st : DevState) (cause source session : Nat) (s : Node) :
    (setDev st cause source session s).signal = s.signal := by
  unfold setDev
  rw [sendData_signal, enterStateN_signal]
  exact leaveState_signal ..
@[simp] theorem trapState_signal (cause source : Nat) (s : Node) : (trapState cause source s).signal = s.signal := by
  unfold trapState
  split <;> simp
@[simp] theorem sealState_signal (cause source : Nat) (s : Node) : (sealState cause source s).signal = s.signal := by
  unfold sealState
  split <;> simp
@[simp] theorem setDevF_signal (st : DevState) (s : Node) : (setDevF st s).signal = s.signal := by
  have hLeft : (modF (fun f => { f with dev := st }) (leaveState .f s.f.dev st s)).signal = s.signal := leaveState_signal ..
  unfold setDevF
  dsimp only
  split <;> simp [hLeft]

@[simp] theorem detourNext_signal (s : Node) : (detourNext s).signal = s.signal := by
  unfold detourNext
  dsimp only
  (repeat' split) <;> simp
@[simp] theorem queueAlert_signal (die source cls : Nat) (detected : T48) (status : Word) (s : Node) :
    (queueAlert die source cls detected status s).signal = s.signal := by
  unfold queueAlert pushAlert
  dsimp only
  (repeat' split) <;> simp

/-! What a detection leaves of the channels: their signals. -/

@[simp] theorem writeEntry_signal (d : Die) (e : HistEntry) (s : Node) : (writeEntry d e s).signal = s.signal := by
  simp [writeEntry]
@[simp] theorem modEntry_signal (d : Die) (event : Nat) (g : HistEntry → HistEntry) (s : Node) :
    (modEntry d event g s).signal = s.signal := modFaults_signal ..
@[simp] theorem assertPin_signal (d : Die) (s : Node) : (assertPin d s).signal = s.signal := by
  unfold assertPin
  split <;> simp
@[simp] theorem forwardEvent_signal (e : HistEntry) (s : Node) : (forwardEvent e s).signal = s.signal := by
  unfold forwardEvent
  split <;> simp
@[simp] theorem sealDie_signal (d : Die) (src : Nat) (s : Node) : (sealDie d src s).signal = s.signal := by
  unfold sealDie
  cases d <;> simp [modDie_signal]
@[simp] theorem trapReaction_signal (d : Die) (src : Nat) (s : Node) : (trapReaction d src s).signal = s.signal := by
  unfold trapReaction
  dsimp only
  split
  · rfl
  · cases d with
    | n => simp
    | f => dsimp only; split <;> simp
@[simp] theorem reactions_signal (d : Die) (src cls mask : Nat) (e : HistEntry) (s : Node) :
    (reactions d src cls mask e s).signal = s.signal := by
  simp [reactions]
@[simp] theorem startEvent_signal (d : Die) (src cls mask detail fSource : Nat) (seals fresh : Bool) (s : Node) :
    (startEvent d src cls mask detail fSource seals fresh s).signal = s.signal := by
  simp [startEvent, requestFlush]
@[simp] theorem detectCore_signal (d : Die) (src detail fSource : Nat) (cls : Option Nat) (s : Node) :
    (detectCore d src detail fSource cls s).signal = s.signal := by
  unfold detectCore
  dsimp only
  (repeat' split) <;> simp
@[simp] theorem resetIsland_signal (d : Die) (island cause : Nat) (s : Node) : (resetIsland d island cause s).signal = s.signal := by
  unfold resetIsland tear
  dsimp only
  (repeat' split) <;> simp
@[simp] theorem detect_signal (d : Die) (src detail : Nat) (s : Node) : (detect d src detail s).signal = s.signal := by
  unfold detect
  dsimp only
  (repeat' split) <;> simp

end Sys2Proof.Machine
end

section
/-! PROOFS. Edges on the direct channels (R175, R178 to R180, R189 to R191, R203, R207). -/

namespace Sys2Proof.Machine

open Sys2Proof

/-! Words that a die receives: what CLASP_ERR and the counts of the receiver leave of the node (R200, R535). -/

@[simp] theorem perturbed_die (d e : Die) (cls : Nat) (s : Node) : (perturbed d cls s).1.die e = s.die e := by
  unfold perturbed
  cases e with
  | n => exact congrArg NDie.toDieState (filWord_n ..)
  | f => exact congrArg FDie.toDieState (filWord_f ..)

@[simp] theorem countWord_faults (d e : Die) (c : WordCheck) (s : Node) : ((countWord d c s).die e).faults = (s.die e).faults := by
  cases c <;> simp [countWord]
@[simp] theorem countWord_ch (d e : Die) (c : WordCheck) (s : Node) : ((countWord d c s).die e).ch = (s.die e).ch := by
  cases c with
  | clean => rfl
  | corrected | uncorrectable =>
    rw [countWord, bump_ch]
    cases d <;> cases e <;> rfl
@[simp] theorem countWord_farMask (d : Die) (c : WordCheck) (s : Node) :
    ((countWord d c s).die d).clasp.farMask = (s.die d).clasp.farMask := by
  cases c <;> simp [countWord]
theorem countWord_uncorrectable (d : Die) (s : Node) :
    ((countWord d .uncorrectable s).die d).clasp.uncorrectable = satAdd 4095 (s.die d).clasp.uncorrectable 1 := by
  simp [countWord]

/-- A word that CLASP_ERR does not spoil is no worse than its check says. -/
theorem worseWord_ne_uncorrectable {s : Node} {d : Die} {cls : Nat} {check : WordCheck} (hCheck : check ≠ .uncorrectable)
    (hRead : s.readable d cls = true) : worseWord check (perturbed d cls s).2 ≠ .uncorrectable := by
  have hWord : (perturbed d cls s).2 ≠ .uncorrectable := by simpa [Node.readable] using hRead
  revert hWord
  cases check <;> cases (perturbed d cls s).2 <;> simp_all [worseWord]

/-- A die has taken a word in: the word counts on it, and its channels and its collector are as before. -/
def wordTaken (d : Die) (cls : Nat) (check : WordCheck) (s : Node) : Node :=
  countWord d (worseWord check (perturbed d cls s).2) (perturbed d cls s).1

@[simp] theorem wordTaken_faults (d e : Die) (cls : Nat) (check : WordCheck) (s : Node) :
    ((wordTaken d cls check s).die e).faults = (s.die e).faults := by
  simp [wordTaken]
@[simp] theorem wordTaken_ch (d e : Die) (cls : Nat) (check : WordCheck) (s : Node) :
    ((wordTaken d cls check s).die e).ch = (s.die e).ch := by
  simp [wordTaken]
@[simp] theorem wordTaken_farMask (d : Die) (cls : Nat) (check : WordCheck) (s : Node) :
    ((wordTaken d cls check s).die d).clasp.farMask = (s.die d).clasp.farMask := by
  simp [wordTaken]

/-! An edge at a pin. -/

/-- The level at an input pin turns. -/
def pinTurned (d : Die) (c : Nat) : Node → Node := modChan d c fun k => { k with pinIn := !k.pinIn }

/-- An edge of an input that is not timed is captured, at the level to which the pin has turned (R207, R288). -/
theorem doEdgeCapture_eq {s : Node} {d : Die} {c : Fin 8} (hUp : s.up d = true) (hRole : s.role d c = 1)
    (hTimed : (s.die d).ch.timed.getLsbD c = false) (at_ : Nat) :
    doEdgeCapture d c at_ s = captureEdge d c at_ (pinTurned d c s) := by
  unfold doEdgeCapture
  dsimp only
  rw [if_pos hUp, if_pos (by simpa [hRole] using hTimed)]
  rfl

theorem captureEdge_of_up {s : Node} {d : Die} {c : Nat} (hLink : (s.die d).clasp.link = .up)
    (hRoom : (s.chan d c).waiting.length < 8) (at_ : Nat) :
    captureEdge d c at_ s = modChan d c (fun k => { k with waiting := k.waiting ++ [at_] }) s := by
  simp only [captureEdge, hLink, if_pos hRoom]

theorem captureEdge_of_up_of_full {s : Node} {d : Die} {c : Nat} (hLink : (s.die d).clasp.link = .up)
    (hFull : 8 ≤ (s.chan d c).waiting.length) (at_ : Nat) : captureEdge d c at_ s = edgeOverflow d c s := by
  simp only [captureEdge, hLink, if_neg (Nat.not_lt.2 hFull)]

theorem captureEdge_of_outage {s : Node} {d : Die} {c : Nat} (hLink : (s.die d).clasp.link = .outage)
    (hKept : (s.chan d c).overflowed = false) (hRoom : (s.chan d c).backlog.length < 8) (at_ : Nat) :
    captureEdge d c at_ s = modChan d c (fun k => { k with backlog := k.backlog ++ [at_] }) s := by
  simp [captureEdge, hLink, hKept, hRoom]

theorem captureEdge_of_outage_of_full {s : Node} {d : Die} {c : Nat} (hLink : (s.die d).clasp.link = .outage)
    (hKept : (s.chan d c).overflowed = false) (hFull : 8 ≤ (s.chan d c).backlog.length) (at_ : Nat) :
    captureEdge d c at_ s = backlogOverflow d c s := by
  simp [captureEdge, hLink, hKept, Nat.not_lt.2 hFull]

theorem edgeOverflow_signal (d : Die) (c : Nat) (s : Node) :
    (edgeOverflow d c s).signal = (modChan d c (fun k => { k with waiting := [], sent := s.inputLevel d c }) s).signal := by
  simp [edgeOverflow]
theorem backlogOverflow_signal (d : Die) (c : Nat) (s : Node) :
    (backlogOverflow d c s).signal = (modChan d c (fun k => { k with backlog := [], overflowed := true }) s).signal := by
  simp [backlogOverflow]

/-- What an edge at a pin leaves of its channel: the pin turned, and what its capture made of it. -/
theorem captured_signal {s t : Node} {d : Die} {c : Nat} {g : Chan → Chan} (h : t.signal = (modChan d c g (pinTurned d c s)).signal) :
    t.signal d c = { g { s.chan d c with pinIn := !(s.chan d c).pinIn } with kept := none } := by
  rw [h, Node.signal, chan_modChan_same, pinTurned, chan_modChan_same]

theorem captured_signal_other {s t : Node} {d : Die} {c e : Nat} {g : Chan → Chan}
    (h : t.signal = (modChan d c g (pinTurned d c s)).signal) (hOther : c ≠ e) : t.signal d e = s.signal d e := by
  rw [h, Node.signal, chan_modChan_other _ hOther, pinTurned, chan_modChan_other _ hOther]
  rfl

theorem pinTurned_chan (d : Die) (c : Nat) (s : Node) :
    (pinTurned d c s).chan d c = { s.chan d c with pinIn := !(s.chan d c).pinIn } := chan_modChan_same ..

theorem pinTurned_clasp (d : Die) (c : Nat) (s : Node) : ((pinTurned d c s).die d).clasp = (s.die d).clasp := modChan_clasp ..

/-- The level of an input that is not timed is that of its pin (R288). -/
theorem inputLevel_of_untimed {s : Node} {d : Die} {c : Nat} (h : (s.die d).ch.timed.getLsbD c = false) :
    s.inputLevel d c = (s.chan d c).pinIn := by
  simp [Node.inputLevel, h]

theorem pinTurned_timed (d : Die) (c : Nat) (s : Node) : ((pinTurned d c s).die d).ch.timed = (s.die d).ch.timed := by
  cases d <;> rfl

/-- An edge while the Clasp is up (R180, R207). -/
theorem captureEdge_up_gives {s : Node} {d : Die} {c : Nat} (hUp : s.up d = true) (hTimed : (s.die d).ch.timed.getLsbD c = false)
    (hLink : (s.die d).clasp.link = .up) (at_ : Nat) : let t := captureEdge d c at_ (pinTurned d c s)
    (t.chan d c).pinIn = !(s.chan d c).pinIn ∧
    ((s.chan d c).waiting.length < 8 → (t.chan d c).waiting = (s.chan d c).waiting ++ [at_] ∧ (t.die d).faults = (s.die d).faults) ∧
    (8 ≤ (s.chan d c).waiting.length → (t.chan d c).waiting = [] ∧ (t.chan d c).sent = !(s.chan d c).pinIn ∧ t.latched d 11 = true) ∧
    (∀ e, e ≠ c → t.signal d e = s.signal d e) := by
  have hPin := pinTurned_chan d c s
  have hClasp := pinTurned_clasp d c s
  by_cases hRoom : (s.chan d c).waiting.length < 8
  · rw [captureEdge_of_up (by rwa [hClasp]) (by rwa [hPin])]
    have hOwn := captured_signal (s := s) (d := d) (c := c) (g := fun k => { k with waiting := k.waiting ++ [at_] }) rfl
    exact ⟨congrArg Chan.pinIn hOwn, fun _ => ⟨congrArg Chan.waiting hOwn, by simp [pinTurned]⟩, fun hFull => absurd hRoom (by omega),
      fun e hOther => captured_signal_other rfl (Ne.symm hOther)⟩
  · rw [captureEdge_of_up_of_full (by rwa [hClasp]) (by rw [hPin]; exact Nat.not_lt.1 hRoom)]
    have hSignal := edgeOverflow_signal d c (pinTurned d c s)
    have hOwn := captured_signal hSignal
    refine ⟨congrArg Chan.pinIn hOwn, fun h => absurd h hRoom, fun _ => ⟨congrArg Chan.waiting hOwn, ?_, ?_⟩,
      fun e hOther => captured_signal_other hSignal (Ne.symm hOther)⟩
    · refine (congrArg Chan.sent hOwn).trans ?_
      dsimp only
      rw [inputLevel_of_untimed (by rwa [pinTurned_timed]), hPin]
    · refine detect_status d (by decide) 0 (collects_of_up ?_)
      rwa [up_of_core (s := s) (by simp [pinTurned])]

/-- An edge through an outage (R189, R191). -/
theorem captureEdge_outage_gives {s : Node} {d : Die} {c : Nat} (hUp : s.up d = true) (hLink : (s.die d).clasp.link = .outage)
    (hKept : (s.chan d c).overflowed = false) (at_ : Nat) : let t := captureEdge d c at_ (pinTurned d c s)
    (t.chan d c).pinIn = !(s.chan d c).pinIn ∧ (t.chan d c).waiting = (s.chan d c).waiting ∧
    ((s.chan d c).backlog.length < 8 → (t.chan d c).backlog = (s.chan d c).backlog ++ [at_]) ∧
    (8 ≤ (s.chan d c).backlog.length → (t.chan d c).backlog = [] ∧ (t.chan d c).overflowed = true ∧ t.latched d 11 = true) := by
  have hPin := pinTurned_chan d c s
  have hClasp := pinTurned_clasp d c s
  by_cases hRoom : (s.chan d c).backlog.length < 8
  · rw [captureEdge_of_outage (by rwa [hClasp]) (by rwa [hPin]) (by rwa [hPin])]
    have hOwn := captured_signal (s := s) (d := d) (c := c) (g := fun k => { k with backlog := k.backlog ++ [at_] }) rfl
    exact ⟨congrArg Chan.pinIn hOwn, (congrArg Chan.waiting hOwn :), fun _ => congrArg Chan.backlog hOwn,
      fun hFull => absurd hRoom (by omega)⟩
  · rw [captureEdge_of_outage_of_full (by rwa [hClasp]) (by rwa [hPin]) (by rw [hPin]; exact Nat.not_lt.1 hRoom)]
    have hOwn := captured_signal (backlogOverflow_signal d c (pinTurned d c s))
    refine ⟨congrArg Chan.pinIn hOwn, (congrArg Chan.waiting hOwn :), fun h => absurd h hRoom,
      fun _ => ⟨congrArg Chan.backlog hOwn, congrArg Chan.overflowed hOwn, ?_⟩⟩
    refine detect_status d (by decide) 0 (collects_of_up ?_)
    rwa [up_of_core (s := s) (by simp [pinTurned])]

/-! An EDGE word. -/

/-- The sender's side of an EDGE word with one event that a die takes in (R210). -/
def eventGone (d : Die) (check : WordCheck) (e : EdgeEvent) (s : Node) : Node :=
  eventSent (otherDie d) e.channel (wordTaken d 1 check s)

theorem eventGone_die (d : Die) (check : WordCheck) (e : EdgeEvent) (s : Node) :
    (eventGone d check e s).die d = (wordTaken d 1 check s).die d := modChan_otherDie_die ..

theorem eventGone_waiting (d : Die) (check : WordCheck) (e : EdgeEvent) (s : Node) :
    ((eventGone d check e s).chan (otherDie d) e.channel).waiting = (s.chan (otherDie d) e.channel).waiting.tail := by
  rw [eventGone, eventSent, chan_modChan_same, chan_of_ch (wordTaken_ch ..)]

theorem eventGone_agrees (d : Die) (check : WordCheck) (e : EdgeEvent) (s : Node) (c : Nat) :
    (eventGone d check e s).agrees d c = s.agrees d c := by
  simp [Node.agrees, Node.role, eventGone_die]

/-- A readable EDGE word with one event (R179). -/
theorem doEdgeWord_of_readable {s : Node} {d : Die} {check : WordCheck} (hReceives : s.receives d = true)
    (hCheck : check ≠ .uncorrectable) (hRead : s.readable d 1 = true) (e : EdgeEvent) :
    doEdgeWord d check e none s = takeEvent d e (eventGone d check e s) := by
  have hWord := worseWord_ne_uncorrectable hCheck hRead
  unfold doEdgeWord
  rw [if_pos hReceives]
  dsimp only
  split
  · next hSpoiled => exact absurd hSpoiled hWord
  · rfl
  · rfl

/-- A channel that has received an event to replay (R179, R210). -/
def Chan.eventTaken (k : Chan) : Chan := { k with scheduled := !k.scheduled, replay := k.replay + 1 }

/-- An event that a die takes in, on a channel on which the dies agree (R179, R208, R210). -/
theorem takeEvent_of_agrees {s : Node} {d : Die} {e : EdgeEvent} (h : s.agrees d e.channel = true) : ∃ late : Node → Node,
    (∀ t d, ((late t).die d).ch = (t.die d).ch ∧ ((late t).die d).faults = (t.die d).faults) ∧
    takeEvent d e s = late (modChan d e.channel Chan.eventTaken s) := by
  refine ⟨onlyIf (decide (2 ≤ e.age)) fun s => bump d blkCh 5 0 (bump d blkClasp 5 0 s), fun t i => ?_, if_pos h⟩
  cases decide (2 ≤ e.age) <;> simp

/-- One on a channel on which they disagree is counted (R203). -/
theorem takeEvent_of_not_agrees {s : Node} {d : Die} {e : EdgeEvent} (h : s.agrees d e.channel = false) :
    takeEvent d e s = bump d blkCh 4 0 s := if_neg (by simp [h])

/-- A readable EDGE word with one event, at its receiver (R179, R203, R210). -/
theorem takeEvent_gives (d : Die) (e : EdgeEvent) (s : Node) : let t := takeEvent d e s
    (s.agrees d e.channel = true → t.chan d e.channel = (s.chan d e.channel).eventTaken) ∧
    (s.agrees d e.channel = false → (t.die d).ch = (s.die d).ch) ∧ t.chan (otherDie d) = s.chan (otherDie d) ∧
    (∀ c, c ≠ e.channel.val → t.chan d c = s.chan d c) ∧ (t.die d).faults = (s.die d).faults := by
  cases hAgrees : s.agrees d e.channel with
  | true =>
    obtain ⟨late, hLate, hRun⟩ := takeEvent_of_agrees hAgrees
    have hChan (t : Node) (i : Die) : (late t).chan i = t.chan i := chan_of_ch (hLate t i).1
    rw [hRun]
    simp only [hChan, (hLate _ d).2]
    exact ⟨fun _ => chan_modChan_same .., fun h => (nomatch h), chan_of_ch (congrArg DieState.ch (modChan_otherDie ..)),
      fun c hOther => chan_modChan_other _ (Ne.symm hOther) .., modChan_faults ..⟩
  | false =>
    rw [takeEvent_of_not_agrees hAgrees]
    dsimp only
    exact ⟨fun h => (nomatch h), fun _ => bump_ch .., bump_chan .., fun c _ => congrFun (bump_chan ..) c, bump_faults ..⟩

/-- The events of an uncorrectable EDGE word have left their sender, and are lost and counted (R175). -/
theorem doEdgeWord_of_uncorrectable {s : Node} {d : Die} (hReceives : s.receives d = true) (e : EdgeEvent) (e2 : Option EdgeEvent) :
    ∃ n, doEdgeWord d .uncorrectable e e2 s = countBy d blkClasp 4 0 n
      (forEach (e :: e2.toList) (fun e s => eventSent (otherDie d) e.channel s) (wordTaken d 1 .uncorrectable s)) :=
  ⟨_, if_pos hReceives⟩

theorem eventsSent_die (d : Die) (es : List EdgeEvent) (s : Node) :
    (forEach es (fun e s => eventSent (otherDie d) e.channel s) s).die d = s.die d :=
  forEach_keeps (fun s => s.die d) (fun _ _ => modChan_otherDie_die ..) es s

theorem wordTaken_uncorrectable (d : Die) (cls : Nat) (s : Node) :
    ((wordTaken d cls .uncorrectable s).die d).clasp.uncorrectable = satAdd 4095 (s.die d).clasp.uncorrectable 1 := by
  have hWorst : worseWord .uncorrectable (perturbed d cls s).2 = .uncorrectable := by
    cases (perturbed d cls s).2 <;> rfl
  rw [wordTaken, hWorst, countWord_uncorrectable, perturbed_die]

/-- Settles O25, clause by clause: an edge while the Clasp is up, one through an outage, a readable EDGE word with one event, an
uncorrectable one, a replay, and the end of a shift. -/
theorem edgesOnChannels : Obligations.EdgesOnChannels := by
  unfold Obligations.EdgesOnChannels
  refine ⟨fun s d c at_ hUp hRole hTimed hLink => ?_, fun s d c at_ hUp hRole hTimed hLink hKept => ?_,
    fun s d check e hReceives hCheck hRead => ?_, fun s d e e2 hReceives => ?_, fun s d c hReplay => ?_,
    fun s d c hShifted hEmpty => ?_⟩
  · refine (gives_iff_of_exec_eq_run (g := doEdgeCapture d c at_) rfl).2 ?_
    rw [doEdgeCapture_stored, doEdgeCapture_eq hUp hRole hTimed]
    obtain ⟨hPin, hRoom, hFull, hOthers⟩ := captureEdge_up_gives hUp hTimed hLink at_
    exact ⟨hPin, hRoom, hFull, fun e _ hOther =>
      ⟨(congrArg Chan.waiting (hOthers e hOther) :), (congrArg Chan.pinIn (hOthers e hOther) :)⟩, rfl⟩
  · refine (gives_iff_of_exec_eq_run (g := doEdgeCapture d c at_) rfl).2 ?_
    rw [doEdgeCapture_stored, doEdgeCapture_eq hUp hRole hTimed]
    obtain ⟨hPin, hWaiting, hRoom, hFull⟩ := captureEdge_outage_gives hUp hLink hKept at_
    exact ⟨hPin, hWaiting, hRoom, hFull, rfl⟩
  · refine (gives_iff_of_exec_eq_run (g := doEdgeWord d check e none) rfl).2 ?_
    rw [doEdgeWord_stored, doEdgeWord_of_readable hReceives hCheck hRead]
    have hDie := eventGone_die d check e s.node
    have hCh := (congrArg DieState.ch hDie).trans (wordTaken_ch ..)
    obtain ⟨hAgree, hDisagree, hSender, hOthers, hFaults⟩ := takeEvent_gives d e (eventGone d check e s.node)
    simp only [eventGone_agrees, chan_of_ch hCh] at hAgree hDisagree hOthers
    exact ⟨hAgree, fun h => (hDisagree h).trans hCh, (congrArg Chan.waiting (congrFun hSender _)).trans (eventGone_waiting ..),
      fun c _ => hOthers c, hFaults.trans ((congrArg DieState.faults hDie).trans (wordTaken_faults ..)), rfl⟩
  · refine (gives_iff_of_exec_eq_run (g := doEdgeWord d .uncorrectable e e2) rfl).2 ?_
    obtain ⟨n, hRun⟩ := doEdgeWord_of_uncorrectable hReceives e e2
    rw [doEdgeWord_stored, hRun, countBy_ch, countBy_clasp, eventsSent_die]
    exact ⟨wordTaken_ch .., wordTaken_uncorrectable .., rfl⟩
  · refine (gives_iff_of_exec_eq_run (g := doEdgeReplay d c) rfl).2 ?_
    rw [doEdgeReplay, if_pos hReplay]
    exact ⟨chan_modChan_same .., fun e _ hOther => chan_modChan_other _ (Ne.symm hOther) .., modChan_otherDie .., modChan_faults ..,
      modChan_stored ..⟩
  · refine (gives_iff_of_exec_eq_run (g := doShiftEnd d c) rfl).2 ?_
    rw [doShiftEnd, if_pos (by simp [hShifted, hEmpty])]
    exact ⟨chan_modChan_same .., fun e _ hOther => chan_modChan_other _ (Ne.symm hOther) .., modChan_faults .., modChan_stored ..⟩

end Sys2Proof.Machine
end

section
/-! PROOFS. REFRESH words, the fail-safe timeout and the own timer of a new output (R182, R206, R210 to R217). -/

namespace Sys2Proof.Machine

open Sys2Proof

/-! The pins settle after a change of the channels (R101, R217). -/

/-- What settling the pins leaves of a node: everything but for the levels kept and the outputs that SAFE_HOLD keeps forced. -/
theorem settlePins_core_eq (d : Die) (g : Node → Node) (s : Node) : (settlePins d g s).core = (g s).core := by
  unfold settlePins
  rw [forEach_core fun c s => keepLevel_core .., modCh_core]
  exact fun x => by split <;> rfl

/-- An output that a timeout, an own timer or the partner wait holds is decided by rows 1 to 4 of R216. -/
theorem pinRow_bounds {s : Node} {d : Die} {c : Nat}
    (h : ((s.die d).ch.timedOut || (s.chan d c).freshExpired || ((s.chan d c).waitExpired && !(s.chan d c).refreshed)) = true) :
    1 ≤ s.pinRow d c ∧ s.pinRow d c ≤ 4 := by
  unfold Node.pinRow
  dsimp only
  rw [if_pos h]
  (repeat' split) <;> decide

/-! A condition that falls. -/

theorem setSrc_false_self {src : Nat} (h : src < 24) (w : Word) : (setSrc w src false).getLsbD src = false := by
  have hBit : (srcBit src).getLsbD src = true := by
    rw [srcBit, BitVec.getLsbD_ofNat, Nat.testBit_two_pow_self]
    simpa using h
  simp [setSrc, hBit]

theorem setCond_false_cond (d : Die) {src : Nat} (hSrc : src < 24) (detail : Nat) (s : Node) :
    ((setCond d src false detail s).die d).faults.cond.getLsbD src = false := by
  have hFallen : ((modFaults d (fun c => { c with cond := setSrc c.cond src false }) s).die d).faults.cond.getLsbD src = false := by
    cases d <;> exact setSrc_false_self hSrc _
  unfold setCond
  dsimp only
  split
  · next hSame => simpa using hSame
  · rw [if_neg (by decide)]
    split
    · exact hFallen
    · have hGauge := congrFun (condFell_gauge d src (modFaults d (fun c => { c with cond := setSrc c.cond src false }) s)) d
      exact (congrArg (fun x => x.2.1.getLsbD src) hGauge).trans hFallen

theorem setCond_false_signal (d : Die) (src detail : Nat) (s : Node) : (setCond d src false detail s).signal = s.signal := by
  unfold setCond condFell
  dsimp only
  (repeat' split) <;> simp_all

/-! The level that a REFRESH gives to a channel. -/

/-- A channel at a REFRESH that names it with a level (R206, R210). -/
def Chan.given (level : Bool) (k : Chan) : Chan :=
  if !k.refreshed then
    { k with
      refreshed := true, fresh := false, freshExpired := false, waitExpired := false
      scheduled := level, shadow := level, replay := 0 }
  else if k.scheduled != level then
    { k with scheduled := level, shadow := !k.shadow, repairs := satAdd 4095 k.repairs 1 }
  else k

/-- A channel of a die after a REFRESH: only an output on whose direction the dies agree takes its level (R203). -/
def Node.afterRefresh (s : Node) (d : Die) (mask levels : Mask) (c : Nat) : Chan :=
  if s.role d c == 2 && mask.getLsbD c then (s.chan d c).given (levels.getLsbD c) else s.chan d c

theorem refreshChannel_chan (d : Die) (mask levels : Mask) (c : Nat) (s : Node) :
    (refreshChannel d mask levels c s).chan d c = s.afterRefresh d mask levels c := by
  unfold refreshChannel Node.afterRefresh Chan.given
  dsimp only
  (repeat' split) <;> simp_all [chan_modChan_same]

theorem refreshChannel_chan_other (d : Die) (mask levels : Mask) {c e : Nat} (h : c ≠ e) (s : Node) :
    (refreshChannel d mask levels c s).chan d e = s.chan d e := by
  unfold refreshChannel
  dsimp only
  (repeat' split) <;> simp [chan_modChan_other _ h]

theorem role_of_core {s t : Node} (h : t.core = s.core) (d : Die) (c : Nat) : t.role d c = s.role d c := by
  cases d with
  | n => exact congrArg (fun x => x.role .n c) h
  | f => exact congrArg (fun x => x.role .f c) h

theorem forEach_refreshChannel_chan_other (d : Die) (mask levels : Mask) {c : Nat} {l : List Nat} (h : c ∉ l) (s : Node) :
    (forEach l (refreshChannel d mask levels) s).chan d c = s.chan d c := by
  induction l generalizing s with
  | nil => rfl
  | cons a l ih =>
    obtain ⟨hHead, hTail⟩ := List.ne_and_not_mem_of_not_mem_cons h
    rw [forEach_cons, ih hTail, refreshChannel_chan_other _ _ _ (Ne.symm hHead)]

/-- Each channel of a list without repetitions takes its level once. -/
theorem forEach_refreshChannel_chan (d : Die) (mask levels : Mask) {c : Nat} {l : List Nat} (hl : l.Nodup) (h : c ∈ l) (s : Node) :
    (forEach l (refreshChannel d mask levels) s).chan d c = s.afterRefresh d mask levels c := by
  induction l generalizing s with
  | nil => cases h
  | cons a l ih =>
    obtain ⟨hFresh, hRest⟩ := List.nodup_cons.1 hl
    rw [forEach_cons]
    rcases List.mem_cons.1 h with hHere | hLater
    · rw [hHere, forEach_refreshChannel_chan_other _ _ _ hFresh, refreshChannel_chan]
    · have hOther : a ≠ c := fun hSame => hFresh (hSame ▸ hLater)
      rw [ih hRest hLater, Node.afterRefresh, Node.afterRefresh, refreshChannel_chan_other _ _ _ hOther,
        role_of_core (refreshChannel_core ..)]

/-! A readable REFRESH. -/

@[simp] theorem modClasp_ch (d e : Die) (g : ClaspHalf → ClaspHalf) (s : Node) : ((modClasp d g s).die e).ch = (s.die e).ch := by
  cases d <;> cases e <;> rfl
@[simp] theorem gotCtrl_ch (d e : Die) (w : Ctrl) (s : Node) : ((gotCtrl d w s).die e).ch = (s.die e).ch := modClasp_ch ..
@[simp] theorem onlyIf_bump_ch (b : Bool) (d e : Die) (blk idx cell : Nat) (s : Node) :
    ((onlyIf b (bump d blk idx cell) s).die e).ch = (s.die e).ch := onlyIf_keeps (fun s => (s.die e).ch) (fun _ => bump_ch ..) b s
@[simp] theorem onlyIf_bump_clasp (b : Bool) (d e : Die) (blk idx cell : Nat) (s : Node) :
    ((onlyIf b (bump d blk idx cell) s).die e).clasp = (s.die e).clasp :=
  onlyIf_keeps (fun s => (s.die e).clasp) (fun _ => bump_clasp ..) b s


/-- The fail-safe timer restarts, a timeout ends, and the channels take their levels (R210, R212). -/
def refreshed (d : Die) (mask levels : Mask) (s : Node) : Node :=
  forEach eight (refreshChannel d mask levels) (modCh d (fun x => { x with timer := true, timedOut := false }) s)

theorem refreshed_core (d : Die) (mask levels : Mask) (s : Node) :
    (refreshed d mask levels s).core = (modCh d (fun x => { x with timer := true, timedOut := false }) s).core :=
  forEach_core (fun _ _ => refreshChannel_core ..) ..

theorem refreshed_chan (d : Die) (mask levels : Mask) {c : Nat} (h : c ∈ eight) (s : Node) :
    (refreshed d mask levels s).chan d c = s.afterRefresh d mask levels c := by
  rw [refreshed, forEach_refreshChannel_chan _ _ _ (by decide) h]
  cases d <;> rfl

/-- A readable REFRESH: its mask and count are noted, the channels take their levels, and source 10 falls. -/
theorem doRefresh_of_readable {s : Node} {d : Die} {check : WordCheck} (hReceives : s.receives d = true)
    (hCheck : check ≠ .uncorrectable) (hRead : s.readable d 2 = true) (count : Nat) (mask levels : Mask) :
    ∃ v, doRefresh d check count mask levels s = setCond d 10 false 0 (settlePins d (refreshed d mask levels) v) ∧
      (v.die d).ch = (s.die d).ch ∧ (v.die d).clasp.farMask = mask ∧ (v.die d).clasp.farCount = some count := by
  have hWord := worseWord_ne_uncorrectable hCheck hRead
  unfold doRefresh
  rw [if_pos hReceives]
  dsimp only
  split
  · next hSpoiled => exact absurd hSpoiled hWord
  all_goals exact ⟨_, rfl, by simp, by simp, by simp⟩

/-- A readable REFRESH, at its receiver (R206, R210, R212). -/
theorem doRefresh_gives {s : Node} {d : Die} {check : WordCheck} (hReceives : s.receives d = true)
    (hCheck : check ≠ .uncorrectable) (hRead : s.readable d 2 = true) (count : Nat) (mask levels : Mask) :
    let t := doRefresh d check count mask levels s
    (t.die d).ch.timer = true ∧ (t.die d).ch.timedOut = false ∧ t.conditionOn d 10 = false ∧
    (t.die d).clasp.farMask = mask ∧ (t.die d).clasp.farCount = some count ∧
    ∀ c ∈ eight, t.signal d c = { s.afterRefresh d mask levels c with kept := none } := by
  obtain ⟨v, hRun, hCh, hMask, hCount⟩ := doRefresh_of_readable hReceives hCheck hRead count mask levels
  have hCore : (doRefresh d check count mask levels s).core =
      (modCh d (fun x => { x with timer := true, timedOut := false }) v).core := by
    rw [hRun, setCond_core, settlePins_core_eq, refreshed_core]
  have hAfter (c : Nat) : v.afterRefresh d mask levels c = s.afterRefresh d mask levels c := by
    rw [Node.afterRefresh, Node.role, hCh, chan_of_ch hCh]
    rfl
  refine ⟨?_, ?_, hRun ▸ setCond_false_cond d (by decide) 0 _, ?_, ?_, fun c hc => ?_⟩
  · cases d with
    | n => exact congrArg (fun x => x.n.ch.timer) hCore
    | f => exact congrArg (fun x => x.f.ch.timer) hCore
  · cases d with
    | n => exact congrArg (fun x => x.n.ch.timedOut) hCore
    | f => exact congrArg (fun x => x.f.ch.timedOut) hCore
  · cases d with
    | n => exact (congrArg (fun x => x.n.clasp.farMask) hCore).trans hMask
    | f => exact (congrArg (fun x => x.f.clasp.farMask) hCore).trans hMask
  · cases d with
    | n => exact (congrArg (fun x => x.n.clasp.farCount) hCore).trans hCount
    | f => exact (congrArg (fun x => x.f.clasp.farCount) hCore).trans hCount
  · rw [hRun, setCond_false_signal, settlePins_signal, Node.signal, refreshed_chan _ _ _ hc, hAfter]

/-- An uncorrectable REFRESH is counted, and no more (R175, R203). -/
theorem doRefresh_of_uncorrectable {s : Node} {d : Die} (hReceives : s.receives d = true) (count : Nat) (mask levels : Mask) :
    doRefresh d .uncorrectable count mask levels s = wordTaken d 2 .uncorrectable s := by
  have hWorst : worseWord .uncorrectable (perturbed d 2 s).2 = .uncorrectable := by
    cases (perturbed d 2 s).2 <;> rfl
  unfold doRefresh wordTaken
  rw [if_pos hReceives]
  dsimp only
  rw [hWorst]

/-- What an output has after a REFRESH that names it (R206, R210). -/
theorem levels_of_given {level : Bool} {k r : Chan} (h : { r with kept := none } = { k.given level with kept := none }) :
    r.scheduled = level ∧ r.refreshed = true ∧
    (k.refreshed = false → r.shadow = level ∧ r.replay = 0) ∧
    (k.refreshed = true → k.scheduled = level → r.shadow = k.shadow) ∧
    (k.refreshed = true → k.scheduled ≠ level → r.shadow = !k.shadow) := by
  have hScheduled : r.scheduled = (k.given level).scheduled := (congrArg Chan.scheduled h :)
  have hRefreshed : r.refreshed = (k.given level).refreshed := (congrArg Chan.refreshed h :)
  have hShadow : r.shadow = (k.given level).shadow := (congrArg Chan.shadow h :)
  have hReplay : r.replay = (k.given level).replay := (congrArg Chan.replay h :)
  rw [hScheduled, hRefreshed, hShadow, hReplay, Chan.given]
  cases hFirst : k.refreshed with
  | false => simp
  | true =>
    by_cases hSame : k.scheduled = level
    · simp [hSame, hFirst]
    · simp [hSame]

/-! CTRL words on offer. -/

theorem mem_insertCtrl_self (w : Ctrl) (l : List Ctrl) : w ∈ insertCtrl w l := by
  induction l with
  | nil => exact List.mem_singleton_self w
  | cons x xs ih =>
    unfold insertCtrl
    split
    · exact List.mem_cons_self
    · exact List.mem_cons_of_mem _ ih

/-- While the Clasp is trained a word that does not come from the hub is on offer (R571). -/
theorem sendCtrl_offered {s : Node} {d : Die} {w : Ctrl} (hTrained : s.trained = true) (hHub : w.fromHub = false) :
    (sendCtrl d w s).offered d w = true := by
  rw [Node.offered, List.contains_iff_mem, sendCtrl, hTrained, hHub]
  simpa using mem_insertCtrl_self w _

theorem sendCtrl_ch (d e : Die) (w : Ctrl) (s : Node) : ((sendCtrl d w s).die e).ch = (s.die e).ch :=
  onlyIf_keeps (fun s => (s.die e).ch) (fun _ => modClasp_ch ..) ..
theorem sendCtrl_otherDie (d : Die) (w : Ctrl) (s : Node) : (sendCtrl d w s).die (otherDie d) = s.die (otherDie d) :=
  onlyIf_keeps (fun s => s.die (otherDie d)) (fun _ => modDie_otherDie ..) ..
theorem sendCtrl_refreshCount (d : Die) (w : Ctrl) (s : Node) :
    ((sendCtrl d w s).die d).clasp.refreshCount = (s.die d).clasp.refreshCount := by
  cases d with
  | n => exact congrArg (fun x => x.n.clasp.refreshCount) (sendCtrl_core .n w s)
  | f => exact congrArg (fun x => x.f.clasp.refreshCount) (sendCtrl_core .f w s)

/-- A die sends REFRESH (R182, R210). -/
theorem doRefreshSend_gives {s : Node} {d : Die} (hReceives : s.receives d = true) (hTrained : s.trained = true) :
    let t := doRefreshSend d s
    t.offered d (.refresh (s.die d).clasp.refreshCount (s.inputs d) (s.inputs d &&& maskOf fun c => (s.chan d c).sent)) = true ∧
    (t.die d).clasp.refreshCount = ((s.die d).clasp.refreshCount + 1) % 8 ∧ (t.die d).ch = (s.die d).ch ∧
    t.die (otherDie d) = s.die (otherDie d) := by
  unfold doRefreshSend
  dsimp only
  rw [if_pos hReceives, sendCtrl_refreshCount, sendCtrl_ch, sendCtrl_otherDie, modClasp_clasp, modClasp_ch]
  refine ⟨sendCtrl_offered ?_ rfl, rfl, rfl, modDie_otherDie ..⟩
  cases d <;> exact hTrained

/-! The fail-safe timeout and the own timer. -/

/-- The fail-safe timeout of a die that has received a REFRESH (R212, R216). -/
theorem doFailsafeTimeout_gives {s : Node} {d : Die} (hUp : s.up d = true) (hTimer : (s.die d).ch.timer = true)
    (hRuns : (s.die d).ch.timedOut = false) : let t := doFailsafeTimeout d s
    (t.die d).ch.timedOut = true ∧ became d 10 true s t := by
  let marked := modCh d (fun x => { x with timedOut := true, timedOutAt := s.time d }) s
  let settled := settlePins d (modCh d fun x => { x with timedOut := true, timedOutAt := s.time d }) s
  have hRun : doFailsafeTimeout d s = setCond d 10 true 0 settled := if_pos (by simp [hUp, hTimer, hRuns])
  have hSettled : settled.core = marked.core := settlePins_core_eq ..
  have hCore : (doFailsafeTimeout d s).core = marked.core := hRun ▸ (setCond_core ..).trans hSettled
  have hCollects : settled.collects d = true := by
    refine collects_of_up ((up_of_core hSettled d).trans ?_)
    cases d <;> exact hUp
  have hGauge : settled.gauge = s.gauge := settleCh_gauge ..
  have hCond : (settled.die d).faults.cond = (s.die d).faults.cond := congrArg (fun g => (g d).2.1) hGauge
  refine ⟨?_, hRun ▸ setCond_cond d (by decide) 0 settled,
    fun _ hFallen => hRun ▸ setCond_status d (by decide) 0 hCollects (hCond ▸ hFallen), fun h => (nomatch h)⟩
  cases d with
  | n => exact congrArg (fun x => x.n.ch.timedOut) hCore
  | f => exact congrArg (fun x => x.f.ch.timedOut) hCore

/-- The own timer of a new output expires (R206, R216). -/
theorem doNewOutputTimerExpiry_gives {s : Node} {d : Die} {c : Fin 8} (hUp : s.up d = true) (hRole : s.role d c = 2)
    (hFresh : (s.chan d c).fresh = true) (hRuns : (s.chan d c).freshExpired = false) : let t := doNewOutputTimerExpiry d c s
    (t.chan d c).freshExpired = true ∧ t.latched d 10 = true := by
  let settled := settlePins d (modChan d c fun k => { k with freshExpired := true }) s
  have hRun : doNewOutputTimerExpiry d c s = detect d 10 0 settled := if_pos (by simp [hUp, hRole, hFresh, hRuns])
  have hUpSettled : settled.up d = true := by
    rwa [up_of_core ((settlePins_core_eq ..).trans (modChan_core ..))]
  refine ⟨?_, hRun ▸ detect_status d (by decide) 0 (collects_of_up hUpSettled)⟩
  have hSignal : (doNewOutputTimerExpiry d c s).signal = (modChan d c (fun k => { k with freshExpired := true }) s).signal := by
    rw [hRun, detect_signal, settlePins_signal]
  refine (congrArg (fun x => (x d c).freshExpired) hSignal).trans ?_
  dsimp only [Node.signal]
  rw [chan_modChan_same]

end Sys2Proof.Machine
end

section
/-! PROOFS. A request that is accepted, and the write of K:2004, which runs to the F-die and back (R86, R91, R219). -/

namespace Sys2Proof.Machine

open Sys2Proof

/-! An accepted request goes through the engine. -/

theorem engine_of_enterFlight {path : Path} {client tag key : Nat} {op : DapOp} {s u : Node} {x : Txn}
    (hEnters : enterFlight path client tag op key s = (u, some x)) (hOp : ∀ seg, op ≠ .writeBlock seg) (now : T48) :
    engine path client tag .good key op now s = beginTxn x .good now u := by
  unfold engine
  cases op with
  | writeBlock seg => exact absurd rfl (hOp seg)
  | read | write | readBlock | selectRead | command => simp only [hEnters]

theorem serve_of_wellFormedAt {rq : Rq} {op : DapOp} {client tag : Nat} {s t : Node}
    (hFormed : s.wellFormedAt rq op = some (client, tag, t)) (hOp : ∀ seg, op ≠ .writeBlock seg) (key : Nat) (now : T48) :
    serve rq key op now s = engine rq.path client tag .good key op now t := by
  have hStray : ∀ (s : Node) path client tag, s.straySegment path client tag op = false := by
    intro s path client tag
    cases op with
    | writeBlock seg => exact absurd rfl (hOp seg)
    | read | write | readBlock | selectRead | command => rfl
  unfold Node.wellFormedAt at hFormed
  split at hFormed
  · cases hFormed
  · next hForm =>
    have hGood : rq.form = .good := by simpa using hForm
    cases hPath : rq.path with
    | nport =>
      simp only [hPath, Option.ite_none_right_eq_some, Option.some.injEq, Prod.mk.injEq, Bool.and_eq_true, beq_iff_eq] at hFormed
      obtain ⟨⟨⟨hOn, hCode⟩, hHere⟩, rfl, rfl, rfl⟩ := hFormed
      unfold serve servePort
      simp only [hPath, hGood, hOn, hCode]
      exact if_pos (by simpa using hHere)
    | can =>
      simp only [hPath, Option.ite_none_right_eq_some, Option.some.injEq, Prod.mk.injEq, Bool.and_eq_true, Bool.not_eq_true'] at hFormed
      obtain ⟨⟨⟨⟨hOn, hNumber⟩, hAccepts⟩, hRules⟩, rfl, rfl, rfl⟩ := hFormed
      unfold serve serveCan
      simp only [hPath, hGood]
      rw [if_neg (by simpa [hOn, hAccepts] using hNumber)]
      simp only [hRules, hStray]
      rfl
    | chain =>
      simp only [hPath, Option.ite_none_right_eq_some, Option.some.injEq, Prod.mk.injEq, Bool.and_eq_true, Bool.not_eq_true'] at hFormed
      obtain ⟨⟨⟨⟨⟨hHub, hTrained⟩, hDest⟩, hNumber⟩, hRules⟩, rfl, rfl, rfl⟩ := hFormed
      unfold serve serveChain
      simp only [hPath, hGood]
      rw [if_neg (by simp_all), if_neg (by simp [hRules]), if_neg (by simp [hStray])]
    | internal => simp [hPath] at hFormed

/-- The node and the transaction with which an accepted request enters flight. -/
theorem arrival_of_accepts {rq : Rq} {key : Nat} {op : DapOp} {s u : Node} {x : Txn} (h : s.accepts rq key op = some (u, x)) :
    ∃ client tag t, s.wellFormedAt rq op = some (client, tag, t) ∧ enterFlight rq.path client tag op key t = (u, some x) ∧
      u.txn x.session x.tag = some x := by
  unfold Node.accepts Node.arrival at h
  simp only [Option.bind_eq_some_iff] at h
  obtain ⟨⟨client, tag, t⟩, ⟨a, hFormed, hOpen⟩, hEnters⟩ := h
  split at hOpen
  · cases hOpen
  · cases hOpen
    refine ⟨client, tag, t, hFormed, ?_⟩
    split at hEnters
    · next v y hFlight =>
      split at hEnters <;> cases hEnters
      next hHeld => exact ⟨hFlight, hHeld⟩
    · cases hEnters

theorem serve_of_accepts {rq : Rq} {key : Nat} {op : DapOp} {s u : Node} {x : Txn} (h : s.accepts rq key op = some (u, x))
    (hOp : ∀ seg, op ≠ .writeBlock seg) (now : T48) : serve rq key op now s = beginTxn x .good now u := by
  obtain ⟨client, tag, t, hFormed, hEnters, -⟩ := arrival_of_accepts h
  rw [serve_of_wellFormedAt hFormed hOp, engine_of_enterFlight hEnters hOp]

/-! Filigree slots keep what they do while their effects are counted (R535, R539). -/

theorem mem_of_mem_tdel {α : Type} {t : Tab α} {i : Nat} {e : Nat × α} (h : e ∈ tdel t i) : e ∈ t := by
  induction t with
  | nil => cases h
  | cons a t ih =>
    unfold tdel at h
    split at h
    · exact List.mem_cons_of_mem _ (ih h)
    · exact (List.mem_cons.1 h).elim (fun hHead => hHead ▸ List.mem_cons_self) fun hTail => List.mem_cons_of_mem _ (ih hTail)

theorem mem_of_mem_tput {α : Type} {t : Tab α} {i : Nat} {a : α} {e : Nat × α} (h : e ∈ tput t i a) : e ∈ t ∨ e.2 = a := by
  induction t with
  | nil => exact .inr (congrArg Prod.snd (List.mem_singleton.1 h))
  | cons b t ih =>
    unfold tput at h
    split at h
    · exact (List.mem_cons.1 h).elim (fun hHead => .inr (congrArg Prod.snd hHead)) .inl
    · split at h
      · exact (List.mem_cons.1 h).elim (fun hHead => .inr (congrArg Prod.snd hHead)) fun hTail => .inl (List.mem_cons_of_mem _ hTail)
      · exact (List.mem_cons.1 h).elim (fun hHead => .inl (hHead ▸ List.mem_cons_self))
          fun hTail => (ih hTail).imp_left (List.mem_cons_of_mem _)

/-- What a key of a table reads is its default, or the value of an entry. -/
theorem tget_eq_or_mem {α : Type} (d : α) (t : Tab α) (i : Nat) : tget d t i = d ∨ ∃ e ∈ t, e.2 = tget d t i := by
  induction t with
  | nil => exact .inl rfl
  | cons a t ih =>
    unfold tget tget?
    split
    · exact .inr ⟨a, List.mem_cons_self, rfl⟩
    · exact ih.imp_right fun ⟨e, he, hValue⟩ => ⟨e, List.mem_cons_of_mem _ he, hValue⟩

/-- A slot's counts do not bring a slot of some code into force. -/
theorem filFind_modFil_of_none {s : Node} {d : Die} {code : Nat} {i : Nat} {g : FilSlot → FilSlot}
    (hg : ∀ x, (g x).onDie = x.onDie ∧ (g x).die = x.die ∧ (g x).code = x.code)
    (h : (s.filFind d code fun _ => true) = none) : ((modFil i g s).filFind d code fun _ => true) = none := by
  simp only [Node.filFind, Option.map_eq_none_iff, List.find?_eq_none, Bool.and_true] at h ⊢
  have hChanged : ∀ x, ¬(x.onDie && x.die == d && x.code == code) = true →
      ¬((g x).onDie && (g x).die == d && (g x).code == code) = true := by
    intro x hx
    obtain ⟨hOn, hDie, hCode⟩ := hg x
    rwa [hOn, hDie, hCode]
  have hRead : ¬((tget {} s.fil.slots i).onDie && (tget {} s.fil.slots i).die == d && (tget {} s.fil.slots i).code == code) = true := by
    rcases tget_eq_or_mem {} s.fil.slots i with hDefault | ⟨e, he, hValue⟩
    · rw [hDefault]
      simp
    · exact hValue ▸ h e he
  intro e he
  rcases (show e ∈ s.fil.slots ∨ e.2 = g (tget {} s.fil.slots i) by
    unfold modFil tmod tset at he
    dsimp only at he
    split at he
    · exact .inl (mem_of_mem_tdel he)
    · exact mem_of_mem_tput he) with hOld | hNew
  · exact h e hOld
  · exact hNew ▸ hChanged _ hRead

theorem filEvery_filFind_of_none {s : Node} {d : Die} {code : Nat} (i : Nat) (h : (s.filFind d code fun _ => true) = none) :
    ((filEvery i s).1.filFind d code fun _ => true) = none := by
  unfold filEvery
  split <;> exact filFind_modFil_of_none (fun _ => ⟨rfl, rfl, rfl⟩) h

theorem forcedBusy_filFind_of_none {s : Node} {d : Die} {code : Nat} (session key : Nat) (h : (s.filFind d code fun _ => true) = none) :
    ((forcedBusy session key s).1.filFind d code fun _ => true) = none := by
  unfold forcedBusy
  split
  · split
    · exact filEvery_filFind_of_none _ h
    · exact h
  · exact h

/-! What entering flight leaves of a node (R87 to R90). -/

/-- A node but for the N-port, the sessions and transactions, and what the N-die counts. -/
def Node.besideFlight (s : Node) : Node :=
  { s with n := { s.n with
      port := {}, loupe := {}, ret := {}, isl := { torn := s.n.isl.torn }, dict := { unsaved := s.n.dict.unsaved } } }

theorem bump_besideFlight (blk idx cell : Nat) (s : Node) : (bump .n blk idx cell s).besideFlight = s.besideFlight := by
  unfold bump countBy
  split <;> rfl
theorem selectFrame_besideFlight (mode3 : Bool) (kind : Nat) (s : Node) : (selectFrame mode3 kind s).besideFlight = s.besideFlight := by
  have hOpen : (endOpenSelect s).besideFlight = s.besideFlight := by
    unfold endOpenSelect
    split
    · exact onlyIf_keeps Node.besideFlight (fun _ => bump_besideFlight ..) ..
    · rfl
  exact (bump_besideFlight ..).trans hOpen
theorem modSession_besideFlight (i : Nat) (g : Session → Session) (s : Node) : (modSession i g s).besideFlight = s.besideFlight := by
  unfold modSession
  split <;> rfl
theorem findSession_besideFlight {path : Path} {client i : Nat} {s t : Node} (h : findSession path client s = some (i, t)) :
    t.besideFlight = s.besideFlight := by
  unfold findSession at h
  split at h
  · cases h
    exact modSession_besideFlight ..
  · split at h <;> cases h
    exact bump_besideFlight ..
theorem forcedBusy_besideFlight (session key : Nat) (s : Node) :
    (forcedBusy session key s).1.besideFlight = { s.besideFlight with fil := (forcedBusy session key s).1.fil } := by
  unfold forcedBusy
  split
  · split
    · unfold filEvery
      split <;> rfl
    · rfl
  · rfl

theorem wellFormedAt_besideFlight {rq : Rq} {op : DapOp} {client tag : Nat} {s t : Node}
    (h : s.wellFormedAt rq op = some (client, tag, t)) : t.besideFlight = s.besideFlight ∧ rq.path ≠ .internal := by
  unfold Node.wellFormedAt at h
  split at h
  · cases h
  · cases hPath : rq.path with
    | nport =>
      simp only [hPath, Option.ite_none_right_eq_some, Option.some.injEq, Prod.mk.injEq] at h
      obtain ⟨-, -, -, rfl⟩ := h
      exact ⟨selectFrame_besideFlight .., nofun⟩
    | can =>
      simp only [hPath, Option.ite_none_right_eq_some, Option.some.injEq, Prod.mk.injEq] at h
      obtain ⟨-, -, -, rfl⟩ := h
      exact ⟨bump_besideFlight .., nofun⟩
    | chain =>
      simp only [hPath, Option.ite_none_right_eq_some, Option.some.injEq, Prod.mk.injEq] at h
      obtain ⟨-, -, -, rfl⟩ := h
      exact ⟨rfl, nofun⟩
    | internal => simp [hPath] at h

/-- How a request enters flight (R90): the transaction, and what the node keeps. -/
structure Entered (path : Path) (key : Nat) (op : DapOp) (s u : Node) (x : Txn) : Prop where
  path : x.path = path
  key : x.key = key
  op : x.op = op
  beside : u.besideFlight = { s.besideFlight with fil := u.fil }
  delays : ∀ d, (s.filFind d filClaspDelay fun _ => true) = none → (u.filFind d filClaspDelay fun _ => true) = none

theorem enterFlight_entered {path : Path} {client tag key : Nat} {op : DapOp} {s u : Node} {x : Txn}
    (h : enterFlight path client tag op key s = (u, some x)) : Entered path key op s u x := by
  unfold enterFlight at h
  split at h
  · cases h
  · split at h
    · cases h
    · next i t hFound =>
      dsimp only at h
      split at h <;> cases h
      have hBeside : t.besideFlight = s.besideFlight := findSession_besideFlight hFound
      have hFil : t.fil = s.fil := (congrArg Node.fil hBeside :)
      refine ⟨rfl, rfl, rfl, ?_, fun d hNone => ?_⟩
      · exact (forcedBusy_besideFlight i key t).trans (by rw [hBeside]; rfl)
      · refine forcedBusy_filFind_of_none i key (s := t) ?_
        rw [Node.filFind, hFil]
        exact hNone

theorem entered_of_accepts {rq : Rq} {key : Nat} {op : DapOp} {s u : Node} {x : Txn} (h : s.accepts rq key op = some (u, x)) :
    Entered rq.path key op s u x ∧ u.txn x.session x.tag = some x ∧ rq.path ≠ .internal := by
  obtain ⟨client, tag, t, hFormed, hEnters, hHeld⟩ := arrival_of_accepts h
  obtain ⟨hBeside, hPath⟩ := wellFormedAt_besideFlight hFormed
  have hFil : t.fil = s.fil := (congrArg Node.fil hBeside :)
  obtain ⟨hOn, hKey, hOp, hNode, hDelays⟩ := enterFlight_entered hEnters
  refine ⟨⟨hOn, hKey, hOp, hBeside ▸ hNode, fun d hNone => hDelays d ?_⟩, hHeld, hPath⟩
  rw [Node.filFind, hFil]
  exact hNone

end Sys2Proof.Machine
end

section
/-! PROOFS. The write of K:2004, which both dies apply: it runs to the F-die and back at once where the line is open (R86, R91, R219). -/

namespace Sys2Proof.Machine

open Sys2Proof

/-! A free line. -/

/-- A DATA frame that a die offers now leaves at once: the Clasp carries words, nothing waits, and there is a credit. -/
structure LineFree (s : Node) (d : Die) : Prop where
  trained : s.trained = true
  linkUp : s.linkUp = true
  whole : s.claspTorn d = false
  waiting : (s.die d).clasp.waiting = []
  delayed : (s.die d).clasp.delayed = []
  credits : (s.die d).clasp.credits ≠ 0
  prompt : (s.filFind d filClaspDelay fun _ => true) = none

theorem lineFree_of_lineOpen {s : Node} (h : s.lineOpen = true) :
    (∀ d, LineFree s d) ∧ s.fUp = true ∧ s.f.inbox = [] := by
  simp only [Node.lineOpen, Bool.and_eq_true, Bool.not_eq_true', List.isEmpty_iff, decide_eq_true_eq, Option.isNone_iff_eq_none] at h
  obtain ⟨⟨⟨⟨⟨⟨⟨⟨⟨⟨⟨⟨⟨hTrained, hUp⟩, hTornN⟩, hTornF⟩, hF⟩, hInbox⟩, hWaitN⟩, hWaitF⟩, hDelayN⟩, hDelayF⟩,
    hCreditN⟩, hCreditF⟩, hPromptN⟩, hPromptF⟩ := h
  refine ⟨fun d => ?_, hF, hInbox⟩
  cases d with
  | n => exact ⟨hTrained, hUp, hTornN, hWaitN, hDelayN, Nat.ne_of_gt hCreditN, hPromptN⟩
  | f => exact ⟨hTrained, hUp, hTornF, hWaitF, hDelayF, Nat.ne_of_gt hCreditF, hPromptF⟩

/-- Entering flight leaves the lines free. -/
theorem Entered.lineFree {path : Path} {key : Nat} {op : DapOp} {s u : Node} {x : Txn} (h : Entered path key op s u x) {d : Die}
    (hFree : LineFree s d) : LineFree u d := by
  have hBeside := h.beside
  have hDie : (u.die d).clasp = (s.die d).clasp := by
    cases d with
    | n => exact (congrArg (fun t => t.n.clasp) hBeside :)
    | f => exact (congrArg (fun t => t.f.clasp) hBeside :)
  have hTorn : u.claspTorn d = s.claspTorn d := by
    cases d with
    | n => exact (congrArg (fun t => t.claspTorn .n) hBeside :)
    | f => exact (congrArg (fun t => t.claspTorn .f) hBeside :)
  exact ⟨(congrArg Node.trained hBeside :) ▸ hFree.trained, (congrArg Node.linkUp hBeside :) ▸ hFree.linkUp, hTorn ▸ hFree.whole,
    hDie ▸ hFree.waiting, hDie ▸ hFree.delayed, hDie ▸ hFree.credits, h.delays d hFree.prompt⟩

theorem nextFrame_singleton (sinceLoupe seq : Nat) (m : Msg) : nextFrame sinceLoupe [⟨0, seq, m⟩] = some ⟨0, seq, m⟩ := by
  simp [nextFrame]

@[simp] theorem modClasp_claspTorn (d e : Die) (g : ClaspHalf → ClaspHalf) (s : Node) : (modClasp d g s).claspTorn e = s.claspTorn e := by
  cases d <;> cases e <;> rfl
@[simp] theorem bump_claspTorn (d e : Die) (blk idx cell : Nat) (s : Node) : (bump d blk idx cell s).claspTorn e = s.claspTorn e := by
  unfold bump countBy
  split <;> cases d <;> cases e <;> rfl
@[simp] theorem modClasp_fil (d : Die) (g : ClaspHalf → ClaspHalf) (s : Node) : (modClasp d g s).fil = s.fil := modDie_fil ..
@[simp] theorem bump_fil (d : Die) (blk idx cell : Nat) (s : Node) : (bump d blk idx cell s).fil = s.fil := by
  unfold bump countBy
  split <;> exact modDie_fil ..

/-- A Clasp half with one frame that waits. -/
def ClaspHalf.holding (m : Msg) (x : ClaspHalf) : ClaspHalf := { x with waiting := [⟨0, 0, m⟩] }

/-- A frame on a free line is sent at once (R184). -/
theorem sendData_eq_of_lineFree {s : Node} {d : Die} (h : LineFree s d) (m : Msg) : ∃ g : ClaspHalf → ClaspHalf,
    sendData d 0 m s = modClasp d g (bump d blkClasp 8 0 (modClasp d (ClaspHalf.holding m) s)) ∧
      ∀ x, x.waiting = [⟨0, 0, m⟩] → (g x).waiting = [] ∧ (g x).delayed = x.delayed := by
  obtain ⟨hTrained, hUp, hWhole, hWaiting, hDelayed, hCredits, hPrompt⟩ := h
  have hQueued : modClasp d (fun x => { x with waiting := x.waiting ++ [⟨0, 0, m⟩] }) s = modClasp d (ClaspHalf.holding m) s := by
    cases d with
    | n => simp only [modClasp, modDie, ClaspHalf.holding, show s.n.clasp.waiting = [] from hWaiting, List.nil_append]
    | f => simp only [modClasp, modDie, ClaspHalf.holding, show s.f.clasp.waiting = [] from hWaiting, List.nil_append]
  have hCarries : (modClasp d (ClaspHalf.holding m) s).linkUp = true := by
    cases d <;> exact hUp
  unfold sendData
  rw [if_pos hTrained, hPrompt]
  dsimp only
  rw [beq_eq_false_iff_ne.2 hCredits, onlyIf_false, hQueued, pumpData, if_pos (by simp [hCarries, hWhole]), modClasp_clasp]
  dsimp only [ClaspHalf.holding, List.foldl_cons, List.foldl_nil]
  unfold sendFrame
  rw [modClasp_clasp]
  dsimp only
  have hNext : nextFrame (ClaspHalf.holding m (s.die d).clasp).sinceLoupe (ClaspHalf.holding m (s.die d).clasp).waiting =
      some ⟨0, 0, m⟩ := nextFrame_singleton ..
  rw [if_neg (show (ClaspHalf.holding m (s.die d).clasp).credits ≠ 0 from hCredits), hNext]
  refine ⟨_, rfl, fun x hx => ⟨?_, rfl⟩⟩
  simp [hx]

/-- What a frame on a free line leaves of the node. -/
theorem sendData_of_lineFree {s : Node} {d : Die} (h : LineFree s d) (m : Msg) : let t := sendData d 0 m s
    (t.die d).clasp.waiting = [] ∧ (t.die d).clasp.delayed = [] ∧ t.fil = s.fil ∧ ∀ e, t.claspTorn e = s.claspTorn e := by
  obtain ⟨g, hRun, hSent⟩ := sendData_eq_of_lineFree h m
  obtain ⟨hWaiting, hDelayed⟩ := hSent (ClaspHalf.holding m (s.die d).clasp) rfl
  rw [hRun]
  refine ⟨?_, ?_, by simp, fun e => by simp⟩
  · rwa [modClasp_clasp, bump_clasp, modClasp_clasp]
  · rw [modClasp_clasp, bump_clasp, modClasp_clasp, hDelayed]
    exact h.delayed

/-- A message that a die has nothing waiting of has been sent. -/
theorem unsent_eq_false {s : Node} {d : Die} (hWaiting : (s.die d).clasp.waiting = []) (hDelayed : (s.die d).clasp.delayed = [])
    (m : Msg) : s.unsent d m = false := by
  rw [Node.unsent, hWaiting, hDelayed]
  rfl

/-! Transactions in flight. -/

theorem modTxn_txn {s : Node} {session tag : Nat} {g : Txn → Txn} (hg : ∀ t, (g t).session = t.session ∧ (g t).tag = t.tag) :
    (modTxn session tag g s).txn session tag = (s.txn session tag).map g := by
  have hSame : (fun t : Txn => (if t.session == session && t.tag == tag then g t else t).session == session &&
      (if t.session == session && t.tag == tag then g t else t).tag == tag) = fun t => t.session == session && t.tag == tag := by
    funext t
    split <;> simp_all
  simp only [modTxn, modDict_eq, modN_n, Node.txn, List.find?_map, Function.comp_def]
  rw [hSame]
  cases hFound : s.n.dict.txns.find? fun t => t.session == session && t.tag == tag with
  | none => rfl
  | some t =>
    have hNamed := List.find?_some hFound
    simp only [Option.map_some, hNamed, if_true]

theorem txn_of_dict {s t : Node} (h : t.n.dict = s.n.dict) (session tag : Nat) : t.txn session tag = s.txn session tag := by
  rw [Node.txn, h]
  rfl

theorem cancelRun_dict (t : Txn) (status : Nat) (s : Node) : (cancelRun t status s).n.dict = s.n.dict := by
  unfold cancelRun
  split <;> rfl

/-- The response of a transaction that came on a path leaves it in flight while the Clasp is trained (R90). -/
theorem respond_dict {t : Txn} {s : Node} (hPath : t.path ≠ .internal) (hTrained : s.trained = true) (status : Nat) (data : List Byte) :
    (respond t status data s).n.dict = s.n.dict := by
  unfold respond
  split
  · rfl
  · rfl
  · rw [if_pos hTrained]
    exact forEach_keeps (fun s => s.n.dict) (fun _ _ => sendData_n_dict ..) ..
  · next hOwn => exact absurd hOwn hPath

theorem finish_txn {s : Node} {session tag : Nat} {t : Txn} (hFlight : s.txn session tag = some t) (hPath : t.path ≠ .internal)
    (hTrained : s.trained = true) (status : Nat) (data : List Byte) :
    (finish session tag status data s).txn session tag = some { t with stage := .done, status := status, data := data } := by
  have hDone : (modTxn session tag (fun t => { t with stage := .done, status := status, data := data }) s).txn session tag =
      some { t with stage := .done, status := status, data := data } := by
    rw [modTxn_txn, hFlight]
    · rfl
    · exact fun _ => ⟨rfl, rfl⟩
  unfold finish
  rw [hFlight]
  dsimp only
  refine (txn_of_dict (respond_dict hPath ?_ status data) session tag).trans
    ((txn_of_dict (onlyIf_keeps (fun s => s.n.dict) (fun _ => bump_n_dict ..) ..) session tag).trans hDone)
  exact (onlyIf_keeps Node.trained (fun _ => bump_trained ..) ..).trans hTrained

/-! What an answer leaves of the settings: the values and BLOBs, the timeouts in force, and the parts not saved. -/

/-- What a write of K:2004 sets, and what is stored. -/
def Node.timeouts (s : Node) : Nat × Nat × BitVec 4 × Tab Nat × Tab (List Byte) × Ledger × Ledger :=
  (s.n.ch.timeout, s.f.ch.timeout, s.n.dict.unsaved, s.stored)

theorem timeouts_of_core {s t : Node} (hCore : t.core = s.core) : t.timeouts = s.timeouts := by
  have hTimeouts : t.core.timeouts = s.core.timeouts := congrArg Node.timeouts hCore
  exact hTimeouts

theorem modTxn_timeouts (session tag : Nat) (g : Txn → Txn) (s : Node) : (modTxn session tag g s).timeouts = s.timeouts := rfl
theorem waitsNoMore_timeouts (session tag : Nat) (s : Node) : (waitsNoMore session tag s).timeouts = s.timeouts := rfl
theorem modDict_timeouts {g : Dict → Dict} (h : ∀ x, (g x).unsaved = x.unsaved) (s : Node) : (modDict g s).timeouts = s.timeouts :=
  congrArg (fun unsaved => (s.n.ch.timeout, s.f.ch.timeout, unsaved, s.stored)) (h s.n.dict)
theorem afterFlight_timeouts (t : Txn) (s : Node) : (afterFlight t s).timeouts = s.timeouts := by
  have hReset := modDict_timeouts (g := fun d => if t.key = 0xF002 ∧ t.status = stOk then { d with resetDue := true } else d)
    (fun x => by split <;> rfl) s
  unfold afterFlight
  dsimp only
  generalize modDict (fun d => if t.key = 0xF002 ∧ t.status = stOk then { d with resetDue := true } else d) s = u at hReset ⊢
  split
  · split
    · exact (modDict_timeouts (fun _ => rfl) u).trans hReset
    · exact hReset
  · exact hReset
theorem leaveFlight_timeouts (session tag : Nat) (s : Node) : (leaveFlight session tag s).timeouts = s.timeouts := by
  unfold leaveFlight
  split
  · rfl
  · exact (afterFlight_timeouts ..).trans (modDict_timeouts (fun _ => rfl) _)

theorem respond_timeouts (t : Txn) (status : Nat) (data : List Byte) (s : Node) : (respond t status data s).timeouts = s.timeouts := by
  unfold respond
  split
  · rfl
  · rfl
  · split
    · exact timeouts_of_core (forEach_core (fun _ _ => chainFromN_core ..) ..)
    · exact leaveFlight_timeouts ..
  · exact (timeouts_of_core (endKeyStep_core ..)).trans (leaveFlight_timeouts ..)

theorem finish_timeouts (session tag status : Nat) (data : List Byte) (s : Node) :
    (finish session tag status data s).timeouts = s.timeouts := by
  unfold finish
  split
  · rfl
  · rw [respond_timeouts, waitsNoMore_timeouts, onlyIf_keeps Node.timeouts fun _ => timeouts_of_core (bump_core ..), modTxn_timeouts]

theorem cancelRun_timeouts (t : Txn) (status : Nat) (s : Node) : (cancelRun t status s).timeouts = s.timeouts := by
  unfold cancelRun
  split <;> rfl

/-! K:2004 on its home die and on the F-die. -/

/-- The row of K:2004 (R219). -/
def timeoutRow : KeyRow := kw .n 0x2004 .u8 .rws .d 4 2 64

theorem keyRow_timeout : keyRow 0x2004 = some timeoutRow := rfl

/-- A write of K:2004 under a tag, with a value. -/
structure WritesTimeout (x : Txn) (n : Nat) : Prop where
  key : x.key = 0x2004
  op : x.op = .write (.word n)
  low : 2 ≤ n
  high : n ≤ 64

/-- The working value and the timeouts of both dies are written (R219), and the parts that hold the key are flagged (R108). -/
def timeoutWritten (n : Nat) (s : Node) : Node := markUnsaved 0x2004 (applyWord 0x2004 0 n s)

theorem valNumber_word_of_le {n : Nat} (h : n ≤ 64) : valNumber (.word n) = n := Nat.mod_eq_of_lt (by omega)

theorem WritesTimeout.wordRefusal {x : Txn} {n : Nat} (h : WritesTimeout x n) {s : Node} (hSetup : s.n.dev = .setup) :
    s.wordRefusal x timeoutRow n = none := by
  have hState : stateRefuses (s.devOf timeoutRow.home) timeoutRow x.key x.op = false := by
    rw [show s.devOf timeoutRow.home = .setup from hSetup, stateRefuses, Bool.and_false]
  have hOwn : ∀ sel, s.ownState sel 0x2004 n = false := fun sel => by simp [Node.ownState, inRun]
  have hRange : ∀ sel, s.rangeRefuses timeoutRow sel 0x2004 n = false := fun sel => by
    simp [Node.rangeRefuses, Node.ownRange, inRun, within, timeoutRow, kw, h.low, h.high]
  unfold Node.wordRefusal
  dsimp only
  rw [hState, h.key, hOwn, hRange]
  simp [Node.windowLocked, timeoutRow, kw]

theorem WritesTimeout.executeKey {x : Txn} {n : Nat} (h : WritesTimeout x n) {s : Node} (hSetup : s.n.dev = .setup) (waits : Bool)
    (now : T48) : executeKey x timeoutRow waits now s = endsWith stOk (timeoutWritten n s) := by
  unfold Machine.executeKey executeWord
  rw [h.op]
  dsimp only
  rw [valNumber_word_of_le h.high, h.wordRefusal hSetup]
  dsimp only
  rw [if_neg (by decide), h.key, if_neg (by decide)]
  rfl

/-- The transaction crosses: nothing refuses it on the N-die (R91, R219). -/
theorem WritesTimeout.beginTxn {x : Txn} {n : Nat} (h : WritesTimeout x n) {s : Node} (hSetup : s.n.dev = .setup)
    (hTrained : s.trained = true) (now : T48) : beginTxn x .good now s = toFar x timeoutRow s := by
  have hCheck : s.keyCheck x.session x.key x.op .good = .ok timeoutRow := by
    have hAccess : s.accessRefuses x.session 0x2004 timeoutRow (.write (.word n)) = false := by
      simp [Node.accessRefuses, timeoutRow, kw, sessionValue]
    unfold Node.keyCheck
    rw [h.key, h.op, keyRow_timeout]
    dsimp only
    rw [hAccess]
    rfl
  have hHere : s.refusedHere x timeoutRow = none := by
    unfold Node.refusedHere
    rw [if_neg (by decide), h.op]
    dsimp only
    rw [valNumber_word_of_le h.high, h.wordRefusal hSetup]
  have hCrosses : crosses x timeoutRow = true := by
    rw [crosses, h.op, h.key]
    rfl
  unfold Machine.beginTxn
  rw [hCheck]
  dsimp only
  unfold serveKey
  rw [h.op]
  dsimp only
  rw [if_neg (by rw [h.key]; decide), dispatchTxn, if_pos hCrosses, hHere]
  exact if_pos hTrained

/-- The F-die holds the transaction, and the N-die has marked it as gone there (R86). -/
def inboxed (x : Txn) (s : Node) : Node :=
  modF (fun f => { f with inbox := f.inbox ++ [(x, true)] }) (modTxn x.session x.tag (fun x => { x with stage := .toF }) s)

theorem toFar_timeoutRow (x : Txn) (s : Node) : toFar x timeoutRow s = sendData .n 0 (.request x.session x.tag) (inboxed x s) := by
  unfold toFar
  rw [if_neg (by simp [timeoutRow, kw])]
  rfl

theorem LineFree.inboxed {s : Node} {d : Die} (h : LineFree s d) (x : Txn) : LineFree (inboxed x s) d := by
  obtain ⟨hTrained, hUp, hWhole, hWaiting, hDelayed, hCredits, hPrompt⟩ := h
  cases d <;> exact ⟨hTrained, hUp, hWhole, hWaiting, hDelayed, hCredits, hPrompt⟩

/-- The transaction on the F-die: taken from the inbox and executed. -/
def executedThere (n : Nat) (s : Node) : Node := timeoutWritten n (modF (fun f => { f with inbox := [] }) s)

theorem WritesTimeout.executeInbox {x : Txn} {n : Nat} (h : WritesTimeout x n) {s : Node} (hInbox : s.f.inbox = [(x, true)])
    (hSetup : s.n.dev = .setup) (hTrained : s.trained = true) (now : T48) :
    executeInbox now s = fAnswer x.session x.tag stOk [] (executedThere n s) := by
  unfold Machine.executeInbox
  rw [hInbox]
  dsimp only
  rw [h.key, keyRow_timeout]
  dsimp only
  rw [if_neg (by decide)]
  have hRun := h.executeKey (s := modF (fun f => { f with inbox := [] }) s) hSetup true now
  rw [hRun]
  exact if_pos hTrained

end Sys2Proof.Machine
end

section
/-! PROOFS. A write of K:2004 over an open line, from its request to its answer, and the REFRESH obligation (R86, R91, R210 to R219). -/

namespace Sys2Proof.Machine

open Sys2Proof

/-! What the write sets. -/

theorem timeoutWritten_eq (n : Nat) (s : Node) : timeoutWritten n s = modDict (fun d => { d with unsaved := d.unsaved ||| 12 })
    (modCh .f (fun x => { x with timeout := n }) (modCh .n (fun x => { x with timeout := n }) (setVal 0x2004 0 n s))) := by
  have hParts : partsOf 0x2004 = 12 := by decide
  rw [timeoutWritten, markUnsaved, hParts]
  unfold applyWord
  simp

/-- The timeouts in force, the parts not saved, and what is stored, after a write of K:2004 with a value. -/
def Node.timeoutsSetTo (n : Nat) (s : Node) : Nat × Nat × BitVec 4 × Tab Nat × Tab (List Byte) × Ledger × Ledger :=
  (n, n, s.n.dict.unsaved ||| 12, (setVal 0x2004 0 n s).stored)

theorem timeoutsSetTo_congr {s t : Node} (hUnsaved : t.n.dict.unsaved = s.n.dict.unsaved) (hStored : t.stored = s.stored) (n : Nat) :
    t.timeoutsSetTo n = s.timeoutsSetTo n := by
  simp only [Node.stored, Prod.mk.injEq] at hStored
  obtain ⟨hVals, hBlobs, hLedgerN, hLedgerF⟩ := hStored
  simp only [Node.timeoutsSetTo, Node.stored, setVal, hUnsaved, hVals, hBlobs, hLedgerN, hLedgerF]

theorem executedThere_timeouts (n : Nat) (s : Node) : (executedThere n s).timeouts = s.timeoutsSetTo n := by
  rw [executedThere, timeoutWritten_eq]
  rfl

theorem executedThere_txn (n session tag : Nat) (s : Node) : (executedThere n s).txn session tag = s.txn session tag := by
  rw [executedThere, timeoutWritten_eq]
  rfl

theorem LineFree.executedThere {s : Node} {d : Die} (h : LineFree s d) (n : Nat) : LineFree (executedThere n s) d := by
  obtain ⟨hTrained, hUp, hWhole, hWaiting, hDelayed, hCredits, hPrompt⟩ := h
  rw [Machine.executedThere, timeoutWritten_eq]
  cases d <;> exact ⟨hTrained, hUp, hWhole, hWaiting, hDelayed, hCredits, hPrompt⟩

/-! The transaction on its way to the F-die. -/

/-- The transaction has gone to the F-die, and the frame that says so has left (R86, R184). -/
def crossed (x : Txn) (s : Node) : Node := sendData .n 0 (.request x.session x.tag) (inboxed x s)

theorem crossed_inbox {x : Txn} {s : Node} (h : s.f.inbox = []) : (crossed x s).f.inbox = [(x, true)] := by
  rw [crossed, sendData_f_inbox]
  exact congrArg (· ++ [(x, true)]) h

theorem crossed_txn {x : Txn} {s : Node} (h : s.txn x.session x.tag = some x) :
    (crossed x s).txn x.session x.tag = some { x with stage := .toF } := by
  have hGone : (inboxed x s).txn x.session x.tag = (s.txn x.session x.tag).map fun t => { t with stage := .toF } :=
    modTxn_txn fun _ => ⟨rfl, rfl⟩
  rw [crossed, txn_of_dict (sendData_n_dict ..), hGone, h]
  rfl

theorem crossed_timeoutsSetTo (x : Txn) (s : Node) (n : Nat) : (crossed x s).timeoutsSetTo n = s.timeoutsSetTo n :=
  timeoutsSetTo_congr (congrArg Dict.unsaved (sendData_n_dict ..) :) (sendData_stored ..) n

theorem crossed_dev (x : Txn) (s : Node) : (crossed x s).n.dev = s.n.dev := congrArg Prod.fst (sendData_standing ..)

theorem LineFree.crossed {s : Node} (hN : LineFree s .n) (hF : LineFree s .f) (x : Txn) : LineFree (crossed x s) .f := by
  obtain ⟨-, -, hFil, hTorn⟩ := sendData_of_lineFree (hN.inboxed x) (.request x.session x.tag)
  obtain ⟨hTrained, hUp, hWhole, hWaiting, hDelayed, hCredits, hPrompt⟩ := hF.inboxed x
  have hClasp : ((Machine.crossed x s).die .f).clasp = ((Machine.inboxed x s).die .f).clasp :=
    congrArg (fun f : FDie => f.clasp) (sendData_f ..)
  refine ⟨(sendData_trained ..).trans hTrained, (sendData_linkUp ..).trans hUp, (hTorn .f).trans hWhole,
    hClasp ▸ hWaiting, hClasp ▸ hDelayed, hClasp ▸ hCredits, ?_⟩
  rw [Node.filFind, Machine.crossed, hFil]
  exact hPrompt

/-- The F-die takes the transaction at once, executes it, and its result comes back at once (R86). -/
theorem runFar_crossed {x : Txn} {n : Nat} {s : Node} (h : WritesTimeout x n) (hN : LineFree s .n) (hF : LineFree s .f)
    (hUp : s.fUp = true) (hInbox : s.f.inbox = []) (hSetup : s.n.dev = .setup) (now : T48) :
    runFar now (crossed x s) =
      takeResult x.session x.tag (fAnswer x.session x.tag stOk [] (executedThere n (crossed x s))) := by
  obtain ⟨hWaiting, hDelayed, -, hTorn⟩ := sendData_of_lineFree (hN.inboxed x) (.request x.session x.tag)
  have hFree := hN.crossed hF x
  have hWhole : (crossed x s).claspTorn .n = false := (hTorn .n).trans hN.whole
  have hReady : (crossed x s).fUp = true := (sendData_fUp ..).trans hUp
  have hSent : (crossed x s).unsent .n (.request x.session x.tag) = false := unsent_eq_false hWaiting hDelayed _
  have hThere := hFree.executedThere n
  have hBack : (fAnswer x.session x.tag stOk [] (executedThere n (crossed x s))).unsent .f (.result x.session x.tag) = false := by
    have hFlown : LineFree (modTxn x.session x.tag (fun t => { t with stage := .fromF, status := stOk, data := [] })
        (executedThere n (crossed x s))) .f := by
      obtain ⟨hTrained, hLink, hTornF, hWait, hDelay, hCredits, hPrompt⟩ := hThere
      exact ⟨hTrained, hLink, hTornF, hWait, hDelay, hCredits, hPrompt⟩
    obtain ⟨hGone, hNone, -⟩ := sendData_of_lineFree hFlown (.result x.session x.tag)
    exact unsent_eq_false hGone hNone _
  unfold runFar
  rw [crossed_inbox hInbox]
  dsimp only
  rw [if_pos (by simp [hFree.linkUp, hWhole, hFree.whole, hReady, hSent]),
    h.executeInbox (crossed_inbox hInbox) ((crossed_dev ..).trans hSetup) hFree.trained now, if_neg (by simp [hBack])]

/-! Its answer. -/

/-- The result of the F-die, as it reaches the N-die. -/
theorem takeResult_fAnswer {s : Node} {session tag : Nat} {t : Txn} (hFlight : s.txn session tag = some t) (status : Nat)
    (data : List Byte) : let r := { t with stage := .fromF, status := status, data := data }
    (fAnswer session tag status data s).txn session tag = some r ∧
    takeResult session tag (fAnswer session tag status data s) =
      finish session tag status data (cancelRun r status (fAnswer session tag status data s)) := by
  have hBack : (fAnswer session tag status data s).txn session tag = some { t with stage := .fromF, status := status, data := data } := by
    rw [fAnswer, txn_of_dict (sendData_n_dict ..), modTxn_txn, hFlight]
    · rfl
    · exact fun _ => ⟨rfl, rfl⟩
  refine ⟨hBack, ?_⟩
  rw [takeResult, hBack]
  rfl

theorem fAnswer_trained (session tag status : Nat) (data : List Byte) (s : Node) :
    (fAnswer session tag status data s).trained = s.trained := sendData_trained ..

theorem fAnswer_timeouts (session tag status : Nat) (data : List Byte) (s : Node) :
    (fAnswer session tag status data s).timeouts = s.timeouts :=
  (timeouts_of_core (sendData_core ..)).trans (modTxn_timeouts ..)

theorem takeResult_fAnswer_gives {s : Node} {x t : Txn} (hFlight : s.txn x.session x.tag = some t) (hPath : t.path ≠ .internal)
    (hTrained : s.trained = true) (status : Nat) (data : List Byte) :
    let r := takeResult x.session x.tag (fAnswer x.session x.tag status data s)
    r.answer x = some (status, data) ∧ r.timeouts = s.timeouts := by
  obtain ⟨hBack, hRun⟩ := takeResult_fAnswer hFlight status data
  dsimp only
  rw [hRun]
  constructor
  · rw [Node.answer, finish_txn ((txn_of_dict (cancelRun_dict ..) ..).trans hBack) hPath]
    · rfl
    · have hCore := cancelRun_core { t with stage := .fromF, status := status, data := data } status
        (fAnswer x.session x.tag status data s)
      exact (congrArg Node.trained hCore :).trans ((fAnswer_trained ..).trans hTrained)
  · rw [finish_timeouts, cancelRun_timeouts, fAnswer_timeouts]

/-- A write of K:2004 over an open line (R219). -/
theorem doFailsafeTimeoutWrite_gives {s u : Node} {rq : Rq} {n : Nat} {x : Txn}
    (hAccepts : s.accepts rq 0x2004 (.write (.word n)) = some (u, x)) (hOpen : s.lineOpen = true) (hSetup : s.n.dev = .setup)
    (hLow : 2 ≤ n) (hHigh : n ≤ 64) : let t := doFailsafeTimeoutWrite rq (.word n) s
    t.answer x = some (0x00, []) ∧
    t.timeouts = s.timeoutsSetTo n := by
  obtain ⟨hEntered, hHeld, hPath⟩ := entered_of_accepts hAccepts
  obtain ⟨hFree, hUp, hInbox⟩ := lineFree_of_lineOpen hOpen
  have hN := hEntered.lineFree (hFree .n)
  have hF := hEntered.lineFree (hFree .f)
  have hBeside := hEntered.beside
  have hInboxThere : u.f.inbox = [] := (congrArg (fun t => t.f.inbox) hBeside :).trans hInbox
  have hReady : u.fUp = true := (congrArg Node.fUp hBeside :).trans hUp
  have hDev : u.n.dev = .setup := (congrArg (fun t => t.n.dev) hBeside :).trans hSetup
  have hWrites : WritesTimeout x n := ⟨hEntered.key, hEntered.op, hLow, hHigh⟩
  have hRun : doFailsafeTimeoutWrite rq (.word n) s =
      takeResult x.session x.tag (fAnswer x.session x.tag stOk [] (executedThere n (crossed x u))) := by
    rw [doFailsafeTimeoutWrite, serveNow, serveAt, hInbox, serve_of_accepts hAccepts nofun, hWrites.beginTxn hDev hN.trained,
      toFar_timeoutRow]
    exact runFar_crossed hWrites hN hF hReady hInboxThere hDev _
  have hThere : (executedThere n (crossed x u)).txn x.session x.tag = some { x with stage := .toF } :=
    (executedThere_txn ..).trans (crossed_txn hHeld)
  have hNamed : { x with stage := .toF }.path ≠ .internal := hEntered.path ▸ hPath
  obtain ⟨hAnswer, hSettings⟩ := takeResult_fAnswer_gives hThere hNamed ((hN.crossed hF x).executedThere n).trained stOk []
  have hSame : u.timeoutsSetTo n = s.timeoutsSetTo n :=
    timeoutsSetTo_congr (congrArg (fun t => t.n.dict.unsaved) hBeside :) (congrArg Node.stored hBeside :) n
  dsimp only
  rw [hRun]
  exact ⟨hAnswer, hSettings.trans ((executedThere_timeouts ..).trans ((crossed_timeoutsSetTo ..).trans hSame))⟩

/-- Settles O26, clause by clause: a readable REFRESH, an uncorrectable one, one that a die sends, the fail-safe timeout, the own
timer of a new output, and the write of K:2004 over an open line. -/
theorem refreshAndFailSafe : Obligations.RefreshAndFailSafe := by
  unfold Obligations.RefreshAndFailSafe
  refine ⟨fun s d check count mask levels hReceives hCheck hRead => ?_, fun s d count mask levels hReceives => ?_,
    fun s d hReceives hTrained => ?_, fun s d hUp hTimer hRuns => ?_, fun s d c hUp hRole hFresh hRuns => ?_,
    fun s rq n u x hAccepts hOpen hSetup hLow hHigh => ?_⟩
  · refine (gives_iff_of_exec_eq_run (g := doRefresh d check count mask levels) rfl).2 ?_
    obtain ⟨hTimer, hTimedOut, hCond, hMask, hCount, hSignal⟩ := doRefresh_gives hReceives hCheck hRead count mask levels
    refine ⟨hTimer, hTimedOut, hCond, hMask, hCount, fun c hc hRole hNamed => ?_, fun c hc hUnnamed => ?_, doRefresh_stored ..⟩
    · have hGiven : s.node.afterRefresh d mask levels c = (s.node.chan d c).given (levels.getLsbD c) := by
        simp [Node.afterRefresh, hRole, hNamed]
      have hChan := hSignal c hc
      rw [hGiven] at hChan
      exact levels_of_given hChan
    · have hKept : s.node.afterRefresh d mask levels c = s.node.chan d c := by
        rcases hUnnamed with hRole | hNamed
        · simp [Node.afterRefresh, hRole]
        · simp [Node.afterRefresh, hNamed]
      have hChan := hSignal c hc
      rw [hKept] at hChan
      exact ⟨(congrArg Chan.shadow hChan :), (congrArg Chan.scheduled hChan :)⟩
  · refine (gives_iff_of_exec_eq_run (g := doRefresh d .uncorrectable count mask levels) rfl).2 ?_
    rw [doRefresh_stored, doRefresh_of_uncorrectable hReceives]
    exact ⟨wordTaken_ch .., wordTaken_faults .., rfl⟩
  · refine (gives_iff_of_exec_eq_run (g := doRefreshSend d) rfl).2 ?_
    obtain ⟨hOffered, hCount, hCh, hOther⟩ := doRefreshSend_gives hReceives hTrained
    exact ⟨hOffered, hCount, hCh, hOther, doRefreshSend_stored ..⟩
  · refine (gives_iff_of_exec_eq_run (g := doFailsafeTimeout d) rfl).2 ?_
    obtain ⟨hTimedOut, hBecame⟩ := doFailsafeTimeout_gives hUp hTimer hRuns
    exact ⟨hTimedOut, hBecame, fun c _ _ => pinRow_bounds (by simp [hTimedOut]), doFailsafeTimeout_stored ..⟩
  · refine (gives_iff_of_exec_eq_run (g := doNewOutputTimerExpiry d c) rfl).2 ?_
    obtain ⟨hExpired, hLatched⟩ := doNewOutputTimerExpiry_gives hUp hRole hFresh hRuns
    have hRow := pinRow_bounds (s := doNewOutputTimerExpiry d c s.node) (d := d) (c := c) (by simp [hExpired])
    exact ⟨hExpired, hLatched, hRow.1, hRow.2, doNewOutputTimerExpiry_stored ..⟩
  · refine (gives_iff_of_exec_eq_run (g := doFailsafeTimeoutWrite rq (.word n)) rfl).2 ?_
    obtain ⟨hAnswer, hSettings⟩ := doFailsafeTimeoutWrite_gives hAccepts hOpen hSetup hLow hHigh
    simp only [Node.timeouts, Node.timeoutsSetTo, Node.stored, Prod.mk.injEq] at hSettings
    obtain ⟨hTimeoutN, hTimeoutF, hUnsaved, hVals, hBlobs, hLedgerN, hLedgerF⟩ := hSettings
    refine ⟨hAnswer, ?_, hTimeoutN, hTimeoutF, hBlobs, hLedgerN, hLedgerF, hUnsaved⟩
    rw [Node.val, Node.valAt, hVals]
    exact tget_tset_same ..

end Sys2Proof.Machine
end

section
/-! PROOFS. A pair reset that ends with its crossing torn (R238 to R242). The pair reset of a bead port's crossing stops a train, and
judges the positions still open PORT_OFF (R430). Where one of them has failed K:5019 trains in a row, that raises the source of the port
(R429), whose BLOCK_RESET resets the island and tears the crossing that have just been released together. -/

namespace Sys2Proof.Machine

open Sys2Proof

/-! A run that ends so. -/

/-- A trained node in SETUP whose bead port 0 has started a train over its single position. Under K:5019 = 1 one failed train raises F
source 12, and under K:812C = 0x15 that source reacts with IRQ and BLOCK_RESET. -/
def firstTrain : Node :=
  { vals := tput (tput (tput [] (slotOf 0x5010 0) 1) (slotOf 0x5019 0) 1) (slotOf 0x812C 0) 0x15
    n :=
      { phase := .ready
        clasp := trainedHalf
        dev := .setup
        port := { mode := 1 }
        dict := { sessions := [(0, { path := .nport, client := 0, epoch := 1 })] } }
    f := { phase := .ready, clasp := trainedHalf, dev := .setup, beads := [(0, { state := .train, position := 1 })] } }

/-- The position does not answer. The source of the port is raised, and its reaction tears crossing 0x14. -/
def failedTrain : Node := doPositionWindowExpiry 0 firstTrain

/-- The host has invoked K:F004 for crossing 0x14, the port is powered again, and the source is acknowledged. -/
def resetPort : Node :=
  doAcknowledge { hostCommand with tag := 6 } .f (some 0x1000) (doPoweringEnd 0 (doPairReset hostCommand (some 0x14) failedTrain))

/-- The host has started a second train by K:5021. -/
def secondTrain : Node := doSyncNow { hostCommand with tag := 7 } 0 resetPort

/-- The request of a second pair reset of crossing 0x14. -/
def secondReset : Rq := { hostCommand with tag := 8 }

set_option maxRecDepth 1000 in
theorem secondTrain_lineOpen : secondTrain.lineOpen = true := by decide

set_option maxRecDepth 1000 in
theorem secondTrain_accepts_pairReset : ∃ u x, secondTrain.accepts secondReset 0xF004 (.command (some 0x14)) = some (u, x) :=
  ⟨_, _, rfl⟩

set_option maxRecDepth 1000 in
/-- The crossing is whole before the second pair reset. That reset stops the second train, which raises the source again, and the
crossing is torn. -/
theorem secondReset_tears :
    secondTrain.torn .f 3 = false ∧ (doPairReset secondReset (some 0x14) secondTrain).torn .f 3 = true := by decide

/-- Refutes O39: an accepted K:F004 that names the crossing of a bead port need not leave that crossing whole. -/
theorem not_islandsAndCrossings : ¬ Obligations.IslandsAndCrossings := by
  unfold Obligations.IslandsAndCrossings
  rintro ⟨-, -, -, -, -, -, -, -, hBeadReset, -⟩
  obtain ⟨u, x, hAccepts⟩ := secondTrain_accepts_pairReset
  have hGives := hBeadReset { node := secondTrain } secondReset 0x14 u x hAccepts secondTrain_lineOpen
    (by decide) (by decide) (by decide)
  obtain ⟨-, hTorn⟩ := secondReset_tears
  obtain ⟨-, hWhole, -⟩ := (gives_iff_of_exec_eq_run (g := doPairReset secondReset (some 0x14)) rfl).1 hGives
  exact Bool.false_ne_true (hWhole.symm.trans hTorn)

end Sys2Proof.Machine
end

section
/-! PROOFS. One tick of time on an empty queue (R250, R251, R253, R271, R360). -/

namespace Sys2Proof.Machine

open Sys2Proof

theorem tickCount_of_ne {t : T48} (h : t ≠ BitVec.allOnes 48) : tickCount t = t + 1 := if_neg h

theorem tickCount_allOnes : tickCount (BitVec.allOnes 48) = BitVec.allOnes 48 := if_pos rfl

/-- A node but for the tick counts of its dies and the four times that a tick may move: the master count, the time that the wake
island keeps, the follower count and the parked time. -/
def Node.timeless (s : Node) : Node :=
  { s with
    n := { s.n with
      ticks := 0, hm := { s.n.hm with count := 0 }
      pow := { s.n.pow with kept := s.n.pow.kept.map fun k => (k.1, 0) } }
    f := { s.f with ticks := 0, fol := { s.f.fol with count := 0 }, park := { s.f.park with time := 0 } } }

/-- The tick moves these times and nothing else. -/
theorem idleTick_timeless (s : Node) : (idleTick s).timeless = s.timeless := by
  have hN : ∀ s : Node,
      (modN (fun n => { n with ticks := n.ticks + 1, hm := { n.hm with count := tickCount n.hm.count } }) s).timeless = s.timeless :=
    fun _ => rfl
  have hKept : ∀ s : Node, (modPow (fun p => { p with kept := p.kept.map fun k => (k.1, tickCount k.2) }) s).timeless = s.timeless := by
    intro s
    simp [Node.timeless, modPow, modN, Function.comp_def]
  have hF : ∀ s : Node, (modF (fun f => { f with ticks := f.ticks + 1 }) s).timeless = s.timeless := fun _ => rfl
  have hFol : ∀ s : Node, (modFol (fun x => { x with count := tickCount x.count }) s).timeless = s.timeless := fun _ => rfl
  have hPark : ∀ s : Node, (modPark (fun x => { x with time := tickCount x.time }) s).timeless = s.timeless := fun _ => rfl
  unfold idleTick
  dsimp only
  (repeat' split) <;> simp only [hN, hKept, hF, hFol, hPark]

theorem idleTick_hm_count (s : Node) :
    (idleTick s).n.hm.count = if s.nUp then tickCount s.n.hm.count else s.n.hm.count := by
  unfold idleTick
  dsimp only
  (repeat' split) <;> rfl

theorem idleTick_fol_count (s : Node) :
    (idleTick s).f.fol.count = if s.fUp && s.f.fol.state != .unaligned then tickCount s.f.fol.count else s.f.fol.count := by
  unfold idleTick
  dsimp only
  (repeat' split) <;> simp_all [Node.fUp, modFol, modPark, modPow]

/-- Settles O2: the tick on an empty queue, by the two counts it moves and the rest of the node, which it does not. -/
theorem emptyQueueIsOneTick : Obligations.EmptyQueueIsOneTick := by
  unfold Obligations.EmptyQueueIsOneTick
  intro s hEmpty
  have hRest := idleTick_timeless s.node
  have hMaster := idleTick_hm_count s.node
  have hFollower := idleTick_fol_count s.node
  refine ⟨{ s with node := idleTick s.node }, by rw [step, hEmpty], hEmpty, ?_, ?_, ?_, ?_, ?_, idleTick_stored _,
    congrArg (fun x => x.n.dict) hRest, congrArg (fun x => x.fil) hRest, ?_, congrArg (fun x => x.f.chain) hRest,
    congrArg (fun x => x.f.fport) hRest, congrArg (fun x => x.f.beads) hRest, congrArg (fun x => x.f.safe0) hRest,
    congrArg (fun x => x.f.safe1) hRest⟩
  · intro hUp hBelow
    rw [hMaster, if_pos hUp, tickCount_of_ne hBelow]
  · intro hUp hLast
    rw [hMaster, if_pos hUp, hLast, tickCount_allOnes]
  · intro hDown
    rw [hMaster, hDown, if_neg Bool.false_ne_true]
  · intro hUp hAligned hBelow
    rw [hFollower, if_pos (by simp [hUp, hAligned]), tickCount_of_ne hBelow]
  · intro hUnaligned
    rw [hFollower, if_neg (by simp [hUnaligned])]
  · intro d
    cases d with
    | n =>
      exact ⟨congrArg (fun x => x.n.faults) hRest, congrArg (fun x => x.n.clasp) hRest, congrArg (fun x => x.n.seq) hRest,
        congrArg (fun x => x.n.ch) hRest⟩
    | f =>
      exact ⟨congrArg (fun x => x.f.faults) hRest, congrArg (fun x => x.f.clasp) hRest, congrArg (fun x => x.f.seq) hRest,
        congrArg (fun x => x.f.ch) hRest⟩

end Sys2Proof.Machine
end

section
/-! PROOFS. K:300C does write the F-die (R268): its response ends the wait of every transaction in the F-die's inbox that carries the
same session and tag, so "the F-die is as before" fails over all states. -/

namespace Sys2Proof.Machine

open Sys2Proof

theorem waitedInbox_accepts_manualEra : ∃ u x, (waitedInbox true).accepts hostCommand 0x300C (.write (.word 12)) = some (u, x) :=
  ⟨_, _, rfl⟩

/-- The response to K:300C ends the wait in the inbox. -/
theorem waitedInbox_manualEra_f : (doManualEra hostCommand (.word 12) (waitedInbox true)).f = (waitedInbox false).f := by decide

/-- Refutes O35: an accepted write of K:300C need not leave the F-die as it was, for the reason that refutes O14. The statement is over
every state; that this one is reached is not claimed. -/
theorem not_stepsWrapsAndSyncPins : ¬ Obligations.StepsWrapsAndSyncPins := by
  unfold Obligations.StepsWrapsAndSyncPins
  rintro ⟨-, -, -, -, -, -, -, -, -, -, hEra⟩
  obtain ⟨u, x, hAccepts⟩ := waitedInbox_accepts_manualEra
  have hGives := hEra { node := waitedInbox true } hostCommand 12 u x hAccepts (by decide) (by decide) (by decide)
  obtain ⟨-, -, hF, -⟩ := (gives_iff_of_exec_eq_run (g := doManualEra hostCommand (.word 12)) rfl).1 hGives
  exact waitedInbox_f_ne (waitedInbox_manualEra_f.symm.trans hF)

end Sys2Proof.Machine
end

section
/-! PROOFS. Where a list stands: what a read of a slot or a run gives after the operations of the sequencer, and what these leave of
the node (R280 to R293). -/

namespace Sys2Proof.Machine

open Sys2Proof

/-! Slots. -/

theorem slot_of_slots {s t : Node} {d : Die} (h : (t.die d).seq.slots = (s.die d).seq.slots) : t.slot d = s.slot d :=
  funext fun i => congrArg (fun x => tget ({} : Slot) x i) h

theorem putSlot_slot_same (d : Die) (i : Nat) {x : Slot} (h : x.state ≠ .free) (s : Node) : (putSlot d i x s).slot d i = x := by
  simp [Node.slot, putSlot, modSeq_eq, h]

/-- A slot that is put as free reads as the free slot. -/
theorem putSlot_slot_free (d : Die) (i : Nat) {x : Slot} (h : x.state = .free) (s : Node) : (putSlot d i x s).slot d i = {} := by
  simp [Node.slot, putSlot, modSeq_eq, h, tget, tget?_tdel]

theorem putSlot_slot_other (d : Die) {i j : Nat} (h : i ≠ j) (x : Slot) (s : Node) : (putSlot d i x s).slot d j = s.slot d j := by
  simp only [Node.slot, putSlot, modSeq_eq, modDie_die]
  split <;> simp [tget, tget?_tput, tget?_tdel, h]

/-! Runs. -/

theorem run_slot (s : Node) (d : Die) (n : Fin 32) :
    s.run d (.slot n) = if (s.slot d n).state = .running ∨ (s.slot d n).state = .rearmed then some (s.slot d n).run else none := by
  cases hSlot : tget? (s.die d).seq.slots n.val <;> simp [Node.run, Node.slot, tget, hSlot]

/-- A run that runs takes a change. -/
theorem modRun_run {s : Node} {d : Die} {r : Runner} {run : Run} (h : s.run d r = some run) (g : Run → Run) :
    (modRun d r g s).run d r = some (g run) := by
  cases r with
  | trap =>
    have hTrap : (s.die d).seq.trap = some run := h
    simp [modRun, Node.run, modSeq_eq, hTrap]
  | slot n =>
    have hSlot : (modRun d (.slot n) g s).slot d n = { s.slot d n with run := g (s.slot d n).run } := by
      simp [modRun, h, Node.slot, modSeq_eq]
    rw [run_slot] at h
    split at h
    · next hRuns =>
      obtain rfl := Option.some.inj h
      rw [run_slot, hSlot, if_pos hRuns]
    · cases h

/-- A runner that has been freed runs no list. -/
theorem freeRunner_run (d : Die) (r : Runner) (s : Node) : (freeRunner d r s).run d r = none := by
  cases r with
  | trap => simp [freeRunner, Node.run, modSeq_eq]
  | slot n =>
    have hIdle : ((freeRunner d (.slot n) s).slot d n).state = .armed ∨ ((freeRunner d (.slot n) s).slot d n).state = .free := by
      simp only [freeRunner]
      split
      · exact .inl (by simp [Node.slot, modSeq_eq])
      · exact .inr (by simp [Node.slot, modSeq_eq, tget, tget?_tdel])
    rw [run_slot]
    obtain hState | hState := hIdle <;> simp [hState]

/-- A step that a runner stands at belongs to the list it runs. -/
theorem run_of_stepNow {s : Node} {d : Die} {r : Runner} {op w a b : Nat} {run : Run}
    (h : s.stepNow d r op = some (run, w, a, b)) : s.run d r = some run := by
  unfold Node.stepNow Node.stepAt at h
  dsimp only at h
  split at h
  · split at h
    · cases h
    · next hRun =>
      split at h
      · cases h
      · split at h
        · cases h
          exact hRun
        · cases h
  · cases h

/-! Lists in action memory (R279). -/

/-- No words are fetched for a list in action memory. -/
theorem fetchAhead_of_memory {s : Node} {d : Die} {r : Runner} {run : Run} (hRun : s.run d r = some run)
    (hMemory : listLocation (s.blob (listKey run.list)) = 0) : fetchAhead d r s = s := by
  cases d with
  | n => rfl
  | f =>
    unfold fetchAhead
    rw [hRun]
    exact if_pos (.inl hMemory)

/-- A runner of such a list moves by the change of its run alone. -/
theorem advance_of_memory {s : Node} {d : Die} {r : Runner} {run : Run} (hRun : s.run d r = some run)
    (hMemory : listLocation (s.blob (listKey run.list)) = 0) {g : Run → Run} (hList : (g run).list = run.list) :
    advance d r g s = modRun d r g s := by
  have hBlobs : (modRun d r g s).blobs = s.blobs := congrArg (fun x => x.blobs) (modRun_core d r g s)
  refine fetchAhead_of_memory (modRun_run hRun g) ?_
  rwa [hList, Node.blob, hBlobs]

/-! What the flow of a list leaves of a node. -/

/-- A die but for its slots, the runs of its lists, its launch records and its counters. -/
def DieState.flowless (x : DieState) : DieState :=
  { x with
    seq := { x.seq with slots := [], trap := none, records := [] }
    isl := { x.isl with unsampled := [] }
    loupe := { x.loupe with cells := [] } }

/-- Only the flow of lists on one die lies between two nodes. -/
structure Flows (d : Die) (s t : Node) : Prop where
  die : (t.die d).flowless = (s.die d).flowless
  other : t.die (otherDie d) = s.die (otherDie d)
  stored : t.stored = s.stored

section
variable {d : Die} {s t : Node}

theorem Flows.refl (d : Die) (s : Node) : Flows d s s := ⟨rfl, rfl, rfl⟩

theorem Flows.trans {u : Node} (h : Flows d s t) (k : Flows d t u) : Flows d s u :=
  ⟨k.die.trans h.die, k.other.trans h.other, k.stored.trans h.stored⟩

theorem Flows.ch (h : Flows d s t) : (t.die d).ch = (s.die d).ch := (congrArg DieState.ch h.die :)

theorem Flows.faults (h : Flows d s t) : (t.die d).faults = (s.die d).faults := (congrArg DieState.faults h.die :)

theorem Flows.objects (h : Flows d s t) : (t.die d).seq.objects = (s.die d).seq.objects :=
  (congrArg (fun x : DieState => x.seq.objects) h.die :)

end

theorem modDie_flows (d : Die) {g : DieState → DieState} (s : Node) (h : ∀ x, (g x).flowless = x.flowless := by intro x; rfl) :
    Flows d s (modDie d g s) :=
  ⟨by rw [modDie_die, h], modDie_otherDie .., modDie_stored ..⟩

theorem modSeq_flows (d : Die) {g : Sequencer → Sequencer} (s : Node)
    (h : ∀ q, (g q).objects = q.objects ∧ (g q).trigCount = q.trigCount := by exact fun _ => ⟨rfl, rfl⟩) :
    Flows d s (modSeq d g s) := by
  rw [modSeq_eq]
  refine modDie_flows d s fun x => ?_
  obtain ⟨hObjects, hTriggers⟩ := h x.seq
  simp [DieState.flowless, hObjects, hTriggers]

theorem onlyIf_flows {d : Die} {g : Node → Node} (h : ∀ s, Flows d s (g s)) (c : Bool) (s : Node) : Flows d s (onlyIf c g s) := by
  cases c
  · exact .refl d s
  · exact h s

theorem bump_flows (d : Die) (blk idx cell : Nat) (s : Node) : Flows d s (bump d blk idx cell s) := by
  unfold bump countBy
  split
  · exact modDie_flows d s
  · exact modDie_flows d s

theorem putSlot_flows (d : Die) (i : Nat) (x : Slot) (s : Node) : Flows d s (putSlot d i x s) := modSeq_flows d s

theorem modRun_flows (d : Die) (r : Runner) (g : Run → Run) (s : Node) : Flows d s (modRun d r g s) := by
  cases r with
  | trap =>
    unfold modRun
    exact modSeq_flows d s
  | slot n =>
    unfold modRun
    dsimp only
    split
    · exact modSeq_flows d s
    · exact .refl d s

theorem addRecord_flows (d : Die) (rec : LaunchRecord) (s : Node) : Flows d s (addRecord d rec s) := by
  unfold addRecord
  split
  · exact modSeq_flows d s
  · exact (modSeq_flows d s).trans (bump_flows ..)

theorem record_flows (d : Die) (slot list flags : Nat) (time : T48) (lateness : Nat) (s : Node) :
    Flows d s (record d slot list flags time lateness s) := onlyIf_flows (addRecord_flows d _) _ s

theorem freeRunner_flows (d : Die) (r : Runner) (s : Node) : Flows d s (freeRunner d r s) := by
  cases r with
  | trap =>
    unfold freeRunner
    exact modSeq_flows d s
  | slot n =>
    unfold freeRunner
    dsimp only
    split
    · exact modSeq_flows d s
    · exact modSeq_flows d s

/-! A counter and a record leave the slots and the runs alone. -/

theorem bump_seq (d : Die) (blk idx cell : Nat) (s : Node) : ((bump d blk idx cell s).die d).seq = (s.die d).seq := by
  unfold bump countBy
  split <;> cases d <;> rfl

theorem record_slots (d : Die) (slot list flags : Nat) (time : T48) (lateness : Nat) (s : Node) :
    ((record d slot list flags time lateness s).die d).seq.slots = (s.die d).seq.slots := by
  refine onlyIf_keeps (fun s => (s.die d).seq.slots) (fun s => ?_) _ s
  unfold addRecord
  split
  · cases d <;> rfl
  · rw [bump_seq]
    cases d <;> rfl

end Sys2Proof.Machine
end

section
/-! PROOFS. Launches, END, WAIT, JOIN and LOOP of a list in action memory (R280, R281, R283, R286, R293). -/

namespace Sys2Proof.Machine

open Sys2Proof

/-- A runner has come to stand at a run, and the rest of the node is as before. -/
structure Stands (d : Die) (r : Runner) (run : Run) (s t : Node) : Prop extends Flows d s t where
  run : t.run d r = some run

section
variable {s : Node} {d : Die} {r : Runner} {run : Run} {w a b : Nat}

/-- What the statements of a step of flow read of it. -/
theorem Stands.parts {t : Node} (h : Stands d r run s t) : t.run d r = some run ∧ (t.die d).ch = (s.die d).ch ∧
    (t.die d).faults = (s.die d).faults ∧ t.die (otherDie d) = s.die (otherDie d) ∧ t.stored = s.stored :=
  ⟨h.run, h.ch, h.faults, h.other, h.stored⟩

theorem modRun_stands {g : Run → Run} {next : Run} (hRun : s.run d r = some run) (hNext : g run = next) :
    Stands d r next s (modRun d r g s) :=
  ⟨modRun_flows d r g s, hNext ▸ modRun_run hRun g⟩

theorem advance_stands {g : Run → Run} {next : Run} (hRun : s.run d r = some run)
    (hMemory : listLocation (s.blob (listKey run.list)) = 0) (hNext : g run = next) (hList : next.list = run.list) :
    Stands d r next s (advance d r g s) := by
  rw [advance_of_memory hRun hMemory (hNext ▸ hList)]
  exact modRun_stands hRun hNext

theorem doWait_stands (h : s.stepNow d r 0x01 = some (run, w, a, b)) (hMemory : listLocation (s.blob (listKey run.list)) = 0) :
    Stands d r { run with pc := run.pc + 1, sched := addTicks run.sched (waitTicks w) } s (doWait d r s) := by
  unfold doWait
  rw [h]
  exact advance_stands (run_of_stepNow h) hMemory rfl rfl

/-- A JOIN goes on one tick later, or waits (R283). -/
theorem doJoin_stands (h : s.stepNow d r 0x02 = some (run, w, a, b)) (hMemory : listLocation (s.blob (listKey run.list)) = 0) :
    Stands d r (if run.outstanding = 0 then { run with pc := run.pc + 1, sched := run.sched + 1 } else { run with joining := true }) s
      (doJoin d r s) := by
  unfold doJoin
  rw [h]
  dsimp only
  split
  · exact advance_stands (run_of_stepNow h) hMemory rfl rfl
  · exact modRun_stands (run_of_stepNow h) rfl

theorem doJoinRelease_stands (hRun : s.run d r = some run) (hUp : s.up d = true) (hJoining : run.joining = true)
    (hOutstanding : run.outstanding = 0) (hMemory : listLocation (s.blob (listKey run.list)) = 0) :
    Stands d r { run with joining := false, pc := run.pc + 1, sched := s.time d } s (doJoinRelease d r s) := by
  unfold doJoinRelease
  rw [hRun]
  dsimp only
  rw [if_pos (by simp [hUp, hJoining, hOutstanding])]
  exact advance_stands hRun hMemory rfl rfl

theorem loopRun_list (w : Nat) (run : Run) : (loopRun w run).list = run.list := by
  unfold loopRun
  dsimp only
  (repeat' split) <;> rfl

theorem doLoop_stands (h : s.stepNow d r 0x03 = some (run, w, a, b)) (hMemory : listLocation (s.blob (listKey run.list)) = 0) :
    Stands d r (loopRun w run) s (doLoop d r s) := by
  unfold doLoop
  rw [h]
  exact advance_stands (run_of_stepNow h) hMemory rfl (loopRun_list w run)

/-- END waits while a step is outstanding (R293). -/
theorem doEndStep_stands (h : s.stepNow d r 0x00 = some (run, w, a, b)) (hOutstanding : run.outstanding ≠ 0) :
    Stands d r { run with ending := true } s (doEndStep d r s) := by
  unfold doEndStep
  rw [h]
  dsimp only
  rw [if_neg hOutstanding]
  exact modRun_stands (run_of_stepNow h) rfl

/-- END with nothing outstanding frees the runner (R293). -/
theorem doEndStep_frees (h : s.stepNow d r 0x00 = some (run, w, a, b)) (hOutstanding : run.outstanding = 0) :
    (doEndStep d r s).run d r = none ∧ Flows d s (doEndStep d r s) := by
  have hEnd : doEndStep d r s =
      freeRunner d r (record d (runnerSlot r) run.list (runFlags run false) run.launch run.maxLate s) := by
    unfold doEndStep endRun
    rw [h, run_of_stepNow h]
    exact if_pos hOutstanding
  rw [hEnd]
  exact ⟨freeRunner_run .., (record_flows ..).trans (freeRunner_flows ..)⟩

end

/-! Launches (R293). -/

/-- The run of a slot that launches in time: its list from the first word, at the launch time. -/
def Slot.fresh (x : Slot) : Run := { list := x.list, sched := x.launch, launch := x.launch }

theorem launched_run (x : Slot) (run : Run) : (launched x run).run = run := by
  unfold launched
  dsimp only
  split <;> rfl

theorem launched_state (x : Slot) (run : Run) :
    (launched x run).state = if periodTicks x.period = 0 ∨ x.launches = 1 then .running else .rearmed := by
  unfold launched
  dsimp only
  split <;> rfl

theorem launched_runs (x : Slot) (run : Run) : (launched x run).state = .running ∨ (launched x run).state = .rearmed := by
  rw [launched_state]
  split
  · exact .inl rfl
  · exact .inr rfl

theorem launched_state_ne_free (x : Slot) (run : Run) : (launched x run).state ≠ .free := by
  obtain hState | hState := launched_runs x run <;> simp [hState]

section
variable {s : Node} {d : Die} {i : Fin 32}

/-- The slot and the counter of a launch in time. -/
def startSlot (d : Die) (i : Fin 32) (s : Node) : Node :=
  bump d blkSeq 0 0 (putSlot d i (launched (s.slot d i) (s.slot d i).fresh) s)

theorem startSlot_flows (d : Die) (i : Fin 32) (s : Node) : Flows d s (startSlot d i s) := (putSlot_flows ..).trans (bump_flows ..)

theorem startSlot_slot (d : Die) (i : Fin 32) (s : Node) :
    (startSlot d i s).slot d i = launched (s.slot d i) (s.slot d i).fresh := by
  unfold startSlot
  rw [slot_of_slots (congrArg Sequencer.slots (bump_seq ..)), putSlot_slot_same d i (launched_state_ne_free _ _)]

theorem startSlot_slot_other {j : Nat} (h : j ≠ i.val) : (startSlot d i s).slot d j = s.slot d j := by
  unfold startSlot
  rw [slot_of_slots (congrArg Sequencer.slots (bump_seq ..)), putSlot_slot_other d h.symm]

theorem startSlot_run (d : Die) (i : Fin 32) (s : Node) : (startSlot d i s).run d (.slot i) = some (s.slot d i).fresh := by
  rw [run_slot, startSlot_slot, if_pos (launched_runs _ _), launched_run]

/-- A launch time that comes in RUN starts the slot (R293). -/
theorem doSlotLaunch_starts (hUp : s.up d = true) (hRun : s.devOf d = .run) (hArmed : (s.slot d i).state = .armed)
    (hMemory : listLocation (s.blob (listKey (s.slot d i).list)) = 0) : doSlotLaunch d i s = startSlot d i s := by
  have hBlobs : (startSlot d i s).blobs = s.blobs := congrArg (fun x => x.2.1) (startSlot_flows d i s).stored
  have hFetch : fetchAhead d (.slot (Fin.ofNat 32 i)) (startSlot d i s) = startSlot d i s := by
    refine fetchAhead_of_memory (run := (s.slot d i).fresh) ?_ ?_
    · simpa using startSlot_run d i s
    · rwa [Node.blob, hBlobs]
  unfold doSlotLaunch launchSlot
  dsimp only
  rw [if_pos hUp, hArmed, hRun]
  exact hFetch

/-- A one-shot whose launch time comes outside RUN is skipped: its slot becomes free (R293). -/
theorem doSlotLaunch_skips (hUp : s.up d = true) (hOther : s.devOf d ≠ .run) (hArmed : (s.slot d i).state = .armed)
    (hOnce : periodTicks (s.slot d i).period = 0) :
    (doSlotLaunch d i s).slot d i = {} ∧ Flows d s (doSlotLaunch d i s) := by
  have hSkip : doSlotLaunch d i s = bump d blkSeq 2 0 (record d i (s.slot d i).list 4 (s.slot d i).launch 0 (putSlot d i {} s)) := by
    unfold doSlotLaunch launchSlot
    dsimp only
    rw [if_pos hUp, hArmed, skipped, if_pos hOnce]
    exact if_neg (by simpa using hOther)
  rw [hSkip]
  refine ⟨?_, ((putSlot_flows ..).trans (record_flows ..)).trans (bump_flows ..)⟩
  rw [slot_of_slots (congrArg Sequencer.slots (bump_seq ..)), slot_of_slots (record_slots ..), putSlot_slot_free d i rfl]

end

/-- Settles O36: each step of flow as a change of one run, with the rest of the node as before. -/
theorem flowOfLists : Obligations.FlowOfLists := by
  unfold Obligations.FlowOfLists
  refine ⟨?launch, ?skip, ?end_, ?ending, ?wait, ?join, ?release, ?loop⟩
  case launch =>
    intro s d i hUp hRun hArmed hMemory
    refine (gives_iff_of_exec_eq_run (g := doSlotLaunch d i) rfl).2 ?_
    rw [doSlotLaunch_starts hUp hRun hArmed hMemory]
    have hFlows := startSlot_flows d i s.node
    exact ⟨startSlot_run d i s.node, by rw [startSlot_slot, launched_state], fun _ => startSlot_slot_other, hFlows.objects, hFlows.ch,
      hFlows.faults, hFlows.other, hFlows.stored⟩
  case skip =>
    intro s d i hUp hOther hArmed hOnce
    refine (gives_iff_of_exec_eq_run (g := doSlotLaunch d i) rfl).2 ?_
    obtain ⟨hFree, hFlows⟩ := doSlotLaunch_skips hUp hOther hArmed hOnce
    exact ⟨by rw [hFree], by simp [run_slot, hFree], hFlows.ch, hFlows.other, hFlows.stored⟩
  case end_ =>
    intro s d r run w a b hStep hOutstanding
    refine (gives_iff_of_exec_eq_run (g := doEndStep d r) rfl).2 ?_
    obtain ⟨hFreed, hFlows⟩ := doEndStep_frees hStep hOutstanding
    exact ⟨hFreed, hFlows.ch, hFlows.faults, hFlows.objects, hFlows.other, hFlows.stored⟩
  case ending =>
    intro s d r run w a b hStep hOutstanding
    refine (gives_iff_of_exec_eq_run (g := doEndStep d r) rfl).2 ?_
    have hStands := doEndStep_stands hStep hOutstanding
    exact ⟨hStands.run, hStands.ch, hStands.other, hStands.stored⟩
  case wait =>
    intro s d r run w a b hStep hMemory
    exact (gives_iff_of_exec_eq_run (g := doWait d r) rfl).2 (doWait_stands hStep hMemory).parts
  case join =>
    intro s d r run w a b hStep hMemory
    exact (gives_iff_of_exec_eq_run (g := doJoin d r) rfl).2 (doJoin_stands hStep hMemory).parts
  case release =>
    intro s d r run hRun hUp hJoining hOutstanding hMemory
    exact (gives_iff_of_exec_eq_run (g := doJoinRelease d r) rfl).2
      (doJoinRelease_stands hRun hUp hJoining hOutstanding hMemory).parts
  case loop =>
    intro s d r run w a b hStep hMemory
    exact (gives_iff_of_exec_eq_run (g := doLoop d r) rfl).2 (doLoop_stands hStep hMemory).parts

end Sys2Proof.Machine
end

section
/-! PROOFS. The clock of the N-die: what its operations do to the Hallmark registers, and what they leave of the node (R255 to R264,
R269, R275). -/

namespace Sys2Proof.Machine

open Sys2Proof

/-! The node apart from the clock. -/

/-- A node but for what a detection may change, the Hallmark registers, and the note of a step in the next CAN time frames. -/
def Node.clockless (s : Node) : Node :=
  { s.core with n := { s.core.n with hm := {}, can := { s.core.n.can with stepped := false } } }

theorem clockless_of_core {s t : Node} (h : t.core = s.core) : t.clockless = s.clockless := by
  rw [Node.clockless, h]
  rfl

theorem up_of_clockless {s t : Node} (h : t.clockless = s.clockless) (d : Die) : t.up d = s.up d := by
  cases d with
  | n => exact congrArg (fun x => x.n.phase == .ready) h
  | f => exact congrArg (fun x => x.f.phase == .ready) h

theorem dict_of_clockless {s t : Node} (h : t.clockless = s.clockless) : t.n.dict = s.n.dict := congrArg (fun x => x.n.dict) h

theorem fol_of_clockless {s t : Node} (h : t.clockless = s.clockless) : t.f.fol = s.f.fol := congrArg (fun x => x.f.fol) h

@[simp] theorem modHm_clockless (g : Hallmark → Hallmark) (s : Node) : (modHm g s).clockless = s.clockless := rfl
@[simp] theorem stepped_clockless (s : Node) : (modCan (fun c => { c with stepped := true }) s).clockless = s.clockless := rfl
@[simp] theorem bump_clockless (d : Die) (blk idx cell : Nat) (s : Node) : (bump d blk idx cell s).clockless = s.clockless :=
  clockless_of_core (bump_core ..)
@[simp] theorem onlyIf_bump_clockless (c : Bool) (d : Die) (blk idx cell : Nat) (s : Node) :
    (onlyIf c (bump d blk idx cell) s).clockless = s.clockless := onlyIf_keeps Node.clockless (bump_clockless d blk idx cell) c s
@[simp] theorem peak_clockless (d : Die) (blk idx cell v : Nat) (s : Node) : (peak d blk idx cell v s).clockless = s.clockless :=
  clockless_of_core (peak_core ..)
@[simp] theorem sendData_clockless (d : Die) (stream : Nat) (m : Msg) (s : Node) : (sendData d stream m s).clockless = s.clockless :=
  clockless_of_core (sendData_core ..)
@[simp] theorem jumped_clockless (d : Die) (old : T48) (drop : Bool) (s : Node) : (jumped d old drop s).clockless = s.clockless :=
  clockless_of_core (jumped_core ..)
@[simp] theorem linkCount_clockless (p : Port) (item cell : Nat) (s : Node) : (linkCount p item cell s).clockless = s.clockless :=
  clockless_of_core (linkCount_core ..)

@[simp] theorem raise19_clockless (c : Nat) (s : Node) : (raise19 c s).clockless = s.clockless :=
  (clockless_of_core (detect_core ..)).trans rfl
@[simp] theorem end19_clockless (c : Nat) (s : Node) : (end19 c s).clockless = s.clockless := by
  unfold end19
  dsimp only
  split
  · exact (clockless_of_core (setCond_core ..)).trans rfl
  · rfl
@[simp] theorem setTimeState_clockless (st : TimeState) (s : Node) : (setTimeState st s).clockless = s.clockless := by
  unfold setTimeState
  dsimp only
  (repeat' split) <;> simp
@[simp] theorem setTimeSource_clockless (src : Nat) (s : Node) : (setTimeSource src s).clockless = s.clockless := by
  unfold setTimeSource
  split <;> simp
@[simp] theorem setMaster_clockless (t : T48) (era : Option Word) (s : Node) : (setMaster t era s).clockless = s.clockless := rfl
@[simp] theorem countStep_clockless (ticks : Int) (s : Node) : (countStep ticks s).clockless = s.clockless := by
  simp [countStep]
@[simp] theorem applyFreeSet_clockless (s : Node) : (applyFreeSet s).clockless = s.clockless := by
  unfold applyFreeSet
  split <;> simp
@[simp] theorem acquire_clockless (src : Nat) (ticks : Int) (era : Option Word) (s : Node) :
    (acquire src ticks era s).clockless = s.clockless := by
  unfold acquire
  dsimp only
  split <;> simp
@[simp] theorem scheduleStep_clockless (instant amount : T48) (s : Node) : (scheduleStep instant amount s).clockless = s.clockless := by
  simp [scheduleStep]
@[simp] theorem setTarget_clockless (rate phase : Int) (s : Node) : (setTarget rate phase s).clockless = s.clockless := by
  unfold setTarget
  dsimp only
  split <;> simp
@[simp] theorem setLimited_clockless (on : Bool) (s : Node) : (setLimited on s).clockless = s.clockless := by
  unfold setLimited
  dsimp only
  (repeat' split) <;> simp
@[simp] theorem phaseSample_clockless (src : Nat) (o ticks : Int) (s : Node) : (phaseSample src o ticks s).clockless = s.clockless := by
  unfold phaseSample
  dsimp only
  (repeat' split) <;> simp
@[simp] theorem chooseSource_clockless (src : Nat) (s : Node) : (chooseSource src s).1.clockless = s.clockless := by
  unfold chooseSource
  dsimp only
  (repeat' split) <;> simp
@[simp] theorem takeSample_clockless (src : Nat) (o ticks : Int) (era : Option (Word × T48 × T48)) (s : Node) :
    (takeSample src o ticks era s).clockless = s.clockless := by
  unfold takeSample
  dsimp only
  (repeat' split) <;> simp
@[simp] theorem takeNotice_clockless (t : TimeFrame) (s : Node) : (takeNotice t s).clockless = s.clockless := by
  unfold takeNotice
  split <;> simp
@[simp] theorem slewOn_clockless (s : Node) : (slewOn s).clockless = s.clockless := by
  simp [slewOn]

/-! The Hallmark registers. -/

/-- The registers but for the policy's limit and the causes of N source 19. -/
def Hallmark.quiet (h : Hallmark) : Hallmark := { h with limited := false, lastCause := 0, conds := 0 }

theorem hm_of_core {s t : Node} (h : t.core = s.core) : t.n.hm = s.n.hm := congrArg (fun x => x.n.hm) h

@[simp] theorem modHm_hm (g : Hallmark → Hallmark) (s : Node) : (modHm g s).n.hm = g s.n.hm := rfl
@[simp] theorem modCan_hm (g : Can → Can) (s : Node) : (modCan g s).n.hm = s.n.hm := rfl
@[simp] theorem jumped_hm (d : Die) (old : T48) (drop : Bool) (s : Node) : (jumped d old drop s).n.hm = s.n.hm :=
  hm_of_core (jumped_core ..)

/-- A cause of N source 19 is raised (R275). -/
theorem raise19_hm (c : Nat) (s : Node) :
    (raise19 c s).n.hm = { s.n.hm with lastCause := c, conds := s.n.hm.conds ||| causeBit c } := hm_of_core (detect_core ..)

/-- A cause of N source 19 is over (R275). -/
theorem end19_hm (c : Nat) (s : Node) : (end19 c s).n.hm = { s.n.hm with conds := s.n.hm.conds &&& ~~~ causeBit c } := by
  unfold end19
  dsimp only
  split
  · exact hm_of_core (setCond_core ..)
  · rfl

@[simp] theorem raise19_quiet (c : Nat) (s : Node) : (raise19 c s).n.hm.quiet = s.n.hm.quiet := by
  rw [raise19_hm]
  rfl
@[simp] theorem end19_quiet (c : Nat) (s : Node) : (end19 c s).n.hm.quiet = s.n.hm.quiet := by
  rw [end19_hm]
  rfl
@[simp] theorem setLimited_quiet (on : Bool) (s : Node) : (setLimited on s).n.hm.quiet = s.n.hm.quiet := by
  unfold setLimited
  dsimp only
  split
  · rw [raise19_quiet, bump_n_hm]
    rfl
  · split
    · exact end19_quiet ..
    · rfl

/-- The target of r within its limits (R263). -/
theorem setTarget_quiet (rate phase : Int) (s : Node) :
    (setTarget rate phase s).n.hm.quiet = { s.n.hm.quiet with rTarget := clampInt 2000000000000 (rate + phase) } := by
  unfold setTarget
  dsimp only
  split
  · rfl
  · exact end19_quiet ..

/-- A change of the master's state (R273). -/
theorem setTimeState_quiet {st : TimeState} {s : Node} (h : s.n.hm.state ≠ st) :
    (setTimeState st s).n.hm.quiet = { s.n.hm.quiet with state := st, since := s.n.hm.count } := by
  have hCounted : ∀ c cell, (onlyIf c (bump .n blkTime 3 cell) s).n.hm = s.n.hm :=
    fun c cell => onlyIf_keeps (fun s => s.n.hm) (bump_n_hm .n blkTime 3 cell) c s
  unfold setTimeState
  dsimp only
  rw [if_neg h]
  split
  · rw [end19_quiet, end19_quiet, modHm_hm, hCounted]
    rfl
  · rw [modHm_hm, hCounted]
    rfl

/-- A slew gives up its part of one update, which sets the target of r (R264). -/
theorem slewOn_quiet (s : Node) : ∃ wanted, (slewOn s).n.hm.quiet =
    { s.n.hm.quiet with
      slew := s.n.hm.slew - slewPart s.n.hm.slew
      wanted := wanted
      rTarget := clampInt 2000000000000 (s.n.hm.rRate + slewPart s.n.hm.slew * 1000000000 / 8192) } := by
  have hRate : ∀ on t, (setLimited on t).n.hm.rRate = t.n.hm.rRate := fun on t => (congrArg Hallmark.rRate (setLimited_quiet on t) :)
  unfold slewOn
  dsimp only
  rw [setTarget_quiet, hRate, setLimited_quiet]
  exact ⟨_, rfl⟩

/-! N source 19. -/

/-- A cause of N source 19 that is raised latches the source, which is live (R275). -/
theorem raise19_latches {s : Node} (c : Nat) (hUp : s.nUp = true) :
    (raise19 c s).latched .n 19 = true ∧ (raise19 c s).conditionOn .n 19 = true := by
  refine ⟨detect_status .n (by decide) c (collects_of_up hUp), ?_⟩
  exact (detect_advances .n 19 c (.refl _)).cond .n 19 (setSrc_true_self (by decide) _)

end Sys2Proof.Machine
end

section
/-! PROOFS. The servo of the N-die and its alarms: samples, updates, the loss of the source and holdover (R256, R257, R263, R264, R269,
R275, R347). -/

namespace Sys2Proof.Machine

open Sys2Proof

/-! The offset of a sample (K:3008). -/

@[simp] theorem setLimited_offset (on : Bool) (s : Node) : (setLimited on s).n.hm.offset = s.n.hm.offset :=
  (congrArg Hallmark.offset (setLimited_quiet on s) :)
@[simp] theorem setTarget_offset (rate phase : Int) (s : Node) : (setTarget rate phase s).n.hm.offset = s.n.hm.offset :=
  (congrArg Hallmark.offset (setTarget_quiet rate phase s) :)
@[simp] theorem scheduleStep_offset (instant amount : T48) (s : Node) : (scheduleStep instant amount s).n.hm.offset = s.n.hm.offset := by
  simp [scheduleStep]
@[simp] theorem countStep_offset (ticks : Int) (s : Node) : (countStep ticks s).n.hm.offset = s.n.hm.offset := by
  simp [countStep]
@[simp] theorem setMaster_offset (t : T48) (era : Option Word) (s : Node) : (setMaster t era s).n.hm.offset = s.n.hm.offset := rfl
@[simp] theorem phaseSample_offset (src : Nat) (o ticks : Int) (s : Node) : (phaseSample src o ticks s).n.hm.offset = s.n.hm.offset := by
  unfold phaseSample
  dsimp only
  (repeat' split) <;> simp
@[simp] theorem takeNotice_offset (t : TimeFrame) (s : Node) : (takeNotice t s).n.hm.offset = s.n.hm.offset := by
  unfold takeNotice
  split <;> simp

theorem chooseSource_of_source {src : Nat} {s : Node} (h : s.n.hm.source = src) : chooseSource src s = (s, true) := if_pos h

/-- The node may take a sample of its source (R255, R263): it tracks this source, and no set under FREE is pending. -/
structure Tracks (src : Nat) (s : Node) : Prop where
  up : s.nUp = true
  usable : s.sourceUsable src = true
  unset : s.n.hm.set = none
  tracking : s.n.hm.state = .tracking
  source : s.n.hm.source = src

theorem Tracks.of_core {src : Nat} {s t : Node} (h : t.core = s.core) (k : Tracks src s) : Tracks src t := by
  have hHm : t.n.hm = s.n.hm := hm_of_core h
  have hUsable : t.sourceUsable src = s.sourceUsable src := congrArg (fun x => x.sourceUsable src) h
  exact ⟨(up_of_core h .n).trans k.up, hUsable.trans k.usable, hHm ▸ k.unset, hHm ▸ k.tracking, hHm ▸ k.source⟩

/-- A sample of the source in use sets the measured offset (R263). -/
theorem takeSample_offset {src : Nat} {s : Node} (h : Tracks src s) (o ticks : Int) (era : Option (Word × T48 × T48)) :
    (takeSample src o ticks era s).n.hm.offset = clampInt 8388607 o := by
  obtain ⟨hUp, hUsable, hUnset, hTracking, hSource⟩ := h
  have hHeld : ¬ (TimeState.tracking == .holdover) = true := by decide
  unfold takeSample
  rw [if_neg (by simp [hUp, hUsable, hUnset]), hTracking]
  simp only [if_neg hHeld, chooseSource_of_source hSource, Bool.not_true, Bool.false_eq_true, if_false]
  cases era with
  | none => simp
  | some e =>
    dsimp only
    (repeat' split) <;> simp

/-! A TIME frame of the parent (R257, R347). -/

@[simp] theorem modLink_fol (p : Port) (g : Link → Link) (s : Node) : (modLink p g s).f.fol = s.f.fol := by
  cases p <;> rfl
theorem fol_of_core {s t : Node} (h : t.core = s.core) : t.f.fol = s.f.fol := congrArg (fun x => x.f.fol) h
@[simp] theorem putOnLine_fol (p : Port) (type : Nat) (s : Node) : (putOnLine p type s).f.fol = s.f.fol := fol_of_core (putOnLine_core ..)
@[simp] theorem startNext_fol (p : Port) (s : Node) : (startNext p s).f.fol = s.f.fol := by
  unfold startNext
  dsimp only
  (repeat' split) <;> simp
@[simp] theorem forwardOn_fol (p : Port) (f : ChainFrame) (s : Node) : (forwardOn p f s).f.fol = s.f.fol := by
  unfold forwardOn
  split
  · exact fol_of_core (dropFrames_core ..)
  · simp [enqueue]
theorem relayTime_n (t : TimeFrame) (delay : Nat) (p : Port) (s : Node) : (relayTime t delay p s).n = s.n := by
  simp [relayTime]
theorem relayTime_fol (t : TimeFrame) (delay : Nat) (p : Port) (s : Node) : (relayTime t delay p s).f.fol = s.f.fol := by
  unfold relayTime
  rw [forwardOn_fol]
  rfl

/-- The offset that a TIME frame measures: its origin with what its way has added, against its arrival (R257, R347). -/
def frameOffset (t : TimeFrame) (delay : Nat) : Int :=
  offsetOfTicks (ticksAhead t.origin t.arrival) + ((t.correction + delay) / 32 : Nat)

/-- What a TIME frame of the parent does on the N-die: it is counted, sent on as a sample, and taken by the servo. -/
def parentSample (port : Port) (t : TimeFrame) (s : Node) : Node :=
  takeNotice t (takeSample 1 (frameOffset t (linkDelay (s.link port))) (ticksOfOffset (frameOffset t (linkDelay (s.link port))))
    (some (t.era, t.origin, t.arrival)) (sendData .f 2 .timeSample (linkCount port 0 (25 + tyTime) s)))

theorem parentSample_clockless (port : Port) (t : TimeFrame) (s : Node) : (parentSample port t s).clockless = s.clockless := by
  simp [parentSample]

theorem parentSample_offset {s : Node} (h : Tracks 1 s) (port : Port) (t : TimeFrame) :
    (parentSample port t s).n.hm.offset = clampInt 8388607 (frameOffset t (linkDelay (s.link port))) := by
  unfold parentSample
  rw [takeNotice_offset, takeSample_offset (h.of_core ((sendData_core ..).trans (linkCount_core ..)))]

/-- The frame then goes on to the CHILD ports, or ends its way (R347). -/
theorem doChainTimeFrame_parent {s : Node} {port : Port} (t : TimeFrame) (hPort : s.portUp port = true)
    (hParent : (s.link port).role = .parent) (hRoot : s.f.chain.root = false) (hTrained : s.trained = true)
    (hAligned : s.f.fol.state ≠ .unaligned) :
    doChainTimeFrame port t s =
      if t.hop ≤ 1 then dropFrames (some port) 1 1 (parentSample port t s)
      else forEach ((parentSample port t s).rolePorts .child) (relayTime t (linkDelay (s.link port))) (parentSample port t s) := by
  have hTaken : (s.portUp port && (s.link port).role == .parent && !s.f.chain.root) = true := by simp [hPort, hParent, hRoot]
  have hCounted : (linkCount port 0 (25 + tyTime) s).trained = true :=
    (congrArg Node.trained (linkCount_core port 0 (25 + tyTime) s)).trans hTrained
  have hSampled : ((linkCount port 0 (25 + tyTime) s).trained && s.f.fol.state != .unaligned) = true := by simp [hCounted, hAligned]
  unfold doChainTimeFrame
  dsimp only
  rw [if_pos hTaken, if_pos hSampled]
  rfl

/-- The N-die and the follower do not see how the frame goes on. -/
theorem relayed_keeps (t : TimeFrame) (port : Port) (ports : List Port) (delay : Nat) (s : Node) :
    let u := if t.hop ≤ 1 then dropFrames (some port) 1 1 s else forEach ports (relayTime t delay) s
    u.n = s.n ∧ u.f.fol = s.f.fol := by
  dsimp only
  split
  · exact ⟨dropFrames_n .., fol_of_core (dropFrames_core ..)⟩
  · exact ⟨forEach_keeps Node.n (relayTime_n t _) .., forEach_keeps (fun x => x.f.fol) (relayTime_fol t _) ..⟩

/-- A TIME frame on another port is discarded (R347). -/
theorem doChainTimeFrame_other {s : Node} {port : Port} (t : TimeFrame) (h : (s.link port).role ≠ .parent) :
    doChainTimeFrame port t s = s := if_neg (by simp [h])

/-! Rate samples and updates (R263, R264). -/

theorem doRateSample_tracking {s : Node} (rho : Int) (hN : s.nUp = true) (hF : s.fUp = true) (hTrained : s.trained = true)
    (hSource : s.n.hm.source = 1) (hTracking : s.n.hm.state = .tracking) (hThawed : s.servoFrozen = false) :
    doRateSample rho s = modHm (fun h => { h with rRate := h.rRate + rho / 8 }) (sendData .f 2 .timeSample s) :=
  if_pos (by simp [hN, hF, hTrained, hSource, hTracking, hThawed])

/-- r moves toward its target by at most 0.05 ppm (R263). -/
def Hallmark.follow (h : Hallmark) : Hallmark := { h with r := h.r + clampInt 50000000 (h.rTarget - h.r) }

theorem doServoRateUpdate_thawed {s : Node} (hUp : s.nUp = true) (hThawed : s.servoFrozen = false) :
    doServoRateUpdate s = modHm Hallmark.follow (if s.n.hm.slew != 0 then slewOn s else s) := if_pos (by simp [hUp, hThawed])

theorem doServoRateUpdate_frozen {s : Node} (hFrozen : s.servoFrozen = true) : doServoRateUpdate s = s := if_neg (by simp [hFrozen])

theorem end19_f (c : Nat) (s : Node) : (end19 c s).f = s.f := by
  unfold end19
  dsimp only
  split <;> simp
theorem setLimited_f (on : Bool) (s : Node) : (setLimited on s).f = s.f := by
  unfold setLimited
  dsimp only
  (repeat' split) <;> simp [raise19, end19_f]
theorem setTarget_f (rate phase : Int) (s : Node) : (setTarget rate phase s).f = s.f := by
  unfold setTarget
  dsimp only
  split <;> simp [end19_f]
theorem slewOn_f (s : Node) : (slewOn s).f = s.f := by
  simp [slewOn, setTarget_f, setLimited_f]

/-! The loss of the source, and the alarms (R256, R269, R275). -/

/-- The registers of a master that has lost its source: its last r is the target (R269). -/
def Hallmark.sourceless (h : Hallmark) : Hallmark := { h with source := 0, rTarget := h.r, wanted := 0, slew := 0, higher := (0, 0) }

/-- The loss of a source up to holdover: three samples of the Chain are counted as missed. -/
def loseSource (s : Node) : Node :=
  modHm Hallmark.sourceless (onlyIf (s.n.hm.source == 1 && s.fUp) (countBy .f blkChain 27 0 3) s)

theorem loseSource_hm (s : Node) : (loseSource s).n.hm = s.n.hm.sourceless :=
  congrArg Hallmark.sourceless (hm_of_core (onlyIf_core (countBy_core .f blkChain 27 0 3) _ s))

theorem loseSource_clockless (s : Node) : (loseSource s).clockless = s.clockless :=
  (modHm_clockless ..).trans (clockless_of_core (onlyIf_core (countBy_core .f blkChain 27 0 3) _ s))

/-- Holdover begins (R269). -/
def beginHoldover (s : Node) : Node := setLimited false (setTimeState .holdover (loseSource s))

theorem beginHoldover_clockless (s : Node) : (beginHoldover s).clockless = s.clockless := by
  simp [beginHoldover, loseSource_clockless]

theorem beginHoldover_quiet {s : Node} (h : s.n.hm.state = .tracking) :
    (beginHoldover s).n.hm.quiet = { s.n.hm.sourceless.quiet with state := .holdover, since := s.n.hm.count } := by
  have hOther : (loseSource s).n.hm.state ≠ .holdover := by
    rw [loseSource_hm, Hallmark.sourceless, h]
    decide
  unfold beginHoldover
  rw [setLimited_quiet, setTimeState_quiet hOther, loseSource_hm]
  rfl

theorem holdover_of_quiet {h k : Hallmark} (e : h.quiet = { k.sourceless.quiet with state := .holdover, since := k.count }) :
    h.state = .holdover ∧ h.source = 0 ∧ h.r = k.r ∧ h.rTarget = k.r ∧ h.slew = 0 ∧ h.count = k.count :=
  ⟨(congrArg Hallmark.state e :), (congrArg Hallmark.source e :), (congrArg Hallmark.r e :), (congrArg Hallmark.rTarget e :),
    (congrArg Hallmark.slew e :), (congrArg Hallmark.count e :)⟩

theorem doSourceLoss_tracking {s : Node} (hUp : s.nUp = true) (hTracking : s.n.hm.state = .tracking) (hLow : 1 ≤ s.n.hm.source)
    (hHigh : s.n.hm.source ≤ 3) : doSourceLoss s = raise19 1 (beginHoldover s) :=
  if_pos (by simp [hUp, hTracking, hLow, hHigh])

/-- F source 23 is raised by a holdover that lasts (R269, R275). -/
def alarm23 (s : Node) : Node :=
  modFaults .f (fun x => { x with cond := setSrc x.cond 23 true })
    (bump .f blkTime 1 0 (modFol (fun x => { x with lastCause := 2, alarm := true }) s))

theorem alarm23_fol (s : Node) : (alarm23 s).f.fol = { s.f.fol with lastCause := 2, alarm := true } :=
  (modDie_f_fol ..).trans (bump_f_fol ..)

theorem alarm23_hm (s : Node) : (alarm23 s).n.hm = s.n.hm := (modDie_n_hm ..).trans (bump_n_hm ..)

theorem alarm23_up (s : Node) : (alarm23 s).up .f = s.up .f := by
  have hBumped : (alarm23 s).up .f = (bump .f blkTime 1 0 (modFol (fun x => { x with lastCause := 2, alarm := true }) s)).up .f := rfl
  rw [hBumped, bump_up]
  rfl

theorem doHoldoverAlarm_f {s : Node} (hUp : s.fUp = true) (hHoldover : s.f.fol.state = .holdover) :
    doHoldoverAlarm .f s = detect .f 23 2 (alarm23 s) := if_pos (by simp [hUp, hHoldover])

theorem doHoldoverAlarm_n {s : Node} (hUp : s.nUp = true) (hHoldover : s.n.hm.state = .holdover) :
    doHoldoverAlarm .n s = raise19 2 s := if_pos (by simp [hUp, hHoldover])

theorem doRateLimitAlarm_limited {s : Node} (hUp : s.nUp = true) (hLimit : s.n.hm.rTarget.natAbs = 2000000000000) :
    doRateLimitAlarm s = raise19 4 (bump .n blkTime 6 0 s) := if_pos (by simp [hUp, hLimit])

/-- Settles O34: what each command does to the Hallmark registers, with the rest of the node as before but for detections. -/
theorem servoAndHoldover : Obligations.ServoAndHoldover := by
  unfold Obligations.ServoAndHoldover
  refine ⟨?parent, ?other, ?rate, ?update, ?slew, ?frozen, ?loss, ?holdoverN, ?holdoverF, ?limit⟩
  case parent =>
    intro s port f hPort hParent hRoot hTrained hUp hAligned hTracking hUnset hSource hUsable
    refine (gives_iff_of_exec_eq_run (g := doChainTimeFrame port f) rfl).2 ?_
    have hStored := doChainTimeFrame_stored port f s.node
    have hRest := parentSample_clockless port f s.node
    rw [doChainTimeFrame_parent f hPort hParent hRoot hTrained hAligned] at hStored ⊢
    obtain ⟨hN, hFol⟩ := relayed_keeps f port ((parentSample port f s.node).rolePorts .child) (linkDelay (s.node.link port))
      (parentSample port f s.node)
    refine ⟨?_, hFol.trans (fol_of_clockless hRest), hStored, (congrArg NDie.dict hN).trans (dict_of_clockless hRest)⟩
    rw [hN]
    exact parentSample_offset ⟨hUp, hUsable, hUnset, hTracking, hSource⟩ port f
  case other =>
    intro s port f hOther
    exact (gives_iff_of_exec_eq_run (g := doChainTimeFrame port f) rfl).2 (doChainTimeFrame_other f hOther)
  case rate =>
    intro s rho hN hF hTrained hSource hTracking hThawed
    refine (gives_iff_of_exec_eq_run (g := doRateSample rho) rfl).2 ?_
    have hStored := doRateSample_stored rho s.node
    rw [doRateSample_tracking rho hN hF hTrained hSource hTracking hThawed] at hStored ⊢
    have hN : (sendData .f 2 .timeSample s.node).n = s.node.n := sendData_n ..
    exact ⟨by rw [modHm_hm, hN], by rw [modHm_f, sendData_f_fol], congrArg (fun x => x.faults) hN, hStored,
      congrArg (fun x => x.dict) hN⟩
  case update =>
    intro s hUp hThawed hSlew
    refine (gives_iff_of_exec_eq_run (g := doServoRateUpdate) rfl).2 ?_
    rw [doServoRateUpdate_thawed hUp hThawed, if_neg (by simp [hSlew])]
    exact ⟨rfl, rfl, rfl, rfl, rfl⟩
  case slew =>
    intro s hUp hThawed hSlew
    refine (gives_iff_of_exec_eq_run (g := doServoRateUpdate) rfl).2 ?_
    obtain ⟨wanted, hQuiet⟩ := slewOn_quiet s.node
    have hR : (slewOn s.node).n.hm.r = s.node.n.hm.r := (congrArg Hallmark.r hQuiet :)
    rw [doServoRateUpdate_thawed hUp hThawed, if_pos (by simpa using hSlew)]
    exact ⟨(congrArg Hallmark.slew hQuiet :), (congrArg Hallmark.rTarget hQuiet :), by simp [Hallmark.follow, hR],
      (congrArg Hallmark.count hQuiet :), slewOn_f .., slewOn_stored .., dict_of_clockless (slewOn_clockless ..)⟩
  case frozen =>
    intro s hFrozen
    exact (gives_iff_of_exec_eq_run (g := doServoRateUpdate) rfl).2 (doServoRateUpdate_frozen hFrozen)
  case loss =>
    intro s hUp hTracking hLow hHigh
    refine (gives_iff_of_exec_eq_run (g := doSourceLoss) rfl).2 ?_
    have hStored := doSourceLoss_stored s.node
    rw [doSourceLoss_tracking hUp hTracking hLow hHigh] at hStored ⊢
    have hRest := (raise19_clockless 1 _).trans (beginHoldover_clockless s.node)
    obtain ⟨hState, hSource, hR, hTarget, hSlew, hCount⟩ :=
      holdover_of_quiet ((raise19_quiet 1 _).trans (beginHoldover_quiet hTracking))
    obtain ⟨hLatched, hLive⟩ := raise19_latches 1 ((up_of_clockless (beginHoldover_clockless s.node) .n).trans hUp)
    exact ⟨hState, hSource, hR, hTarget, hSlew, by rw [raise19_hm], hLatched, hLive, hCount, hStored, dict_of_clockless hRest⟩
  case holdoverN =>
    intro s hUp hHoldover
    refine (gives_iff_of_exec_eq_run (g := doHoldoverAlarm .n) rfl).2 ?_
    rw [doHoldoverAlarm_n hUp hHoldover]
    obtain ⟨hLatched, hLive⟩ := raise19_latches 2 hUp
    exact ⟨by rw [raise19_hm], hLatched, hLive, by rw [raise19_hm, hHoldover], by rw [raise19_hm], raise19_stored ..,
      dict_of_clockless (raise19_clockless ..)⟩
  case holdoverF =>
    intro s hUp hHoldover
    refine (gives_iff_of_exec_eq_run (g := doHoldoverAlarm .f) rfl).2 ?_
    have hStored := doHoldoverAlarm_stored .f s.node
    rw [doHoldoverAlarm_f hUp hHoldover] at hStored ⊢
    have hFol : (detect .f 23 2 (alarm23 s.node)).f.fol = { s.node.f.fol with lastCause := 2, alarm := true } :=
      (detect_f_fol ..).trans (alarm23_fol _)
    have hCollects : (alarm23 s.node).collects .f = true := collects_of_up ((alarm23_up _).trans hUp)
    exact ⟨congrArg Follower.lastCause hFol, congrArg Follower.alarm hFol, detect_status .f (by decide) 2 hCollects,
      (detect_advances .f 23 2 (.refl _)).cond .f 23 (setSrc_true_self (by decide) _), (congrArg Follower.count hFol :),
      (detect_n_hm ..).trans (alarm23_hm _), hStored⟩
  case limit =>
    intro s hUp hLimit
    refine (gives_iff_of_exec_eq_run (g := doRateLimitAlarm) rfl).2 ?_
    rw [doRateLimitAlarm_limited hUp hLimit]
    obtain ⟨hLatched, hLive⟩ := raise19_latches 4 ((bump_nUp ..).trans hUp)
    exact ⟨by rw [raise19_hm], hLatched, hLive, by rw [raise19_hm, bump_n_hm], (raise19_stored ..).trans (bump_stored ..),
      (dict_of_clockless (raise19_clockless ..)).trans (bump_n_dict ..)⟩

end Sys2Proof.Machine
end

section
/-! PROOFS. A burst of edges on a timed channel (R180, R288). The ninth event that waits discards all nine and raises source 11 of the die
that sends the channel, whose reactions come before the command that made the edge has ended (R457, R458, R465). -/

namespace Sys2Proof.Machine

open Sys2Proof

/-! A LEVEL step whose edge overflows. Under TRAP the node leaves RUN, and every list stops before its next step (R295, R477). -/

/-- The step words of nine LEVEL steps that turn channel 0 at every tick, and END (R281). -/
def turningSteps : List Nat := ((List.range 9).map fun i => 0x08 * 2 ^ 18 + 0x100 + (i + 1) % 2) ++ [0]

/-- A trained node in RUN whose slot 0 of the N-die has launched that list, with channel 0 a timed input. Under K:802B = 9 N source 11
reacts with TRAP. -/
def turningList : Node :=
  { vals := tput [] (slotOf 0x802B 0) 9
    blobs := tput [] (slotOf (listKey 64) 0) ((turningSteps.length :: turningSteps).flatMap (leBytes 3))
    n :=
      { phase := .ready
        clasp := trainedHalf
        dev := .run
        ch := { timed := 1 }
        seq := { slots := [(0, { state := .running, list := 64, run := { list := 64 } })] } }
    f := { phase := .ready, clasp := trainedHalf, dev := .run } }

/-- Eight of the steps have been issued, and their edges wait for EDGE words. -/
def eightTurned : Node := forEach (List.range 8) (fun _ => doLevel .n (.slot 0) 0) turningList

theorem eightTurned_stepNow : ∃ run w a b, eightTurned.stepNow .n (.slot 0) 0x08 = some (run, w, a, b) ∧
    BitVec.ofNat 8 (bits w 15 8) &&& ~~~ (eightTurned.die .n).ch.timed = 0 := ⟨_, _, _, _, rfl, by decide⟩

set_option maxRecDepth 1000 in
/-- The ninth step stops its own list. -/
theorem ninth_level_stops_list : (doLevel .n (.slot 0) 0 eightTurned).run .n (.slot 0) = none := by decide

/-- Refutes O37: the list of an issued LEVEL step need not stand past it, for the edge of that step may have stopped the list. -/
theorem not_outputAndObjectSteps : ¬ Obligations.OutputAndObjectSteps := by
  unfold Obligations.OutputAndObjectSteps
  rintro ⟨hLevel, -⟩
  obtain ⟨run, w, a, b, hStep, hTimed⟩ := eightTurned_stepNow
  have hGives := hLevel { node := eightTurned } .n (.slot 0) 0 run w a b hStep hTimed (by decide)
  obtain ⟨hIssued, -⟩ := (gives_iff_of_exec_eq_run (g := doLevel .n (.slot 0) 0) rfl).1 hGives
  rw [issued, ninth_level_stops_list] at hIssued
  cases hIssued

/-! A write of K:3054 whose edge overflows. Under BLOCK_RESET the Clasp island of the F-die is reset alone, and its torn crossing does not
let the answer out (R239, R240). -/

/-- A trained node in SETUP with channel 4, an input of the F-die, at high. Under K:812B = 0x15 F source 11 reacts with IRQ and
BLOCK_RESET. -/
def highInput : Node :=
  { vals := tput [] (slotOf 0x812B 0) 0x15
    n :=
      { phase := .ready
        clasp := trainedHalf
        dev := .setup
        port := { mode := 1 }
        dict := { sessions := [(0, { path := .nport, client := 0, epoch := 1 })] } }
    f := { phase := .ready, clasp := trainedHalf, dev := .setup, ch := { chans := [(4, { pinIn := true })] } } }

/-- Eight edges of that pin wait for EDGE words, and it is high again. -/
def eightCaptured : Node := forEach (List.range 8) (doEdgeCapture .f 4) highInput

set_option maxRecDepth 1000 in
theorem eightCaptured_accepts_timedInputs : ∃ u x, eightCaptured.accepts hostCommand 0x3054 (.write (.word 16)) = some (u, x) ∧
    (doTimedInputWrite hostCommand .f (.word 16) eightCaptured).answer x = none := ⟨_, _, rfl, by decide⟩

/-- Refutes O40: a write of K:3054 that passes its checks need not be answered, for the edge that it makes may tear the crossing through
which the answer has to go. -/
theorem not_listsArmsAndResults : ¬ Obligations.ListsArmsAndResults := by
  unfold Obligations.ListsArmsAndResults
  rintro ⟨-, -, -, -, hTimed, -⟩
  obtain ⟨u, x, hAccepts, hUnanswered⟩ := eightCaptured_accepts_timedInputs
  have hGives := hTimed { node := eightCaptured } hostCommand .f 16 u x hAccepts (fun _ => by decide) (by decide) (by decide) (by decide)
    (by decide) (by decide)
  obtain ⟨hAnswer, -⟩ := (gives_iff_of_exec_eq_run (g := doTimedInputWrite hostCommand .f (.word 16)) rfl).1 hGives
  exact absurd (hUnanswered.symm.trans hAnswer) (by decide)

end Sys2Proof.Machine
end

section
/-! PROOFS. A STATUS frame that gives a pending alert its candidate. The detour of that alert starts on the N-die (R137, R341). -/

namespace Sys2Proof.Machine

open Sys2Proof

/-- A trained node as node 2 of a Chain, below the root 1, with an active CAN port. -/
def chainedNode : Node :=
  { n := { phase := .ready, clasp := trainedHalf, dev := .setup, number := 2, can := { state := .active } }
    f :=
      { phase := .ready
        clasp := trainedHalf
        dev := .setup
        linkA := { state := .up, role := .parent, serial := 11, neighbour := 1 }
        chain :=
          { state := .up, number := 2, rootNumber := 1, depth := 1, epoch := 1, parentPort := some .a
            table := [⟨1, 11, 0, 0⟩, ⟨2, 12, 1, 1⟩] } } }

/-- Its CAN port has become bus-off. The alert of N source 13 waits, as no other node is known to be error-active. -/
def busOffNode : Node := doBusOffEntry chainedNode

theorem busOffNode_waits : busOffNode.n.can.detour = none := by decide

/-- The root shows an error-active CAN port, and the alert is sent to it. -/
theorem status_starts_detour : (doStatusFrame 1 0 0 1 true busOffNode).n.can.detour ≠ none := by decide

/-- Refutes O46: a STATUS frame need not leave the N-die as it was. -/
theorem not_chainServices : ¬ Obligations.ChainServices := by
  unfold Obligations.ChainServices
  rintro ⟨hStatus, -⟩
  have hGives := hStatus { node := busOffNode } 1 0 0 1 true (by decide) (by decide) (by decide)
  obtain ⟨-, -, -, -, -, hN, -⟩ := (gives_iff_of_exec_eq_run (g := doStatusFrame 1 0 0 1 true) rfl).1 hGives
  refine status_starts_detour ?_
  rw [hN]
  exact busOffNode_waits

end Sys2Proof.Machine
end

section
/-! PROOFS. Two statements of the parked Chain that fail over all states: a port out of use that keeps its role as its node parks (R324,
R357), and a wake request whose answer finds no credit (R184, R371, R372, R446). -/

namespace Sys2Proof.Machine

open Sys2Proof

/-! A port out of use for errors. Parking leaves it whole, its role with it. -/

/-- A node at the end of the hold window of rendezvous 0, whose port C is DISABLED and still has the role STANDBY. -/
def standbyDisabled : Node :=
  { n := { phase := .ready }
    f := { phase := .ready, park := { parking := true }, linkC := { state := .disabled, role := .standby } } }

/-- Port C has the role STANDBY once the node is parked. -/
theorem standbyDisabled_keeps_role : ((doParkEntry standbyDisabled).link .c).role = .standby := by decide

/-- Refutes O47: a node that parks need not take the role from each port outside the tree, for it leaves a DISABLED port as it is. The
statement is over every state; that this one is reached is not claimed. -/
theorem not_parkingAndRendezvous : ¬ Obligations.ParkingAndRendezvous := by
  unfold Obligations.ParkingAndRendezvous
  rintro ⟨-, -, hEntry, -⟩
  have hGives := hEntry { node := standbyDisabled } (by decide) (by decide)
  obtain ⟨-, -, -, -, hRoles, -⟩ := (gives_iff_of_exec_eq_run (g := doParkEntry) rfl).1 hGives
  exact absurd (standbyDisabled_keeps_role.symm.trans (hRoles .c)) (by decide)

/-! A wake request whose answer waits. Unparking starts the SAFE pairs that the parked policy had turned off. A pair with a latch record
starts in DISCREPANCY, and the entry of that fault goes before the result of the command. -/

/-- A trained node in SETUP at the end of the hold window of rendezvous 0. SAFE pair 0 is in DISCREPANCY, its parked policy is OFF, and the
F-die has one credit left. -/
def latchedPair : Node :=
  { vals := tput (tput [] (slotOf 0x4046 0) 0) (slotOf 0x6010 0) 1
    n :=
      { phase := .ready
        clasp := trainedHalf
        dev := .setup
        port := { mode := 1 }
        dict := { sessions := [(0, { path := .nport, client := 0, epoch := 1 })] } }
    f :=
      { phase := .ready
        clasp := { trainedHalf with credits := 1, txSeq := 31 }
        dev := .setup
        park := { parking := true }
        safe0 := { state := .discrepancy, record := true, forcing := true } } }

/-- The same node parked: pair 0 is off, and keeps its latch record. -/
def pairParked : Node := doParkEntry latchedPair

theorem pairParked_lineOpen : pairParked.lineOpen = true := by decide

set_option maxRecDepth 1000 in
/-- The one credit takes the fault entry, and the result of K:4047 waits on the F-die. -/
theorem pairParked_accepts_wakeRequest : ∃ u x, pairParked.accepts hostCommand 0x4047 (.command (some 3)) = some (u, x) ∧
    (doWakeRequestCmd hostCommand (some 3) pairParked).answer x = none := ⟨_, _, rfl, by decide⟩

/-- Refutes O48: an accepted K:4047 need not be answered in its step, for the fault entry of a pair that starts again may take the last
credit over which the answer has to go. The statement is over every state; that this one is reached is not claimed. -/
theorem not_adriftChildrenAndWaking : ¬ Obligations.AdriftChildrenAndWaking := by
  unfold Obligations.AdriftChildrenAndWaking
  rintro ⟨-, -, -, -, -, -, -, -, -, hWake, -⟩
  obtain ⟨u, x, hAccepts, hUnanswered⟩ := pairParked_accepts_wakeRequest
  have hGives := hWake { node := pairParked } hostCommand 3 u x hAccepts pairParked_lineOpen (by decide) (by decide) (by decide)
    (by decide) (by decide) (by decide)
  obtain ⟨hAnswer, -⟩ := (gives_iff_of_exec_eq_run (g := doWakeRequestCmd hostCommand (some 3)) rfl).1 hGives
  exact absurd (hUnanswered.symm.trans hAnswer) (by decide)

end Sys2Proof.Machine
end
